-- ==== Sys2Proof/Word.lean ====
section
/-! DEFINITION. The words of the GL7680 (R2, R104): 32-bit register words, 80-bit accumulators, bytes. -/
namespace Sys2Proof

/-- One byte of memory. -/
abbrev Byte := BitVec 8
/-- A 32-bit word: a register, a D register, a sample (R2, R104). -/
abbrev Word := BitVec 32
/-- A 64-bit word: a bundle, a memory word of eight bytes, a count of nanoseconds. -/
abbrev DWord := BitVec 64
/-- A raw accumulator value, Q17.63 (R104). -/
abbrev Acc := BitVec 80

end Sys2Proof
end

