-- ==== Sys2Proof/Syntax.lean ====
section
/-! DEFINITION. The commands of the GL7680 block: one constructor of `Instr` per row of the table,
with the types of their operands. -/
namespace Sys2Proof.Machine

/-- A mallet core, 0 to 255 (R11). -/
abbrev CoreId := Fin 256

/-- Who makes a host access: a PCIe function (0 is PF0), the SPI port, or the safety image (R376 to R378, R395). -/
inductive Port where
  | pcie (fn : Fin 8) | spi | image
  deriving DecidableEq, Repr

/-- The addressing modes of a memory operation (R62, R81, R86). -/
inductive Mode where
  | ind | postInc | postMod | indexed (off : BitVec 12)
  deriving DecidableEq, Repr

/-- An operation of an arithmetic unit (R82). -/
inductive UnitOp where
  | nop
  | mac (a : Fin 4) (x y : Fin 16)
  | msu (a : Fin 4) (x y : Fin 16)
  | mpy (a : Fin 4) (x y : Fin 16)
  | mix (a : Fin 4) (x y : Fin 16)
  | mixa (a : Fin 4) (g : Fin 16)
  | clr (a : Fin 4)
  | adds (a : Fin 4) (x : Fin 16)
  | rnd (d : Fin 16) (a : Fin 4)
  | rndx (d : Fin 16) (a : Fin 4)
  | norm (d : Fin 16) (a : Fin 4)
  deriving DecidableEq, Repr

/-- An operation of a memory slot (R83). -/
inductive MemOp where
  | none
  | ld32 (p : Fin 8) (m : Mode) (r : Fin 16)
  | ld64 (p : Fin 8) (m : Mode) (r : Fin 16)
  | st32 (p : Fin 8) (m : Mode) (r : Fin 16)
  | st64 (p : Fin 8) (m : Mode) (r : Fin 16)
  | str (p : Fin 8) (m : Mode) (a : Fin 4)
  deriving DecidableEq, Repr

/-- The second source of a MOVE operation: a register or the immediate (R86, bit I). -/
inductive Src where
  | reg (r : Fin 16) | imm (v : Word)
  deriving DecidableEq, Repr

/-- The conditions of a branch (R91). -/
inductive Cond where
  | al | eq | ne | mi | pl | cs | cc | le | gt | av | sv
  deriving DecidableEq, Repr

/-- Two-operand D-register operations of the MOVE form (R87). -/
inductive AluOp where
  | add | sub | and | or | xor | shl | shra | shrl | min | max
  deriving DecidableEq, Repr

/-- The operations of a MOVE bundle (R87). -/
inductive MoveOp where
  | nop
  | mov (dst src : Fin 68)
  | ldi (dst : Fin 68) (imm : Word)
  | mval (d : Fin 16) (a : Fin 4) (part : Fin 3)
  | mvla (a : Fin 4) (d : Fin 16) (part : Fin 3)
  | alu (op : AluOp) (d a : Fin 16) (b : Src)
  | abs (d a : Fin 16)
  | neg (d a : Fin 16)
  | cmp (a : Fin 16) (b : Src)
  | tst (a : Fin 16) (b : Src)
  | normd (d a : Fin 16)
  | exp (d a : Fin 16)
  | mem (m : MemOp)
  | gld (d : Fin 16) (p : Fin 8) (ds : Fin 16)
  | xfade (d : Fin 16) (p : Fin 8) (ds : Fin 16)
  | bscl (d ds : Fin 16)
  deriving DecidableEq, Repr

/-- A count of a LOOP, a target of a POST or MATCH: a register or the immediate (R90, bit I). -/
inductive Sel where
  | reg (r : Fin 16) | imm (v : BitVec 16)
  deriving DecidableEq, Repr

/-- The operations of a CTRL bundle (R92). -/
inductive CtrlOp where
  | nop
  | br (c : Cond) (target : BitVec 11)
  | brr (c : Cond) (r : Fin 16)
  | jl (d : Fin 16) (target : BitVec 11)
  | loop (x : Fin 2) (count : Sel) (last : BitVec 11)
  | fetch
  | done (abandon : Bool)
  | post (target : Sel) (flag : Fin 32)
  | matchOp (target : Sel) (slot : Fin 8) (value : Fin 16)
  | trap (code : BitVec 8)
  | rett
  | savelp (p : Fin 8)
  | rstlp (p : Fin 8)
  deriving DecidableEq, Repr

/-- A bundle (R79). -/
inductive Bundle where
  | arith (u0 u1 : UnitOp) (m0 m1 : MemOp)
  | move (op : MoveOp)
  | ctrl (op : CtrlOp)
  deriving DecidableEq, Repr

/-- What stands beside one unit operation in its ARITH bundle; `mism` is true when a fault of the
hardware makes a residue comparison of the bundle fail (R120). -/
structure Rest where
  other : UnitOp
  m0 : MemOp
  m1 : MemOp
  mism : Bool
  deriving DecidableEq, Repr

/-- Where a memory operation stands: in the MOVE form, or in a slot of an ARITH bundle with the
bundle's unit operations and other slot (R81, R86); `mism`: a residue mismatch of the hardware in it (R120). -/
inductive Place where
  | move (mism : Bool)
  | slot (i : Fin 2) (u0 u1 : UnitOp) (other : MemOp) (mism : Bool)
  deriving DecidableEq, Repr

/-- The three forms that have a NOP. -/
inductive NopForm where
  | arith | move | ctrl
  deriving DecidableEq, Repr

/-- A DISP command waiting for its step (R126). -/
structure DispCmd where
  op : Nat
  flag : Nat
  tid : Nat
  deriving DecidableEq, Repr

/-- An accepted commit that waits for its downbeat (R188, R189): epoch, n, LATE, glide length in samples
at 48 kHz, immediate, pages, and the partition of its ring. -/
structure Commit where
  epoch : Nat
  n : Nat
  late : Bool
  glide : Nat
  imm : Bool
  pages : List Nat
  part : Nat
  deriving DecidableEq, Repr

/-- The route state of a destination (R203): source, COMAP entry of a core output buffer, delay descriptor
number and its BASE, SIZE and LEN; a side that is not `ok` delivers zero blocks (R202, R207, R208). -/
structure RSide where
  src : Nat
  comap : Nat
  dly : Nat
  base : Nat
  size : Nat
  len : Nat
  valid : Bool
  ok : Bool
  deriving DecidableEq, Repr

/-- A route as the table gives it: its state, descriptor index, XF and SHAPE. -/
structure Route where
  side : RSide
  desc : Nat
  xf : Nat
  shape : Nat
  deriving DecidableEq, Repr

/-- A destination: the route in effect, the outgoing side of a crossfade, the next sample k of the crossfade,
its length K and shape (R205, R206). -/
structure Dest where
  cur : Option Route
  out : Option RSide
  k : Nat
  kLen : Nat
  shape : Nat
  deriving DecidableEq, Repr

/-- The scaling of a bus (R116): a glide from `old` to `new` over `kk` samples from index `j0`. -/
structure Bus where
  old : Nat
  new : Nat
  j0 : Nat
  kk : Nat
  deriving DecidableEq, Repr

/-- Content that a joining heel has received (R348): a parameter page with its change state; the epoch engine's
highest epoch, free pool frames, accepted epochs and pending commits; a bus's glide; a destination's crossfade. -/
inductive JoinItem where
  | page (p chg j0 kk epoch pool : Nat) (stage target active : List Byte)
  | engine (highest free : Nat) (accepted : List Nat) (pend : List Commit)
  | bus (b : Nat) (x : Bus)
  | dest (d : Nat) (x : Dest)
  deriving DecidableEq, Repr

/-- A command that a lead has forwarded (R343): a COMMIT with its resolved n and LATE mark, a COMMIT_CANCEL, a host
write to a STAGE view or an RWE field, a DISP command with its downbeat. -/
inductive MirCmd where
  | commit (c : Commit)
  | cancel (epoch : Nat)
  | write (addr value : Nat)
  | disp (c : DispCmd) (n : Nat)
  deriving DecidableEq, Repr

/-- What a page message carries (R346, R348): a page of cluster SRAM (cluster, page, bytes), a piece of the join copy,
or its end. -/
inductive PageMsg where
  | sram (c p : Nat) (bytes : List Byte)
  | join (x : JoinItem)
  | joinEnd
  deriving DecidableEq, Repr

/-- What a frame showed at the crossbar, the clusters and the PDM lines: busy µs by cluster (R70), transactions that had to wait
by master and target (R159), and the bits that each microphone brought (R241). -/
structure FrameSeen where
  busy : List Nat
  conf : List (Fin 24 × Fin 22)
  pdm : List (Fin 64 × List Bool)
  deriving DecidableEq, Repr

/-- The fast current of an amplifier channel: its last 17 current bits, the newest in bit 0 (R302). -/
structure FastCurrent where
  chan : Fin 128
  bits : BitVec 17
  deriving DecidableEq, Repr

/-- A BAR access (R376): a write of bytes, or a read of a number of bytes. -/
inductive BarOp where
  | write (bs : List Byte)
  | read (n : Nat)
  deriving DecidableEq, Repr

end Sys2Proof.Machine

namespace Sys2Proof
open Sys2Proof.Machine

/-- The commands, one constructor per row of the table. -/
inductive Instr where
  /-- DOWNBEAT: D(n) falls; with it come the modulators and group spares that failed a frame, mean squared currents by channel in 2^−32 A², lockstep mismatches (unit type, instance, stage), disturbed copies of configuration words (index, copy, value), and what the frame showed (R26) -/
  | downbeat (mods : List (Fin 128 × List (Option Nat))) (spares : List (Fin 8 × List (Option Nat))) (sense : List (Fin 128 × Nat)) (mis : List (Nat × Nat × Nat)) (upsets : List (Nat × Fin 3 × Nat)) (seen : FrameSeen)
  /-- COMMIT_POINT: the commit point: time of the copies in ns, sources whose block check fails, delay descriptors whose tap fails its check, destinations whose check fails, destinations whose copies disagree, pages that the peer asks for (R26) -/
  | commitPoint (ns : Nat) (bad badT badD mis : List Nat) (asked : List (Nat × Nat))
  /-- GIVE_UP: the give-up time of deadline task t (R41) -/
  | giveUp (t : Fin 4096)
  /-- DISPATCHER_STEP: one step of the dispatcher (R130) -/
  | dispatcherStep
  /-- MAC: MAC Ak, Dx, Dy in an ARITH bundle (R82) -/
  | mac (k : CoreId) (u : Fin 2) (a : Fin 4) (x y : Fin 16) (rest : Rest)
  /-- MSU: MSU Ak, Dx, Dy (R82) -/
  | msu (k : CoreId) (u : Fin 2) (a : Fin 4) (x y : Fin 16) (rest : Rest)
  /-- MPY: MPY Ak, Dx, Dy (R82) -/
  | mpy (k : CoreId) (u : Fin 2) (a : Fin 4) (x y : Fin 16) (rest : Rest)
  /-- MIX: MIX Ak, Dx, Dy (R82, R108) -/
  | mix (k : CoreId) (u : Fin 2) (a : Fin 4) (x y : Fin 16) (rest : Rest)
  /-- MIXA: MIXA Ak, Dg (R82, R117) -/
  | mixa (k : CoreId) (u : Fin 2) (a : Fin 4) (g : Fin 16) (rest : Rest)
  /-- CLR: CLR Ak (R82) -/
  | clr (k : CoreId) (u : Fin 2) (a : Fin 4) (rest : Rest)
  /-- ADDS: ADDS Ak, Dx (R82) -/
  | adds (k : CoreId) (u : Fin 2) (a : Fin 4) (x : Fin 16) (rest : Rest)
  /-- RND: RND Dd, Ak (R82, R111) -/
  | rnd (k : CoreId) (u : Fin 2) (d : Fin 16) (a : Fin 4) (rest : Rest)
  /-- RNDX: RNDX Dd, Ak (R82, R112) -/
  | rndx (k : CoreId) (u : Fin 2) (d : Fin 16) (a : Fin 4) (rest : Rest)
  /-- NORM: NORM Dd, Ak (R82, R114) -/
  | norm (k : CoreId) (u : Fin 2) (d : Fin 16) (a : Fin 4) (rest : Rest)
  /-- LD32: LD32 Dr, [Pk] (R83) -/
  | ld32 (k : CoreId) (p : Fin 8) (m : Mode) (r : Fin 16) (place : Place)
  /-- LD64: LD64 Dr, [Pk] (R83) -/
  | ld64 (k : CoreId) (p : Fin 8) (m : Mode) (r : Fin 16) (place : Place)
  /-- ST32: ST32 [Pk], Dr (R83) -/
  | st32 (k : CoreId) (p : Fin 8) (m : Mode) (r : Fin 16) (place : Place)
  /-- ST64: ST64 [Pk], Dr (R83) -/
  | st64 (k : CoreId) (p : Fin 8) (m : Mode) (r : Fin 16) (place : Place)
  /-- STR: STR [Pk], Ak (R83, R111) -/
  | str (k : CoreId) (p : Fin 8) (m : Mode) (a : Fin 4) (place : Place)
  /-- NOP: NOP in the ARITH, MOVE or CTRL form (R82, R87, R92) -/
  | nop (k : CoreId) (form : NopForm)
  /-- MOV: MOV dst, src (R87, R88) -/
  | mov (k : CoreId) (dst src : Fin 68)
  /-- LDI: LDI dst, imm32 (R87) -/
  | ldi (k : CoreId) (dst : Fin 68) (imm : Word)
  /-- MVAL: MVAL Dd, Ak, part (R87) -/
  | mval (k : CoreId) (d : Fin 16) (a : Fin 4) (part : Fin 3)
  /-- MVLA: MVLA Ak, Ds, part (R87) -/
  | mvla (k : CoreId) (a : Fin 4) (d : Fin 16) (part : Fin 3)
  /-- ADD: ADD Dd, Da, b (R87) -/
  | add (k : CoreId) (d a : Fin 16) (b : Src)
  /-- SUB: SUB Dd, Da, b (R87) -/
  | sub (k : CoreId) (d a : Fin 16) (b : Src)
  /-- AND: AND Dd, Da, b (R87) -/
  | andD (k : CoreId) (d a : Fin 16) (b : Src)
  /-- OR: OR Dd, Da, b (R87) -/
  | orD (k : CoreId) (d a : Fin 16) (b : Src)
  /-- XOR: XOR Dd, Da, b (R87) -/
  | xorD (k : CoreId) (d a : Fin 16) (b : Src)
  /-- SHL: SHL Dd, Da, b (R87) -/
  | shl (k : CoreId) (d a : Fin 16) (b : Src)
  /-- SHRA: SHRA Dd, Da, b (R87) -/
  | shra (k : CoreId) (d a : Fin 16) (b : Src)
  /-- SHRL: SHRL Dd, Da, b (R87) -/
  | shrl (k : CoreId) (d a : Fin 16) (b : Src)
  /-- MIN: MIN Dd, Da, b (R87) -/
  | minD (k : CoreId) (d a : Fin 16) (b : Src)
  /-- MAX: MAX Dd, Da, b (R87) -/
  | maxD (k : CoreId) (d a : Fin 16) (b : Src)
  /-- ABS: ABS Dd, Da (R87) -/
  | abs (k : CoreId) (d a : Fin 16)
  /-- NEG: NEG Dd, Da (R87) -/
  | neg (k : CoreId) (d a : Fin 16)
  /-- CMP: CMP Da, b (R87) -/
  | cmp (k : CoreId) (a : Fin 16) (b : Src)
  /-- TST: TST Da, b (R87) -/
  | tst (k : CoreId) (a : Fin 16) (b : Src)
  /-- NORMD: NORMD Dd, Da (R87, R113) -/
  | normd (k : CoreId) (d a : Fin 16)
  /-- EXP: EXP Dd, Da (R87, R113) -/
  | exp (k : CoreId) (d a : Fin 16)
  /-- GLD: GLD Dd, Pk, Ds (R89) -/
  | gld (k : CoreId) (d : Fin 16) (p : Fin 8) (ds : Fin 16)
  /-- XFADE: XFADE Dd, Pk, Ds (R89) -/
  | xfade (k : CoreId) (d : Fin 16) (p : Fin 8) (ds : Fin 16)
  /-- BSCL: BSCL Dd, Ds (R89) -/
  | bscl (k : CoreId) (d ds : Fin 16)
  /-- BR: BR cond, target (R92) -/
  | br (k : CoreId) (c : Cond) (target : BitVec 11)
  /-- BRR: BRR cond, Dr (R92) -/
  | brr (k : CoreId) (c : Cond) (r : Fin 16)
  /-- JL: JL Dd, target (R92) -/
  | jl (k : CoreId) (d : Fin 16) (target : BitVec 11)
  /-- LOOP: LOOP x, count, end (R67, R92) -/
  | loop (k : CoreId) (x : Fin 2) (count : Sel) (last : BitVec 11)
  /-- FETCH: FETCH in a run (R95) -/
  | fetch (k : CoreId)
  /-- DONE: DONE with A = 0 (R96) -/
  | done (k : CoreId)
  /-- DONE_ABANDON: DONE with A = 1 (R96) -/
  | doneAbandon (k : CoreId)
  /-- POST: POST target, flag (R97) -/
  | post (k : CoreId) (target : Sel) (flag : Fin 32)
  /-- MATCH: MATCH target, slot, value (R98) -/
  | matchOp (k : CoreId) (target : Sel) (slot : Fin 8) (value : Fin 16)
  /-- TRAP: TRAP code (R68) -/
  | trap (k : CoreId) (code : BitVec 8)
  /-- RETT: RETT (R72) -/
  | rett (k : CoreId)
  /-- SAVELP: SAVELP [Pk] (R71, R93) -/
  | savelp (k : CoreId) (p : Fin 8)
  /-- RSTLP: RSTLP [Pk] (R71, R93) -/
  | rstlp (k : CoreId) (p : Fin 8)
  /-- FAR_LOAD_RETURN: the i-th far load in flight on core k returns; `retry` says that a hop failed once (R53, R357), `waits` that it had to wait at its target (R159) -/
  | farLoadReturn (k : CoreId) (i : Fin 16) (retry waits : Bool)
  /-- FAR_ACCESS_ERROR: the i-th far load or posted store of core k gets an error response (R54) -/
  | farAccessError (k : CoreId) (store : Bool) (i : Fin 64)
  /-- BREAK: a breakpoint match on core k (R68) -/
  | breakTrap (k : CoreId)
  /-- STEP_TRAP: the STEP trap of core k (R68) -/
  | stepTrap (k : CoreId)
  /-- URGENT_TRAP: core k, asked to preempt, reaches a safe point (R74) -/
  | urgentTrap (k : CoreId)
  /-- CORE_HOLD_STOP: core k with HOLD set reaches a safe point (R78) -/
  | coreHoldStop (k : CoreId)
  /-- CCTRL_STEP: a write of CCTRL of core k with STEP 1 (R78) -/
  | cctrlStep (p : Port) (k : CoreId) (v : Word)
  /-- ARM: DISP.CMD ARM of context t, `db` for the next downbeat (R127) -/
  | arm (p : Port) (t : Fin 4096) (db : Bool)
  /-- CANCEL: DISP.CMD CANCEL (R126) -/
  | cancel (p : Port) (t : Fin 4096) (db : Bool)
  /-- CLEAR: DISP.CMD CLEAR (R126) -/
  | clear (p : Port) (t : Fin 4096) (db : Bool)
  /-- DISP_CMD_POST: DISP.CMD POST of a flag (R126) -/
  | dispCmdPost (p : Port) (t : Fin 4096) (db : Bool) (flag : Fin 32)
  /-- CORE_RETIRE: CORECMD RETIRE of core k (R141) -/
  | coreRetire (p : Port) (k : CoreId)
  /-- CORE_RESTORE: CORECMD RESTORE of core k (R141) -/
  | coreRestore (p : Port) (k : CoreId)
  /-- SOFTWARE_EVENT: a write of DISP.SWEV (R144) -/
  | softwareEvent (p : Port) (x : Fin 128)
  /-- SLACKMAX_CLR: SLACKMAX.CLR (R144) -/
  | slackmaxClr (p : Port)
  /-- COMMIT: the COMMIT at RCI of ring r; on a lead, `acked` says that the heel acknowledges it and `past` that its earlier cut-off has passed (R190, R343) -/
  | commit (r : Fin 256) (acked past : Bool)
  /-- COMMIT_CANCEL: the COMMIT_CANCEL at RCI of ring r (R190) -/
  | commitCancel (r : Fin 256)
  /-- COPY: the COPY at RCI of ring r (R383) -/
  | copy (r : Fin 256)
  /-- CMD_NOP: the NOP at RCI of ring r (R382) -/
  | cmdNop (r : Fin 256)
  /-- MIRROR_ACK_TIMEOUT: no acknowledgement within 20 µs for the COMMIT of ring r (R343) -/
  | mirrorAckTimeout (r : Fin 256)
  /-- STAGE_WRITE: a host write of word `off` of the STAGE view of a page (R176) -/
  | stageWrite (p : Port) (page : Fin 2048) (off : Fin 256) (v : Word)
  /-- STAGE_REFILL: the refill of a page's STAGE completes (R179) -/
  | stageRefill (page : Fin 2048)
  /-- SNAPSHOT_GO: SNAPCTL.GO (R194) -/
  | snapshotGo (p : Port) (count : Fin 32)
  /-- POOL_CLR: EPOCH.POOL.CLR (R195) -/
  | poolClr (p : Port)
  /-- STGAIN_WRITE: a write of the gain of input x of path m (R216) -/
  | stgainWrite (p : Port) (m : Fin 16) (x : Fin 8) (v : Word)
  /-- ZERO_CROSSING_APPLY: the next zero crossing of the input (R216) -/
  | zeroCrossingApply (m : Fin 16) (x : Fin 8)
  /-- ZC_TIMEOUT: 10 ms without a zero crossing (R216) -/
  | zcTimeout (m : Fin 16) (x : Fin 8)
  /-- SIDE_TONE_ENABLE: a write of STCFG of path m (R217) -/
  | sideToneEnable (p : Port) (m : Fin 16) (v : Word)
  /-- PORT_ENABLE: a write of CFG of port x with EN 1 (R237) -/
  | portEnable (p : Port) (x : Fin 64) (v : Word)
  /-- PORT_DISABLE: a write of CFG of port x with EN 0 (R237) -/
  | portDisable (p : Port) (x : Fin 64) (v : Word)
  /-- PORT_FRAME: a frame of port x: its edge in beat-counter time, and SP_DIN as sampled in bit-clock cycles 0, 1, …, the last being cycle 0 of the next frame (R223, R224, R227); an event of the candidates that name the port (R275) -/
  | portFrame (x : Fin 64) (time : Nat) (din : List Bool)
  /-- PORT_UNDERRUN: no frame sync within 1.5 sample periods on slave port x (R235) -/
  | portUnderrun (x : Fin 64)
  /-- ASRC_ENABLE: a write of ASRCg (R239) -/
  | asrcEnable (p : Port) (g : Fin 16) (v : Word)
  /-- ASRC_LOCK: group g has locked, at the ratio measured over the last span + 1 frames of its port (R239, R240) -/
  | asrcLock (g : Fin 16) (span : Fin 64)
  /-- PDM_CLOCK_ENABLE: a write of PDM.CLKc (R245) -/
  | pdmClockEnable (p : Port) (c : Fin 8) (v : Word)
  /-- MIC_ENABLE: a write of LCFG of line l (R243) -/
  | micEnable (p : Port) (l : Fin 32) (v : Word)
  /-- WAKE_END: the WAKE time of microphone m expires (R243) -/
  | wakeEnd (m : Fin 64)
  /-- MIC_STUCK: constant data for 2 ms (R243) -/
  | micStuck (m : Fin 64)
  /-- MIC_UNSTUCK: 10 ms of changing data (R243) -/
  | micUnstuck (m : Fin 64)
  /-- MAC_ENABLE: a write of NETm.CTRL (R269) -/
  | macEnable (p : Port) (m : Fin 4) (v : Word)
  /-- LINK_CHANGE: the PCS of MAC m gains or loses lock (R269) -/
  | linkChange (m : Fin 4) (up : Bool)
  /-- FRAME_RECEIVED: a frame received on MAC m, without its FCS, at beat-counter time (R248) -/
  | frameReceived (m : Fin 4) (time : Nat) (fcsOk : Bool) (frame : List Byte)
  /-- STREAM_ENABLE: a write of descriptor word 0 of the selected stream with EN 1 (R252) -/
  | streamEnable (p : Port) (rx : Bool) (v : Word)
  /-- STREAM_DISABLE: a write of descriptor word 0 of the selected stream with EN 0 (R258) -/
  | streamDisable (p : Port) (rx : Bool) (v : Word)
  /-- STREAM_PACKET_TRANSMIT: the next packet of transmit stream i (R260) -/
  | streamPacketTransmit (i : Fin 1024)
  /-- HOST_FRAME_TRANSMIT: the frame at RCI of NETTX ring r leaves at beat-counter time (R264) -/
  | hostFrameTransmit (r : Fin 256) (time : Nat)
  /-- SYNC_TIMEOUT: no update of time base x + 1 for SYNCTO (R267) -/
  | syncTimeout (x : Fin 4)
  /-- TIME_SNAP: TIME.SNAP.GO (R262) -/
  | timeSnap (p : Port)
  /-- TB_ADJ: a write of TBADJ (R261) -/
  | tbAdj (p : Port) (x : Fin 4) (v : Word)
  /-- TB_MID_WRITE: a write of a named-master register (R267) -/
  | tbMidWrite (p : Port) (x : Fin 4) (part : Fin 3) (v : Word)
  /-- TB_RATE_WRITE: a write of TBRATE (R261) -/
  | tbRateWrite (p : Port) (x : Fin 4) (v : Word)
  /-- TB_ENABLE: a write of TBCTRL (R268) -/
  | tbEnable (p : Port) (x : Fin 4) (v : Word)
  /-- TBSEL_WRITE: a write of TBSEL (R274) -/
  | tbselWrite (p : Port) (v : Word)
  /-- FREQUENCY_MEASUREMENT: the 10 ms measurement, offsets of candidates 0 to 11 (R277) -/
  | frequencyMeasurement (offs : List Int)
  /-- CANDIDATE_DISQUALIFIED: candidate c is disqualified (R277) -/
  | candidateDisqualified (c : Fin 12) (cause : Fin 5)
  /-- CANDIDATE_QUALIFIED: QUALT has passed for candidate c (R278) -/
  | candidateQualified (c : Fin 12)
  /-- WTR_EXPIRY: wait-to-restore of DPLL x ends (R282) -/
  | wtrExpiry (x : Fin 4)
  /-- SWITCH_COMPLETE: a switch of DPLL x ends (R283) -/
  | switchComplete (x : Fin 4)
  /-- ACQUIRE_LOCKED: 4 s within 1 µs (R281) -/
  | acquireLocked (x : Fin 4)
  /-- HOLDOVER_AVERAGE: the average of a whole second (R285) -/
  | holdoverAverage (x : Fin 4) (avg : Int)
  /-- DCTRL_MODE_WRITE: a write of DCTRL (R286) -/
  | dctrlModeWrite (p : Port) (x : Fin 4) (v : Word)
  /-- DFW_WRITE: a write of DFW (R286) -/
  | dfwWrite (p : Port) (x : Fin 4) (v : Word)
  /-- DSTEER_WRITE: a write of DSTEER (R287) -/
  | dsteerWrite (p : Port) (x : Fin 4) (v : Word)
  /-- SYSTEM_DPLL_LOSS: the system DPLL loses lock (R271) -/
  | systemDpllLoss
  /-- FRAME_OUT_OFFSET_WRITE: a write of FOOFS (R289) -/
  | frameOutOffsetWrite (p : Port) (x : Fin 4) (v : Word)
  /-- AMP_CMD_OFF: a write of AMP.CMD with REQ OFF (R307) -/
  | ampCmdOff (p : Port) (c : Fin 128) (v : Word)
  /-- AMP_CMD_DIAG: a write of AMP.CMD with REQ DIAG (R307) -/
  | ampCmdDiag (p : Port) (c : Fin 128) (v : Word)
  /-- AMP_CMD_RUN: a write of AMP.CMD with REQ RUN (R307) -/
  | ampCmdRun (p : Port) (c : Fin 128) (v : Word)
  /-- ABRET: a write of AMP.CMD with ABRET 1 (R304) -/
  | abret (p : Port) (c : Fin 128) (v : Word)
  /-- DIAG_STEP_END: a 20 ms test step ends with means in mV and µA (R308) -/
  | diagStepEnd (c : Fin 128) (mv ua : Nat)
  /-- STARTING_DONE: the start ramp completes (R306) -/
  | startingDone (c : Fin 128)
  /-- STOPPING_DONE: the stop ramp completes (R306) -/
  | stoppingDone (c : Fin 128)
  /-- TRIP: the fast current exceeds ITRIP twice running (R302) -/
  | trip (c : FastCurrent)
  /-- PROBE_DUE: 250 ms after entry into FAULT_SHORT (R303) -/
  | probeDue (c : Fin 128)
  /-- PROBE_END: a probe ends with means in mV and µA (R303) -/
  | probeEnd (c : Fin 128) (mv ua : Nat)
  /-- RECOVER_DONE: the recovery ramp completes (R303) -/
  | recoverDone (c : Fin 128)
  /-- LINE_MEASUREMENT: the 100 ms measurement of |Z| in mΩ, none without a signal (R310) -/
  | lineMeasurement (c : Fin 128) (z : Option Nat)
  /-- ZBASE_CAPTURE: a write of ZBASE with CAP 1 (R311) -/
  | zbaseCapture (p : Port) (c : Fin 128) (v : Word)
  /-- PVALID_WRITE: a write of PCTL (R298) -/
  | pvalidWrite (p : Port) (c : Fin 128) (v : Word)
  /-- COEFFICIENT_COMPUTE: the model coefficients are ready (R298) -/
  | coefficientCompute (c : Fin 128)
  /-- MODCMD_GO: MODCMD.GO for a channel's modulator (R312) -/
  | modcmdGo (p : Port) (c : Fin 128)
  /-- ALARM_PIN_CHANGE: ALM_IN i changes level (R320) -/
  | alarmPinChange (i : Fin 16) (level : Bool)
  /-- ALARM_INPUT_DEBOUNCED: ALM_IN i has held its level for DEB ms (R320) -/
  | alarmInputDebounced (i : Fin 16)
  /-- OVERRIDE_RAMP_END: a crossfade of channel c completes, DACs from 128 (R325) -/
  | overrideRampEnd (c : Fin 136)
  /-- SWACT_WRITE: a write of SWACT (R321) -/
  | swactWrite (p : Port) (v : Word)
  /-- RELEASE_WRITE: a write of RELEASE (R321) -/
  | releaseWrite (p : Port) (v : Word)
  /-- OVERRIDE_ARM: a write of OVR.CTRL (R328) -/
  | overrideArm (p : Port) (v : Word)
  /-- WAKE_RETRY: 10 s after the last RUN of an overridden wake-set channel (R326) -/
  | wakeRetry (c : Fin 128)
  /-- PLAYER_END: player x reaches the end of its waveform: alarm players 0 to 15, Bell players from 16 (R318) -/
  | playerEnd (x : Fin 24)
  /-- LOAD_STROBE: the load strobe of group g (R331) -/
  | loadStrobe (g : Fin 2)
  /-- PLAY_GO: a write of PLAY with GO 1 (R334) -/
  | playGo (p : Port) (d : Fin 8) (v : Word)
  /-- PLAY_STOP: a write of PLAY with STOP 1 (R334) -/
  | playStop (p : Port) (d : Fin 8) (v : Word)
  /-- DAC_RAMP_END: a 5 ms enable or disable ramp completes (R331) -/
  | dacRampEnd (d : Fin 8)
  /-- DAC_RANGE_SWITCH: a range change passes to its next stage (R332) -/
  | dacRangeSwitch (d : Fin 8)
  /-- DAC_MONITOR_MEASUREMENT: a measurement of the replica monitor, `dev` for more than 2 % (R333) -/
  | dacMonitorMeasurement (d : Fin 8) (dev : Bool)
  /-- SPCMD_GO: SPCMD.GO for a DAC channel (R333) -/
  | spcmdGo (p : Port) (d : Fin 8)
  /-- BELL_POWER_WRITE: a write of BELL.PWR (R334) -/
  | bellPowerWrite (p : Port) (v : Word)
  /-- PAIR_LEAD: PAIR.CMD LEAD (R348) -/
  | pairLead (p : Port)
  /-- PAIR_JOIN: PAIR.CMD JOIN (R348) -/
  | pairJoin (p : Port)
  /-- PAIR_DETACH: PAIR.CMD DETACH (R352) -/
  | pairDetach (p : Port)
  /-- PAIR_SOLO: PAIR.CMD SOLO (R352) -/
  | pairSolo (p : Port)
  /-- JOIN_CHECK: one check of the joining heel: n of the marker and its distance in ns, whether the peer is in LEAD, the CRC-64 values of its configuration (R348) -/
  | joinCheck (n skew : Nat) (lead : Bool) (conf : List DWord)
  /-- LEASH: LEASH(n) arrives (R351) -/
  | leash (n : Nat)
  /-- LEASH_ACK: the acknowledgement of LEASH(n) arrives (R351) -/
  | leashAck (n : Nat)
  /-- DOWNBEAT_MARKER: a downbeat marker arrives at beat-counter time (R340) -/
  | downbeatMarker (time : Nat)
  /-- ECHO: an echo flit of the peer, or the own one back after `rtt` ns (R340) -/
  | echo (rtt : Option Nat)
  /-- DIGEST: the peer's digests of frame n (R346) -/
  | digest (n : Nat) (crcs : List DWord)
  /-- MIRRORED_COMMAND: a mirrored command arrives (R343) -/
  | mirroredCommand (c : MirCmd)
  /-- SEAL_MARKER: the seal marker of a source for frame m arrives (R344) -/
  | sealMarker (src m : Nat)
  /-- MIRROR_SAMPLES: mirrored samples of endpoint e of a source for frame m (R344) -/
  | mirrorSamples (src e m : Nat) (vals : List Word)
  /-- PAGE_COPY: copied page content arrives (R346, R348) -/
  | pageCopy (x : PageMsg)
  /-- FLIT_REPLAY: a flit fails its CRC (R338) -/
  | flitReplay
  /-- MIRROR_TIMEOUT: no seal marker by MIRTO (R344) -/
  | mirrorTimeout (src : Nat)
  /-- LINK_DOWN: no flit for 10 µs, or fewer than 2 lanes (R339) -/
  | linkDown
  /-- LINK_UP: the link trains, `good` being the lanes that do (R339) -/
  | linkUp (good : BitVec 5)
  /-- LANE_RETIRE: lane l shows invalid sync headers or loses block lock (R339) -/
  | laneRetire (l : Fin 5) (hdrs : Option Nat)
  /-- LANECMD_GO: LANECMD.GO (R339) -/
  | lanecmdGo (p : Port) (l : Fin 5)
  /-- PEER_HEARTBEAT_LOSS: no edge on PAIR_PEER_HB for 2 carrier periods (R349) -/
  | peerHeartbeatLoss
  /-- INJECTION_GO: a write of INJCTRL with GO 1 (R372) -/
  | injectionGo (p : Port) (v : Word)
  /-- FATCLR: FATCLR.CLR (R375) -/
  | fatclr (p : Port)
  /-- MEMT_REGION_START: INTERVAL has passed for engine e (R161) -/
  | memtRegionStart (e : Fin 19)
  /-- MEMT_SAVE_END: SAVE of engine e ends (R161) -/
  | memtSaveEnd (e : Fin 19)
  /-- MEMT_TEST_END: TEST of engine e ends with failing bits: row, word position, whether more bits of the word fail (R163) -/
  | memtTestEnd (e : Fin 19) (fs : List (Fin 4 × Fin 8 × Bool))
  /-- MEMT_RESTORE_END: RESTORE of engine e ends (R161) -/
  | memtRestoreEnd (e : Fin 19)
  /-- BANK_RETIRE_GO: a write of BRETIRE with GO 1 (R164) -/
  | bankRetireGo (p : Port) (v : Word)
  /-- BANK_COPY_DONE: engine 16 completes the copy of a retiring bank (R164) -/
  | bankCopyDone
  /-- INSTRUCTION_MEMORY_WRITE: a host write of word `off` of an instruction memory of core k (R60) -/
  | instructionMemoryWrite (p : Port) (k : CoreId) (b : Bool) (off : Fin 4096) (v : Word)
  /-- OPERAND_MEMORY_WRITE: a host write of word `off` of the operand memory of core k (R57) -/
  | operandMemoryWrite (p : Port) (k : CoreId) (off : Fin 32768) (v : Word)
  /-- CSPOOL_WRITE: a write of CSPOOL (R149) -/
  | cspoolWrite (p : Port) (c : Fin 16) (v : Word)
  /-- CONFCLR: CONFCLR (R171) -/
  | confclr (p : Port)
  /-- CSHIGH_CLR: CSHIGH.CLR (R171) -/
  | cshighClr (p : Port) (c : Fin 16)
  /-- DRAM_TRAIN_START: TRAIN.START (R168) -/
  | dramTrainStart (p : Port) (d : Fin 2)
  /-- DRAM_TRAINING_DONE: training of controller d ends; `err` is the failing step, 0 for none (R168) -/
  | dramTrainingDone (d : Fin 2) (err : Nat)
  /-- DRAM_POWER_REQUEST: a write of PWRd (R169) -/
  | dramPowerRequest (p : Port) (d : Fin 2) (v : Word)
  /-- MR4_POLL: controller d reads MR4 (R166) -/
  | mr4Poll (d : Fin 2) (v : Nat)
  /-- HOST_BAR_ACCESS: a BAR access of a PCIe function (R376); `waits` says that it had to wait at its target (R159) -/
  | hostBarAccess (fn : Fin 8) (bar2 : Bool) (off : Nat) (op : BarOp) (retry waits : Bool)
  /-- SPI_WRITE: an SPI WRITE (R377) -/
  | spiWrite (a : Nat) (words : List Word) (retry : Bool)
  /-- SPI_READ: an SPI READ, `late` for each word that has not arrived in time (R377) -/
  | spiRead (a : Nat) (late : List Bool) (retry : Bool)
  /-- SPI_STATUS: an SPI STATUS (R377) -/
  | spiStatus
  /-- RING_RPI_WRITE: a write of RPI of ring r (R380) -/
  | ringRpiWrite (p : Port) (r : Fin 256) (v : Word)
  /-- RING_RCI_WRITE: a write of RCI of ring r (R380) -/
  | ringRciWrite (p : Port) (r : Fin 256) (v : Word)
  /-- WARD_CFGSTG_WRITE: a write of CFGSTG at the selected index (R392) -/
  | wardCfgstgWrite (p : Port) (v : Word)
  /-- WARD_APPLY_GO: APPLY.GO (R392) -/
  | wardApplyGo (p : Port)
  /-- JCI_WRITE: a write of JCI (R395) -/
  | jciWrite (p : Port) (v : Word)
  /-- REGISTER_WRITE: a host write of the register at word `off` of the register space (R9) -/
  | registerWrite (p : Port) (off : Fin 2097152) (v : Word)
  /-- RATE_WRITE: a write of SYS.RATE.FS (R25) -/
  | rateWrite (p : Port) (fs : Fin 2)
  /-- POWER_ON_RESET: PWR_GOOD is deasserted (R399) -/
  | powerOnReset
  /-- PIN_RESET: RESET_N is asserted (R399) -/
  | pinReset
  /-- SOFT_RESET: a write of RSTCTL with the key and GO (R399) -/
  | softReset (p : Port)
  /-- RESET_RELEASE: release from reset with the levels of the straps (R401) -/
  | resetRelease (boot : Fin 4) (wardsel sdoz : Bool)
  /-- BOOT_PHASE_END: a boot phase completes, given the key hash in fuses and the flash by pieces, offset and bytes (R401) -/
  | bootPhaseEnd (key : List Byte) (flash : List (Nat × List Byte))
  /-- PCIE_PERST: PCIE_PERST_N resets the PCIe port (R416) -/
  | pciePerst
  /-- CLUSTER_POWER_REQUEST: a write of CREQ (R408) -/
  | clusterPowerRequest (p : Port) (v : Word)
  /-- THERM_WARN: Tj has risen to 118 °C: a reading in 0.25 °C (R409) -/
  | thermWarn (tj : BitVec 10)
  /-- THERM_TRIP: THERM_TRIP_N changes: a reading of Tj in 0.25 °C (R409) -/
  | thermTrip (tj : BitVec 10)
  /-- MODULE_PRESENCE: MOD_PRES_N of slot x is asserted, or has been held for DEB ms (R410) -/
  | modulePresence (x : Fin 32) (held : Bool)
  /-- MODULE_REMOVED: the presence of slot x is released (R413) -/
  | moduleRemoved (x : Fin 32)
  /-- DESCRIPTOR_READ_DONE: a descriptor read of slot x ends; none where the EEPROM does not acknowledge (R412) -/
  | descriptorReadDone (x : Fin 32) (rom : Option (List Byte))
  /-- RESCAN: a write of RESCAN (R411) -/
  | rescan (p : Port) (v : Word)
  /-- UART_WRITE: a write of UARTDATA (R417) -/
  | uartWrite (p : Port) (v : Word)
  /-- UART_READ: a read of UARTDATA (R417) -/
  | uartRead (p : Port)
  /-- UART_RX_BYTE: a byte on UART_RXD (R417) -/
  | uartRxByte (b : Byte)
  /-- FAR_STORE_COMPLETE: the i-th posted far store of core k completes at its target (R53), having had to wait there where `waits` is set (R159) -/
  | farStoreComplete (k : CoreId) (i : Fin 64) (retry waits : Bool)
  /-- WCLK_IN_EDGE: an edge on WCLK_IN c at beat-counter time (R277) -/
  | wclkInEdge (c : Fin 2) (time : Nat)
  /-- PEER_HEARTBEAT_RETURN: an edge on PAIR_PEER_HB after a gap (R349) -/
  | peerHeartbeatReturn
  /-- UART_BYTE_SENT: the UART finishes a byte (R417) -/
  | uartByteSent
  /-- RESERVED_ENCODING: core k reaches a bundle w with a reserved form code or encoding (R80) -/
  | reservedEncoding (k : CoreId) (w : DWord)
  /-- BADOP: an entry of another opcode at RCI of ring r (R382) -/
  | badop (r : Fin 256)
  /-- LANE_RETIREMENT_FLIT: the peer announces the retirement of lane l (R339) -/
  | laneRetirementFlit (l : Fin 5)
  /-- PAGE_CRC_LIST: the lead's CRC-32 values of a cluster's digest set arrive (R346) -/
  | pageCrcList (c : Fin 16) (pages : List (Nat × Word))
  deriving DecidableEq, Repr

end Sys2Proof
end

