-- ==== Sys2Proof/Decode.lean ====
section
/-! DEFINITION. The table of commands gives no row bits: no word spells a command. -/
namespace Sys2Proof

/-- The command that a word spells by the bits of the table: none. -/
def decodeTableWord (_nbits _w : Nat) : Option Instr := none

end Sys2Proof
end

