-- ==== Sys2Proof/Machine/Tab.lean ====
section
/-! DEFINITION. Tables as plain data, bit fields, and what a register field is. -/
namespace Sys2Proof.Machine

/-- A table from numbers to values: keys rising, no entry equal to the default the reader names. -/
abbrev Tab (α : Type) := List (Nat × α)

/-- The entry of key `k`, `d` where none is listed. -/
def tget {α : Type} (d : α) : Tab α → Nat → α
  | [], _ => d
  | (j, v) :: t, k => if j = k then v else tget d t k

/-- The table without the entry of `k`. -/
def tdel {α : Type} : Tab α → Nat → Tab α
  | [], _ => []
  | (j, v) :: t, k => if j = k then tdel t k else (j, v) :: tdel t k

/-- Inserts an entry at its place. -/
def tins {α : Type} : Tab α → Nat → α → Tab α
  | [], k, v => [(k, v)]
  | (j, w) :: t, k, v => if k < j then (k, v) :: (j, w) :: t else (j, w) :: tins t k v

/-- The table with `k` set to `v`; setting the default removes the entry. -/
def tput {α : Type} [DecidableEq α] (d : α) (t : Tab α) (k : Nat) (v : α) : Tab α :=
  if v = d then tdel t k else tins (tdel t k) k v

/-- The canonical form: keys strictly rising, no entry equal to the default. -/
def tabWf {α : Type} [DecidableEq α] (d : α) : Tab α → Bool
  | [] => true
  | [(_, v)] => decide (v ≠ d)
  | (j, v) :: (k, w) :: t => decide (v ≠ d) && decide (j < k) && tabWf d ((k, w) :: t)

/-- Bits `lo + w - 1 : lo` of `x`. -/
def bits (x lo w : Nat) : Nat := x / 2 ^ lo % 2 ^ w

/-- Bit `i` of `x` as a truth value. -/
def bit (x i : Nat) : Bool := bits x i 1 == 1

/-- 1 for true, 0 for false. -/
def b2n (b : Bool) : Nat := if b then 1 else 0

/-- The two's-complement value of the low `w` bits of `x` (R104). -/
def sx (w x : Nat) : Int :=
  if 2 * (x % 2 ^ w) < 2 ^ w then (x % 2 ^ w : Nat) else (x % 2 ^ w : Nat) - (2 ^ w : Nat)

/-- The low `w` bits of an integer, as a raw value (R104). -/
def ux (w : Nat) (x : Int) : Nat := (x % (2 ^ w : Nat)).toNat

/-- Clamps an integer to the range of a two's-complement width (sat of the conventions). -/
def clampS (w : Nat) (x : Int) : Int := max (-(2 ^ (w - 1) : Nat)) (min ((2 ^ (w - 1) : Nat) - 1) x)

/-- Sets bit `i` of `x` to `b`. -/
def setBit (x i : Nat) (b : Bool) : Nat := x - bits x i 1 * 2 ^ i + b2n b * 2 ^ i

/-- Sets bits `lo + w - 1 : lo` of `x` to the low bits of `v`. -/
def setBits (x lo w v : Nat) : Nat := x - bits x lo w * 2 ^ lo + v % 2 ^ w * 2 ^ lo

/-- Adds, staying at `m` (a saturating counter). -/
def satAdd (m x y : Nat) : Nat := min m (x + y)

/-- A register field: its number (block × 2^21 + offset × 32 + low bit), the instance or selected
index, its width and its reset value (R8). -/
structure Fld where
  no : Nat
  idx : Nat
  w : Nat
  reset : Nat
  deriving DecidableEq, Repr

/-- The access codes of R9. -/
inductive Access where
  | ro | rw | wo | w1c | rwe | rww
  deriving DecidableEq, Repr

/-- How a register finds the entry it shows: directly by instance, or through a selector register. -/
inductive Window where
  | direct | ctx16 | ctx | ctx8 | src | sub | cmp | map4 | conf | memMacro | page | group | mf
  | rs16 | rs | ts16 | ts | dig | cfg | jour
  deriving DecidableEq, Repr

/-- A row of a register table: its device address, instances (`n1` at spacing `s1`, in each `n2` at
spacing `s2`), window, and for an index its fields with low bit and access code. -/
structure RegRow where
  addr : Nat
  n1 : Nat
  s1 : Nat
  n2 : Nat
  s2 : Nat
  win : Window
  flds : Nat → List (Nat × Fld × Access)

end Sys2Proof.Machine
end

