-- ==== Sys2Proof/Machine/Arith.lean ====
section
/-! DEFINITION. The arithmetic of chapter 05 on raw values (R104 to R117). -/
namespace Sys2Proof.Machine

/-- Arithmetic shift right: floor of the quotient (R106). -/
def shr (x : Int) (k : Nat) : Int := x / (2 ^ k : Nat)

/-- The exact product, aligned to Q17.63 (R105). -/
def alignMul (x y : Int) : Int := 16 * (x * y)

/-- Lies in the range of an 80-bit accumulator. -/
def in80 (x : Int) : Bool := decide (-(2 ^ 79 : Nat) ≤ x) && decide (x ≤ (2 ^ 79 : Nat) - 1)

/-- A result of a unit operation: raw accumulator, exponent, and whether AV is set. -/
structure AccRes where
  a : Int
  ae : Nat
  av : Bool
  deriving DecidableEq, Repr

/-- sat80 (R107). -/
def sat80 (x : Int) (ae : Nat) : AccRes := ⟨clampS 80 x, ae, !in80 x⟩

/-- rescue_add (R108). -/
def rescueAdd (a : Int) (ae : Nat) (t0 : Int) : AccRes :=
  let s := a + shr t0 ae
  if in80 s then ⟨s, ae, false⟩
  else if ae = 63 then sat80 s 63
  else ⟨shr a 1 + shr t0 (ae + 1), ae + 1, false⟩

/-- scale (R117). -/
def scaleAcc (a g : Int) : Int := shr (a * g) 28

/-- Rounds `q` with remainder `r` of the half `h` in mode `rm`; `neg` tells a negative accumulator (R111). -/
def roundStep (q r h : Int) (neg : Bool) (rm : Nat) : Int :=
  if rm = 2 then q
  else if rm = 1 then (if r > h ∨ (r = h ∧ !neg) then q + 1 else q)
  else (if r > h ∨ (r = h ∧ q % 2 = 1) then q + 1 else q)

/-- The rounded value of round_q131 before its clamp (R111). -/
def roundRaw (a : Int) (ae rm : Nat) : Int :=
  if ae < 32 then
    let sh := 32 - ae
    roundStep (shr a sh) (a % (2 ^ sh : Nat)) (2 ^ (sh - 1) : Nat) (decide (a < 0)) rm
  else a * (2 ^ (ae - 32) : Nat)

/-- round_q131 (R111): the 32-bit value and whether SV is set. -/
def roundQ131 (a : Int) (ae rm : Nat) : Int × Bool :=
  let q := roundRaw a ae rm
  (clampS 32 q, decide (clampS 32 q ≠ q))

/-- How many of the shifts `n`, `n − 1`, … keep `x` in the range: the bits below the sign bit of an
`n + 1`-bit value that equal it (R113). -/
def signRun (x : Int) : Nat → Nat
  | 0 => 0
  | n + 1 => if -(2 ^ n : Nat) ≤ x ∧ x < (2 ^ n : Nat) then signRun x n + 1 else 0

/-- The normalising shift of a Q1.31 value (R113). -/
def normD (x : Int) : Nat := signRun x 31

/-- The shift r of R112. -/
def normR (a : Int) : Nat := signRun a 79

/-- normshift (R114). -/
def normShift (a : Int) (ae : Nat) : Int := if a = 0 then 64 else (normR a : Int) - 16 - ae

/-- export (R112): mantissa and exponent. -/
def exportAcc (a : Int) (ae rm : Nat) : Int × Int :=
  if a = 0 then (0, 0)
  else
    let r := normR a
    let n := a * (2 ^ r : Nat)
    let m := roundStep (shr n 48) (n % (2 ^ 48 : Nat)) (2 ^ 47 : Nat) (decide (n < 0)) rm
    let e : Int := 16 + ae - r
    if m = (2 ^ 31 : Nat) then ((2 ^ 30 : Nat), e + 1) else (m, e)

/-- The largest `x ≤ n` whose square is at most `v`, by counting down the bits of `x`. -/
def isqrtBits (v : Nat) : Nat → Nat → Nat
  | 0, x => x
  | b + 1, x => if (x + 2 ^ b) * (x + 2 ^ b) ≤ v then isqrtBits v b (x + 2 ^ b) else isqrtBits v b x

/-- Rounded quotient, to nearest. -/
def divRound (a b : Nat) : Nat := (2 * a + b) / (2 * b)

/-- The target factor of a bus law with `n` active sends (R115): 0 OFF, 1 INV_N, 2 INV_SQRT_N. The
root is rounded to nearest: the greatest g with (2g − 1)² n ≤ 2^58. -/
def busFactor (law n : Nat) : Nat :=
  if n = 0 then 0x10000000
  else if law = 1 then divRound (2 ^ 28) n
  else if law = 2 then (isqrtBits (2 ^ 58 / n) 30 0 + 1) / 2
  else 0x10000000

/-- A linear glide from `old` to `new` over `kk` samples, `k` samples after its start (R116, R180). -/
def glideAt (old new : Int) (k : Int) (kk : Nat) : Int :=
  if kk = 0 ∨ (kk : Int) ≤ k then new else old + (new - old) * k / kk

end Sys2Proof.Machine
end

