-- ==== Sys2Proof/Config.lean ====
section
/-! DEFINITION. What one implementation fixes and what the specification leaves open: constants without a body, so that
nothing can be proved of their values. -/
namespace Sys2Proof

/-- The free values: the `i`-th value the specification leaves open in a run (log entry 2). -/
opaque Config.freeValue : Nat → BitVec 64

/-- Whether the product of a value and a gain `num / den` that is no whole number is taken above its floor:
the rounding of gain products that the specification does not give (log entry 12). -/
opaque Config.gainUp : Int → Nat → Nat → Bool

/-- The decimator of a microphone at clock rate code `r` on a device at 96 kHz or not: the sample, before saturation, that the
bits of the clock's last frames give (R242; log entry 20). -/
opaque Config.decimate : (r : Nat) → (fast : Bool) → (bits : List Bool) → Int

/-- The 10 Hz high-pass: the next output from the new input, the last input and the last output (R242; log entry 20). -/
opaque Config.highPass : (fast : Bool) → (x x' y' : Int) → Int

/-- Whether the hexadecimal digits of a device's own UART lines are upper-case (log entry 29). -/
opaque Config.hexUpper : Bool

end Sys2Proof
end

