-- ==== Sys2Proof/Machine/RegsA.lean ====
section
/-! DEFINITION. The register fields of blocks SYS, CORECTL, DISP, XBAR, MEMT, DRAMC and EPOCH (R419, R77, R78, R144, R171 to R173, R195): their home in `State.flds`, their width and their reset value. -/
namespace Sys2Proof.Machine

/-- SYS.ID.PART, bits 15:0, RO, R419. -/
def SYS_ID_PART : Fld := ⟨0, 0, 16, 30336⟩
/-- SYS.ID.STEPL, bits 19:16, RO, R419. -/
def SYS_ID_STEPL : Fld := ⟨16, 0, 4, 1⟩
/-- SYS.ID.STEPD, bits 23:20, RO, R419. -/
def SYS_ID_STEPD : Fld := ⟨20, 0, 4, 0⟩
/-- SYS.ID.FAMILY, bits 31:24, RO, R419. -/
def SYS_ID_FAMILY : Fld := ⟨24, 0, 8, 71⟩
/-- SYS.UIDL.UID, bits 31:0, RO, R419. -/
def SYS_UIDL_UID : Fld := ⟨128, 0, 32, 0⟩
/-- SYS.UIDH.UID, bits 31:0, RO, R419. -/
def SYS_UIDH_UID : Fld := ⟨256, 0, 32, 0⟩
/-- SYS.STRAP.BOOT, bits 1:0, RO, R419. -/
def SYS_STRAP_BOOT : Fld := ⟨384, 0, 2, 0⟩
/-- SYS.STRAP.WARDSEL, bits 2:2, RO, R419. -/
def SYS_STRAP_WARDSEL : Fld := ⟨386, 0, 1, 0⟩
/-- SYS.STRAP.SDOZ, bits 3:3, RO, R419. -/
def SYS_STRAP_SDOZ : Fld := ⟨387, 0, 1, 0⟩
/-- SYS.BOOTSTAT.DONE, bits 0:0, RO, R419. -/
def SYS_BOOTSTAT_DONE : Fld := ⟨512, 0, 1, 0⟩
/-- SYS.BOOTSTAT.SAFETY, bits 3:1, RO, R419. -/
def SYS_BOOTSTAT_SAFETY : Fld := ⟨513, 0, 3, 0⟩
/-- SYS.BOOTSTAT.SSLOT, bits 4:4, RO, R419. -/
def SYS_BOOTSTAT_SSLOT : Fld := ⟨516, 0, 1, 0⟩
/-- SYS.BOOTSTAT.CONFIG, bits 7:5, RO, R419. -/
def SYS_BOOTSTAT_CONFIG : Fld := ⟨517, 0, 3, 0⟩
/-- SYS.BOOTSTAT.CSLOT, bits 8:8, RO, R419. -/
def SYS_BOOTSTAT_CSLOT : Fld := ⟨520, 0, 1, 0⟩
/-- SYS.BOOTSTAT.NOKEY, bits 9:9, RO, R419. -/
def SYS_BOOTSTAT_NOKEY : Fld := ⟨521, 0, 1, 0⟩
/-- SYS.BOOTSTAT.DIRB, bits 10:10, RO, R419. -/
def SYS_BOOTSTAT_DIRB : Fld := ⟨522, 0, 1, 0⟩
/-- SYS.BOOTSTAT.CFGSKIP, bits 31:16, RO, R419. -/
def SYS_BOOTSTAT_CFGSKIP : Fld := ⟨528, 0, 16, 0⟩
/-- SYS.RSTCAUSE.CAUSE, bits 2:0, W1C, R419. -/
def SYS_RSTCAUSE_CAUSE : Fld := ⟨640, 0, 3, 0⟩
/-- SYS.RSTCTL.KEY, bits 15:0, RWW, R419. -/
def SYS_RSTCTL_KEY : Fld := ⟨768, 0, 16, 0⟩
/-- SYS.RSTCTL.GO, bits 31:31, RWW, R419. -/
def SYS_RSTCTL_GO : Fld := ⟨799, 0, 1, 0⟩
/-- SYS.XRSTEV.CLASS, bits 7:0, W1C, R419. -/
def SYS_XRSTEV_CLASS : Fld := ⟨1024, 0, 8, 0⟩
/-- SYS.RATE.FS, bits 0:0, RWW, R419. -/
def SYS_RATE_FS : Fld := ⟨1280, 0, 1, 1⟩
/-- SYS.RATE.ACT, bits 1:1, RO, R419. -/
def SYS_RATE_ACT : Fld := ⟨1281, 0, 1, 1⟩
/-- SYS.UARTCFG.BAUD, bits 15:0, RW, R419. -/
def SYS_UARTCFG_BAUD : Fld := ⟨1536, 0, 16, 1152⟩
/-- SYS.UARTCFG.LOG, bits 16:16, RW, R419. -/
def SYS_UARTCFG_LOG : Fld := ⟨1552, 0, 1, 1⟩
/-- SYS.UARTDATA.DATA, bits 7:0, RW, R419. -/
def SYS_UARTDATA_DATA : Fld := ⟨1664, 0, 8, 0⟩
/-- SYS.UARTDATA.VALID, bits 8:8, RO, R419. -/
def SYS_UARTDATA_VALID : Fld := ⟨1672, 0, 1, 0⟩
/-- SYS.UARTSTAT.TXFREE, bits 6:0, RO, R419. -/
def SYS_UARTSTAT_TXFREE : Fld := ⟨1792, 0, 7, 64⟩
/-- SYS.UARTSTAT.RXCOUNT, bits 14:8, RO, R419. -/
def SYS_UARTSTAT_RXCOUNT : Fld := ⟨1800, 0, 7, 0⟩
/-- SYS.UARTSTAT.RXOVF, bits 16:16, W1C, R419. -/
def SYS_UARTSTAT_RXOVF : Fld := ⟨1808, 0, 1, 0⟩
/-- SYS.UARTSTAT.TXOVF, bits 17:17, W1C, R419. -/
def SYS_UARTSTAT_TXOVF : Fld := ⟨1809, 0, 1, 0⟩
/-- SYS.UARTSTAT.TXBUSY, bits 18:18, RO, R419. -/
def SYS_UARTSTAT_TXBUSY : Fld := ⟨1810, 0, 1, 0⟩
/-- SYS.NODE.ID, bits 13:0, RW, R419. -/
def SYS_NODE_ID : Fld := ⟨1920, 0, 14, 0⟩
/-- SYS.XRSTCNT.COUNT, bits 31:0, RO, R419. -/
def SYS_XRSTCNT_COUNT (i : Nat) : Fld := ⟨2048, i, 32, 0⟩
/-- CORECTL.IMSEL.SEL, bits 0:0, RWE, R77. -/
def CORECTL_IMSEL_SEL : Fld := ⟨54525952, 0, 1, 0⟩
/-- CORECTL.IMSTAT.ACT, bits 0:0, RO, R77. -/
def CORECTL_IMSTAT_ACT : Fld := ⟨54526080, 0, 1, 0⟩
/-- CORECTL.IMSTAT.PEND, bits 1:1, RO, R77. -/
def CORECTL_IMSTAT_PEND : Fld := ⟨54526081, 0, 1, 0⟩
/-- CORECTL.IMSTAT.OLDBUSY, bits 2:2, RO, R77. -/
def CORECTL_IMSTAT_OLDBUSY : Fld := ⟨54526082, 0, 1, 0⟩
/-- CORECTL.IMSTAT.WREFUSED, bits 3:3, W1C, R77. -/
def CORECTL_IMSTAT_WREFUSED : Fld := ⟨54526083, 0, 1, 0⟩
/-- CORECTL.DBG.EN, bits 0:0, RWW, R77. -/
def CORECTL_DBG_EN : Fld := ⟨54526208, 0, 1, 0⟩
/-- CORECTL.INSVC.MAP, bits 31:0, RO, R77. -/
def CORECTL_INSVC_MAP (i : Nat) : Fld := ⟨54526976, i, 32, 0⟩
/-- CORECTL.CSTAT.STATE, bits 2:0, RO, R78. -/
def CORECTL_CSTAT_STATE (i : Nat) : Fld := ⟨55574528, i, 3, 0⟩
/-- CORECTL.CSTAT.MEM, bits 3:3, RO, R78. -/
def CORECTL_CSTAT_MEM (i : Nat) : Fld := ⟨55574531, i, 1, 0⟩
/-- CORECTL.CSTAT.TID, bits 27:16, RO, R78. -/
def CORECTL_CSTAT_TID (i : Nat) : Fld := ⟨55574544, i, 12, 0⟩
/-- CORECTL.CPC.PC, bits 10:0, RO, R78. -/
def CORECTL_CPC_PC (i : Nat) : Fld := ⟨55574656, i, 11, 0⟩
/-- CORECTL.CCTRL.HOLD, bits 0:0, RWW, R78. -/
def CORECTL_CCTRL_HOLD (i : Nat) : Fld := ⟨55574784, i, 1, 0⟩
/-- CORECTL.CCTRL.STEP, bits 1:1, WO, R78. -/
def CORECTL_CCTRL_STEP (i : Nat) : Fld := ⟨55574785, i, 1, 0⟩
/-- CORECTL.CBRK.ADDR, bits 10:0, RWW, R78. -/
def CORECTL_CBRK_ADDR (i : Nat) : Fld := ⟨55574912, i, 11, 0⟩
/-- CORECTL.CBRK.MEM, bits 11:11, RWW, R78. -/
def CORECTL_CBRK_MEM (i : Nat) : Fld := ⟨55574923, i, 1, 0⟩
/-- CORECTL.CBRK.EN, bits 16:16, RWW, R78. -/
def CORECTL_CBRK_EN (i : Nat) : Fld := ⟨55574928, i, 1, 0⟩
/-- CORECTL.CFAULT.CAUSE, bits 7:0, RO, R78. -/
def CORECTL_CFAULT_CAUSE (i : Nat) : Fld := ⟨55575040, i, 8, 0⟩
/-- CORECTL.CFAULT.PC, bits 18:8, RO, R78. -/
def CORECTL_CFAULT_PC (i : Nat) : Fld := ⟨55575048, i, 11, 0⟩
/-- CORECTL.CFAULT.TID, bits 30:19, RO, R78. -/
def CORECTL_CFAULT_TID (i : Nat) : Fld := ⟨55575059, i, 12, 0⟩
/-- CORECTL.CFAULT.VALID, bits 31:31, W1C, R78. -/
def CORECTL_CFAULT_VALID (i : Nat) : Fld := ⟨55575071, i, 1, 0⟩
/-- CORECTL.CCOUNT.RESID, bits 15:0, RO, R78. -/
def CORECTL_CCOUNT_RESID (i : Nat) : Fld := ⟨55575168, i, 16, 0⟩
/-- CORECTL.CCOUNT.ECCC, bits 31:16, RO, R78. -/
def CORECTL_CCOUNT_ECCC (i : Nat) : Fld := ⟨55575184, i, 16, 0⟩
/-- CORECTL.CBUNDLES.COUNT, bits 31:0, RO, R78. -/
def CORECTL_CBUNDLES_COUNT (i : Nat) : Fld := ⟨55575296, i, 32, 0⟩
/-- CORECTL.CDSEL.INDEX, bits 6:0, RW, R78. -/
def CORECTL_CDSEL_INDEX (i : Nat) : Fld := ⟨55575424, i, 7, 0⟩
/-- CORECTL.CDSEL.VALID, bits 31:31, RO, R78. -/
def CORECTL_CDSEL_VALID (i : Nat) : Fld := ⟨55575455, i, 1, 0⟩
/-- CORECTL.CDDATA.DATA, bits 31:0, RO, R78. -/
def CORECTL_CDDATA_DATA (i : Nat) : Fld := ⟨55575552, i, 32, 0⟩
/-- DISP.CTRL.EN, bits 0:0, RW, R144. -/
def DISP_CTRL_EN : Fld := ⟨2097152, 0, 1, 0⟩
/-- DISP.STATUS.BUSY, bits 0:0, RO, R144. -/
def DISP_STATUS_BUSY : Fld := ⟨2097280, 0, 1, 0⟩
/-- DISP.STATUS.CSAT, bits 1:1, W1C, R144. -/
def DISP_STATUS_CSAT : Fld := ⟨2097281, 0, 1, 0⟩
/-- DISP.STATUS.MATCHERR, bits 2:2, W1C, R144. -/
def DISP_STATUS_MATCHERR : Fld := ⟨2097282, 0, 1, 0⟩
/-- DISP.STATUS.MSFULL, bits 3:3, W1C, R144. -/
def DISP_STATUS_MSFULL : Fld := ⟨2097283, 0, 1, 0⟩
/-- DISP.STATUS.VACANT, bits 4:4, RO, R144. -/
def DISP_STATUS_VACANT : Fld := ⟨2097284, 0, 1, 0⟩
/-- DISP.STATUS.SLACKEV, bits 5:5, W1C, R144. -/
def DISP_STATUS_SLACKEV : Fld := ⟨2097285, 0, 1, 0⟩
/-- DISP.CMD.OP, bits 3:0, WO, R144. -/
def DISP_CMD_OP : Fld := ⟨2097408, 0, 4, 0⟩
/-- DISP.CMD.FLAG, bits 8:4, WO, R144. -/
def DISP_CMD_FLAG : Fld := ⟨2097412, 0, 5, 0⟩
/-- DISP.CMD.TID, bits 27:16, WO, R144. -/
def DISP_CMD_TID : Fld := ⟨2097424, 0, 12, 0⟩
/-- DISP.CMD.DB, bits 31:31, WO, R144. -/
def DISP_CMD_DB : Fld := ⟨2097439, 0, 1, 0⟩
/-- DISP.CMDRES.CODE, bits 2:0, RO, R144. -/
def DISP_CMDRES_CODE : Fld := ⟨2097536, 0, 3, 0⟩
/-- DISP.CMDRES.TID, bits 27:16, RO, R144. -/
def DISP_CMDRES_TID : Fld := ⟨2097552, 0, 12, 0⟩
/-- DISP.CMDRES.VALID, bits 31:31, RO, R144. -/
def DISP_CMDRES_VALID : Fld := ⟨2097567, 0, 1, 0⟩
/-- DISP.CTXSEL.TID, bits 11:0, RW, R144. -/
def DISP_CTXSEL_TID : Fld := ⟨2097664, 0, 12, 0⟩
/-- DISP.CTXDATA.WORD, bits 31:0, RW, R144. -/
def DISP_CTXDATA_WORD (i : Nat) : Fld := ⟨2099200, i, 32, if i % 16 = 0 then 0x02D00000 else 0⟩
/-- DISP.CTXSTAT.STATE, bits 2:0, RO, R144. -/
def DISP_CTXSTAT_STATE (i : Nat) : Fld := ⟨2101248, i, 3, 0⟩
/-- DISP.CTXSTAT.MARK, bits 3:3, RO, R144. -/
def DISP_CTXSTAT_MARK (i : Nat) : Fld := ⟨2101251, i, 1, 0⟩
/-- DISP.CTXSTAT.RUNS, bits 5:4, RO, R144. -/
def DISP_CTXSTAT_RUNS (i : Nat) : Fld := ⟨2101252, i, 2, 0⟩
/-- DISP.CTXSTAT.CSAT, bits 6:6, RO, R144. -/
def DISP_CTXSTAT_CSAT (i : Nat) : Fld := ⟨2101254, i, 1, 0⟩
/-- DISP.CTXSTAT.SLOTF, bits 15:8, RO, R144. -/
def DISP_CTXSTAT_SLOTF (i : Nat) : Fld := ⟨2101256, i, 8, 0⟩
/-- DISP.CTXFLAGS.FLAGS, bits 31:0, RO, R144. -/
def DISP_CTXFLAGS_FLAGS (i : Nat) : Fld := ⟨2101376, i, 32, 0⟩
/-- DISP.CTXCNT.COUNTS, bits 31:0, RO, R144. -/
def DISP_CTXCNT_COUNTS (i : Nat) : Fld := ⟨2101504, i, 32, 0⟩
/-- DISP.SLACK.VALUE, bits 9:0, RO, R144. -/
def DISP_SLACK_VALUE : Fld := ⟨2105344, 0, 10, 0⟩
/-- DISP.SLACK.FRAME, bits 31:16, RO, R144. -/
def DISP_SLACK_FRAME : Fld := ⟨2105360, 0, 16, 0⟩
/-- DISP.SLACKMAX.MAX, bits 9:0, RO, R144. -/
def DISP_SLACKMAX_MAX : Fld := ⟨2105472, 0, 10, 0⟩
/-- DISP.SLACKMAX.CLR, bits 31:31, WO, R144. -/
def DISP_SLACKMAX_CLR : Fld := ⟨2105503, 0, 1, 0⟩
/-- DISP.SLACKTHR.THR, bits 9:0, RW, R144. -/
def DISP_SLACKTHR_THR : Fld := ⟨2105600, 0, 10, 700⟩
/-- DISP.CNT.COUNT, bits 31:0, RO, R144. -/
def DISP_CNT_COUNT (i : Nat) : Fld := ⟨2105856, i, 32, 0⟩
/-- DISP.PACE.PACE, bits 15:0, RO, R144. -/
def DISP_PACE_PACE (i : Nat) : Fld := ⟨2107392, i, 16, 0⟩
/-- DISP.PACE.BUSY, bits 31:16, RO, R144. -/
def DISP_PACE_BUSY (i : Nat) : Fld := ⟨2107408, i, 16, 0⟩
/-- DISP.LMAPL.PHYSj, R144; index 14 × instance + number. -/
def DISP_LMAP_PHYS (i : Nat) : Fld := ⟨2113536, i, 4, i % 14⟩
/-- DISP.LVAC.VAC, bits 13:0, RO, R144. -/
def DISP_LVAC_VAC (i : Nat) : Fld := ⟨2117632, i, 14, 0⟩
/-- DISP.LVAC.SPARES, bits 17:16, RO, R144. -/
def DISP_LVAC_SPARES (i : Nat) : Fld := ⟨2117648, i, 2, 2⟩
/-- DISP.CORECMD.CORE, bits 7:0, RWW, R144. -/
def DISP_CORECMD_CORE : Fld := ⟨2121728, 0, 8, 0⟩
/-- DISP.CORECMD.OP, bits 9:8, RWW, R144. -/
def DISP_CORECMD_OP : Fld := ⟨2121736, 0, 2, 0⟩
/-- DISP.CORECMD.PEND, bits 31:31, RO, R144. -/
def DISP_CORECMD_PEND : Fld := ⟨2121759, 0, 1, 0⟩
/-- DISP.SRCSEL.SRC, bits 9:0, RW, R144. -/
def DISP_SRCSEL_SRC : Fld := ⟨2129920, 0, 10, 0⟩
/-- DISP.SRCCFG.SRCFIRST, bits 12:0, RW, R144. -/
def DISP_SRCCFG_SRCFIRST (i : Nat) : Fld := ⟨2130048, i, 13, 0⟩
/-- DISP.SRCCFG.SRCCOUNT, bits 28:16, RW, R144. -/
def DISP_SRCCFG_SRCCOUNT (i : Nat) : Fld := ⟨2130064, i, 13, 0⟩
/-- DISP.SUBSEL.INDEX, bits 12:0, RW, R144. -/
def DISP_SUBSEL_INDEX : Fld := ⟨2130432, 0, 13, 0⟩
/-- DISP.SUBDATA.ENTRY, bits 31:0, RW, R144. -/
def DISP_SUBDATA_ENTRY (i : Nat) : Fld := ⟨2130560, i, 32, 0⟩
/-- DISP.CMPSEL.INDEX, bits 12:0, RW, R144. -/
def DISP_CMPSEL_INDEX : Fld := ⟨2130944, 0, 13, 0⟩
/-- DISP.CMPDATA.ENTRY, bits 31:0, RW, R144. -/
def DISP_CMPDATA_ENTRY (i : Nat) : Fld := ⟨2131072, i, 32, 0⟩
/-- DISP.MAPSEL.INDEX, bits 10:0, RW, R144. -/
def DISP_MAPSEL_INDEX : Fld := ⟨2131456, 0, 11, 0⟩
/-- DISP.MAPDATA.WORD, bits 31:0, RW, R144. -/
def DISP_MAPDATA_WORD (i : Nat) : Fld := ⟨2131968, i, 32, 0⟩
/-- DISP.SWEV.INDEX, bits 6:0, WO, R144. -/
def DISP_SWEV_INDEX : Fld := ⟨2138112, 0, 7, 0⟩
/-- DISP.MSUSE.INUSE, bits 9:0, RO, R144. -/
def DISP_MSUSE_INUSE : Fld := ⟨2138240, 0, 10, 0⟩
/-- DISP.MSUSE.HIGH, bits 25:16, RO, R144. -/
def DISP_MSUSE_HIGH : Fld := ⟨2138256, 0, 10, 0⟩
/-- XBAR.AGE.TICKS, bits 7:0, RW, R171. -/
def XBAR_AGE_TICKS : Fld := ⟨4194304, 0, 8, 8⟩
/-- XBAR.DEFREC0.ADDRLO, bits 31:0, RO, R171. -/
def XBAR_DEFREC0_ADDRLO : Fld := ⟨4194816, 0, 32, 0⟩
/-- XBAR.DEFREC1.ADDRHI, bits 15:0, RO, R171. -/
def XBAR_DEFREC1_ADDRHI : Fld := ⟨4194944, 0, 16, 0⟩
/-- XBAR.DEFREC1.MASTER, bits 20:16, RO, R171. -/
def XBAR_DEFREC1_MASTER : Fld := ⟨4194960, 0, 5, 0⟩
/-- XBAR.DEFREC1.QOS, bits 24:21, RO, R171. -/
def XBAR_DEFREC1_QOS : Fld := ⟨4194965, 0, 4, 0⟩
/-- XBAR.DEFREC1.WRITE, bits 25:25, RO, R171. -/
def XBAR_DEFREC1_WRITE : Fld := ⟨4194969, 0, 1, 0⟩
/-- XBAR.DEFCNT.COUNT, bits 31:0, W1C, R171. -/
def XBAR_DEFCNT_COUNT : Fld := ⟨4195072, 0, 32, 0⟩
/-- XBAR.CONFSEL.MASTER, bits 4:0, RW, R171. -/
def XBAR_CONFSEL_MASTER : Fld := ⟨4196352, 0, 5, 0⟩
/-- XBAR.CONFSEL.TARGET, bits 12:8, RW, R171. -/
def XBAR_CONFSEL_TARGET : Fld := ⟨4196360, 0, 5, 0⟩
/-- XBAR.CONFCNT.COUNT, bits 31:0, RO, R171. -/
def XBAR_CONFCNT_COUNT (i : Nat) : Fld := ⟨4196480, i, 32, 0⟩
/-- XBAR.CONFCLR.ALL, bits 0:0, WO, R171. -/
def XBAR_CONFCLR_ALL : Fld := ⟨4196608, 0, 1, 0⟩
/-- XBAR.CSPOOL.POOL, bits 10:0, RW, R171. -/
def XBAR_CSPOOL_POOL (i : Nat) : Fld := ⟨4202496, i, 11, 256⟩
/-- XBAR.CSPOOL.INUSE, bits 26:16, RO, R171. -/
def XBAR_CSPOOL_INUSE (i : Nat) : Fld := ⟨4202512, i, 11, 0⟩
/-- XBAR.CSHIGH.HIGH, bits 10:0, RO, R171. -/
def XBAR_CSHIGH_HIGH (i : Nat) : Fld := ⟨4204544, i, 11, 0⟩
/-- XBAR.CSHIGH.CLR, bits 31:31, WO, R171. -/
def XBAR_CSHIGH_CLR (i : Nat) : Fld := ⟨4204575, i, 1, 0⟩
/-- MEMT.CTRL.EN, bits 0:0, RW, R172. -/
def MEMT_CTRL_EN : Fld := ⟨6291456, 0, 1, 1⟩
/-- MEMT.CTRL.INTERVAL, bits 12:1, RW, R172. -/
def MEMT_CTRL_INTERVAL : Fld := ⟨6291457, 0, 12, 16⟩
/-- MEMT.EPOS.REGION, bits 19:0, RO, R172. -/
def MEMT_EPOS_REGION (i : Nat) : Fld := ⟨6299648, i, 20, 0⟩
/-- MEMT.EPOS.PHASE, bits 22:20, RO, R172. -/
def MEMT_EPOS_PHASE (i : Nat) : Fld := ⟨6299668, i, 3, 0⟩
/-- MEMT.EPASS.PASSES, bits 31:0, RO, R172. -/
def MEMT_EPASS_PASSES (i : Nat) : Fld := ⟨6303744, i, 32, 0⟩
/-- MEMT.MACSEL.MACRO, bits 10:0, RW, R172. -/
def MEMT_MACSEL_MACRO : Fld := ⟨6307840, 0, 11, 0⟩
/-- MEMT.MACSTAT.ROWSLEFT, bits 3:0, RO, R172. -/
def MEMT_MACSTAT_ROWSLEFT (i : Nat) : Fld := ⟨6307968, i, 4, 8⟩
/-- MEMT.MACSTAT.COLUSED, bits 4:4, RO, R172. -/
def MEMT_MACSTAT_COLUSED (i : Nat) : Fld := ⟨6307972, i, 1, 0⟩
/-- MEMT.MACSTAT.EXHAUSTED, bits 5:5, RO, R172. -/
def MEMT_MACSTAT_EXHAUSTED (i : Nat) : Fld := ⟨6307973, i, 1, 0⟩
/-- MEMT.MACSTAT.FAILROWS, bits 15:8, RO, R172. -/
def MEMT_MACSTAT_FAILROWS (i : Nat) : Fld := ⟨6307976, i, 8, 0⟩
/-- MEMT.BANKMAP.SPARE32, bits 5:0, RO, R172. -/
def MEMT_BANKMAP_SPARE32 : Fld := ⟨6308352, 0, 6, 63⟩
/-- MEMT.BANKMAP.SPARE33, bits 13:8, RO, R172. -/
def MEMT_BANKMAP_SPARE33 : Fld := ⟨6308360, 0, 6, 63⟩
/-- MEMT.BANKMAP.COPY, bits 17:16, RO, R172. -/
def MEMT_BANKMAP_COPY : Fld := ⟨6308368, 0, 2, 0⟩
/-- MEMT.BANKMAP.NOSPARE, bits 18:18, RO, R172. -/
def MEMT_BANKMAP_NOSPARE : Fld := ⟨6308370, 0, 1, 0⟩
/-- MEMT.BRETIRE.BANK, bits 4:0, RWW, R172. -/
def MEMT_BRETIRE_BANK : Fld := ⟨6308480, 0, 5, 0⟩
/-- MEMT.BRETIRE.GO, bits 31:31, RWW, R172. -/
def MEMT_BRETIRE_GO : Fld := ⟨6308511, 0, 1, 0⟩
/-- DRAMC.CFG.RATE, bits 1:0, RW, R173. -/
def DRAMC_CFG_RATE (i : Nat) : Fld := ⟨8396800, i, 2, 0⟩
/-- DRAMC.CFG.DENS, bits 5:4, RW, R173. -/
def DRAMC_CFG_DENS (i : Nat) : Fld := ⟨8396804, i, 2, 3⟩
/-- DRAMC.CFG.RANKS, bits 8:8, RW, R173. -/
def DRAMC_CFG_RANKS (i : Nat) : Fld := ⟨8396808, i, 1, 0⟩
/-- DRAMC.CFG.ECC, bits 12:12, RO, R173. -/
def DRAMC_CFG_ECC (i : Nat) : Fld := ⟨8396812, i, 1, 1⟩
/-- DRAMC.TRAIN.START, bits 0:0, WO, R173. -/
def DRAMC_TRAIN_START (i : Nat) : Fld := ⟨8396928, i, 1, 0⟩
/-- DRAMC.STAT.STATE, bits 2:0, RO, R173. -/
def DRAMC_STAT_STATE (i : Nat) : Fld := ⟨8397056, i, 3, 0⟩
/-- DRAMC.STAT.MR4, bits 10:8, RO, R173. -/
def DRAMC_STAT_MR4 (i : Nat) : Fld := ⟨8397064, i, 3, 0⟩
/-- DRAMC.STAT.TRAINERR, bits 15:12, RO, R173. -/
def DRAMC_STAT_TRAINERR (i : Nat) : Fld := ⟨8397068, i, 4, 0⟩
/-- DRAMC.PWR.REQ, bits 0:0, RW, R173. -/
def DRAMC_PWR_REQ (i : Nat) : Fld := ⟨8397184, i, 1, 0⟩
/-- DRAMC.ECC.CORR, bits 15:0, RO, R173. -/
def DRAMC_ECC_CORR (i : Nat) : Fld := ⟨8397312, i, 16, 0⟩
/-- DRAMC.ECC.UNCORR, bits 31:16, RO, R173. -/
def DRAMC_ECC_UNCORR (i : Nat) : Fld := ⟨8397328, i, 16, 0⟩
/-- DRAMC.REF.PERBANK, bits 0:0, RW, R173. -/
def DRAMC_REF_PERBANK (i : Nat) : Fld := ⟨8397440, i, 1, 1⟩
/-- DRAMC.REF.POLL, bits 11:4, RW, R173. -/
def DRAMC_REF_POLL (i : Nat) : Fld := ⟨8397444, i, 8, 16⟩
/-- EPOCH.STATUS.PENDING, bits 4:0, RO, R195. -/
def EPOCH_STATUS_PENDING : Fld := ⟨10485760, 0, 5, 0⟩
/-- EPOCH.STATUS.LATE, bits 5:5, W1C, R195. -/
def EPOCH_STATUS_LATE : Fld := ⟨10485765, 0, 1, 0⟩
/-- EPOCH.STATUS.REJECT, bits 6:6, W1C, R195. -/
def EPOCH_STATUS_REJECT : Fld := ⟨10485766, 0, 1, 0⟩
/-- EPOCH.STATUS.STGHELD, bits 7:7, W1C, R195. -/
def EPOCH_STATUS_STGHELD : Fld := ⟨10485767, 0, 1, 0⟩
/-- EPOCH.CUR.EPOCH, bits 31:0, RO, R195. -/
def EPOCH_CUR_EPOCH : Fld := ⟨10485888, 0, 32, 0⟩
/-- EPOCH.CURNL.NLO, bits 31:0, RO, R195. -/
def EPOCH_CURNL_NLO : Fld := ⟨10486016, 0, 32, 0⟩
/-- EPOCH.CURNH.NHI, bits 31:0, RO, R195. -/
def EPOCH_CURNH_NHI : Fld := ⟨10486144, 0, 32, 0⟩
/-- EPOCH.HIGH.EPOCH, bits 31:0, RO, R195. -/
def EPOCH_HIGH_EPOCH : Fld := ⟨10486272, 0, 32, 0⟩
/-- EPOCH.POOL.FREE, bits 9:0, RO, R195. -/
def EPOCH_POOL_FREE : Fld := ⟨10486400, 0, 10, 768⟩
/-- EPOCH.POOL.LOW, bits 25:16, RO, R195. -/
def EPOCH_POOL_LOW : Fld := ⟨10486416, 0, 10, 768⟩
/-- EPOCH.POOL.CLR, bits 31:31, WO, R195. -/
def EPOCH_POOL_CLR : Fld := ⟨10486431, 0, 1, 0⟩
/-- EPOCH.PDSEL.PAGE, bits 10:0, RW, R195. -/
def EPOCH_PDSEL_PAGE : Fld := ⟨10486784, 0, 11, 0⟩
/-- EPOCH.PDDATA.VALID, bits 0:0, RWW, R195. -/
def EPOCH_PDDATA_VALID (i : Nat) : Fld := ⟨10486912, i, 1, 0⟩
/-- EPOCH.PDDATA.KIND, bits 1:1, RW, R195. -/
def EPOCH_PDDATA_KIND (i : Nat) : Fld := ⟨10486913, i, 1, 0⟩
/-- EPOCH.PDDATA.OWNER, bits 6:4, RWW, R195. -/
def EPOCH_PDDATA_OWNER (i : Nat) : Fld := ⟨10486916, i, 3, 0⟩
/-- EPOCH.PGSTAT.CHG, bits 0:0, RO, R195. -/
def EPOCH_PGSTAT_CHG (i : Nat) : Fld := ⟨10487040, i, 1, 0⟩
/-- EPOCH.PGSTAT.HELD, bits 1:1, RO, R195. -/
def EPOCH_PGSTAT_HELD (i : Nat) : Fld := ⟨10487041, i, 1, 0⟩
/-- EPOCH.PGSTAT.POOL, bits 2:2, RO, R195. -/
def EPOCH_PGSTAT_POOL (i : Nat) : Fld := ⟨10487042, i, 1, 0⟩
/-- EPOCH.PGSTAT.PEND, bits 3:3, RO, R195. -/
def EPOCH_PGSTAT_PEND (i : Nat) : Fld := ⟨10487043, i, 1, 0⟩
/-- EPOCH.PGSTAT.REMAIN, bits 25:8, RO, R195. -/
def EPOCH_PGSTAT_REMAIN (i : Nat) : Fld := ⟨10487048, i, 18, 0⟩
/-- EPOCH.PGEPOCH.EPOCH, bits 31:0, RO, R195. -/
def EPOCH_PGEPOCH_EPOCH (i : Nat) : Fld := ⟨10487168, i, 32, 0⟩
/-- EPOCH.GSEL.WORD, bits 5:0, RW, R195. -/
def EPOCH_GSEL_WORD : Fld := ⟨10487296, 0, 6, 0⟩
/-- EPOCH.GSEL.GROUP, bits 13:8, RW, R195. -/
def EPOCH_GSEL_GROUP : Fld := ⟨10487304, 0, 6, 0⟩
/-- EPOCH.GDATA.MEMBERS, bits 31:0, RW, R195. -/
def EPOCH_GDATA_MEMBERS (i : Nat) : Fld := ⟨10487424, i, 32, 0⟩
/-- EPOCH.SNAPCTL.GO, bits 0:0, WO, R195. -/
def EPOCH_SNAPCTL_GO : Fld := ⟨10487808, 0, 1, 0⟩
/-- EPOCH.SNAPCTL.COUNT, bits 8:4, RW, R195. -/
def EPOCH_SNAPCTL_COUNT : Fld := ⟨10487812, 0, 5, 0⟩
/-- EPOCH.SNAPSTAT.BUSY, bits 0:0, RO, R195. -/
def EPOCH_SNAPSTAT_BUSY : Fld := ⟨10487936, 0, 1, 0⟩
/-- EPOCH.SNAPSTAT.DONE, bits 1:1, W1C, R195. -/
def EPOCH_SNAPSTAT_DONE : Fld := ⟨10487937, 0, 1, 0⟩
/-- EPOCH.SNAPSTAT.ERR, bits 2:2, W1C, R195. -/
def EPOCH_SNAPSTAT_ERR : Fld := ⟨10487938, 0, 1, 0⟩
/-- EPOCH.SNAPEPOCH.EPOCH, bits 31:0, RO, R195. -/
def EPOCH_SNAPEPOCH_EPOCH : Fld := ⟨10488064, 0, 32, 0⟩
/-- EPOCH.SNAPNL.NLO, bits 31:0, RO, R195. -/
def EPOCH_SNAPNL_NLO : Fld := ⟨10488192, 0, 32, 0⟩
/-- EPOCH.SNAPNH.NHI, bits 31:0, RO, R195. -/
def EPOCH_SNAPNH_NHI : Fld := ⟨10488320, 0, 32, 0⟩
/-- EPOCH.SNAPLIST.TYPE, bits 1:0, RW, R195. -/
def EPOCH_SNAPLIST_TYPE (i : Nat) : Fld := ⟨10489856, i, 2, 0⟩
/-- EPOCH.SNAPLIST.ARG, bits 31:10, RW, R195. -/
def EPOCH_SNAPLIST_ARG (i : Nat) : Fld := ⟨10489866, i, 22, 0⟩

def row_SYS_ID : RegRow := ⟨0xa000000, 1, 4, 1, 4, .direct, fun _ =>
  [(0, SYS_ID_PART, .ro), (16, SYS_ID_STEPL, .ro), (20, SYS_ID_STEPD, .ro), (24, SYS_ID_FAMILY, .ro)]⟩
def row_SYS_UIDL : RegRow := ⟨0xa000004, 1, 4, 1, 4, .direct, fun _ =>
  [(0, SYS_UIDL_UID, .ro)]⟩
def row_SYS_UIDH : RegRow := ⟨0xa000008, 1, 4, 1, 4, .direct, fun _ =>
  [(0, SYS_UIDH_UID, .ro)]⟩
def row_SYS_STRAP : RegRow := ⟨0xa00000c, 1, 4, 1, 4, .direct, fun _ =>
  [(0, SYS_STRAP_BOOT, .ro), (2, SYS_STRAP_WARDSEL, .ro), (3, SYS_STRAP_SDOZ, .ro)]⟩
def row_SYS_BOOTSTAT : RegRow := ⟨0xa000010, 1, 4, 1, 4, .direct, fun _ =>
  [(0, SYS_BOOTSTAT_DONE, .ro), (1, SYS_BOOTSTAT_SAFETY, .ro), (4, SYS_BOOTSTAT_SSLOT, .ro), (5, SYS_BOOTSTAT_CONFIG, .ro), (8, SYS_BOOTSTAT_CSLOT, .ro), (9, SYS_BOOTSTAT_NOKEY, .ro), (10, SYS_BOOTSTAT_DIRB, .ro), (16, SYS_BOOTSTAT_CFGSKIP, .ro)]⟩
def row_SYS_RSTCAUSE : RegRow := ⟨0xa000014, 1, 4, 1, 4, .direct, fun _ =>
  [(0, SYS_RSTCAUSE_CAUSE, .w1c)]⟩
def row_SYS_RSTCTL : RegRow := ⟨0xa000018, 1, 4, 1, 4, .direct, fun _ =>
  [(0, SYS_RSTCTL_KEY, .rww), (31, SYS_RSTCTL_GO, .rww)]⟩
def row_SYS_XRSTEV : RegRow := ⟨0xa000020, 1, 4, 1, 4, .direct, fun _ =>
  [(0, SYS_XRSTEV_CLASS, .w1c)]⟩
def row_SYS_RATE : RegRow := ⟨0xa000028, 1, 4, 1, 4, .direct, fun _ =>
  [(0, SYS_RATE_FS, .rww), (1, SYS_RATE_ACT, .ro)]⟩
def row_SYS_UARTCFG : RegRow := ⟨0xa000030, 1, 4, 1, 4, .direct, fun _ =>
  [(0, SYS_UARTCFG_BAUD, .rw), (16, SYS_UARTCFG_LOG, .rw)]⟩
def row_SYS_UARTDATA : RegRow := ⟨0xa000034, 1, 4, 1, 4, .direct, fun _ =>
  [(0, SYS_UARTDATA_DATA, .rw), (8, SYS_UARTDATA_VALID, .ro)]⟩
def row_SYS_UARTSTAT : RegRow := ⟨0xa000038, 1, 4, 1, 4, .direct, fun _ =>
  [(0, SYS_UARTSTAT_TXFREE, .ro), (8, SYS_UARTSTAT_RXCOUNT, .ro), (16, SYS_UARTSTAT_RXOVF, .w1c), (17, SYS_UARTSTAT_TXOVF, .w1c), (18, SYS_UARTSTAT_TXBUSY, .ro)]⟩
def row_SYS_NODE : RegRow := ⟨0xa00003c, 1, 4, 1, 4, .direct, fun _ =>
  [(0, SYS_NODE_ID, .rw)]⟩
def row_SYS_XRSTCNT : RegRow := ⟨0xa000040, 8, 4, 1, 4, .direct, fun i =>
  [(0, SYS_XRSTCNT_COUNT i, .ro)]⟩
def row_CORECTL_IMSEL : RegRow := ⟨0xa1a0000, 1, 4, 1, 4, .direct, fun _ =>
  [(0, CORECTL_IMSEL_SEL, .rwe)]⟩
def row_CORECTL_IMSTAT : RegRow := ⟨0xa1a0004, 1, 4, 1, 4, .direct, fun _ =>
  [(0, CORECTL_IMSTAT_ACT, .ro), (1, CORECTL_IMSTAT_PEND, .ro), (2, CORECTL_IMSTAT_OLDBUSY, .ro), (3, CORECTL_IMSTAT_WREFUSED, .w1c)]⟩
def row_CORECTL_DBG : RegRow := ⟨0xa1a0008, 1, 4, 1, 4, .direct, fun _ =>
  [(0, CORECTL_DBG_EN, .rww)]⟩
def row_CORECTL_INSVC : RegRow := ⟨0xa1a0020, 8, 4, 1, 4, .direct, fun i =>
  [(0, CORECTL_INSVC_MAP i, .ro)]⟩
def row_CORECTL_CSTAT : RegRow := ⟨0xa1a8000, 256, 128, 1, 4, .direct, fun i =>
  [(0, CORECTL_CSTAT_STATE i, .ro), (3, CORECTL_CSTAT_MEM i, .ro), (16, CORECTL_CSTAT_TID i, .ro)]⟩
def row_CORECTL_CPC : RegRow := ⟨0xa1a8004, 256, 128, 1, 4, .direct, fun i =>
  [(0, CORECTL_CPC_PC i, .ro)]⟩
def row_CORECTL_CCTRL : RegRow := ⟨0xa1a8008, 256, 128, 1, 4, .direct, fun i =>
  [(0, CORECTL_CCTRL_HOLD i, .rww), (1, CORECTL_CCTRL_STEP i, .wo)]⟩
def row_CORECTL_CBRK : RegRow := ⟨0xa1a800c, 256, 128, 1, 4, .direct, fun i =>
  [(0, CORECTL_CBRK_ADDR i, .rww), (11, CORECTL_CBRK_MEM i, .rww), (16, CORECTL_CBRK_EN i, .rww)]⟩
def row_CORECTL_CFAULT : RegRow := ⟨0xa1a8010, 256, 128, 1, 4, .direct, fun i =>
  [(0, CORECTL_CFAULT_CAUSE i, .ro), (8, CORECTL_CFAULT_PC i, .ro), (19, CORECTL_CFAULT_TID i, .ro), (31, CORECTL_CFAULT_VALID i, .w1c)]⟩
def row_CORECTL_CCOUNT : RegRow := ⟨0xa1a8014, 256, 128, 1, 4, .direct, fun i =>
  [(0, CORECTL_CCOUNT_RESID i, .ro), (16, CORECTL_CCOUNT_ECCC i, .ro)]⟩
def row_CORECTL_CBUNDLES : RegRow := ⟨0xa1a8018, 256, 128, 1, 4, .direct, fun i =>
  [(0, CORECTL_CBUNDLES_COUNT i, .ro)]⟩
def row_CORECTL_CDSEL : RegRow := ⟨0xa1a801c, 256, 128, 1, 4, .direct, fun i =>
  [(0, CORECTL_CDSEL_INDEX i, .rw), (31, CORECTL_CDSEL_VALID i, .ro)]⟩
def row_CORECTL_CDDATA : RegRow := ⟨0xa1a8020, 256, 128, 3, 4, .direct, fun i =>
  [(0, CORECTL_CDDATA_DATA i, .ro)]⟩
def row_DISP_CTRL : RegRow := ⟨0xa010000, 1, 4, 1, 4, .direct, fun _ =>
  [(0, DISP_CTRL_EN, .rw)]⟩
def row_DISP_STATUS : RegRow := ⟨0xa010004, 1, 4, 1, 4, .direct, fun _ =>
  [(0, DISP_STATUS_BUSY, .ro), (1, DISP_STATUS_CSAT, .w1c), (2, DISP_STATUS_MATCHERR, .w1c), (3, DISP_STATUS_MSFULL, .w1c), (4, DISP_STATUS_VACANT, .ro), (5, DISP_STATUS_SLACKEV, .w1c)]⟩
def row_DISP_CMD : RegRow := ⟨0xa010008, 1, 4, 1, 4, .direct, fun _ =>
  [(0, DISP_CMD_OP, .wo), (4, DISP_CMD_FLAG, .wo), (16, DISP_CMD_TID, .wo), (31, DISP_CMD_DB, .wo)]⟩
def row_DISP_CMDRES : RegRow := ⟨0xa01000c, 1, 4, 1, 4, .direct, fun _ =>
  [(0, DISP_CMDRES_CODE, .ro), (16, DISP_CMDRES_TID, .ro), (31, DISP_CMDRES_VALID, .ro)]⟩
def row_DISP_CTXSEL : RegRow := ⟨0xa010010, 1, 4, 1, 4, .direct, fun _ =>
  [(0, DISP_CTXSEL_TID, .rw)]⟩
def row_DISP_CTXDATA : RegRow := ⟨0xa010040, 16, 4, 1, 4, .ctx16, fun i =>
  [(0, DISP_CTXDATA_WORD i, .rw)]⟩
def row_DISP_CTXSTAT : RegRow := ⟨0xa010080, 1, 4, 1, 4, .ctx, fun i =>
  [(0, DISP_CTXSTAT_STATE i, .ro), (3, DISP_CTXSTAT_MARK i, .ro), (4, DISP_CTXSTAT_RUNS i, .ro), (6, DISP_CTXSTAT_CSAT i, .ro), (8, DISP_CTXSTAT_SLOTF i, .ro)]⟩
def row_DISP_CTXFLAGS : RegRow := ⟨0xa010084, 1, 4, 1, 4, .ctx, fun i =>
  [(0, DISP_CTXFLAGS_FLAGS i, .ro)]⟩
def row_DISP_CTXCNT : RegRow := ⟨0xa010088, 8, 4, 1, 4, .ctx8, fun i =>
  [(0, DISP_CTXCNT_COUNTS i, .ro)]⟩
def row_DISP_SLACK : RegRow := ⟨0xa010100, 1, 4, 1, 4, .direct, fun _ =>
  [(0, DISP_SLACK_VALUE, .ro), (16, DISP_SLACK_FRAME, .ro)]⟩
def row_DISP_SLACKMAX : RegRow := ⟨0xa010104, 1, 4, 1, 4, .direct, fun _ =>
  [(0, DISP_SLACKMAX_MAX, .ro), (31, DISP_SLACKMAX_CLR, .wo)]⟩
def row_DISP_SLACKTHR : RegRow := ⟨0xa010108, 1, 4, 1, 4, .direct, fun _ =>
  [(0, DISP_SLACKTHR_THR, .rw)]⟩
def row_DISP_CNT : RegRow := ⟨0xa010110, 3, 4, 1, 4, .direct, fun i =>
  [(0, DISP_CNT_COUNT i, .ro)]⟩
def row_DISP_PACE : RegRow := ⟨0xa010140, 16, 4, 1, 4, .direct, fun i =>
  [(0, DISP_PACE_PACE i, .ro), (16, DISP_PACE_BUSY i, .ro)]⟩
def row_DISP_LMAPL : RegRow := ⟨0xa010200, 16, 8, 1, 4, .direct, fun i =>
  [(0, DISP_LMAP_PHYS (i * 14 + 0), .ro), (4, DISP_LMAP_PHYS (i * 14 + 1), .ro), (8, DISP_LMAP_PHYS (i * 14 + 2), .ro), (12, DISP_LMAP_PHYS (i * 14 + 3), .ro), (16, DISP_LMAP_PHYS (i * 14 + 4), .ro), (20, DISP_LMAP_PHYS (i * 14 + 5), .ro), (24, DISP_LMAP_PHYS (i * 14 + 6), .ro), (28, DISP_LMAP_PHYS (i * 14 + 7), .ro)]⟩
def row_DISP_LMAPH : RegRow := ⟨0xa010204, 16, 8, 1, 4, .direct, fun i =>
  [(0, DISP_LMAP_PHYS (i * 14 + 8), .ro), (4, DISP_LMAP_PHYS (i * 14 + 9), .ro), (8, DISP_LMAP_PHYS (i * 14 + 10), .ro), (12, DISP_LMAP_PHYS (i * 14 + 11), .ro), (16, DISP_LMAP_PHYS (i * 14 + 12), .ro), (20, DISP_LMAP_PHYS (i * 14 + 13), .ro)]⟩
def row_DISP_LVAC : RegRow := ⟨0xa010280, 16, 4, 1, 4, .direct, fun i =>
  [(0, DISP_LVAC_VAC i, .ro), (16, DISP_LVAC_SPARES i, .ro)]⟩
def row_DISP_CORECMD : RegRow := ⟨0xa010300, 1, 4, 1, 4, .direct, fun _ =>
  [(0, DISP_CORECMD_CORE, .rww), (8, DISP_CORECMD_OP, .rww), (31, DISP_CORECMD_PEND, .ro)]⟩
def row_DISP_SRCSEL : RegRow := ⟨0xa010400, 1, 4, 1, 4, .direct, fun _ =>
  [(0, DISP_SRCSEL_SRC, .rw)]⟩
def row_DISP_SRCCFG : RegRow := ⟨0xa010404, 1, 4, 1, 4, .src, fun i =>
  [(0, DISP_SRCCFG_SRCFIRST i, .rw), (16, DISP_SRCCFG_SRCCOUNT i, .rw)]⟩
def row_DISP_SUBSEL : RegRow := ⟨0xa010410, 1, 4, 1, 4, .direct, fun _ =>
  [(0, DISP_SUBSEL_INDEX, .rw)]⟩
def row_DISP_SUBDATA : RegRow := ⟨0xa010414, 1, 4, 1, 4, .sub, fun i =>
  [(0, DISP_SUBDATA_ENTRY i, .rw)]⟩
def row_DISP_CMPSEL : RegRow := ⟨0xa010420, 1, 4, 1, 4, .direct, fun _ =>
  [(0, DISP_CMPSEL_INDEX, .rw)]⟩
def row_DISP_CMPDATA : RegRow := ⟨0xa010424, 1, 4, 1, 4, .cmp, fun i =>
  [(0, DISP_CMPDATA_ENTRY i, .rw)]⟩
def row_DISP_MAPSEL : RegRow := ⟨0xa010430, 1, 4, 1, 4, .direct, fun _ =>
  [(0, DISP_MAPSEL_INDEX, .rw)]⟩
def row_DISP_MAPDATA : RegRow := ⟨0xa010440, 4, 4, 1, 4, .map4, fun i =>
  [(0, DISP_MAPDATA_WORD i, .rw)]⟩
def row_DISP_SWEV : RegRow := ⟨0xa010500, 1, 4, 1, 4, .direct, fun _ =>
  [(0, DISP_SWEV_INDEX, .wo)]⟩
def row_DISP_MSUSE : RegRow := ⟨0xa010504, 1, 4, 1, 4, .direct, fun _ =>
  [(0, DISP_MSUSE_INUSE, .ro), (16, DISP_MSUSE_HIGH, .ro)]⟩
def row_XBAR_AGE : RegRow := ⟨0xa020000, 1, 4, 1, 4, .direct, fun _ =>
  [(0, XBAR_AGE_TICKS, .rw)]⟩
def row_XBAR_DEFREC0 : RegRow := ⟨0xa020010, 1, 4, 1, 4, .direct, fun _ =>
  [(0, XBAR_DEFREC0_ADDRLO, .ro)]⟩
def row_XBAR_DEFREC1 : RegRow := ⟨0xa020014, 1, 4, 1, 4, .direct, fun _ =>
  [(0, XBAR_DEFREC1_ADDRHI, .ro), (16, XBAR_DEFREC1_MASTER, .ro), (21, XBAR_DEFREC1_QOS, .ro), (25, XBAR_DEFREC1_WRITE, .ro)]⟩
def row_XBAR_DEFCNT : RegRow := ⟨0xa020018, 1, 4, 1, 4, .direct, fun _ =>
  [(0, XBAR_DEFCNT_COUNT, .w1c)]⟩
def row_XBAR_CONFSEL : RegRow := ⟨0xa020040, 1, 4, 1, 4, .direct, fun _ =>
  [(0, XBAR_CONFSEL_MASTER, .rw), (8, XBAR_CONFSEL_TARGET, .rw)]⟩
def row_XBAR_CONFCNT : RegRow := ⟨0xa020044, 1, 4, 1, 4, .conf, fun i =>
  [(0, XBAR_CONFCNT_COUNT i, .ro)]⟩
def row_XBAR_CONFCLR : RegRow := ⟨0xa020048, 1, 4, 1, 4, .direct, fun _ =>
  [(0, XBAR_CONFCLR_ALL, .wo)]⟩
def row_XBAR_CSPOOL : RegRow := ⟨0xa020100, 16, 4, 1, 4, .direct, fun i =>
  [(0, XBAR_CSPOOL_POOL i, .rw), (16, XBAR_CSPOOL_INUSE i, .ro)]⟩
def row_XBAR_CSHIGH : RegRow := ⟨0xa020140, 16, 4, 1, 4, .direct, fun i =>
  [(0, XBAR_CSHIGH_HIGH i, .ro), (31, XBAR_CSHIGH_CLR i, .wo)]⟩
def row_MEMT_CTRL : RegRow := ⟨0xa030000, 1, 4, 1, 4, .direct, fun _ =>
  [(0, MEMT_CTRL_EN, .rw), (1, MEMT_CTRL_INTERVAL, .rw)]⟩
def row_MEMT_EPOS : RegRow := ⟨0xa030100, 19, 4, 1, 4, .direct, fun i =>
  [(0, MEMT_EPOS_REGION i, .ro), (20, MEMT_EPOS_PHASE i, .ro)]⟩
def row_MEMT_EPASS : RegRow := ⟨0xa030180, 19, 4, 1, 4, .direct, fun i =>
  [(0, MEMT_EPASS_PASSES i, .ro)]⟩
def row_MEMT_MACSEL : RegRow := ⟨0xa030200, 1, 4, 1, 4, .direct, fun _ =>
  [(0, MEMT_MACSEL_MACRO, .rw)]⟩
def row_MEMT_MACSTAT : RegRow := ⟨0xa030204, 1, 4, 1, 4, .memMacro, fun i =>
  [(0, MEMT_MACSTAT_ROWSLEFT i, .ro), (4, MEMT_MACSTAT_COLUSED i, .ro), (5, MEMT_MACSTAT_EXHAUSTED i, .ro), (8, MEMT_MACSTAT_FAILROWS i, .ro)]⟩
def row_MEMT_BANKMAP : RegRow := ⟨0xa030210, 1, 4, 1, 4, .direct, fun _ =>
  [(0, MEMT_BANKMAP_SPARE32, .ro), (8, MEMT_BANKMAP_SPARE33, .ro), (16, MEMT_BANKMAP_COPY, .ro), (18, MEMT_BANKMAP_NOSPARE, .ro)]⟩
def row_MEMT_BRETIRE : RegRow := ⟨0xa030214, 1, 4, 1, 4, .direct, fun _ =>
  [(0, MEMT_BRETIRE_BANK, .rww), (31, MEMT_BRETIRE_GO, .rww)]⟩
def row_DRAMC_CFG : RegRow := ⟨0xa040100, 2, 256, 1, 4, .direct, fun i =>
  [(0, DRAMC_CFG_RATE i, .rw), (4, DRAMC_CFG_DENS i, .rw), (8, DRAMC_CFG_RANKS i, .rw), (12, DRAMC_CFG_ECC i, .ro)]⟩
def row_DRAMC_TRAIN : RegRow := ⟨0xa040104, 2, 256, 1, 4, .direct, fun i =>
  [(0, DRAMC_TRAIN_START i, .wo)]⟩
def row_DRAMC_STAT : RegRow := ⟨0xa040108, 2, 256, 1, 4, .direct, fun i =>
  [(0, DRAMC_STAT_STATE i, .ro), (8, DRAMC_STAT_MR4 i, .ro), (12, DRAMC_STAT_TRAINERR i, .ro)]⟩
def row_DRAMC_PWR : RegRow := ⟨0xa04010c, 2, 256, 1, 4, .direct, fun i =>
  [(0, DRAMC_PWR_REQ i, .rw)]⟩
def row_DRAMC_ECC : RegRow := ⟨0xa040110, 2, 256, 1, 4, .direct, fun i =>
  [(0, DRAMC_ECC_CORR i, .ro), (16, DRAMC_ECC_UNCORR i, .ro)]⟩
def row_DRAMC_REF : RegRow := ⟨0xa040114, 2, 256, 1, 4, .direct, fun i =>
  [(0, DRAMC_REF_PERBANK i, .rw), (4, DRAMC_REF_POLL i, .rw)]⟩
def row_EPOCH_STATUS : RegRow := ⟨0xa050000, 1, 4, 1, 4, .direct, fun _ =>
  [(0, EPOCH_STATUS_PENDING, .ro), (5, EPOCH_STATUS_LATE, .w1c), (6, EPOCH_STATUS_REJECT, .w1c), (7, EPOCH_STATUS_STGHELD, .w1c)]⟩
def row_EPOCH_CUR : RegRow := ⟨0xa050004, 1, 4, 1, 4, .direct, fun _ =>
  [(0, EPOCH_CUR_EPOCH, .ro)]⟩
def row_EPOCH_CURNL : RegRow := ⟨0xa050008, 1, 4, 1, 4, .direct, fun _ =>
  [(0, EPOCH_CURNL_NLO, .ro)]⟩
def row_EPOCH_CURNH : RegRow := ⟨0xa05000c, 1, 4, 1, 4, .direct, fun _ =>
  [(0, EPOCH_CURNH_NHI, .ro)]⟩
def row_EPOCH_HIGH : RegRow := ⟨0xa050010, 1, 4, 1, 4, .direct, fun _ =>
  [(0, EPOCH_HIGH_EPOCH, .ro)]⟩
def row_EPOCH_POOL : RegRow := ⟨0xa050014, 1, 4, 1, 4, .direct, fun _ =>
  [(0, EPOCH_POOL_FREE, .ro), (16, EPOCH_POOL_LOW, .ro), (31, EPOCH_POOL_CLR, .wo)]⟩
def row_EPOCH_PDSEL : RegRow := ⟨0xa050020, 1, 4, 1, 4, .direct, fun _ =>
  [(0, EPOCH_PDSEL_PAGE, .rw)]⟩
def row_EPOCH_PDDATA : RegRow := ⟨0xa050024, 1, 4, 1, 4, .page, fun i =>
  [(0, EPOCH_PDDATA_VALID i, .rww), (1, EPOCH_PDDATA_KIND i, .rw), (4, EPOCH_PDDATA_OWNER i, .rww)]⟩
def row_EPOCH_PGSTAT : RegRow := ⟨0xa050028, 1, 4, 1, 4, .page, fun i =>
  [(0, EPOCH_PGSTAT_CHG i, .ro), (1, EPOCH_PGSTAT_HELD i, .ro), (2, EPOCH_PGSTAT_POOL i, .ro), (3, EPOCH_PGSTAT_PEND i, .ro), (8, EPOCH_PGSTAT_REMAIN i, .ro)]⟩
def row_EPOCH_PGEPOCH : RegRow := ⟨0xa05002c, 1, 4, 1, 4, .page, fun i =>
  [(0, EPOCH_PGEPOCH_EPOCH i, .ro)]⟩
def row_EPOCH_GSEL : RegRow := ⟨0xa050030, 1, 4, 1, 4, .direct, fun _ =>
  [(0, EPOCH_GSEL_WORD, .rw), (8, EPOCH_GSEL_GROUP, .rw)]⟩
def row_EPOCH_GDATA : RegRow := ⟨0xa050034, 1, 4, 1, 4, .group, fun i =>
  [(0, EPOCH_GDATA_MEMBERS i, .rw)]⟩
def row_EPOCH_SNAPCTL : RegRow := ⟨0xa050040, 1, 4, 1, 4, .direct, fun _ =>
  [(0, EPOCH_SNAPCTL_GO, .wo), (4, EPOCH_SNAPCTL_COUNT, .rw)]⟩
def row_EPOCH_SNAPSTAT : RegRow := ⟨0xa050044, 1, 4, 1, 4, .direct, fun _ =>
  [(0, EPOCH_SNAPSTAT_BUSY, .ro), (1, EPOCH_SNAPSTAT_DONE, .w1c), (2, EPOCH_SNAPSTAT_ERR, .w1c)]⟩
def row_EPOCH_SNAPEPOCH : RegRow := ⟨0xa050048, 1, 4, 1, 4, .direct, fun _ =>
  [(0, EPOCH_SNAPEPOCH_EPOCH, .ro)]⟩
def row_EPOCH_SNAPNL : RegRow := ⟨0xa05004c, 1, 4, 1, 4, .direct, fun _ =>
  [(0, EPOCH_SNAPNL_NLO, .ro)]⟩
def row_EPOCH_SNAPNH : RegRow := ⟨0xa050050, 1, 4, 1, 4, .direct, fun _ =>
  [(0, EPOCH_SNAPNH_NHI, .ro)]⟩
def row_EPOCH_SNAPLIST : RegRow := ⟨0xa050080, 16, 4, 1, 4, .direct, fun i =>
  [(0, EPOCH_SNAPLIST_TYPE i, .rw), (10, EPOCH_SNAPLIST_ARG i, .rw)]⟩
def regsA0 : List RegRow :=
  [row_SYS_ID, row_SYS_UIDL, row_SYS_UIDH, row_SYS_STRAP, row_SYS_BOOTSTAT, row_SYS_RSTCAUSE, row_SYS_RSTCTL, row_SYS_XRSTEV, row_SYS_RATE, row_SYS_UARTCFG, row_SYS_UARTDATA, row_SYS_UARTSTAT, row_SYS_NODE, row_SYS_XRSTCNT, row_CORECTL_IMSEL, row_CORECTL_IMSTAT, row_CORECTL_DBG, row_CORECTL_INSVC, row_CORECTL_CSTAT, row_CORECTL_CPC]
def regsA1 : List RegRow :=
  [row_CORECTL_CCTRL, row_CORECTL_CBRK, row_CORECTL_CFAULT, row_CORECTL_CCOUNT, row_CORECTL_CBUNDLES, row_CORECTL_CDSEL, row_CORECTL_CDDATA, row_DISP_CTRL, row_DISP_STATUS, row_DISP_CMD, row_DISP_CMDRES, row_DISP_CTXSEL, row_DISP_CTXDATA, row_DISP_CTXSTAT, row_DISP_CTXFLAGS, row_DISP_CTXCNT, row_DISP_SLACK, row_DISP_SLACKMAX, row_DISP_SLACKTHR, row_DISP_CNT]
def regsA2 : List RegRow :=
  [row_DISP_PACE, row_DISP_LMAPL, row_DISP_LMAPH, row_DISP_LVAC, row_DISP_CORECMD, row_DISP_SRCSEL, row_DISP_SRCCFG, row_DISP_SUBSEL, row_DISP_SUBDATA, row_DISP_CMPSEL, row_DISP_CMPDATA, row_DISP_MAPSEL, row_DISP_MAPDATA, row_DISP_SWEV, row_DISP_MSUSE, row_XBAR_AGE, row_XBAR_DEFREC0, row_XBAR_DEFREC1, row_XBAR_DEFCNT, row_XBAR_CONFSEL]
def regsA3 : List RegRow :=
  [row_XBAR_CONFCNT, row_XBAR_CONFCLR, row_XBAR_CSPOOL, row_XBAR_CSHIGH, row_MEMT_CTRL, row_MEMT_EPOS, row_MEMT_EPASS, row_MEMT_MACSEL, row_MEMT_MACSTAT, row_MEMT_BANKMAP, row_MEMT_BRETIRE, row_DRAMC_CFG, row_DRAMC_TRAIN, row_DRAMC_STAT, row_DRAMC_PWR, row_DRAMC_ECC, row_DRAMC_REF, row_EPOCH_STATUS, row_EPOCH_CUR, row_EPOCH_CURNL]
def regsA4 : List RegRow :=
  [row_EPOCH_CURNH, row_EPOCH_HIGH, row_EPOCH_POOL, row_EPOCH_PDSEL, row_EPOCH_PDDATA, row_EPOCH_PGSTAT, row_EPOCH_PGEPOCH, row_EPOCH_GSEL, row_EPOCH_GDATA, row_EPOCH_SNAPCTL, row_EPOCH_SNAPSTAT, row_EPOCH_SNAPEPOCH, row_EPOCH_SNAPNL, row_EPOCH_SNAPNH, row_EPOCH_SNAPLIST]
/-- The registers of the blocks SYS, CORECTL, DISP, XBAR, MEMT, DRAMC and EPOCH. -/
def regsARows : List RegRow :=
  regsA0 ++ regsA1 ++ regsA2 ++ regsA3 ++ regsA4

end Sys2Proof.Machine
end

