-- ==== Sys2Proof/Machine/RegsB.lean ====
section
/-! DEFINITION. The register fields of blocks ROUTE, SPORT, PDM, NET, TIME and REFS (R219, R244, R245, R269, R270, R290): their home in `State.flds`, their width and their reset value. -/
namespace Sys2Proof.Machine

/-- ROUTE.CTRL.EN, bits 0:0, RW, R219. -/
def ROUTE_CTRL_EN : Fld := ⟨12582912, 0, 1, 0⟩
/-- ROUTE.CTRL.ENACT, bits 1:1, RO, R219. -/
def ROUTE_CTRL_ENACT : Fld := ⟨12582913, 0, 1, 0⟩
/-- ROUTE.STATUS.DUPDST, bits 0:0, W1C, R219. -/
def ROUTE_STATUS_DUPDST : Fld := ⟨12583040, 0, 1, 0⟩
/-- ROUTE.STATUS.BADSRC, bits 1:1, W1C, R219. -/
def ROUTE_STATUS_BADSRC : Fld := ⟨12583041, 0, 1, 0⟩
/-- ROUTE.STATUS.CFGERR, bits 2:2, W1C, R219. -/
def ROUTE_STATUS_CFGERR : Fld := ⟨12583042, 0, 1, 0⟩
/-- ROUTE.STATUS.DLYCLAMP, bits 3:3, W1C, R219. -/
def ROUTE_STATUS_DLYCLAMP : Fld := ⟨12583043, 0, 1, 0⟩
/-- ROUTE.RTBASE.PAGE, bits 10:0, RW, R219. -/
def ROUTE_RTBASE_PAGE : Fld := ⟨12583424, 0, 11, 0⟩
/-- ROUTE.GTBASE.PAGE, bits 10:0, RW, R219. -/
def ROUTE_GTBASE_PAGE : Fld := ⟨12583552, 0, 11, 64⟩
/-- ROUTE.BTBASE.PAGE, bits 10:0, RW, R219. -/
def ROUTE_BTBASE_PAGE : Fld := ⟨12583680, 0, 11, 128⟩
/-- ROUTE.DTBASE.PAGE, bits 10:0, RW, R219. -/
def ROUTE_DTBASE_PAGE : Fld := ⟨12583808, 0, 11, 130⟩
/-- ROUTE.CIBASE.BASE, bits 7:0, RW, R219. -/
def ROUTE_CIBASE_BASE : Fld := ⟨12583936, 0, 8, 244⟩
/-- ROUTE.XFCNT.COUNT, bits 12:0, RO, R219. -/
def ROUTE_XFCNT_COUNT : Fld := ⟨12584448, 0, 13, 0⟩
/-- ROUTE.XFCNT.HIGH, bits 28:16, RO, R219. -/
def ROUTE_XFCNT_HIGH : Fld := ⟨12584464, 0, 13, 0⟩
/-- ROUTE.MOVEDONE.LAST, bits 15:0, RO, R219. -/
def ROUTE_MOVEDONE_LAST : Fld := ⟨12584576, 0, 16, 0⟩
/-- ROUTE.MOVEDONE.MAX, bits 31:16, RO, R219. -/
def ROUTE_MOVEDONE_MAX : Fld := ⟨12584592, 0, 16, 0⟩
/-- ROUTE.STCFG.EN, bits 0:0, RW, R219. -/
def ROUTE_STCFG_EN (i : Nat) : Fld := ⟨12713984, i, 1, 0⟩
/-- ROUTE.STCFG.MODE, bits 1:1, RW, R219. -/
def ROUTE_STCFG_MODE (i : Nat) : Fld := ⟨12713985, i, 1, 0⟩
/-- ROUTE.STCFG.INEN, bits 15:8, RW, R219. -/
def ROUTE_STCFG_INEN (i : Nat) : Fld := ⟨12713992, i, 8, 0⟩
/-- ROUTE.STCFG.OUT, bits 26:16, RW, R219. -/
def ROUTE_STCFG_OUT (i : Nat) : Fld := ⟨12714000, i, 11, 0⟩
/-- ROUTE.STSTAT.ACTIVE, bits 0:0, RO, R219. -/
def ROUTE_STSTAT_ACTIVE (i : Nat) : Fld := ⟨12714112, i, 1, 0⟩
/-- ROUTE.STSTAT.ERR, bits 1:1, W1C, R219. -/
def ROUTE_STSTAT_ERR (i : Nat) : Fld := ⟨12714113, i, 1, 0⟩
/-- ROUTE.STSTAT.ZCTO, bits 2:2, W1C, R219. -/
def ROUTE_STSTAT_ZCTO (i : Nat) : Fld := ⟨12714114, i, 1, 0⟩
/-- ROUTE.STSTAT.ZCPEND, bits 15:8, RO, R219. -/
def ROUTE_STSTAT_ZCPEND (i : Nat) : Fld := ⟨12714120, i, 8, 0⟩
/-- ROUTE.STSRC.SRC, bits 11:0, RW, R219. -/
def ROUTE_STSRC_SRC (i : Nat) : Fld := ⟨12714496, i, 12, 0⟩
/-- ROUTE.STSRC.ZC, bits 16:16, RW, R219. -/
def ROUTE_STSRC_ZC (i : Nat) : Fld := ⟨12714512, i, 1, 0⟩
/-- ROUTE.STGAIN.GAIN, bits 31:0, RW, R219. -/
def ROUTE_STGAIN_GAIN (i : Nat) : Fld := ⟨12714624, i, 32, 0⟩
/-- ROUTE.COMAP.UNIT, bits 24:7, RWE, R219. -/
def ROUTE_COMAP_UNIT (i : Nat) : Fld := ⟨12845063, i, 18, 0⟩
/-- ROUTE.COMAP.VALID, bits 31:31, RWE, R219. -/
def ROUTE_COMAP_VALID (i : Nat) : Fld := ⟨12845087, i, 1, 0⟩
/-- SPORT.GRPSTAT.COUNT, bits 3:0, RO, R244. -/
def SPORT_GRPSTAT_COUNT : Fld := ⟨14680064, 0, 4, 0⟩
/-- SPORT.ASRC.PORT, bits 5:0, RW, R244. -/
def SPORT_ASRC_PORT (i : Nat) : Fld := ⟨14682112, i, 6, 0⟩
/-- SPORT.ASRC.EN, bits 6:6, RW, R244. -/
def SPORT_ASRC_EN (i : Nat) : Fld := ⟨14682118, i, 1, 0⟩
/-- SPORT.ASRC.CHIN, bits 13:8, RW, R244. -/
def SPORT_ASRC_CHIN (i : Nat) : Fld := ⟨14682120, i, 6, 0⟩
/-- SPORT.ASRC.CHOUT, bits 21:16, RW, R244. -/
def SPORT_ASRC_CHOUT (i : Nat) : Fld := ⟨14682128, i, 6, 0⟩
/-- SPORT.ASRCST.LOCK, bits 1:0, RO, R244. -/
def SPORT_ASRCST_LOCK (i : Nat) : Fld := ⟨14682240, i, 2, 0⟩
/-- SPORT.ASRCST.RATIO, bits 31:8, RO, R244. -/
def SPORT_ASRCST_RATIO (i : Nat) : Fld := ⟨14682248, i, 24, 0⟩
/-- SPORT.ASRCUSE.USED, bits 7:0, RO, R244. -/
def SPORT_ASRCUSE_USED : Fld := ⟨14686208, 0, 8, 0⟩
/-- SPORT.CFG.EN, bits 0:0, RW, R244. -/
def SPORT_CFG_EN (i : Nat) : Fld := ⟨14688256, i, 1, 0⟩
/-- SPORT.CFG.MASTER, bits 1:1, RW, R244. -/
def SPORT_CFG_MASTER (i : Nat) : Fld := ⟨14688257, i, 1, 0⟩
/-- SPORT.CFG.FMT, bits 3:2, RW, R244. -/
def SPORT_CFG_FMT (i : Nat) : Fld := ⟨14688258, i, 2, 0⟩
/-- SPORT.CFG.SLOTS, bits 8:4, RW, R244. -/
def SPORT_CFG_SLOTS (i : Nat) : Fld := ⟨14688260, i, 5, 1⟩
/-- SPORT.CFG.SLOTW, bits 10:9, RW, R244. -/
def SPORT_CFG_SLOTW (i : Nat) : Fld := ⟨14688265, i, 2, 2⟩
/-- SPORT.CFG.WORDL, bits 12:11, RW, R244. -/
def SPORT_CFG_WORDL (i : Nat) : Fld := ⟨14688267, i, 2, 2⟩
/-- SPORT.CFG.BCLKINV, bits 13:13, RW, R244. -/
def SPORT_CFG_BCLKINV (i : Nat) : Fld := ⟨14688269, i, 1, 0⟩
/-- SPORT.CFG.FSINV, bits 14:14, RW, R244. -/
def SPORT_CFG_FSINV (i : Nat) : Fld := ⟨14688270, i, 1, 0⟩
/-- SPORT.CFG.FSWIDE, bits 15:15, RW, R244. -/
def SPORT_CFG_FSWIDE (i : Nat) : Fld := ⟨14688271, i, 1, 0⟩
/-- SPORT.CFG.GRP, bits 16:16, RW, R244. -/
def SPORT_CFG_GRP (i : Nat) : Fld := ⟨14688272, i, 1, 0⟩
/-- SPORT.CFG.ASRC, bits 17:17, RO, R244. -/
def SPORT_CFG_ASRC (i : Nat) : Fld := ⟨14688273, i, 1, 0⟩
/-- SPORT.CFG.TXZ, bits 18:18, RW, R244. -/
def SPORT_CFG_TXZ (i : Nat) : Fld := ⟨14688274, i, 1, 0⟩
/-- SPORT.CFG.MCLK, bits 20:19, RW, R244. -/
def SPORT_CFG_MCLK (i : Nat) : Fld := ⟨14688275, i, 2, 0⟩
/-- SPORT.CFG.RXEN, bits 21:21, RW, R244. -/
def SPORT_CFG_RXEN (i : Nat) : Fld := ⟨14688277, i, 1, 0⟩
/-- SPORT.CFG.TXEN, bits 22:22, RW, R244. -/
def SPORT_CFG_TXEN (i : Nat) : Fld := ⟨14688278, i, 1, 0⟩
/-- SPORT.CFG.UPOL, bits 25:24, RW, R244. -/
def SPORT_CFG_UPOL (i : Nat) : Fld := ⟨14688280, i, 2, 0⟩
/-- SPORT.DIV.F, bits 23:0, RW, R244. -/
def SPORT_DIV_F (i : Nat) : Fld := ⟨14688384, i, 24, 0⟩
/-- SPORT.DIV.N, bits 31:24, RW, R244. -/
def SPORT_DIV_N (i : Nat) : Fld := ⟨14688408, i, 8, 4⟩
/-- SPORT.RXMASK.MASK, bits 31:0, RW, R244. -/
def SPORT_RXMASK_MASK (i : Nat) : Fld := ⟨14688512, i, 32, 0⟩
/-- SPORT.TXMASK.MASK, bits 31:0, RW, R244. -/
def SPORT_TXMASK_MASK (i : Nat) : Fld := ⟨14688640, i, 32, 0⟩
/-- SPORT.STAT.STATE, bits 2:0, RO, R244. -/
def SPORT_STAT_STATE (i : Nat) : Fld := ⟨14688768, i, 3, 0⟩
/-- SPORT.STAT.UNDER, bits 3:3, W1C, R244. -/
def SPORT_STAT_UNDER (i : Nat) : Fld := ⟨14688771, i, 1, 0⟩
/-- SPORT.STAT.SLIP, bits 4:4, W1C, R244. -/
def SPORT_STAT_SLIP (i : Nat) : Fld := ⟨14688772, i, 1, 0⟩
/-- SPORT.STAT.REFUSED, bits 5:5, W1C, R244. -/
def SPORT_STAT_REFUSED (i : Nat) : Fld := ⟨14688773, i, 1, 0⟩
/-- SPORT.STAT.SLIPS, bits 31:16, RO, R244. -/
def SPORT_STAT_SLIPS (i : Nat) : Fld := ⟨14688784, i, 16, 0⟩
/-- SPORT.PHASE.OFFS, bits 23:0, RO, R244. -/
def SPORT_PHASE_OFFS (i : Nat) : Fld := ⟨14688896, i, 24, 0⟩
/-- SPORT.TSLO.TS, bits 31:0, RO, R244. -/
def SPORT_TSLO_TS (i : Nat) : Fld := ⟨14689024, i, 32, 0⟩
/-- SPORT.TSHI.TS, bits 31:0, RO, R244. -/
def SPORT_TSHI_TS (i : Nat) : Fld := ⟨14689152, i, 32, 0⟩
/-- SPORT.CAPCTL.EN, bits 0:0, RW, R244. -/
def SPORT_CAPCTL_EN (i : Nat) : Fld := ⟨14689280, i, 1, 0⟩
/-- SPORT.CAPCTL.PACK24, bits 2:1, RW, R244. -/
def SPORT_CAPCTL_PACK24 (i : Nat) : Fld := ⟨14689281, i, 2, 0⟩
/-- SPORT.CAPCTL.QOS, bits 7:4, RW, R244. -/
def SPORT_CAPCTL_QOS (i : Nat) : Fld := ⟨14689284, i, 4, 4⟩
/-- SPORT.CAPBASE.BASE, bits 31:0, RW, R244. -/
def SPORT_CAPBASE_BASE (i : Nat) : Fld := ⟨14689408, i, 32, 0⟩
/-- SPORT.CAPSIZE.SIZE, bits 23:0, RW, R244. -/
def SPORT_CAPSIZE_SIZE (i : Nat) : Fld := ⟨14689536, i, 24, 0⟩
/-- SPORT.CAPPOS.POS, bits 31:0, RO, R244. -/
def SPORT_CAPPOS_POS (i : Nat) : Fld := ⟨14689664, i, 32, 0⟩
/-- PDM.CLK.EN, bits 0:0, RW, R245. -/
def PDM_CLK_EN (i : Nat) : Fld := ⟨16777216, i, 1, 0⟩
/-- PDM.CLK.RATE, bits 2:1, RW, R245. -/
def PDM_CLK_RATE (i : Nat) : Fld := ⟨16777217, i, 2, 1⟩
/-- PDM.LCFG.ENA, bits 0:0, RW, R245. -/
def PDM_LCFG_ENA (i : Nat) : Fld := ⟨16785408, i, 1, 0⟩
/-- PDM.LCFG.ENB, bits 1:1, RW, R245. -/
def PDM_LCFG_ENB (i : Nat) : Fld := ⟨16785409, i, 1, 0⟩
/-- PDM.LCFG.HPF, bits 2:2, RW, R245. -/
def PDM_LCFG_HPF (i : Nat) : Fld := ⟨16785410, i, 1, 0⟩
/-- PDM.LCFG.UPOL, bits 5:4, RW, R245. -/
def PDM_LCFG_UPOL (i : Nat) : Fld := ⟨16785412, i, 2, 0⟩
/-- PDM.LCFG.WAKE, bits 15:8, RW, R245. -/
def PDM_LCFG_WAKE (i : Nat) : Fld := ⟨16785416, i, 8, 20⟩
/-- PDM.LSTAT.STATEA, bits 1:0, RO, R245. -/
def PDM_LSTAT_STATEA (i : Nat) : Fld := ⟨16785536, i, 2, 0⟩
/-- PDM.LSTAT.STATEB, bits 3:2, RO, R245. -/
def PDM_LSTAT_STATEB (i : Nat) : Fld := ⟨16785538, i, 2, 0⟩
/-- PDM.LSTAT.STUCKEV, bits 4:4, W1C, R245. -/
def PDM_LSTAT_STUCKEV (i : Nat) : Fld := ⟨16785540, i, 1, 0⟩
/-- NET.CTRL.EN, bits 0:0, RW, R269. -/
def NET_CTRL_EN (i : Nat) : Fld := ⟨18874368, i, 1, 0⟩
/-- NET.CTRL.SPEED, bits 1:1, RW, R269. -/
def NET_CTRL_SPEED (i : Nat) : Fld := ⟨18874369, i, 1, 0⟩
/-- NET.CTRL.FEC, bits 3:2, RW, R269. -/
def NET_CTRL_FEC (i : Nat) : Fld := ⟨18874370, i, 2, 0⟩
/-- NET.STAT.LINK, bits 0:0, RO, R269. -/
def NET_STAT_LINK (i : Nat) : Fld := ⟨18874496, i, 1, 0⟩
/-- NET.STAT.LINKCHG, bits 1:1, W1C, R269. -/
def NET_STAT_LINKCHG (i : Nat) : Fld := ⟨18874497, i, 1, 0⟩
/-- NET.MACL.ADDR, bits 31:0, RW, R269. -/
def NET_MACL_ADDR (i : Nat) : Fld := ⟨18874624, i, 32, 0⟩
/-- NET.MACH.ADDR, bits 15:0, RW, R269. -/
def NET_MACH_ADDR (i : Nat) : Fld := ⟨18874752, i, 16, 0⟩
/-- NET.IPADDR.ADDR, bits 31:0, RW, R269. -/
def NET_IPADDR_ADDR (i : Nat) : Fld := ⟨18874880, i, 32, 0⟩
/-- NET.LATRX.NS, bits 15:0, RW, R269. -/
def NET_LATRX_NS (i : Nat) : Fld := ⟨18875008, i, 16, 0⟩
/-- NET.LATTX.NS, bits 15:0, RW, R269. -/
def NET_LATTX_NS (i : Nat) : Fld := ⟨18875136, i, 16, 0⟩
/-- NET.MFSEL.INDEX, bits 5:0, RW, R269. -/
def NET_MFSEL_INDEX (i : Nat) : Fld := ⟨18875392, i, 6, 0⟩
/-- NET.RXOK.COUNT, bits 31:0, RO, R269. -/
def NET_RXOK_COUNT (i : Nat) : Fld := ⟨18876416, i, 32, 0⟩
/-- NET.RXFCS.COUNT, bits 31:0, RO, R269. -/
def NET_RXFCS_COUNT (i : Nat) : Fld := ⟨18876544, i, 32, 0⟩
/-- NET.RXDROP.COUNT, bits 31:0, RO, R269. -/
def NET_RXDROP_COUNT (i : Nat) : Fld := ⟨18876672, i, 32, 0⟩
/-- NET.TXOK.COUNT, bits 31:0, RO, R269. -/
def NET_TXOK_COUNT (i : Nat) : Fld := ⟨18876800, i, 32, 0⟩
/-- NET.TXDISC.COUNT, bits 31:0, RO, R269. -/
def NET_TXDISC_COUNT (i : Nat) : Fld := ⟨18876928, i, 32, 0⟩
/-- NET.STBW.MBPS, bits 15:0, RO, R269. -/
def NET_STBW_MBPS (i : Nat) : Fld := ⟨18877056, i, 16, 0⟩
/-- NET.MFDATAL.ADDR, bits 31:0, RW, R269. -/
def NET_MFDATAL_ADDR (i : Nat) : Fld := ⟨18875520, i, 32, 0⟩
/-- NET.MFDATAH.ADDR, bits 15:0, RW, R269. -/
def NET_MFDATAH_ADDR (i : Nat) : Fld := ⟨18875648, i, 16, 0⟩
/-- NET.MFDATAH.VALID, bits 16:16, RW, R269. -/
def NET_MFDATAH_VALID (i : Nat) : Fld := ⟨18875664, i, 1, 0⟩
/-- NET.RSSEL.INDEX, bits 9:0, RW, R269. -/
def NET_RSSEL_INDEX : Fld := ⟨19005440, 0, 10, 0⟩
/-- NET.RSDATA.WORD, bits 31:0, RW, R269. -/
def NET_RSDATA_WORD (i : Nat) : Fld := ⟨19007488, i, 32, 0⟩
/-- NET.RSSTAT.STATE, bits 1:0, RO, R269. -/
def NET_RSSTAT_STATE (i : Nat) : Fld := ⟨19009536, i, 2, 0⟩
/-- NET.RSSTAT.ERR, bits 6:4, RO, R269. -/
def NET_RSSTAT_ERR (i : Nat) : Fld := ⟨19009540, i, 3, 0⟩
/-- NET.RSSTAT.UNDEREV, bits 7:7, W1C, R269. -/
def NET_RSSTAT_UNDEREV (i : Nat) : Fld := ⟨19009543, i, 1, 0⟩
/-- NET.RSCNT0.LATE, bits 15:0, RO, R269. -/
def NET_RSCNT0_LATE (i : Nat) : Fld := ⟨19009664, i, 16, 0⟩
/-- NET.RSCNT0.EARLY, bits 31:16, RO, R269. -/
def NET_RSCNT0_EARLY (i : Nat) : Fld := ⟨19009680, i, 16, 0⟩
/-- NET.RSCNT1.DUP, bits 15:0, RO, R269. -/
def NET_RSCNT1_DUP (i : Nat) : Fld := ⟨19009792, i, 16, 0⟩
/-- NET.RSCNT1.BADFMT, bits 31:16, RO, R269. -/
def NET_RSCNT1_BADFMT (i : Nat) : Fld := ⟨19009808, i, 16, 0⟩
/-- NET.RSCNT2.UNDER, bits 15:0, RO, R269. -/
def NET_RSCNT2_UNDER (i : Nat) : Fld := ⟨19009920, i, 16, 0⟩
/-- NET.TSSEL.INDEX, bits 9:0, RW, R269. -/
def NET_TSSEL_INDEX : Fld := ⟨19013632, 0, 10, 0⟩
/-- NET.TSDATA.WORD, bits 31:0, RW, R269. -/
def NET_TSDATA_WORD (i : Nat) : Fld := ⟨19015680, i, 32, 0⟩
/-- NET.TSSTAT.RUN, bits 0:0, RO, R269. -/
def NET_TSSTAT_RUN (i : Nat) : Fld := ⟨19017728, i, 1, 0⟩
/-- NET.TSSTAT.ERR, bits 6:4, RO, R269. -/
def NET_TSSTAT_ERR (i : Nat) : Fld := ⟨19017732, i, 3, 0⟩
/-- NET.TSCNT.PKTS, bits 31:0, RO, R269. -/
def NET_TSCNT_PKTS (i : Nat) : Fld := ⟨19017856, i, 32, 0⟩
/-- NET.JBASE.BASE, bits 31:0, RW, R269. -/
def NET_JBASE_BASE : Fld := ⟨19021824, 0, 32, 0⟩
/-- NET.JCFG.JD, bits 1:0, RW, R269. -/
def NET_JCFG_JD : Fld := ⟨19021952, 0, 2, 0⟩
/-- NET.GBASE.BASE, bits 7:0, RW, R269. -/
def NET_GBASE_BASE : Fld := ⟨19022080, 0, 8, 220⟩
/-- NET.CHUSE.RX, bits 12:0, RO, R269. -/
def NET_CHUSE_RX : Fld := ⟨19022208, 0, 13, 0⟩
/-- NET.CHUSE.TX, bits 28:16, RO, R269. -/
def NET_CHUSE_TX : Fld := ⟨19022224, 0, 13, 0⟩
/-- TIME.SNAP.GO, bits 0:0, WO, R270. -/
def TIME_SNAP_GO : Fld := ⟨27262976, 0, 1, 0⟩
/-- TIME.BCSNAPL.BC, bits 31:0, RO, R270. -/
def TIME_BCSNAPL_BC : Fld := ⟨27263232, 0, 32, 0⟩
/-- TIME.BCSNAPH.BC, bits 31:0, RO, R270. -/
def TIME_BCSNAPH_BC : Fld := ⟨27263360, 0, 32, 0⟩
/-- TIME.TBCTRL.EN, bits 0:0, RW, R270. -/
def TIME_TBCTRL_EN (i : Nat) : Fld := ⟨27271168, i, 1, 0⟩
/-- TIME.TBCTRL.MODE, bits 1:1, RW, R270. -/
def TIME_TBCTRL_MODE (i : Nat) : Fld := ⟨27271169, i, 1, 0⟩
/-- TIME.TBCTRL.PORT, bits 3:2, RW, R270. -/
def TIME_TBCTRL_PORT (i : Nat) : Fld := ⟨27271170, i, 2, 0⟩
/-- TIME.TBCTRL.SVEN, bits 4:4, RW, R270. -/
def TIME_TBCTRL_SVEN (i : Nat) : Fld := ⟨27271172, i, 1, 0⟩
/-- TIME.TBCTRL.DOMAIN, bits 15:8, RW, R270. -/
def TIME_TBCTRL_DOMAIN (i : Nat) : Fld := ⟨27271176, i, 8, 0⟩
/-- TIME.TBCTRL.MAJSDO, bits 19:16, RW, R270. -/
def TIME_TBCTRL_MAJSDO (i : Nat) : Fld := ⟨27271184, i, 4, 0⟩
/-- TIME.TBCTRL.MINSDO, bits 27:20, RW, R270. -/
def TIME_TBCTRL_MINSDO (i : Nat) : Fld := ⟨27271188, i, 8, 0⟩
/-- TIME.TBSTAT.STATE, bits 2:0, RO, R270. -/
def TIME_TBSTAT_STATE (i : Nat) : Fld := ⟨27271296, i, 3, 0⟩
/-- TIME.TBSTAT.HOLDEV, bits 3:3, W1C, R270. -/
def TIME_TBSTAT_HOLDEV (i : Nat) : Fld := ⟨27271299, i, 1, 0⟩
/-- TIME.TBSTAT.STEPREQ, bits 4:4, W1C, R270. -/
def TIME_TBSTAT_STEPREQ (i : Nat) : Fld := ⟨27271300, i, 1, 0⟩
/-- TIME.TBSTAT.STEPPED, bits 5:5, W1C, R270. -/
def TIME_TBSTAT_STEPPED (i : Nat) : Fld := ⟨27271301, i, 1, 0⟩
/-- TIME.TBSTAT.LOCKEV, bits 6:6, W1C, R270. -/
def TIME_TBSTAT_LOCKEV (i : Nat) : Fld := ⟨27271302, i, 1, 0⟩
/-- TIME.TBMID0.CLKID, bits 31:0, RW, R270. -/
def TIME_TBMID0_CLKID (i : Nat) : Fld := ⟨27271424, i, 32, 0⟩
/-- TIME.TBMID1.CLKID, bits 31:0, RW, R270. -/
def TIME_TBMID1_CLKID (i : Nat) : Fld := ⟨27271552, i, 32, 0⟩
/-- TIME.TBMID2.PORTNUM, bits 15:0, RW, R270. -/
def TIME_TBMID2_PORTNUM (i : Nat) : Fld := ⟨27271680, i, 16, 0⟩
/-- TIME.TBGAIN.KP, bits 15:0, RW, R270. -/
def TIME_TBGAIN_KP (i : Nat) : Fld := ⟨27271808, i, 16, 128⟩
/-- TIME.TBGAIN.KI, bits 31:16, RW, R270. -/
def TIME_TBGAIN_KI (i : Nat) : Fld := ⟨27271824, i, 16, 2048⟩
/-- TIME.TBLIM.FMAX, bits 7:0, RW, R270. -/
def TIME_TBLIM_FMAX (i : Nat) : Fld := ⟨27271936, i, 8, 50⟩
/-- TIME.TBLIM.STEPTHR, bits 31:8, RW, R270. -/
def TIME_TBLIM_STEPTHR (i : Nat) : Fld := ⟨27271944, i, 24, 100000⟩
/-- TIME.TBLOCK.LOCKTHR, bits 15:0, RW, R270. -/
def TIME_TBLOCK_LOCKTHR (i : Nat) : Fld := ⟨27272064, i, 16, 1000⟩
/-- TIME.TBLOCK.SYNCTO, bits 31:16, RW, R270. -/
def TIME_TBLOCK_SYNCTO (i : Nat) : Fld := ⟨27272080, i, 16, 1000⟩
/-- TIME.TBOFS.E, bits 31:0, RO, R270. -/
def TIME_TBOFS_E (i : Nat) : Fld := ⟨27272192, i, 32, 0⟩
/-- TIME.TBDLY.DM, bits 31:0, RO, R270. -/
def TIME_TBDLY_DM (i : Nat) : Fld := ⟨27272320, i, 32, 0⟩
/-- TIME.TBRATE.RATE, bits 31:0, RW, R270. -/
def TIME_TBRATE_RATE (i : Nat) : Fld := ⟨27272448, i, 32, 0⟩
/-- TIME.TBASYM.ASYM, bits 31:0, RW, R270. -/
def TIME_TBASYM_ASYM (i : Nat) : Fld := ⟨27272576, i, 32, 0⟩
/-- TIME.TBSNAPL.TB, bits 31:0, RO, R270. -/
def TIME_TBSNAPL_TB (i : Nat) : Fld := ⟨27272704, i, 32, 0⟩
/-- TIME.TBSNAPH.TB, bits 31:0, RO, R270. -/
def TIME_TBSNAPH_TB (i : Nat) : Fld := ⟨27272832, i, 32, 0⟩
/-- TIME.TBADJ.STEP, bits 31:0, WO, R270. -/
def TIME_TBADJ_STEP (i : Nat) : Fld := ⟨27272960, i, 32, 0⟩
/-- TIME.TBNRR.NRR, bits 31:0, RO, R270. -/
def TIME_TBNRR_NRR (i : Nat) : Fld := ⟨27273088, i, 32, 0⟩
/-- REFS.TBSEL.SEL, bits 2:0, RW, R290. -/
def REFS_TBSEL_SEL : Fld := ⟨29360128, 0, 3, 0⟩
/-- REFS.SYSSTAT.LOCK, bits 0:0, RO, R290. -/
def REFS_SYSSTAT_LOCK : Fld := ⟨29360256, 0, 1, 1⟩
/-- REFS.SYSSTAT.LOSSEV, bits 1:1, W1C, R290. -/
def REFS_SYSSTAT_LOSSEV : Fld := ⟨29360257, 0, 1, 0⟩
/-- REFS.DNERR.NS, bits 31:0, RO, R290. -/
def REFS_DNERR_NS : Fld := ⟨29360384, 0, 32, 0⟩
/-- REFS.CCFG.EN, bits 0:0, RW, R290. -/
def REFS_CCFG_EN (i : Nat) : Fld := ⟨29368320, i, 1, if i = 11 then 1 else 0⟩
/-- REFS.CCFG.RATE, bits 2:1, RW, R290. -/
def REFS_CCFG_RATE (i : Nat) : Fld := ⟨29368321, i, 2, 0⟩
/-- REFS.CCFG.EDGE, bits 3:3, RW, R290. -/
def REFS_CCFG_EDGE (i : Nat) : Fld := ⟨29368323, i, 1, 0⟩
/-- REFS.CCFG.PORT, bits 9:4, RW, R290. -/
def REFS_CCFG_PORT (i : Nat) : Fld := ⟨29368324, i, 6, 0⟩
/-- REFS.CCFG.WINDOW, bits 29:16, RW, R290. -/
def REFS_CCFG_WINDOW (i : Nat) : Fld := ⟨29368336, i, 14, 50⟩
/-- REFS.CQUAL.PJTHR, bits 15:0, RW, R290. -/
def REFS_CQUAL_PJTHR (i : Nat) : Fld := ⟨29368448, i, 16, 200⟩
/-- REFS.CQUAL.QUALT, bits 23:16, RW, R290. -/
def REFS_CQUAL_QUALT (i : Nat) : Fld := ⟨29368464, i, 8, 20⟩
/-- REFS.CSTAT.STATE, bits 1:0, RO, R290. -/
def REFS_CSTAT_STATE (i : Nat) : Fld := ⟨29368576, i, 2, 0⟩
/-- REFS.CSTAT.CAUSE, bits 4:2, RO, R290. -/
def REFS_CSTAT_CAUSE (i : Nat) : Fld := ⟨29368578, i, 3, 0⟩
/-- REFS.CSTAT.DRIFT, bits 5:5, RO, R290. -/
def REFS_CSTAT_DRIFT (i : Nat) : Fld := ⟨29368581, i, 1, 0⟩
/-- REFS.CSTAT.DQEV, bits 6:6, W1C, R290. -/
def REFS_CSTAT_DQEV (i : Nat) : Fld := ⟨29368582, i, 1, 0⟩
/-- REFS.CSTAT.QEV, bits 7:7, W1C, R290. -/
def REFS_CSTAT_QEV (i : Nat) : Fld := ⟨29368583, i, 1, 0⟩
/-- REFS.CFREQ.OFFS, bits 31:0, RO, R290. -/
def REFS_CFREQ_OFFS (i : Nat) : Fld := ⟨29368704, i, 32, 0⟩
/-- REFS.DCTRL.MODE, bits 2:0, RW, R290. -/
def REFS_DCTRL_MODE (i : Nat) : Fld := ⟨29392896, i, 3, 0⟩
/-- REFS.DCTRL.FORCE, bits 7:4, RW, R290. -/
def REFS_DCTRL_FORCE (i : Nat) : Fld := ⟨29392900, i, 4, 11⟩
/-- REFS.DCTRL.REVERT, bits 8:8, RW, R290. -/
def REFS_DCTRL_REVERT (i : Nat) : Fld := ⟨29392904, i, 1, 1⟩
/-- REFS.DPRIOL.PRIc, R290; index 12 × instance + number. -/
def REFS_DPRIO_PRI (i : Nat) : Fld := ⟨29393024, i, 4, if i % 12 = 11 then 14 else 15⟩
/-- REFS.DTIME.WTR, bits 15:0, RW, R290. -/
def REFS_DTIME_WTR (i : Nat) : Fld := ⟨29393280, i, 16, 10⟩
/-- REFS.DTIME.SLEW, bits 31:16, RW, R290. -/
def REFS_DTIME_SLEW (i : Nat) : Fld := ⟨29393296, i, 16, 50⟩
/-- REFS.DSTAT.STATE, bits 2:0, RO, R290. -/
def REFS_DSTAT_STATE (i : Nat) : Fld := ⟨29393408, i, 3, 0⟩
/-- REFS.DSTAT.ALIGNED, bits 3:3, RO, R290. -/
def REFS_DSTAT_ALIGNED (i : Nat) : Fld := ⟨29393411, i, 1, 0⟩
/-- REFS.DSTAT.ACTIVE, bits 7:4, RO, R290. -/
def REFS_DSTAT_ACTIVE (i : Nat) : Fld := ⟨29393412, i, 4, 15⟩
/-- REFS.DSTAT.BEST, bits 11:8, RO, R290. -/
def REFS_DSTAT_BEST (i : Nat) : Fld := ⟨29393416, i, 4, 15⟩
/-- REFS.DSTAT.DRIFT, bits 12:12, RO, R290. -/
def REFS_DSTAT_DRIFT (i : Nat) : Fld := ⟨29393420, i, 1, 0⟩
/-- REFS.DSTAT.SWEV, bits 13:13, W1C, R290. -/
def REFS_DSTAT_SWEV (i : Nat) : Fld := ⟨29393421, i, 1, 0⟩
/-- REFS.DSTAT.HOEV, bits 14:14, W1C, R290. -/
def REFS_DSTAT_HOEV (i : Nat) : Fld := ⟨29393422, i, 1, 0⟩
/-- REFS.DSTAT.STEERIGN, bits 15:15, RO, R290. -/
def REFS_DSTAT_STEERIGN (i : Nat) : Fld := ⟨29393423, i, 1, 0⟩
/-- REFS.DSTAT.WTRLEFT, bits 23:16, RO, R290. -/
def REFS_DSTAT_WTRLEFT (i : Nat) : Fld := ⟨29393424, i, 8, 0⟩
/-- REFS.DSTAT.HOQ, bits 29:24, RO, R290. -/
def REFS_DSTAT_HOQ (i : Nat) : Fld := ⟨29393432, i, 6, 0⟩
/-- REFS.DFREQ.OFFS, bits 31:0, RO, R290. -/
def REFS_DFREQ_OFFS (i : Nat) : Fld := ⟨29393536, i, 32, 0⟩
/-- REFS.DFW.WORD, bits 31:0, RW, R290. -/
def REFS_DFW_WORD (i : Nat) : Fld := ⟨29393664, i, 32, 0⟩
/-- REFS.DSTEER.STEER, bits 31:0, RW, R290. -/
def REFS_DSTEER_STEER (i : Nat) : Fld := ⟨29393792, i, 32, 0⟩
/-- REFS.DPHERR.NS, bits 31:0, RO, R290. -/
def REFS_DPHERR_NS (i : Nat) : Fld := ⟨29393920, i, 32, 0⟩
/-- REFS.DHOF.OFFS, bits 31:0, RO, R290. -/
def REFS_DHOF_OFFS (i : Nat) : Fld := ⟨29394048, i, 32, 0⟩
/-- REFS.FOCFG.EN, bits 0:0, RW, R290. -/
def REFS_FOCFG_EN (i : Nat) : Fld := ⟨29409280, i, 1, 0⟩
/-- REFS.FOCFG.TYPE, bits 1:1, RW, R290. -/
def REFS_FOCFG_TYPE (i : Nat) : Fld := ⟨29409281, i, 1, 0⟩
/-- REFS.FOCFG.WRATE, bits 2:2, RW, R290. -/
def REFS_FOCFG_WRATE (i : Nat) : Fld := ⟨29409282, i, 1, 0⟩
/-- REFS.FOCFG.MCLK, bits 4:3, RW, R290. -/
def REFS_FOCFG_MCLK (i : Nat) : Fld := ⟨29409283, i, 2, 0⟩
/-- REFS.FOCFG.ALIGN, bits 11:8, RW, R290. -/
def REFS_FOCFG_ALIGN (i : Nat) : Fld := ⟨29409288, i, 4, 15⟩
/-- REFS.FOCFG.WIDTH, bits 31:16, RW, R290. -/
def REFS_FOCFG_WIDTH (i : Nat) : Fld := ⟨29409296, i, 16, 0⟩
/-- REFS.FOOFS.OFFSET, bits 31:0, RW, R290. -/
def REFS_FOOFS_OFFSET (i : Nat) : Fld := ⟨29409408, i, 32, 0⟩
/-- REFS.FOSTAT.ACTIVE, bits 0:0, RO, R290. -/
def REFS_FOSTAT_ACTIVE (i : Nat) : Fld := ⟨29409536, i, 1, 0⟩
/-- REFS.FOSTAT.ALIGNLOST, bits 1:1, W1C, R290. -/
def REFS_FOSTAT_ALIGNLOST (i : Nat) : Fld := ⟨29409537, i, 1, 0⟩

def row_ROUTE_CTRL : RegRow := ⟨0xa060000, 1, 4, 1, 4, .direct, fun _ =>
  [(0, ROUTE_CTRL_EN, .rw), (1, ROUTE_CTRL_ENACT, .ro)]⟩
def row_ROUTE_STATUS : RegRow := ⟨0xa060004, 1, 4, 1, 4, .direct, fun _ =>
  [(0, ROUTE_STATUS_DUPDST, .w1c), (1, ROUTE_STATUS_BADSRC, .w1c), (2, ROUTE_STATUS_CFGERR, .w1c), (3, ROUTE_STATUS_DLYCLAMP, .w1c)]⟩
def row_ROUTE_RTBASE : RegRow := ⟨0xa060010, 1, 4, 1, 4, .direct, fun _ =>
  [(0, ROUTE_RTBASE_PAGE, .rw)]⟩
def row_ROUTE_GTBASE : RegRow := ⟨0xa060014, 1, 4, 1, 4, .direct, fun _ =>
  [(0, ROUTE_GTBASE_PAGE, .rw)]⟩
def row_ROUTE_BTBASE : RegRow := ⟨0xa060018, 1, 4, 1, 4, .direct, fun _ =>
  [(0, ROUTE_BTBASE_PAGE, .rw)]⟩
def row_ROUTE_DTBASE : RegRow := ⟨0xa06001c, 1, 4, 1, 4, .direct, fun _ =>
  [(0, ROUTE_DTBASE_PAGE, .rw)]⟩
def row_ROUTE_CIBASE : RegRow := ⟨0xa060020, 1, 4, 1, 4, .direct, fun _ =>
  [(0, ROUTE_CIBASE_BASE, .rw)]⟩
def row_ROUTE_XFCNT : RegRow := ⟨0xa060030, 1, 4, 1, 4, .direct, fun _ =>
  [(0, ROUTE_XFCNT_COUNT, .ro), (16, ROUTE_XFCNT_HIGH, .ro)]⟩
def row_ROUTE_MOVEDONE : RegRow := ⟨0xa060034, 1, 4, 1, 4, .direct, fun _ =>
  [(0, ROUTE_MOVEDONE_LAST, .ro), (16, ROUTE_MOVEDONE_MAX, .ro)]⟩
def row_ROUTE_STCFG : RegRow := ⟨0xa061000, 16, 128, 1, 4, .direct, fun i =>
  [(0, ROUTE_STCFG_EN i, .rw), (1, ROUTE_STCFG_MODE i, .rw), (8, ROUTE_STCFG_INEN i, .rw), (16, ROUTE_STCFG_OUT i, .rw)]⟩
def row_ROUTE_STSTAT : RegRow := ⟨0xa061004, 16, 128, 1, 4, .direct, fun i =>
  [(0, ROUTE_STSTAT_ACTIVE i, .ro), (1, ROUTE_STSTAT_ERR i, .w1c), (2, ROUTE_STSTAT_ZCTO i, .w1c), (8, ROUTE_STSTAT_ZCPEND i, .ro)]⟩
def row_ROUTE_STSRC : RegRow := ⟨0xa061010, 16, 128, 8, 8, .direct, fun i =>
  [(0, ROUTE_STSRC_SRC i, .rw), (16, ROUTE_STSRC_ZC i, .rw)]⟩
def row_ROUTE_STGAIN : RegRow := ⟨0xa061014, 16, 128, 8, 8, .direct, fun i =>
  [(0, ROUTE_STGAIN_GAIN i, .rw)]⟩
def row_ROUTE_COMAP : RegRow := ⟨0xa062000, 2048, 4, 1, 4, .direct, fun i =>
  [(7, ROUTE_COMAP_UNIT i, .rwe), (31, ROUTE_COMAP_VALID i, .rwe)]⟩
def row_SPORT_GRPSTAT : RegRow := ⟨0xa070000, 1, 4, 1, 4, .direct, fun _ =>
  [(0, SPORT_GRPSTAT_COUNT, .ro)]⟩
def row_SPORT_ASRC : RegRow := ⟨0xa070040, 16, 8, 1, 4, .direct, fun i =>
  [(0, SPORT_ASRC_PORT i, .rw), (6, SPORT_ASRC_EN i, .rw), (8, SPORT_ASRC_CHIN i, .rw), (16, SPORT_ASRC_CHOUT i, .rw)]⟩
def row_SPORT_ASRCST : RegRow := ⟨0xa070044, 16, 8, 1, 4, .direct, fun i =>
  [(0, SPORT_ASRCST_LOCK i, .ro), (8, SPORT_ASRCST_RATIO i, .ro)]⟩
def row_SPORT_ASRCUSE : RegRow := ⟨0xa0700c0, 1, 4, 1, 4, .direct, fun _ =>
  [(0, SPORT_ASRCUSE_USED, .ro)]⟩
def row_SPORT_CFG : RegRow := ⟨0xa070100, 64, 256, 1, 4, .direct, fun i =>
  [(0, SPORT_CFG_EN i, .rw), (1, SPORT_CFG_MASTER i, .rw), (2, SPORT_CFG_FMT i, .rw), (4, SPORT_CFG_SLOTS i, .rw), (9, SPORT_CFG_SLOTW i, .rw), (11, SPORT_CFG_WORDL i, .rw), (13, SPORT_CFG_BCLKINV i, .rw), (14, SPORT_CFG_FSINV i, .rw), (15, SPORT_CFG_FSWIDE i, .rw), (16, SPORT_CFG_GRP i, .rw), (17, SPORT_CFG_ASRC i, .ro), (18, SPORT_CFG_TXZ i, .rw), (19, SPORT_CFG_MCLK i, .rw), (21, SPORT_CFG_RXEN i, .rw), (22, SPORT_CFG_TXEN i, .rw), (24, SPORT_CFG_UPOL i, .rw)]⟩
def row_SPORT_DIV : RegRow := ⟨0xa070104, 64, 256, 1, 4, .direct, fun i =>
  [(0, SPORT_DIV_F i, .rw), (24, SPORT_DIV_N i, .rw)]⟩
def row_SPORT_RXMASK : RegRow := ⟨0xa070108, 64, 256, 1, 4, .direct, fun i =>
  [(0, SPORT_RXMASK_MASK i, .rw)]⟩
def row_SPORT_TXMASK : RegRow := ⟨0xa07010c, 64, 256, 1, 4, .direct, fun i =>
  [(0, SPORT_TXMASK_MASK i, .rw)]⟩
def row_SPORT_STAT : RegRow := ⟨0xa070110, 64, 256, 1, 4, .direct, fun i =>
  [(0, SPORT_STAT_STATE i, .ro), (3, SPORT_STAT_UNDER i, .w1c), (4, SPORT_STAT_SLIP i, .w1c), (5, SPORT_STAT_REFUSED i, .w1c), (16, SPORT_STAT_SLIPS i, .ro)]⟩
def row_SPORT_PHASE : RegRow := ⟨0xa070114, 64, 256, 1, 4, .direct, fun i =>
  [(0, SPORT_PHASE_OFFS i, .ro)]⟩
def row_SPORT_TSLO : RegRow := ⟨0xa070118, 64, 256, 1, 4, .direct, fun i =>
  [(0, SPORT_TSLO_TS i, .ro)]⟩
def row_SPORT_TSHI : RegRow := ⟨0xa07011c, 64, 256, 1, 4, .direct, fun i =>
  [(0, SPORT_TSHI_TS i, .ro)]⟩
def row_SPORT_CAPCTL : RegRow := ⟨0xa070120, 64, 256, 1, 4, .direct, fun i =>
  [(0, SPORT_CAPCTL_EN i, .rw), (1, SPORT_CAPCTL_PACK24 i, .rw), (4, SPORT_CAPCTL_QOS i, .rw)]⟩
def row_SPORT_CAPBASE : RegRow := ⟨0xa070124, 64, 256, 1, 4, .direct, fun i =>
  [(0, SPORT_CAPBASE_BASE i, .rw)]⟩
def row_SPORT_CAPSIZE : RegRow := ⟨0xa070128, 64, 256, 1, 4, .direct, fun i =>
  [(0, SPORT_CAPSIZE_SIZE i, .rw)]⟩
def row_SPORT_CAPPOS : RegRow := ⟨0xa07012c, 64, 256, 1, 4, .direct, fun i =>
  [(0, SPORT_CAPPOS_POS i, .ro)]⟩
def row_PDM_CLK : RegRow := ⟨0xa080000, 8, 4, 1, 4, .direct, fun i =>
  [(0, PDM_CLK_EN i, .rw), (1, PDM_CLK_RATE i, .rw)]⟩
def row_PDM_LCFG : RegRow := ⟨0xa080100, 32, 8, 1, 4, .direct, fun i =>
  [(0, PDM_LCFG_ENA i, .rw), (1, PDM_LCFG_ENB i, .rw), (2, PDM_LCFG_HPF i, .rw), (4, PDM_LCFG_UPOL i, .rw), (8, PDM_LCFG_WAKE i, .rw)]⟩
def row_PDM_LSTAT : RegRow := ⟨0xa080104, 32, 8, 1, 4, .direct, fun i =>
  [(0, PDM_LSTAT_STATEA i, .ro), (2, PDM_LSTAT_STATEB i, .ro), (4, PDM_LSTAT_STUCKEV i, .w1c)]⟩
def row_NET_CTRL : RegRow := ⟨0xa090000, 4, 65536, 1, 4, .direct, fun i =>
  [(0, NET_CTRL_EN i, .rw), (1, NET_CTRL_SPEED i, .rw), (2, NET_CTRL_FEC i, .rw)]⟩
def row_NET_STAT : RegRow := ⟨0xa090004, 4, 65536, 1, 4, .direct, fun i =>
  [(0, NET_STAT_LINK i, .ro), (1, NET_STAT_LINKCHG i, .w1c)]⟩
def row_NET_MACL : RegRow := ⟨0xa090008, 4, 65536, 1, 4, .direct, fun i =>
  [(0, NET_MACL_ADDR i, .rw)]⟩
def row_NET_MACH : RegRow := ⟨0xa09000c, 4, 65536, 1, 4, .direct, fun i =>
  [(0, NET_MACH_ADDR i, .rw)]⟩
def row_NET_IPADDR : RegRow := ⟨0xa090010, 4, 65536, 1, 4, .direct, fun i =>
  [(0, NET_IPADDR_ADDR i, .rw)]⟩
def row_NET_LATRX : RegRow := ⟨0xa090014, 4, 65536, 1, 4, .direct, fun i =>
  [(0, NET_LATRX_NS i, .rw)]⟩
def row_NET_LATTX : RegRow := ⟨0xa090018, 4, 65536, 1, 4, .direct, fun i =>
  [(0, NET_LATTX_NS i, .rw)]⟩
def row_NET_MFSEL : RegRow := ⟨0xa090020, 4, 65536, 1, 4, .direct, fun i =>
  [(0, NET_MFSEL_INDEX i, .rw)]⟩
def row_NET_RXOK : RegRow := ⟨0xa090040, 4, 65536, 1, 4, .direct, fun i =>
  [(0, NET_RXOK_COUNT i, .ro)]⟩
def row_NET_RXFCS : RegRow := ⟨0xa090044, 4, 65536, 1, 4, .direct, fun i =>
  [(0, NET_RXFCS_COUNT i, .ro)]⟩
def row_NET_RXDROP : RegRow := ⟨0xa090048, 4, 65536, 1, 4, .direct, fun i =>
  [(0, NET_RXDROP_COUNT i, .ro)]⟩
def row_NET_TXOK : RegRow := ⟨0xa09004c, 4, 65536, 1, 4, .direct, fun i =>
  [(0, NET_TXOK_COUNT i, .ro)]⟩
def row_NET_TXDISC : RegRow := ⟨0xa090050, 4, 65536, 1, 4, .direct, fun i =>
  [(0, NET_TXDISC_COUNT i, .ro)]⟩
def row_NET_STBW : RegRow := ⟨0xa090054, 4, 65536, 1, 4, .direct, fun i =>
  [(0, NET_STBW_MBPS i, .ro)]⟩
def row_NET_MFDATAL : RegRow := ⟨0xa090024, 4, 65536, 1, 4, .mf, fun i =>
  [(0, NET_MFDATAL_ADDR i, .rw)]⟩
def row_NET_MFDATAH : RegRow := ⟨0xa090028, 4, 65536, 1, 4, .mf, fun i =>
  [(0, NET_MFDATAH_ADDR i, .rw), (16, NET_MFDATAH_VALID i, .rw)]⟩
def row_NET_RSSEL : RegRow := ⟨0xa091000, 1, 4, 1, 4, .direct, fun _ =>
  [(0, NET_RSSEL_INDEX, .rw)]⟩
def row_NET_RSDATA : RegRow := ⟨0xa091040, 16, 4, 1, 4, .rs16, fun i =>
  [(0, NET_RSDATA_WORD i, .rw)]⟩
def row_NET_RSSTAT : RegRow := ⟨0xa091080, 1, 4, 1, 4, .rs, fun i =>
  [(0, NET_RSSTAT_STATE i, .ro), (4, NET_RSSTAT_ERR i, .ro), (7, NET_RSSTAT_UNDEREV i, .w1c)]⟩
def row_NET_RSCNT0 : RegRow := ⟨0xa091084, 1, 4, 1, 4, .rs, fun i =>
  [(0, NET_RSCNT0_LATE i, .ro), (16, NET_RSCNT0_EARLY i, .ro)]⟩
def row_NET_RSCNT1 : RegRow := ⟨0xa091088, 1, 4, 1, 4, .rs, fun i =>
  [(0, NET_RSCNT1_DUP i, .ro), (16, NET_RSCNT1_BADFMT i, .ro)]⟩
def row_NET_RSCNT2 : RegRow := ⟨0xa09108c, 1, 4, 1, 4, .rs, fun i =>
  [(0, NET_RSCNT2_UNDER i, .ro)]⟩
def row_NET_TSSEL : RegRow := ⟨0xa091100, 1, 4, 1, 4, .direct, fun _ =>
  [(0, NET_TSSEL_INDEX, .rw)]⟩
def row_NET_TSDATA : RegRow := ⟨0xa091140, 16, 4, 1, 4, .ts16, fun i =>
  [(0, NET_TSDATA_WORD i, .rw)]⟩
def row_NET_TSSTAT : RegRow := ⟨0xa091180, 1, 4, 1, 4, .ts, fun i =>
  [(0, NET_TSSTAT_RUN i, .ro), (4, NET_TSSTAT_ERR i, .ro)]⟩
def row_NET_TSCNT : RegRow := ⟨0xa091184, 1, 4, 1, 4, .ts, fun i =>
  [(0, NET_TSCNT_PKTS i, .ro)]⟩
def row_NET_JBASE : RegRow := ⟨0xa091200, 1, 4, 1, 4, .direct, fun _ =>
  [(0, NET_JBASE_BASE, .rw)]⟩
def row_NET_JCFG : RegRow := ⟨0xa091204, 1, 4, 1, 4, .direct, fun _ =>
  [(0, NET_JCFG_JD, .rw)]⟩
def row_NET_GBASE : RegRow := ⟨0xa091208, 1, 4, 1, 4, .direct, fun _ =>
  [(0, NET_GBASE_BASE, .rw)]⟩
def row_NET_CHUSE : RegRow := ⟨0xa09120c, 1, 4, 1, 4, .direct, fun _ =>
  [(0, NET_CHUSE_RX, .ro), (16, NET_CHUSE_TX, .ro)]⟩
def row_TIME_SNAP : RegRow := ⟨0xa0d0000, 1, 4, 1, 4, .direct, fun _ =>
  [(0, TIME_SNAP_GO, .wo)]⟩
def row_TIME_BCSNAPL : RegRow := ⟨0xa0d0008, 1, 4, 1, 4, .direct, fun _ =>
  [(0, TIME_BCSNAPL_BC, .ro)]⟩
def row_TIME_BCSNAPH : RegRow := ⟨0xa0d000c, 1, 4, 1, 4, .direct, fun _ =>
  [(0, TIME_BCSNAPH_BC, .ro)]⟩
def row_TIME_TBCTRL : RegRow := ⟨0xa0d0100, 4, 64, 1, 4, .direct, fun i =>
  [(0, TIME_TBCTRL_EN i, .rw), (1, TIME_TBCTRL_MODE i, .rw), (2, TIME_TBCTRL_PORT i, .rw), (4, TIME_TBCTRL_SVEN i, .rw), (8, TIME_TBCTRL_DOMAIN i, .rw), (16, TIME_TBCTRL_MAJSDO i, .rw), (20, TIME_TBCTRL_MINSDO i, .rw)]⟩
def row_TIME_TBSTAT : RegRow := ⟨0xa0d0104, 4, 64, 1, 4, .direct, fun i =>
  [(0, TIME_TBSTAT_STATE i, .ro), (3, TIME_TBSTAT_HOLDEV i, .w1c), (4, TIME_TBSTAT_STEPREQ i, .w1c), (5, TIME_TBSTAT_STEPPED i, .w1c), (6, TIME_TBSTAT_LOCKEV i, .w1c)]⟩
def row_TIME_TBMID0 : RegRow := ⟨0xa0d0108, 4, 64, 1, 4, .direct, fun i =>
  [(0, TIME_TBMID0_CLKID i, .rw)]⟩
def row_TIME_TBMID1 : RegRow := ⟨0xa0d010c, 4, 64, 1, 4, .direct, fun i =>
  [(0, TIME_TBMID1_CLKID i, .rw)]⟩
def row_TIME_TBMID2 : RegRow := ⟨0xa0d0110, 4, 64, 1, 4, .direct, fun i =>
  [(0, TIME_TBMID2_PORTNUM i, .rw)]⟩
def row_TIME_TBGAIN : RegRow := ⟨0xa0d0114, 4, 64, 1, 4, .direct, fun i =>
  [(0, TIME_TBGAIN_KP i, .rw), (16, TIME_TBGAIN_KI i, .rw)]⟩
def row_TIME_TBLIM : RegRow := ⟨0xa0d0118, 4, 64, 1, 4, .direct, fun i =>
  [(0, TIME_TBLIM_FMAX i, .rw), (8, TIME_TBLIM_STEPTHR i, .rw)]⟩
def row_TIME_TBLOCK : RegRow := ⟨0xa0d011c, 4, 64, 1, 4, .direct, fun i =>
  [(0, TIME_TBLOCK_LOCKTHR i, .rw), (16, TIME_TBLOCK_SYNCTO i, .rw)]⟩
def row_TIME_TBOFS : RegRow := ⟨0xa0d0120, 4, 64, 1, 4, .direct, fun i =>
  [(0, TIME_TBOFS_E i, .ro)]⟩
def row_TIME_TBDLY : RegRow := ⟨0xa0d0124, 4, 64, 1, 4, .direct, fun i =>
  [(0, TIME_TBDLY_DM i, .ro)]⟩
def row_TIME_TBRATE : RegRow := ⟨0xa0d0128, 4, 64, 1, 4, .direct, fun i =>
  [(0, TIME_TBRATE_RATE i, .rw)]⟩
def row_TIME_TBASYM : RegRow := ⟨0xa0d012c, 4, 64, 1, 4, .direct, fun i =>
  [(0, TIME_TBASYM_ASYM i, .rw)]⟩
def row_TIME_TBSNAPL : RegRow := ⟨0xa0d0130, 4, 64, 1, 4, .direct, fun i =>
  [(0, TIME_TBSNAPL_TB i, .ro)]⟩
def row_TIME_TBSNAPH : RegRow := ⟨0xa0d0134, 4, 64, 1, 4, .direct, fun i =>
  [(0, TIME_TBSNAPH_TB i, .ro)]⟩
def row_TIME_TBADJ : RegRow := ⟨0xa0d0138, 4, 64, 1, 4, .direct, fun i =>
  [(0, TIME_TBADJ_STEP i, .wo)]⟩
def row_TIME_TBNRR : RegRow := ⟨0xa0d013c, 4, 64, 1, 4, .direct, fun i =>
  [(0, TIME_TBNRR_NRR i, .ro)]⟩
def row_REFS_TBSEL : RegRow := ⟨0xa0e0000, 1, 4, 1, 4, .direct, fun _ =>
  [(0, REFS_TBSEL_SEL, .rw)]⟩
def row_REFS_SYSSTAT : RegRow := ⟨0xa0e0004, 1, 4, 1, 4, .direct, fun _ =>
  [(0, REFS_SYSSTAT_LOCK, .ro), (1, REFS_SYSSTAT_LOSSEV, .w1c)]⟩
def row_REFS_DNERR : RegRow := ⟨0xa0e0008, 1, 4, 1, 4, .direct, fun _ =>
  [(0, REFS_DNERR_NS, .ro)]⟩
def row_REFS_CCFG : RegRow := ⟨0xa0e0100, 12, 32, 1, 4, .direct, fun i =>
  [(0, REFS_CCFG_EN i, .rw), (1, REFS_CCFG_RATE i, .rw), (3, REFS_CCFG_EDGE i, .rw), (4, REFS_CCFG_PORT i, .rw), (16, REFS_CCFG_WINDOW i, .rw)]⟩
def row_REFS_CQUAL : RegRow := ⟨0xa0e0104, 12, 32, 1, 4, .direct, fun i =>
  [(0, REFS_CQUAL_PJTHR i, .rw), (16, REFS_CQUAL_QUALT i, .rw)]⟩
def row_REFS_CSTAT : RegRow := ⟨0xa0e0108, 12, 32, 1, 4, .direct, fun i =>
  [(0, REFS_CSTAT_STATE i, .ro), (2, REFS_CSTAT_CAUSE i, .ro), (5, REFS_CSTAT_DRIFT i, .ro), (6, REFS_CSTAT_DQEV i, .w1c), (7, REFS_CSTAT_QEV i, .w1c)]⟩
def row_REFS_CFREQ : RegRow := ⟨0xa0e010c, 12, 32, 1, 4, .direct, fun i =>
  [(0, REFS_CFREQ_OFFS i, .ro)]⟩
def row_REFS_DCTRL : RegRow := ⟨0xa0e0400, 4, 64, 1, 4, .direct, fun i =>
  [(0, REFS_DCTRL_MODE i, .rw), (4, REFS_DCTRL_FORCE i, .rw), (8, REFS_DCTRL_REVERT i, .rw)]⟩
def row_REFS_DPRIOL : RegRow := ⟨0xa0e0404, 4, 64, 1, 4, .direct, fun i =>
  [(0, REFS_DPRIO_PRI (i * 12 + 0), .rw), (4, REFS_DPRIO_PRI (i * 12 + 1), .rw), (8, REFS_DPRIO_PRI (i * 12 + 2), .rw), (12, REFS_DPRIO_PRI (i * 12 + 3), .rw), (16, REFS_DPRIO_PRI (i * 12 + 4), .rw), (20, REFS_DPRIO_PRI (i * 12 + 5), .rw), (24, REFS_DPRIO_PRI (i * 12 + 6), .rw), (28, REFS_DPRIO_PRI (i * 12 + 7), .rw)]⟩
def row_REFS_DPRIOH : RegRow := ⟨0xa0e0408, 4, 64, 1, 4, .direct, fun i =>
  [(0, REFS_DPRIO_PRI (i * 12 + 8), .rw), (4, REFS_DPRIO_PRI (i * 12 + 9), .rw), (8, REFS_DPRIO_PRI (i * 12 + 10), .rw), (12, REFS_DPRIO_PRI (i * 12 + 11), .rw)]⟩
def row_REFS_DTIME : RegRow := ⟨0xa0e040c, 4, 64, 1, 4, .direct, fun i =>
  [(0, REFS_DTIME_WTR i, .rw), (16, REFS_DTIME_SLEW i, .rw)]⟩
def row_REFS_DSTAT : RegRow := ⟨0xa0e0410, 4, 64, 1, 4, .direct, fun i =>
  [(0, REFS_DSTAT_STATE i, .ro), (3, REFS_DSTAT_ALIGNED i, .ro), (4, REFS_DSTAT_ACTIVE i, .ro), (8, REFS_DSTAT_BEST i, .ro), (12, REFS_DSTAT_DRIFT i, .ro), (13, REFS_DSTAT_SWEV i, .w1c), (14, REFS_DSTAT_HOEV i, .w1c), (15, REFS_DSTAT_STEERIGN i, .ro), (16, REFS_DSTAT_WTRLEFT i, .ro), (24, REFS_DSTAT_HOQ i, .ro)]⟩
def row_REFS_DFREQ : RegRow := ⟨0xa0e0414, 4, 64, 1, 4, .direct, fun i =>
  [(0, REFS_DFREQ_OFFS i, .ro)]⟩
def row_REFS_DFW : RegRow := ⟨0xa0e0418, 4, 64, 1, 4, .direct, fun i =>
  [(0, REFS_DFW_WORD i, .rw)]⟩
def row_REFS_DSTEER : RegRow := ⟨0xa0e041c, 4, 64, 1, 4, .direct, fun i =>
  [(0, REFS_DSTEER_STEER i, .rw)]⟩
def row_REFS_DPHERR : RegRow := ⟨0xa0e0420, 4, 64, 1, 4, .direct, fun i =>
  [(0, REFS_DPHERR_NS i, .ro)]⟩
def row_REFS_DHOF : RegRow := ⟨0xa0e0424, 4, 64, 1, 4, .direct, fun i =>
  [(0, REFS_DHOF_OFFS i, .ro)]⟩
def row_REFS_FOCFG : RegRow := ⟨0xa0e0600, 4, 16, 1, 4, .direct, fun i =>
  [(0, REFS_FOCFG_EN i, .rw), (1, REFS_FOCFG_TYPE i, .rw), (2, REFS_FOCFG_WRATE i, .rw), (3, REFS_FOCFG_MCLK i, .rw), (8, REFS_FOCFG_ALIGN i, .rw), (16, REFS_FOCFG_WIDTH i, .rw)]⟩
def row_REFS_FOOFS : RegRow := ⟨0xa0e0604, 4, 16, 1, 4, .direct, fun i =>
  [(0, REFS_FOOFS_OFFSET i, .rw)]⟩
def row_REFS_FOSTAT : RegRow := ⟨0xa0e0608, 4, 16, 1, 4, .direct, fun i =>
  [(0, REFS_FOSTAT_ACTIVE i, .ro), (1, REFS_FOSTAT_ALIGNLOST i, .w1c)]⟩
def regsB0 : List RegRow :=
  [row_ROUTE_CTRL, row_ROUTE_STATUS, row_ROUTE_RTBASE, row_ROUTE_GTBASE, row_ROUTE_BTBASE, row_ROUTE_DTBASE, row_ROUTE_CIBASE, row_ROUTE_XFCNT, row_ROUTE_MOVEDONE, row_ROUTE_STCFG, row_ROUTE_STSTAT, row_ROUTE_STSRC, row_ROUTE_STGAIN, row_ROUTE_COMAP, row_SPORT_GRPSTAT, row_SPORT_ASRC, row_SPORT_ASRCST, row_SPORT_ASRCUSE, row_SPORT_CFG, row_SPORT_DIV]
def regsB1 : List RegRow :=
  [row_SPORT_RXMASK, row_SPORT_TXMASK, row_SPORT_STAT, row_SPORT_PHASE, row_SPORT_TSLO, row_SPORT_TSHI, row_SPORT_CAPCTL, row_SPORT_CAPBASE, row_SPORT_CAPSIZE, row_SPORT_CAPPOS, row_PDM_CLK, row_PDM_LCFG, row_PDM_LSTAT, row_NET_CTRL, row_NET_STAT, row_NET_MACL, row_NET_MACH, row_NET_IPADDR, row_NET_LATRX, row_NET_LATTX]
def regsB2 : List RegRow :=
  [row_NET_MFSEL, row_NET_RXOK, row_NET_RXFCS, row_NET_RXDROP, row_NET_TXOK, row_NET_TXDISC, row_NET_STBW, row_NET_MFDATAL, row_NET_MFDATAH, row_NET_RSSEL, row_NET_RSDATA, row_NET_RSSTAT, row_NET_RSCNT0, row_NET_RSCNT1, row_NET_RSCNT2, row_NET_TSSEL, row_NET_TSDATA, row_NET_TSSTAT, row_NET_TSCNT, row_NET_JBASE]
def regsB3 : List RegRow :=
  [row_NET_JCFG, row_NET_GBASE, row_NET_CHUSE, row_TIME_SNAP, row_TIME_BCSNAPL, row_TIME_BCSNAPH, row_TIME_TBCTRL, row_TIME_TBSTAT, row_TIME_TBMID0, row_TIME_TBMID1, row_TIME_TBMID2, row_TIME_TBGAIN, row_TIME_TBLIM, row_TIME_TBLOCK, row_TIME_TBOFS, row_TIME_TBDLY, row_TIME_TBRATE, row_TIME_TBASYM, row_TIME_TBSNAPL, row_TIME_TBSNAPH]
def regsB4 : List RegRow :=
  [row_TIME_TBADJ, row_TIME_TBNRR, row_REFS_TBSEL, row_REFS_SYSSTAT, row_REFS_DNERR, row_REFS_CCFG, row_REFS_CQUAL, row_REFS_CSTAT, row_REFS_CFREQ, row_REFS_DCTRL, row_REFS_DPRIOL, row_REFS_DPRIOH, row_REFS_DTIME, row_REFS_DSTAT, row_REFS_DFREQ, row_REFS_DFW, row_REFS_DSTEER, row_REFS_DPHERR, row_REFS_DHOF, row_REFS_FOCFG]
def regsB5 : List RegRow :=
  [row_REFS_FOOFS, row_REFS_FOSTAT]
/-- The registers of the blocks ROUTE, SPORT, PDM, NET, TIME and REFS. -/
def regsBRows : List RegRow :=
  regsB0 ++ regsB1 ++ regsB2 ++ regsB3 ++ regsB4 ++ regsB5

end Sys2Proof.Machine
end

