-- ==== Sys2Proof/Machine/RegsC.lean ====
section
/-! DEFINITION. The register fields of blocks AMP, GUARD, LINE, BELL, OVR and PAIR (R314 to R316, R334, R335, R355): their home in `State.flds`, their width and their reset value. -/
namespace Sys2Proof.Machine

/-- AMP.CFG.MINP, bits 9:0, RW, R314. -/
def AMP_CFG_MINP : Fld := ⟨31457280, 0, 10, 160⟩
/-- AMP.CFG.MONTOL, bits 23:16, RW, R314. -/
def AMP_CFG_MONTOL : Fld := ⟨31457296, 0, 8, 25⟩
/-- AMP.SPARE.CH, bits 3:0, RO, R314. -/
def AMP_SPARE_CH (i : Nat) : Fld := ⟨31457792, i, 4, 0⟩
/-- AMP.SPARE.USED, bits 4:4, RO, R314. -/
def AMP_SPARE_USED (i : Nat) : Fld := ⟨31457796, i, 1, 0⟩
/-- AMP.SPARE.FAILED, bits 5:5, RO, R314. -/
def AMP_SPARE_FAILED (i : Nat) : Fld := ⟨31457797, i, 1, 0⟩
/-- AMP.MODCMD.CH, bits 6:0, RWW, R314. -/
def AMP_MODCMD_CH : Fld := ⟨31459328, 0, 7, 0⟩
/-- AMP.MODCMD.GO, bits 31:31, RWW, R314. -/
def AMP_MODCMD_GO : Fld := ⟨31459359, 0, 1, 0⟩
/-- AMP.CMD.REQ, bits 1:0, RW, R314. -/
def AMP_CMD_REQ (i : Nat) : Fld := ⟨31490048, i, 2, 0⟩
/-- AMP.CMD.ALT, bits 14:8, RW, R314. -/
def AMP_CMD_ALT (i : Nat) : Fld := ⟨31490056, i, 7, 0⟩
/-- AMP.CMD.ALTEN, bits 15:15, RW, R314. -/
def AMP_CMD_ALTEN (i : Nat) : Fld := ⟨31490063, i, 1, 0⟩
/-- AMP.CMD.ABAUTO, bits 16:16, RW, R314. -/
def AMP_CMD_ABAUTO (i : Nat) : Fld := ⟨31490064, i, 1, 0⟩
/-- AMP.CMD.ABRET, bits 17:17, WO, R314. -/
def AMP_CMD_ABRET (i : Nat) : Fld := ⟨31490065, i, 1, 0⟩
/-- AMP.STAT.STATE, bits 3:0, RO, R314. -/
def AMP_STAT_STATE (i : Nat) : Fld := ⟨31490176, i, 4, 0⟩
/-- AMP.STAT.PROBES, bits 6:4, RO, R314. -/
def AMP_STAT_PROBES (i : Nat) : Fld := ⟨31490180, i, 3, 0⟩
/-- AMP.STAT.ALARM, bits 7:7, RO, R314. -/
def AMP_STAT_ALARM (i : Nat) : Fld := ⟨31490183, i, 1, 0⟩
/-- AMP.STAT.AB, bits 8:8, RO, R314. -/
def AMP_STAT_AB (i : Nat) : Fld := ⟨31490184, i, 1, 0⟩
/-- AMP.STAT.TRIPEV, bits 9:9, W1C, R314. -/
def AMP_STAT_TRIPEV (i : Nat) : Fld := ⟨31490185, i, 1, 0⟩
/-- AMP.STAT.LATCHEV, bits 10:10, W1C, R314. -/
def AMP_STAT_LATCHEV (i : Nat) : Fld := ⟨31490186, i, 1, 0⟩
/-- AMP.STAT.SPARE, bits 11:11, RO, R314. -/
def AMP_STAT_SPARE (i : Nat) : Fld := ⟨31490187, i, 1, 0⟩
/-- AMP.STAT.MODFAIL, bits 12:12, W1C, R314. -/
def AMP_STAT_MODFAIL (i : Nat) : Fld := ⟨31490188, i, 1, 0⟩
/-- AMP.STAT.REFUSED, bits 13:13, W1C, R314. -/
def AMP_STAT_REFUSED (i : Nat) : Fld := ⟨31490189, i, 1, 0⟩
/-- AMP.STAT.NOPARAM, bits 14:14, W1C, R314. -/
def AMP_STAT_NOPARAM (i : Nat) : Fld := ⟨31490190, i, 1, 0⟩
/-- AMP.STAT.WAKE, bits 15:15, RO, R314. -/
def AMP_STAT_WAKE (i : Nat) : Fld := ⟨31490191, i, 1, 0⟩
/-- AMP.STAT.TRIPS, bits 31:16, RO, R314. -/
def AMP_STAT_TRIPS (i : Nat) : Fld := ⟨31490192, i, 16, 0⟩
/-- AMP.PHASE.OFFS, bits 13:0, RW, R314. -/
def AMP_PHASE_OFFS (i : Nat) : Fld := ⟨31490304, i, 14, i % 8 * 2000⟩
/-- AMP.CLIP.COUNT, bits 31:0, RO, R314. -/
def AMP_CLIP_COUNT (i : Nat) : Fld := ⟨31490432, i, 32, 0⟩
/-- AMP.DIAG.DIAGM, bits 9:0, RW, R314. -/
def AMP_DIAG_DIAGM (i : Nat) : Fld := ⟨31490560, i, 10, 160⟩
/-- AMP.DIAG.ZSHORT, bits 23:16, RW, R314. -/
def AMP_DIAG_ZSHORT (i : Nat) : Fld := ⟨31490576, i, 8, 100⟩
/-- AMP.DIAG.ZOPEN, bits 31:24, RW, R314. -/
def AMP_DIAG_ZOPEN (i : Nat) : Fld := ⟨31490584, i, 8, 200⟩
/-- AMP.DIAGRES.RESULT, bits 2:0, RO, R314. -/
def AMP_DIAGRES_RESULT (i : Nat) : Fld := ⟨31490688, i, 3, 0⟩
/-- AMP.DIAGRES.Z, bits 31:16, RO, R314. -/
def AMP_DIAGRES_Z (i : Nat) : Fld := ⟨31490704, i, 16, 0⟩
/-- AMP.SCALE.VFS, bits 15:0, RW, R314. -/
def AMP_SCALE_VFS (i : Nat) : Fld := ⟨31490816, i, 16, 0⟩
/-- AMP.SCALE.IFS, bits 31:16, RW, R314. -/
def AMP_SCALE_IFS (i : Nat) : Fld := ⟨31490832, i, 16, 0⟩
/-- GUARD.PCTL.PVALID, bits 0:0, RW, R315. -/
def GUARD_PCTL_PVALID (i : Nat) : Fld := ⟨33587200, i, 1, 0⟩
/-- GUARD.PCTL.SRC, bits 2:1, RO, R315. -/
def GUARD_PCTL_SRC (i : Nat) : Fld := ⟨33587201, i, 2, 0⟩
/-- GUARD.RE.RE, bits 15:0, RW, R315. -/
def GUARD_RE_RE (i : Nat) : Fld := ⟨33587328, i, 16, 0⟩
/-- GUARD.RE.LE, bits 31:16, RW, R315. -/
def GUARD_RE_LE (i : Nat) : Fld := ⟨33587344, i, 16, 0⟩
/-- GUARD.BL.BL, bits 15:0, RW, R315. -/
def GUARD_BL_BL (i : Nat) : Fld := ⟨33587456, i, 16, 0⟩
/-- GUARD.BL.MMS, bits 31:16, RW, R315. -/
def GUARD_BL_MMS (i : Nat) : Fld := ⟨33587472, i, 16, 0⟩
/-- GUARD.KMS.KMS, bits 15:0, RW, R315. -/
def GUARD_KMS_KMS (i : Nat) : Fld := ⟨33587584, i, 16, 0⟩
/-- GUARD.KMS.RMS, bits 31:16, RW, R315. -/
def GUARD_KMS_RMS (i : Nat) : Fld := ⟨33587600, i, 16, 0⟩
/-- GUARD.XMAX.XMAX, bits 15:0, RW, R315. -/
def GUARD_XMAX_XMAX (i : Nat) : Fld := ⟨33587712, i, 16, 0⟩
/-- GUARD.XMAX.XLIM, bits 23:16, RW, R315. -/
def GUARD_XMAX_XLIM (i : Nat) : Fld := ⟨33587728, i, 8, 0⟩
/-- GUARD.XMAX.RREL, bits 31:24, RW, R315. -/
def GUARD_XMAX_RREL (i : Nat) : Fld := ⟨33587736, i, 8, 0⟩
/-- GUARD.RTH.RTH1, bits 15:0, RW, R315. -/
def GUARD_RTH_RTH1 (i : Nat) : Fld := ⟨33587840, i, 16, 0⟩
/-- GUARD.RTH.RTH2, bits 31:16, RW, R315. -/
def GUARD_RTH_RTH2 (i : Nat) : Fld := ⟨33587856, i, 16, 0⟩
/-- GUARD.TAU.TAU1, bits 15:0, RW, R315. -/
def GUARD_TAU_TAU1 (i : Nat) : Fld := ⟨33587968, i, 16, 0⟩
/-- GUARD.TAU.TAU2, bits 31:16, RW, R315. -/
def GUARD_TAU_TAU2 (i : Nat) : Fld := ⟨33587984, i, 16, 0⟩
/-- GUARD.TEMP.TMAX, bits 9:0, RW, R315. -/
def GUARD_TEMP_TMAX (i : Nat) : Fld := ⟨33588096, i, 10, 0⟩
/-- GUARD.TEMP.TMARG, bits 15:10, RW, R315. -/
def GUARD_TEMP_TMARG (i : Nat) : Fld := ⟨33588106, i, 6, 0⟩
/-- GUARD.TEMP.GTMIN, bits 23:16, RW, R315. -/
def GUARD_TEMP_GTMIN (i : Nat) : Fld := ⟨33588112, i, 8, 0⟩
/-- GUARD.TEMP.TAMB, bits 31:24, RW, R315. -/
def GUARD_TEMP_TAMB (i : Nat) : Fld := ⟨33588120, i, 8, 0⟩
/-- GUARD.RATING.VRATED, bits 15:0, RW, R315. -/
def GUARD_RATING_VRATED (i : Nat) : Fld := ⟨33588224, i, 16, 0⟩
/-- GUARD.RATING.ITRIP, bits 31:16, RW, R315. -/
def GUARD_RATING_ITRIP (i : Nat) : Fld := ⟨33588240, i, 16, 0⟩
/-- GUARD.GSTAT.GX, bits 9:0, RO, R315. -/
def GUARD_GSTAT_GX (i : Nat) : Fld := ⟨33588352, i, 10, 0⟩
/-- GUARD.GSTAT.GT, bits 19:10, RO, R315. -/
def GUARD_GSTAT_GT (i : Nat) : Fld := ⟨33588362, i, 10, 0⟩
/-- GUARD.GSTAT.TC, bits 29:20, RO, R315. -/
def GUARD_GSTAT_TC (i : Nat) : Fld := ⟨33588372, i, 10, 0⟩
/-- GUARD.XPEAK.XP, bits 15:0, RO, R315. -/
def GUARD_XPEAK_XP (i : Nat) : Fld := ⟨33588480, i, 16, 0⟩
/-- LINE.PCFG.EN, bits 0:0, RW, R316. -/
def LINE_PCFG_EN (i : Nat) : Fld := ⟨35684352, i, 1, 0⟩
/-- LINE.PCFG.FREQ, bits 15:1, RW, R316. -/
def LINE_PCFG_FREQ (i : Nat) : Fld := ⟨35684353, i, 15, 20000⟩
/-- LINE.PCFG.LVL, bits 23:16, RW, R316. -/
def LINE_PCFG_LVL (i : Nat) : Fld := ⟨35684368, i, 8, 60⟩
/-- LINE.PCFG.TOL, bits 30:24, RW, R316. -/
def LINE_PCFG_TOL (i : Nat) : Fld := ⟨35684376, i, 7, 20⟩
/-- LINE.ZBASE.ZBASE, bits 30:0, RW, R316. -/
def LINE_ZBASE_ZBASE (i : Nat) : Fld := ⟨35684480, i, 31, 0⟩
/-- LINE.ZBASE.CAP, bits 31:31, WO, R316. -/
def LINE_ZBASE_CAP (i : Nat) : Fld := ⟨35684511, i, 1, 0⟩
/-- LINE.ZMEAS.Z, bits 31:0, RO, R316. -/
def LINE_ZMEAS_Z (i : Nat) : Fld := ⟨35684608, i, 32, 0⟩
/-- LINE.LSTAT.STATE, bits 2:0, RO, R316. -/
def LINE_LSTAT_STATE (i : Nat) : Fld := ⟨35684736, i, 3, 0⟩
/-- LINE.LSTAT.CAPBUSY, bits 3:3, RO, R316. -/
def LINE_LSTAT_CAPBUSY (i : Nat) : Fld := ⟨35684739, i, 1, 0⟩
/-- LINE.LSTAT.FAULTEV, bits 4:4, W1C, R316. -/
def LINE_LSTAT_FAULTEV (i : Nat) : Fld := ⟨35684740, i, 1, 0⟩
/-- LINE.LSTAT.FAULTS, bits 31:16, RO, R316. -/
def LINE_LSTAT_FAULTS (i : Nat) : Fld := ⟨35684752, i, 16, 0⟩
/-- BELL.PWR.REQ, bits 0:0, RW, R334. -/
def BELL_PWR_REQ : Fld := ⟨37748736, 0, 1, 0⟩
/-- BELL.PWR.STATE, bits 1:1, RO, R334. -/
def BELL_PWR_STATE : Fld := ⟨37748737, 0, 1, 0⟩
/-- BELL.STRB.SRC, bits 1:0, RW, R334. -/
def BELL_STRB_SRC (i : Nat) : Fld := ⟨37749248, i, 2, 0⟩
/-- BELL.STRB.PERIOD, bits 27:16, RW, R334. -/
def BELL_STRB_PERIOD (i : Nat) : Fld := ⟨37749264, i, 12, 32⟩
/-- BELL.SPARE.CH, bits 2:0, RO, R334. -/
def BELL_SPARE_CH : Fld := ⟨37749760, 0, 3, 0⟩
/-- BELL.SPARE.USED, bits 3:3, RO, R334. -/
def BELL_SPARE_USED : Fld := ⟨37749763, 0, 1, 0⟩
/-- BELL.SPARE.FAILED, bits 4:4, RO, R334. -/
def BELL_SPARE_FAILED : Fld := ⟨37749764, 0, 1, 0⟩
/-- BELL.SPCMD.CH, bits 2:0, RWW, R334. -/
def BELL_SPCMD_CH : Fld := ⟨37749888, 0, 3, 0⟩
/-- BELL.SPCMD.GO, bits 31:31, RWW, R334. -/
def BELL_SPCMD_GO : Fld := ⟨37749919, 0, 1, 0⟩
/-- BELL.CFG.EN, bits 0:0, RW, R334. -/
def BELL_CFG_EN (i : Nat) : Fld := ⟨37756928, i, 1, 0⟩
/-- BELL.CFG.RANGE, bits 1:1, RW, R334. -/
def BELL_CFG_RANGE (i : Nat) : Fld := ⟨37756929, i, 1, 0⟩
/-- BELL.CFG.SRC, bits 2:2, RW, R334. -/
def BELL_CFG_SRC (i : Nat) : Fld := ⟨37756930, i, 1, 0⟩
/-- BELL.PLAY.WAVE, bits 7:0, RW, R334. -/
def BELL_PLAY_WAVE (i : Nat) : Fld := ⟨37757056, i, 8, 0⟩
/-- BELL.PLAY.GO, bits 16:16, WO, R334. -/
def BELL_PLAY_GO (i : Nat) : Fld := ⟨37757072, i, 1, 0⟩
/-- BELL.PLAY.STOP, bits 17:17, WO, R334. -/
def BELL_PLAY_STOP (i : Nat) : Fld := ⟨37757073, i, 1, 0⟩
/-- BELL.GAIN.GAIN, bits 31:0, RW, R334. -/
def BELL_GAIN_GAIN (i : Nat) : Fld := ⟨37757184, i, 32, 268435456⟩
/-- BELL.STAT.STATE, bits 2:0, RO, R334. -/
def BELL_STAT_STATE (i : Nat) : Fld := ⟨37757312, i, 3, 0⟩
/-- BELL.STAT.RANGE, bits 3:3, RO, R334. -/
def BELL_STAT_RANGE (i : Nat) : Fld := ⟨37757315, i, 1, 0⟩
/-- BELL.STAT.PLAYING, bits 4:4, RO, R334. -/
def BELL_STAT_PLAYING (i : Nat) : Fld := ⟨37757316, i, 1, 0⟩
/-- BELL.STAT.OVR, bits 5:5, RO, R334. -/
def BELL_STAT_OVR (i : Nat) : Fld := ⟨37757317, i, 1, 0⟩
/-- BELL.STAT.SPARE, bits 6:6, RO, R334. -/
def BELL_STAT_SPARE (i : Nat) : Fld := ⟨37757318, i, 1, 0⟩
/-- BELL.STAT.FAULT, bits 7:7, W1C, R334. -/
def BELL_STAT_FAULT (i : Nat) : Fld := ⟨37757319, i, 1, 0⟩
/-- BELL.STAT.WAVEERR, bits 8:8, W1C, R334. -/
def BELL_STAT_WAVEERR (i : Nat) : Fld := ⟨37757320, i, 1, 0⟩
/-- OVR.CTRL.ARM, bits 0:0, RWW, R335. -/
def OVR_CTRL_ARM : Fld := ⟨39845888, 0, 1, 0⟩
/-- OVR.CTRL.ENGRAMP, bits 15:8, RW, R335. -/
def OVR_CTRL_ENGRAMP : Fld := ⟨39845896, 0, 8, 5⟩
/-- OVR.CTRL.RELRAMP, bits 23:16, RW, R335. -/
def OVR_CTRL_RELRAMP : Fld := ⟨39845904, 0, 8, 20⟩
/-- OVR.STAT.ARMED, bits 0:0, RO, R335. -/
def OVR_STAT_ARMED : Fld := ⟨39846016, 0, 1, 0⟩
/-- OVR.STAT.SRC, bits 2:1, RO, R335. -/
def OVR_STAT_SRC : Fld := ⟨39846017, 0, 2, 0⟩
/-- OVR.STAT.IMGDONE, bits 3:3, RO, R335. -/
def OVR_STAT_IMGDONE : Fld := ⟨39846019, 0, 1, 0⟩
/-- OVR.STAT.IMGERR, bits 4:4, W1C, R335. -/
def OVR_STAT_IMGERR : Fld := ⟨39846020, 0, 1, 0⟩
/-- OVR.STAT.DARK, bits 5:5, W1C, R335. -/
def OVR_STAT_DARK : Fld := ⟨39846021, 0, 1, 0⟩
/-- OVR.ASTAT.ACTIVE, bits 15:0, RO, R335. -/
def OVR_ASTAT_ACTIVE : Fld := ⟨39846144, 0, 16, 0⟩
/-- OVR.ASTAT.INPUT, bits 31:16, RO, R335. -/
def OVR_ASTAT_INPUT : Fld := ⟨39846160, 0, 16, 0⟩
/-- OVR.SWACT.ACT, bits 15:0, RW, R335. -/
def OVR_SWACT_ACT : Fld := ⟨39846272, 0, 16, 0⟩
/-- OVR.RELEASE.REL, bits 15:0, WO, R335. -/
def OVR_RELEASE_REL : Fld := ⟨39846400, 0, 16, 0⟩
/-- OVR.WAKE.SET, bits 31:0, RW, R335. -/
def OVR_WAKE_SET (i : Nat) : Fld := ⟨39846912, i, 32, 0⟩
/-- OVR.ZACT.ZONES, bits 31:0, RO, R335. -/
def OVR_ZACT_ZONES (i : Nat) : Fld := ⟨39847424, i, 32, 0⟩
/-- OVR.INCFG.EN, bits 0:0, RW, R335. -/
def OVR_INCFG_EN (i : Nat) : Fld := ⟨39847936, i, 1, 0⟩
/-- OVR.INCFG.POL, bits 1:1, RW, R335. -/
def OVR_INCFG_POL (i : Nat) : Fld := ⟨39847937, i, 1, 0⟩
/-- OVR.INCFG.LATCH, bits 2:2, RW, R335. -/
def OVR_INCFG_LATCH (i : Nat) : Fld := ⟨39847938, i, 1, 0⟩
/-- OVR.INCFG.DEB, bits 15:8, RW, R335. -/
def OVR_INCFG_DEB (i : Nat) : Fld := ⟨39847944, i, 8, 20⟩
/-- OVR.PCFG.PRE, bits 7:0, RW, R335. -/
def OVR_PCFG_PRE (i : Nat) : Fld := ⟨39854080, i, 8, 0⟩
/-- OVR.PCFG.MAIN, bits 15:8, RW, R335. -/
def OVR_PCFG_MAIN (i : Nat) : Fld := ⟨39854088, i, 8, 0⟩
/-- OVR.PCFG.PREEN, bits 16:16, RW, R335. -/
def OVR_PCFG_PREEN (i : Nat) : Fld := ⟨39854096, i, 1, 0⟩
/-- OVR.PCFG.VALID, bits 17:17, RW, R335. -/
def OVR_PCFG_VALID (i : Nat) : Fld := ⟨39854097, i, 1, 0⟩
/-- OVR.PCFG.DACMASK, bits 31:24, RW, R335. -/
def OVR_PCFG_DACMASK (i : Nat) : Fld := ⟨39854104, i, 8, 0⟩
/-- OVR.PLEVEL.LEVEL, bits 6:0, RW, R335. -/
def OVR_PLEVEL_LEVEL (i : Nat) : Fld := ⟨39854208, i, 7, 0⟩
/-- OVR.ZMASKL.ZONES, bits 31:0, RW, R335. -/
def OVR_ZMASKL_ZONES (i : Nat) : Fld := ⟨39854336, i, 32, 0⟩
/-- OVR.ZMASKH.ZONES, bits 31:0, RW, R335. -/
def OVR_ZMASKH_ZONES (i : Nat) : Fld := ⟨39854464, i, 32, 0⟩
/-- OVR.PSTAT.PHASE, bits 1:0, RO, R335. -/
def OVR_PSTAT_PHASE (i : Nat) : Fld := ⟨39854592, i, 2, 0⟩
/-- OVR.PSTAT.LATCHED, bits 2:2, RO, R335. -/
def OVR_PSTAT_LATCHED (i : Nat) : Fld := ⟨39854594, i, 1, 0⟩
/-- OVR.PSTAT.DARK, bits 31:16, RO, R335. -/
def OVR_PSTAT_DARK (i : Nat) : Fld := ⟨39854608, i, 16, 0⟩
/-- OVR.ZONE.CH, bits 31:0, RW, R335. -/
def OVR_ZONE_CH (i : Nat) : Fld := ⟨39878656, i, 32, 0⟩
/-- PAIR.CTRL.HBEN, bits 0:0, RW, R355. -/
def PAIR_CTRL_HBEN : Fld := ⟨41943040, 0, 1, 0⟩
/-- PAIR.CTRL.SWEEP, bits 7:4, RW, R355. -/
def PAIR_CTRL_SWEEP : Fld := ⟨41943044, 0, 4, 8⟩
/-- PAIR.CTRL.MIRTO, bits 15:8, RW, R355. -/
def PAIR_CTRL_MIRTO : Fld := ⟨41943048, 0, 8, 20⟩
/-- PAIR.CTRL.TXMUTE, bits 16:16, RW, R355. -/
def PAIR_CTRL_TXMUTE : Fld := ⟨41943056, 0, 1, 1⟩
/-- PAIR.CMD.OP, bits 2:0, RWW, R355. -/
def PAIR_CMD_OP : Fld := ⟨41943168, 0, 3, 0⟩
/-- PAIR.CMD.BUSY, bits 31:31, RO, R355. -/
def PAIR_CMD_BUSY : Fld := ⟨41943199, 0, 1, 0⟩
/-- PAIR.STAT.ROLE, bits 2:0, RO, R355. -/
def PAIR_STAT_ROLE : Fld := ⟨41943296, 0, 3, 0⟩
/-- PAIR.STAT.HSTATE, bits 5:3, RO, R355. -/
def PAIR_STAT_HSTATE : Fld := ⟨41943299, 0, 3, 0⟩
/-- PAIR.STAT.LINK, bits 6:6, RO, R355. -/
def PAIR_STAT_LINK : Fld := ⟨41943302, 0, 1, 0⟩
/-- PAIR.STAT.PEERHB, bits 7:7, RO, R355. -/
def PAIR_STAT_PEERHB : Fld := ⟨41943303, 0, 1, 0⟩
/-- PAIR.STAT.TAKEEV, bits 8:8, W1C, R355. -/
def PAIR_STAT_TAKEEV : Fld := ⟨41943304, 0, 1, 0⟩
/-- PAIR.STAT.FENCEEV, bits 9:9, W1C, R355. -/
def PAIR_STAT_FENCEEV : Fld := ⟨41943305, 0, 1, 0⟩
/-- PAIR.STAT.MISEV, bits 10:10, W1C, R355. -/
def PAIR_STAT_MISEV : Fld := ⟨41943306, 0, 1, 0⟩
/-- PAIR.STAT.LINKEV, bits 11:11, W1C, R355. -/
def PAIR_STAT_LINKEV : Fld := ⟨41943307, 0, 1, 0⟩
/-- PAIR.STAT.JOINERR, bits 15:12, RO, R355. -/
def PAIR_STAT_JOINERR : Fld := ⟨41943308, 0, 4, 0⟩
/-- PAIR.LEASH.STATE, bits 1:0, RO, R355. -/
def PAIR_LEASH_STATE : Fld := ⟨41943424, 0, 2, 0⟩
/-- PAIR.LEASH.LEFT, bits 3:2, RO, R355. -/
def PAIR_LEASH_LEFT : Fld := ⟨41943426, 0, 2, 0⟩
/-- PAIR.LEASH.LASTN, bits 31:16, RO, R355. -/
def PAIR_LEASH_LASTN : Fld := ⟨41943440, 0, 16, 0⟩
/-- PAIR.LINKSTAT.INSVC, bits 4:0, RO, R355. -/
def PAIR_LINKSTAT_INSVC : Fld := ⟨41943552, 0, 5, 0⟩
/-- PAIR.LINKSTAT.SPAREUSED, bits 5:5, RO, R355. -/
def PAIR_LINKSTAT_SPAREUSED : Fld := ⟨41943557, 0, 1, 0⟩
/-- PAIR.LINKSTAT.DELAY, bits 23:8, RO, R355. -/
def PAIR_LINKSTAT_DELAY : Fld := ⟨41943560, 0, 16, 0⟩
/-- PAIR.LANE.STATE, bits 1:0, RO, R355. -/
def PAIR_LANE_STATE (i : Nat) : Fld := ⟨41944064, i, 2, 0⟩
/-- PAIR.LANE.BLKERR, bits 31:16, RO, R355. -/
def PAIR_LANE_BLKERR (i : Nat) : Fld := ⟨41944080, i, 16, 0⟩
/-- PAIR.LANECMD.LANE, bits 2:0, RWW, R355. -/
def PAIR_LANECMD_LANE : Fld := ⟨41944704, 0, 3, 0⟩
/-- PAIR.LANECMD.GO, bits 31:31, RWW, R355. -/
def PAIR_LANECMD_GO : Fld := ⟨41944735, 0, 1, 0⟩
/-- PAIR.FLITERR.COUNT, bits 31:0, RO, R355. -/
def PAIR_FLITERR_COUNT : Fld := ⟨41944832, 0, 32, 0⟩
/-- PAIR.DIGSTAT.MISMATCH, bits 15:0, RO, R355. -/
def PAIR_DIGSTAT_MISMATCH : Fld := ⟨41945088, 0, 16, 0⟩
/-- PAIR.DIGSTAT.RESYNC, bits 31:16, RO, R355. -/
def PAIR_DIGSTAT_RESYNC : Fld := ⟨41945104, 0, 16, 0⟩
/-- PAIR.DIGCNT.COUNT, bits 31:0, RO, R355. -/
def PAIR_DIGCNT_COUNT : Fld := ⟨41945216, 0, 32, 0⟩
/-- PAIR.COPYCNT.COUNT, bits 31:0, RO, R355. -/
def PAIR_COPYCNT_COUNT : Fld := ⟨41945344, 0, 32, 0⟩
/-- PAIR.COPYPEND.PAGES, bits 15:0, RO, R355. -/
def PAIR_COPYPEND_PAGES : Fld := ⟨41945472, 0, 16, 0⟩
/-- PAIR.DIGSEL.CLUSTER, bits 3:0, RW, R355. -/
def PAIR_DIGSEL_CLUSTER : Fld := ⟨41945600, 0, 4, 0⟩
/-- PAIR.DIGOWNL.CRC, bits 31:0, RO, R355. -/
def PAIR_DIGOWNL_CRC (i : Nat) : Fld := ⟨41945728, i, 32, 0⟩
/-- PAIR.DIGOWNH.CRC, bits 31:0, RO, R355. -/
def PAIR_DIGOWNH_CRC (i : Nat) : Fld := ⟨41945856, i, 32, 0⟩
/-- PAIR.DIGPEERL.CRC, bits 31:0, RO, R355. -/
def PAIR_DIGPEERL_CRC (i : Nat) : Fld := ⟨41945984, i, 32, 0⟩
/-- PAIR.DIGPEERH.CRC, bits 31:0, RO, R355. -/
def PAIR_DIGPEERH_CRC (i : Nat) : Fld := ⟨41946112, i, 32, 0⟩
/-- PAIR.MIRCFG.CLASSES, bits 3:0, RW, R355. -/
def PAIR_MIRCFG_CLASSES : Fld := ⟨41946368, 0, 4, 15⟩
/-- PAIR.MIRSTAT.LATE, bits 15:0, RO, R355. -/
def PAIR_MIRSTAT_LATE : Fld := ⟨41946496, 0, 16, 0⟩
/-- PAIR.CNT.TAKEOVERS, bits 15:0, RO, R355. -/
def PAIR_CNT_TAKEOVERS : Fld := ⟨41946624, 0, 16, 0⟩
/-- PAIR.CNT.FENCES, bits 31:16, RO, R355. -/
def PAIR_CNT_FENCES : Fld := ⟨41946640, 0, 16, 0⟩
/-- PAIR.CTLDISC.COUNT, bits 31:0, RO, R355. -/
def PAIR_CTLDISC_COUNT : Fld := ⟨41946752, 0, 32, 0⟩

def row_AMP_CFG : RegRow := ⟨0xa0f0000, 1, 4, 1, 4, .direct, fun _ =>
  [(0, AMP_CFG_MINP, .rw), (16, AMP_CFG_MONTOL, .rw)]⟩
def row_AMP_SPARE : RegRow := ⟨0xa0f0010, 8, 4, 1, 4, .direct, fun i =>
  [(0, AMP_SPARE_CH i, .ro), (4, AMP_SPARE_USED i, .ro), (5, AMP_SPARE_FAILED i, .ro)]⟩
def row_AMP_MODCMD : RegRow := ⟨0xa0f0040, 1, 4, 1, 4, .direct, fun _ =>
  [(0, AMP_MODCMD_CH, .rww), (31, AMP_MODCMD_GO, .rww)]⟩
def row_AMP_CMD : RegRow := ⟨0xa0f0400, 128, 128, 1, 4, .direct, fun i =>
  [(0, AMP_CMD_REQ i, .rw), (8, AMP_CMD_ALT i, .rw), (15, AMP_CMD_ALTEN i, .rw), (16, AMP_CMD_ABAUTO i, .rw), (17, AMP_CMD_ABRET i, .wo)]⟩
def row_AMP_STAT : RegRow := ⟨0xa0f0404, 128, 128, 1, 4, .direct, fun i =>
  [(0, AMP_STAT_STATE i, .ro), (4, AMP_STAT_PROBES i, .ro), (7, AMP_STAT_ALARM i, .ro), (8, AMP_STAT_AB i, .ro), (9, AMP_STAT_TRIPEV i, .w1c), (10, AMP_STAT_LATCHEV i, .w1c), (11, AMP_STAT_SPARE i, .ro), (12, AMP_STAT_MODFAIL i, .w1c), (13, AMP_STAT_REFUSED i, .w1c), (14, AMP_STAT_NOPARAM i, .w1c), (15, AMP_STAT_WAKE i, .ro), (16, AMP_STAT_TRIPS i, .ro)]⟩
def row_AMP_PHASE : RegRow := ⟨0xa0f0408, 128, 128, 1, 4, .direct, fun i =>
  [(0, AMP_PHASE_OFFS i, .rw)]⟩
def row_AMP_CLIP : RegRow := ⟨0xa0f040c, 128, 128, 1, 4, .direct, fun i =>
  [(0, AMP_CLIP_COUNT i, .ro)]⟩
def row_AMP_DIAG : RegRow := ⟨0xa0f0410, 128, 128, 1, 4, .direct, fun i =>
  [(0, AMP_DIAG_DIAGM i, .rw), (16, AMP_DIAG_ZSHORT i, .rw), (24, AMP_DIAG_ZOPEN i, .rw)]⟩
def row_AMP_DIAGRES : RegRow := ⟨0xa0f0414, 128, 128, 1, 4, .direct, fun i =>
  [(0, AMP_DIAGRES_RESULT i, .ro), (16, AMP_DIAGRES_Z i, .ro)]⟩
def row_AMP_SCALE : RegRow := ⟨0xa0f0418, 128, 128, 1, 4, .direct, fun i =>
  [(0, AMP_SCALE_VFS i, .rw), (16, AMP_SCALE_IFS i, .rw)]⟩
def row_GUARD_PCTL : RegRow := ⟨0xa100400, 128, 128, 1, 4, .direct, fun i =>
  [(0, GUARD_PCTL_PVALID i, .rw), (1, GUARD_PCTL_SRC i, .ro)]⟩
def row_GUARD_RE : RegRow := ⟨0xa100404, 128, 128, 1, 4, .direct, fun i =>
  [(0, GUARD_RE_RE i, .rw), (16, GUARD_RE_LE i, .rw)]⟩
def row_GUARD_BL : RegRow := ⟨0xa100408, 128, 128, 1, 4, .direct, fun i =>
  [(0, GUARD_BL_BL i, .rw), (16, GUARD_BL_MMS i, .rw)]⟩
def row_GUARD_KMS : RegRow := ⟨0xa10040c, 128, 128, 1, 4, .direct, fun i =>
  [(0, GUARD_KMS_KMS i, .rw), (16, GUARD_KMS_RMS i, .rw)]⟩
def row_GUARD_XMAX : RegRow := ⟨0xa100410, 128, 128, 1, 4, .direct, fun i =>
  [(0, GUARD_XMAX_XMAX i, .rw), (16, GUARD_XMAX_XLIM i, .rw), (24, GUARD_XMAX_RREL i, .rw)]⟩
def row_GUARD_RTH : RegRow := ⟨0xa100414, 128, 128, 1, 4, .direct, fun i =>
  [(0, GUARD_RTH_RTH1 i, .rw), (16, GUARD_RTH_RTH2 i, .rw)]⟩
def row_GUARD_TAU : RegRow := ⟨0xa100418, 128, 128, 1, 4, .direct, fun i =>
  [(0, GUARD_TAU_TAU1 i, .rw), (16, GUARD_TAU_TAU2 i, .rw)]⟩
def row_GUARD_TEMP : RegRow := ⟨0xa10041c, 128, 128, 1, 4, .direct, fun i =>
  [(0, GUARD_TEMP_TMAX i, .rw), (10, GUARD_TEMP_TMARG i, .rw), (16, GUARD_TEMP_GTMIN i, .rw), (24, GUARD_TEMP_TAMB i, .rw)]⟩
def row_GUARD_RATING : RegRow := ⟨0xa100420, 128, 128, 1, 4, .direct, fun i =>
  [(0, GUARD_RATING_VRATED i, .rw), (16, GUARD_RATING_ITRIP i, .rw)]⟩
def row_GUARD_GSTAT : RegRow := ⟨0xa100424, 128, 128, 1, 4, .direct, fun i =>
  [(0, GUARD_GSTAT_GX i, .ro), (10, GUARD_GSTAT_GT i, .ro), (20, GUARD_GSTAT_TC i, .ro)]⟩
def row_GUARD_XPEAK : RegRow := ⟨0xa100428, 128, 128, 1, 4, .direct, fun i =>
  [(0, GUARD_XPEAK_XP i, .ro)]⟩
def row_LINE_PCFG : RegRow := ⟨0xa110400, 128, 128, 1, 4, .direct, fun i =>
  [(0, LINE_PCFG_EN i, .rw), (1, LINE_PCFG_FREQ i, .rw), (16, LINE_PCFG_LVL i, .rw), (24, LINE_PCFG_TOL i, .rw)]⟩
def row_LINE_ZBASE : RegRow := ⟨0xa110404, 128, 128, 1, 4, .direct, fun i =>
  [(0, LINE_ZBASE_ZBASE i, .rw), (31, LINE_ZBASE_CAP i, .wo)]⟩
def row_LINE_ZMEAS : RegRow := ⟨0xa110408, 128, 128, 1, 4, .direct, fun i =>
  [(0, LINE_ZMEAS_Z i, .ro)]⟩
def row_LINE_LSTAT : RegRow := ⟨0xa11040c, 128, 128, 1, 4, .direct, fun i =>
  [(0, LINE_LSTAT_STATE i, .ro), (3, LINE_LSTAT_CAPBUSY i, .ro), (4, LINE_LSTAT_FAULTEV i, .w1c), (16, LINE_LSTAT_FAULTS i, .ro)]⟩
def row_BELL_PWR : RegRow := ⟨0xa120000, 1, 4, 1, 4, .direct, fun _ =>
  [(0, BELL_PWR_REQ, .rw), (1, BELL_PWR_STATE, .ro)]⟩
def row_BELL_STRB : RegRow := ⟨0xa120010, 2, 4, 1, 4, .direct, fun i =>
  [(0, BELL_STRB_SRC i, .rw), (16, BELL_STRB_PERIOD i, .rw)]⟩
def row_BELL_SPARE : RegRow := ⟨0xa120020, 1, 4, 1, 4, .direct, fun _ =>
  [(0, BELL_SPARE_CH, .ro), (3, BELL_SPARE_USED, .ro), (4, BELL_SPARE_FAILED, .ro)]⟩
def row_BELL_SPCMD : RegRow := ⟨0xa120024, 1, 4, 1, 4, .direct, fun _ =>
  [(0, BELL_SPCMD_CH, .rww), (31, BELL_SPCMD_GO, .rww)]⟩
def row_BELL_CFG : RegRow := ⟨0xa120100, 8, 64, 1, 4, .direct, fun i =>
  [(0, BELL_CFG_EN i, .rw), (1, BELL_CFG_RANGE i, .rw), (2, BELL_CFG_SRC i, .rw)]⟩
def row_BELL_PLAY : RegRow := ⟨0xa120104, 8, 64, 1, 4, .direct, fun i =>
  [(0, BELL_PLAY_WAVE i, .rw), (16, BELL_PLAY_GO i, .wo), (17, BELL_PLAY_STOP i, .wo)]⟩
def row_BELL_GAIN : RegRow := ⟨0xa120108, 8, 64, 1, 4, .direct, fun i =>
  [(0, BELL_GAIN_GAIN i, .rw)]⟩
def row_BELL_STAT : RegRow := ⟨0xa12010c, 8, 64, 1, 4, .direct, fun i =>
  [(0, BELL_STAT_STATE i, .ro), (3, BELL_STAT_RANGE i, .ro), (4, BELL_STAT_PLAYING i, .ro), (5, BELL_STAT_OVR i, .ro), (6, BELL_STAT_SPARE i, .ro), (7, BELL_STAT_FAULT i, .w1c), (8, BELL_STAT_WAVEERR i, .w1c)]⟩
def row_OVR_CTRL : RegRow := ⟨0xa130000, 1, 4, 1, 4, .direct, fun _ =>
  [(0, OVR_CTRL_ARM, .rww), (8, OVR_CTRL_ENGRAMP, .rw), (16, OVR_CTRL_RELRAMP, .rw)]⟩
def row_OVR_STAT : RegRow := ⟨0xa130004, 1, 4, 1, 4, .direct, fun _ =>
  [(0, OVR_STAT_ARMED, .ro), (1, OVR_STAT_SRC, .ro), (3, OVR_STAT_IMGDONE, .ro), (4, OVR_STAT_IMGERR, .w1c), (5, OVR_STAT_DARK, .w1c)]⟩
def row_OVR_ASTAT : RegRow := ⟨0xa130008, 1, 4, 1, 4, .direct, fun _ =>
  [(0, OVR_ASTAT_ACTIVE, .ro), (16, OVR_ASTAT_INPUT, .ro)]⟩
def row_OVR_SWACT : RegRow := ⟨0xa13000c, 1, 4, 1, 4, .direct, fun _ =>
  [(0, OVR_SWACT_ACT, .rw)]⟩
def row_OVR_RELEASE : RegRow := ⟨0xa130010, 1, 4, 1, 4, .direct, fun _ =>
  [(0, OVR_RELEASE_REL, .wo)]⟩
def row_OVR_WAKE : RegRow := ⟨0xa130020, 4, 4, 1, 4, .direct, fun i =>
  [(0, OVR_WAKE_SET i, .rw)]⟩
def row_OVR_ZACT : RegRow := ⟨0xa130030, 2, 4, 1, 4, .direct, fun i =>
  [(0, OVR_ZACT_ZONES i, .ro)]⟩
def row_OVR_INCFG : RegRow := ⟨0xa130040, 16, 4, 1, 4, .direct, fun i =>
  [(0, OVR_INCFG_EN i, .rw), (1, OVR_INCFG_POL i, .rw), (2, OVR_INCFG_LATCH i, .rw), (8, OVR_INCFG_DEB i, .rw)]⟩
def row_OVR_PCFG : RegRow := ⟨0xa130100, 16, 32, 1, 4, .direct, fun i =>
  [(0, OVR_PCFG_PRE i, .rw), (8, OVR_PCFG_MAIN i, .rw), (16, OVR_PCFG_PREEN i, .rw), (17, OVR_PCFG_VALID i, .rw), (24, OVR_PCFG_DACMASK i, .rw)]⟩
def row_OVR_PLEVEL : RegRow := ⟨0xa130104, 16, 32, 1, 4, .direct, fun i =>
  [(0, OVR_PLEVEL_LEVEL i, .rw)]⟩
def row_OVR_ZMASKL : RegRow := ⟨0xa130108, 16, 32, 1, 4, .direct, fun i =>
  [(0, OVR_ZMASKL_ZONES i, .rw)]⟩
def row_OVR_ZMASKH : RegRow := ⟨0xa13010c, 16, 32, 1, 4, .direct, fun i =>
  [(0, OVR_ZMASKH_ZONES i, .rw)]⟩
def row_OVR_PSTAT : RegRow := ⟨0xa130110, 16, 32, 1, 4, .direct, fun i =>
  [(0, OVR_PSTAT_PHASE i, .ro), (2, OVR_PSTAT_LATCHED i, .ro), (16, OVR_PSTAT_DARK i, .ro)]⟩
def row_OVR_ZONE : RegRow := ⟨0xa130400, 256, 4, 1, 4, .direct, fun i =>
  [(0, OVR_ZONE_CH i, .rw)]⟩
def row_PAIR_CTRL : RegRow := ⟨0xa140000, 1, 4, 1, 4, .direct, fun _ =>
  [(0, PAIR_CTRL_HBEN, .rw), (4, PAIR_CTRL_SWEEP, .rw), (8, PAIR_CTRL_MIRTO, .rw), (16, PAIR_CTRL_TXMUTE, .rw)]⟩
def row_PAIR_CMD : RegRow := ⟨0xa140004, 1, 4, 1, 4, .direct, fun _ =>
  [(0, PAIR_CMD_OP, .rww), (31, PAIR_CMD_BUSY, .ro)]⟩
def row_PAIR_STAT : RegRow := ⟨0xa140008, 1, 4, 1, 4, .direct, fun _ =>
  [(0, PAIR_STAT_ROLE, .ro), (3, PAIR_STAT_HSTATE, .ro), (6, PAIR_STAT_LINK, .ro), (7, PAIR_STAT_PEERHB, .ro), (8, PAIR_STAT_TAKEEV, .w1c), (9, PAIR_STAT_FENCEEV, .w1c), (10, PAIR_STAT_MISEV, .w1c), (11, PAIR_STAT_LINKEV, .w1c), (12, PAIR_STAT_JOINERR, .ro)]⟩
def row_PAIR_LEASH : RegRow := ⟨0xa14000c, 1, 4, 1, 4, .direct, fun _ =>
  [(0, PAIR_LEASH_STATE, .ro), (2, PAIR_LEASH_LEFT, .ro), (16, PAIR_LEASH_LASTN, .ro)]⟩
def row_PAIR_LINKSTAT : RegRow := ⟨0xa140010, 1, 4, 1, 4, .direct, fun _ =>
  [(0, PAIR_LINKSTAT_INSVC, .ro), (5, PAIR_LINKSTAT_SPAREUSED, .ro), (8, PAIR_LINKSTAT_DELAY, .ro)]⟩
def row_PAIR_LANE : RegRow := ⟨0xa140020, 5, 4, 1, 4, .direct, fun i =>
  [(0, PAIR_LANE_STATE i, .ro), (16, PAIR_LANE_BLKERR i, .ro)]⟩
def row_PAIR_LANECMD : RegRow := ⟨0xa140034, 1, 4, 1, 4, .direct, fun _ =>
  [(0, PAIR_LANECMD_LANE, .rww), (31, PAIR_LANECMD_GO, .rww)]⟩
def row_PAIR_FLITERR : RegRow := ⟨0xa140038, 1, 4, 1, 4, .direct, fun _ =>
  [(0, PAIR_FLITERR_COUNT, .ro)]⟩
def row_PAIR_DIGSTAT : RegRow := ⟨0xa140040, 1, 4, 1, 4, .direct, fun _ =>
  [(0, PAIR_DIGSTAT_MISMATCH, .ro), (16, PAIR_DIGSTAT_RESYNC, .ro)]⟩
def row_PAIR_DIGCNT : RegRow := ⟨0xa140044, 1, 4, 1, 4, .direct, fun _ =>
  [(0, PAIR_DIGCNT_COUNT, .ro)]⟩
def row_PAIR_COPYCNT : RegRow := ⟨0xa140048, 1, 4, 1, 4, .direct, fun _ =>
  [(0, PAIR_COPYCNT_COUNT, .ro)]⟩
def row_PAIR_COPYPEND : RegRow := ⟨0xa14004c, 1, 4, 1, 4, .direct, fun _ =>
  [(0, PAIR_COPYPEND_PAGES, .ro)]⟩
def row_PAIR_DIGSEL : RegRow := ⟨0xa140050, 1, 4, 1, 4, .direct, fun _ =>
  [(0, PAIR_DIGSEL_CLUSTER, .rw)]⟩
def row_PAIR_DIGOWNL : RegRow := ⟨0xa140054, 1, 4, 1, 4, .dig, fun i =>
  [(0, PAIR_DIGOWNL_CRC i, .ro)]⟩
def row_PAIR_DIGOWNH : RegRow := ⟨0xa140058, 1, 4, 1, 4, .dig, fun i =>
  [(0, PAIR_DIGOWNH_CRC i, .ro)]⟩
def row_PAIR_DIGPEERL : RegRow := ⟨0xa14005c, 1, 4, 1, 4, .dig, fun i =>
  [(0, PAIR_DIGPEERL_CRC i, .ro)]⟩
def row_PAIR_DIGPEERH : RegRow := ⟨0xa140060, 1, 4, 1, 4, .dig, fun i =>
  [(0, PAIR_DIGPEERH_CRC i, .ro)]⟩
def row_PAIR_MIRCFG : RegRow := ⟨0xa140068, 1, 4, 1, 4, .direct, fun _ =>
  [(0, PAIR_MIRCFG_CLASSES, .rw)]⟩
def row_PAIR_MIRSTAT : RegRow := ⟨0xa14006c, 1, 4, 1, 4, .direct, fun _ =>
  [(0, PAIR_MIRSTAT_LATE, .ro)]⟩
def row_PAIR_CNT : RegRow := ⟨0xa140070, 1, 4, 1, 4, .direct, fun _ =>
  [(0, PAIR_CNT_TAKEOVERS, .ro), (16, PAIR_CNT_FENCES, .ro)]⟩
def row_PAIR_CTLDISC : RegRow := ⟨0xa140074, 1, 4, 1, 4, .direct, fun _ =>
  [(0, PAIR_CTLDISC_COUNT, .ro)]⟩
def regsC0 : List RegRow :=
  [row_AMP_CFG, row_AMP_SPARE, row_AMP_MODCMD, row_AMP_CMD, row_AMP_STAT, row_AMP_PHASE, row_AMP_CLIP, row_AMP_DIAG, row_AMP_DIAGRES, row_AMP_SCALE, row_GUARD_PCTL, row_GUARD_RE, row_GUARD_BL, row_GUARD_KMS, row_GUARD_XMAX, row_GUARD_RTH, row_GUARD_TAU, row_GUARD_TEMP, row_GUARD_RATING, row_GUARD_GSTAT]
def regsC1 : List RegRow :=
  [row_GUARD_XPEAK, row_LINE_PCFG, row_LINE_ZBASE, row_LINE_ZMEAS, row_LINE_LSTAT, row_BELL_PWR, row_BELL_STRB, row_BELL_SPARE, row_BELL_SPCMD, row_BELL_CFG, row_BELL_PLAY, row_BELL_GAIN, row_BELL_STAT, row_OVR_CTRL, row_OVR_STAT, row_OVR_ASTAT, row_OVR_SWACT, row_OVR_RELEASE, row_OVR_WAKE, row_OVR_ZACT]
def regsC2 : List RegRow :=
  [row_OVR_INCFG, row_OVR_PCFG, row_OVR_PLEVEL, row_OVR_ZMASKL, row_OVR_ZMASKH, row_OVR_PSTAT, row_OVR_ZONE, row_PAIR_CTRL, row_PAIR_CMD, row_PAIR_STAT, row_PAIR_LEASH, row_PAIR_LINKSTAT, row_PAIR_LANE, row_PAIR_LANECMD, row_PAIR_FLITERR, row_PAIR_DIGSTAT, row_PAIR_DIGCNT, row_PAIR_COPYCNT, row_PAIR_COPYPEND, row_PAIR_DIGSEL]
def regsC3 : List RegRow :=
  [row_PAIR_DIGOWNL, row_PAIR_DIGOWNH, row_PAIR_DIGPEERL, row_PAIR_DIGPEERH, row_PAIR_MIRCFG, row_PAIR_MIRSTAT, row_PAIR_CNT, row_PAIR_CTLDISC]
/-- The registers of the blocks AMP, GUARD, LINE, BELL, OVR and PAIR. -/
def regsCRows : List RegRow :=
  regsC0 ++ regsC1 ++ regsC2 ++ regsC3

end Sys2Proof.Machine
end

