-- ==== Sys2Proof/Machine/RegsD.lean ====
section
/-! DEFINITION. The register fields of blocks INTG, WARD, HOST, PWR and MODID (R375, R397, R398, R420, R421): their home in `State.flds`, their width and their reset value. -/
namespace Sys2Proof.Machine

/-- INTG.SUMMARY.CLASS, bits 4:0, W1C, R375. -/
def INTG_SUMMARY_CLASS : Fld := ⟨44040192, 0, 5, 0⟩
/-- INTG.SEQ.NEXT, bits 31:0, RO, R375. -/
def INTG_SEQ_NEXT : Fld := ⟨44040320, 0, 32, 0⟩
/-- INTG.RCNT.COUNT, bits 31:0, RO, R375. -/
def INTG_RCNT_COUNT (i : Nat) : Fld := ⟨44040704, i, 32, 0⟩
/-- INTG.OVF.COUNT, bits 31:0, RO, R375. -/
def INTG_OVF_COUNT (i : Nat) : Fld := ⟨44041728, i, 32, 0⟩
/-- INTG.RATE.COUNT, bits 31:0, RO, R375. -/
def INTG_RATE_COUNT : Fld := ⟨44042752, 0, 32, 0⟩
/-- INTG.NEST.NESTED, bits 15:0, RO, R375. -/
def INTG_NEST_NESTED : Fld := ⟨44042880, 0, 16, 0⟩
/-- INTG.NEST.ESC, bits 31:16, RO, R375. -/
def INTG_NEST_ESC : Fld := ⟨44042896, 0, 16, 0⟩
/-- INTG.BCERR.COUNT, bits 31:0, RO, R375. -/
def INTG_BCERR_COUNT : Fld := ⟨44043008, 0, 32, 0⟩
/-- INTG.XBERR.RETRIED, bits 15:0, RO, R375. -/
def INTG_XBERR_RETRIED : Fld := ⟨44043136, 0, 16, 0⟩
/-- INTG.XBERR.FAILED, bits 31:16, RO, R375. -/
def INTG_XBERR_FAILED : Fld := ⟨44043152, 0, 16, 0⟩
/-- INTG.FATREC.WORD, bits 31:0, RO, R375. -/
def INTG_FATREC_WORD (i : Nat) : Fld := ⟨44044288, i, 32, 0⟩
/-- INTG.FATCLR.CLR, bits 0:0, WO, R375. -/
def INTG_FATCLR_CLR : Fld := ⟨44045312, 0, 1, 0⟩
/-- INTG.INJCTRL.GO, bits 0:0, RWW, R375. -/
def INTG_INJCTRL_GO : Fld := ⟨44048384, 0, 1, 0⟩
/-- INTG.INJCTRL.CHECK, bits 4:1, RWW, R375. -/
def INTG_INJCTRL_CHECK : Fld := ⟨44048385, 0, 4, 0⟩
/-- INTG.INJCTRL.COUNT, bits 15:8, RWW, R375. -/
def INTG_INJCTRL_COUNT : Fld := ⟨44048392, 0, 8, 1⟩
/-- INTG.INJCTRL.BUSY, bits 31:31, RO, R375. -/
def INTG_INJCTRL_BUSY : Fld := ⟨44048415, 0, 1, 0⟩
/-- INTG.INJTGT.UTYPE, bits 7:0, RWW, R375. -/
def INTG_INJTGT_UTYPE : Fld := ⟨44048512, 0, 8, 0⟩
/-- INTG.INJTGT.UINST, bits 23:8, RWW, R375. -/
def INTG_INJTGT_UINST : Fld := ⟨44048520, 0, 16, 0⟩
/-- INTG.INJARG.ARG, bits 31:0, RWW, R375. -/
def INTG_INJARG_ARG : Fld := ⟨44048640, 0, 32, 0⟩
/-- INTG.INJADDR.OFFS, bits 31:0, RWW, R375. -/
def INTG_INJADDR_OFFS : Fld := ⟨44048768, 0, 32, 0⟩
/-- INTG.INJSTAT.DONE, bits 7:0, RO, R375. -/
def INTG_INJSTAT_DONE : Fld := ⟨44048896, 0, 8, 0⟩
/-- INTG.INJSTAT.RESULT, bits 9:8, RO, R375. -/
def INTG_INJSTAT_RESULT : Fld := ⟨44048904, 0, 2, 0⟩
/-- WARD.STAT.FROZEN, bits 0:0, RO, R398. -/
def WARD_STAT_FROZEN : Fld := ⟨46137344, 0, 1, 0⟩
/-- WARD.STAT.LSREF, bits 1:1, W1C, R398. -/
def WARD_STAT_LSREF : Fld := ⟨46137345, 0, 1, 0⟩
/-- WARD.APPLY.GO, bits 0:0, RWW, R398. -/
def WARD_APPLY_GO : Fld := ⟨46137472, 0, 1, 0⟩
/-- WARD.APPLY.RESULT, bits 5:4, RO, R398. -/
def WARD_APPLY_RESULT : Fld := ⟨46137476, 0, 2, 0⟩
/-- WARD.APPLY.REASON, bits 10:8, RO, R398. -/
def WARD_APPLY_REASON : Fld := ⟨46137480, 0, 3, 0⟩
/-- WARD.CFGSEL.INDEX, bits 11:0, RW, R398. -/
def WARD_CFGSEL_INDEX : Fld := ⟨46137856, 0, 12, 0⟩
/-- WARD.CFGSTG.WORD, bits 31:0, RWW, R398. -/
def WARD_CFGSTG_WORD (i : Nat) : Fld := ⟨46137984, i, 32, 0⟩
/-- WARD.CFGACT.WORD, bits 31:0, RO, R398. -/
def WARD_CFGACT_WORD (i : Nat) : Fld := ⟨46138112, i, 32, 0⟩
/-- WARD.SIG.CRC, bits 31:0, RO, R398. -/
def WARD_SIG_CRC : Fld := ⟨46138240, 0, 32, 0⟩
/-- WARD.JPI.INDEX, bits 31:0, RO, R398. -/
def WARD_JPI_INDEX : Fld := ⟨46138368, 0, 32, 0⟩
/-- WARD.JCI.INDEX, bits 31:0, RWW, R398. -/
def WARD_JCI_INDEX : Fld := ⟨46138496, 0, 32, 0⟩
/-- WARD.JSTAT.LOST, bits 15:0, RO, R398. -/
def WARD_JSTAT_LOST : Fld := ⟨46138624, 0, 16, 0⟩
/-- WARD.JDATA.WORD, bits 31:0, RO, R398. -/
def WARD_JDATA_WORD (i : Nat) : Fld := ⟨46139392, i, 32, 0⟩
/-- HOST.CTRL.QOS, bits 3:0, RW, R397. -/
def HOST_CTRL_QOS : Fld := ⟨48234496, 0, 4, 8⟩
/-- HOST.SPICFG.WAIT, bits 3:0, RW, R397. -/
def HOST_SPICFG_WAIT : Fld := ⟨48234624, 0, 4, 8⟩
/-- HOST.SPISTAT.ERR, bits 0:0, W1C, R397. -/
def HOST_SPISTAT_ERR : Fld := ⟨48234752, 0, 1, 0⟩
/-- HOST.SPISTAT.LATE, bits 1:1, W1C, R397. -/
def HOST_SPISTAT_LATE : Fld := ⟨48234753, 0, 1, 0⟩
/-- HOST.FNSTAT.EN, bits 7:0, RO, R397. -/
def HOST_FNSTAT_EN : Fld := ⟨48234880, 0, 8, 1⟩
/-- HOST.FNSTAT.WARDSEL, bits 8:8, RO, R397. -/
def HOST_FNSTAT_WARDSEL : Fld := ⟨48234888, 0, 1, 0⟩
/-- HOST.RBASEL.ADDR, bits 31:0, RW, R397. -/
def HOST_RBASEL_ADDR (i : Nat) : Fld := ⟨48365568, i, 32, 0⟩
/-- HOST.RBASEH.ADDR, bits 31:0, RW, R397. -/
def HOST_RBASEH_ADDR (i : Nat) : Fld := ⟨48365696, i, 32, 0⟩
/-- HOST.RBUFL.ADDR, bits 31:0, RW, R397. -/
def HOST_RBUFL_ADDR (i : Nat) : Fld := ⟨48365824, i, 32, 0⟩
/-- HOST.RBUFH.ADDR, bits 31:0, RW, R397. -/
def HOST_RBUFH_ADDR (i : Nat) : Fld := ⟨48365952, i, 32, 0⟩
/-- HOST.RCFG.EN, bits 0:0, RW, R397. -/
def HOST_RCFG_EN (i : Nat) : Fld := ⟨48366080, i, 1, 0⟩
/-- HOST.RCFG.TYPE, bits 3:1, RW, R397. -/
def HOST_RCFG_TYPE (i : Nat) : Fld := ⟨48366081, i, 3, 0⟩
/-- HOST.RCFG.LOC, bits 4:4, RW, R397. -/
def HOST_RCFG_LOC (i : Nat) : Fld := ⟨48366084, i, 1, 0⟩
/-- HOST.RCFG.FN, bits 7:5, RW, R397. -/
def HOST_RCFG_FN (i : Nat) : Fld := ⟨48366085, i, 3, 0⟩
/-- HOST.RCFG.LOG2SIZE, bits 12:8, RW, R397. -/
def HOST_RCFG_LOG2SIZE (i : Nat) : Fld := ⟨48366088, i, 5, 4⟩
/-- HOST.RCFG.IRQ, bits 13:13, RW, R397. -/
def HOST_RCFG_IRQ (i : Nat) : Fld := ⟨48366093, i, 1, 0⟩
/-- HOST.RCFG.VEC, bits 18:14, RW, R397. -/
def HOST_RCFG_VEC (i : Nat) : Fld := ⟨48366094, i, 5, 0⟩
/-- HOST.RCFG.PEER, bits 27:20, RW, R397. -/
def HOST_RCFG_PEER (i : Nat) : Fld := ⟨48366100, i, 8, 0⟩
/-- HOST.RCFG.PART, bits 31:28, RO, R397. -/
def HOST_RCFG_PART (i : Nat) : Fld := ⟨48366108, i, 4, 0⟩
/-- HOST.RPI.INDEX, bits 31:0, RW, R397. -/
def HOST_RPI_INDEX (i : Nat) : Fld := ⟨48366208, i, 32, 0⟩
/-- HOST.RCI.INDEX, bits 31:0, RW, R397. -/
def HOST_RCI_INDEX (i : Nat) : Fld := ⟨48366336, i, 32, 0⟩
/-- HOST.RSTAT.DROP, bits 15:0, RO, R397. -/
def HOST_RSTAT_DROP (i : Nat) : Fld := ⟨48366464, i, 16, 0⟩
/-- HOST.RSEQ.SEQ, bits 31:0, RW, R397. -/
def HOST_RSEQ_SEQ (i : Nat) : Fld := ⟨48366592, i, 32, 0⟩
/-- PWR.CREQ.REQc, R420; index 16 × instance + number. -/
def PWR_CREQ_REQ (i : Nat) : Fld := ⟨50331648, i, 2, 1⟩
/-- PWR.CSTAT.STATEc, R420; index 16 × instance + number. -/
def PWR_CSTAT_STATE (i : Nat) : Fld := ⟨50331776, i, 2, 1⟩
/-- PWR.TEMP.TJ, bits 9:0, RO, R420. -/
def PWR_TEMP_TJ : Fld := ⟨50332160, 0, 10, 0⟩
/-- PWR.TEMP.TJHIGH, bits 25:16, RO, R420. -/
def PWR_TEMP_TJHIGH : Fld := ⟨50332176, 0, 10, 0⟩
/-- PWR.TEMP.CLR, bits 31:31, WO, R420. -/
def PWR_TEMP_CLR : Fld := ⟨50332191, 0, 1, 0⟩
/-- PWR.THERM.WARN, bits 0:0, RO, R420. -/
def PWR_THERM_WARN : Fld := ⟨50332288, 0, 1, 0⟩
/-- PWR.THERM.WARNEV, bits 1:1, W1C, R420. -/
def PWR_THERM_WARNEV : Fld := ⟨50332289, 0, 1, 0⟩
/-- PWR.THERM.TRIP, bits 2:2, RO, R420. -/
def PWR_THERM_TRIP : Fld := ⟨50332290, 0, 1, 0⟩
/-- PWR.THERM.TRIPEV, bits 3:3, W1C, R420. -/
def PWR_THERM_TRIPEV : Fld := ⟨50332291, 0, 1, 0⟩
/-- PWR.IRAIL.I, bits 15:0, RO, R420. -/
def PWR_IRAIL_I (i : Nat) : Fld := ⟨50332672, i, 16, 0⟩
/-- PWR.IRAIL.MAX, bits 31:16, RO, R420. -/
def PWR_IRAIL_MAX (i : Nat) : Fld := ⟨50332688, i, 16, 0⟩
/-- PWR.ICLR.CLR, bits 0:0, WO, R420. -/
def PWR_ICLR_CLR : Fld := ⟨50333696, 0, 1, 0⟩
/-- MODID.CTRL.DEB, bits 15:8, RW, R421. -/
def MODID_CTRL_DEB : Fld := ⟨52428808, 0, 8, 100⟩
/-- MODID.RESCAN.SLOTS, bits 31:0, WO, R421. -/
def MODID_RESCAN_SLOTS : Fld := ⟨52428928, 0, 32, 0⟩
/-- MODID.DSEL.SLOT, bits 4:0, RW, R421. -/
def MODID_DSEL_SLOT : Fld := ⟨52429312, 0, 5, 0⟩
/-- MODID.DSEL.OFFS, bits 19:8, RW, R421. -/
def MODID_DSEL_OFFS : Fld := ⟨52429320, 0, 12, 0⟩
/-- MODID.DDATA.DATA, bits 31:0, RO, R421. -/
def MODID_DDATA_DATA : Fld := ⟨52429440, 0, 32, 0⟩
/-- MODID.SSTAT.PRES, bits 0:0, RO, R421. -/
def MODID_SSTAT_PRES (i : Nat) : Fld := ⟨52436992, i, 1, 0⟩
/-- MODID.SSTAT.STATE, bits 3:1, RO, R421. -/
def MODID_SSTAT_STATE (i : Nat) : Fld := ⟨52436993, i, 3, 0⟩
/-- MODID.SSTAT.CLASS, bits 11:4, RO, R421. -/
def MODID_SSTAT_CLASS (i : Nat) : Fld := ⟨52436996, i, 8, 0⟩
/-- MODID.SSTAT.CONFLICT, bits 12:12, RO, R421. -/
def MODID_SSTAT_CONFLICT (i : Nat) : Fld := ⟨52437004, i, 1, 0⟩
/-- MODID.SSTAT.CHGEV, bits 13:13, W1C, R421. -/
def MODID_SSTAT_CHGEV (i : Nat) : Fld := ⟨52437005, i, 1, 0⟩
/-- MODID.SSTAT.FIRSTCH, bits 22:16, RO, R421. -/
def MODID_SSTAT_FIRSTCH (i : Nat) : Fld := ⟨52437008, i, 7, 0⟩
/-- MODID.SSTAT.COUNT, bits 31:24, RO, R421. -/
def MODID_SSTAT_COUNT (i : Nat) : Fld := ⟨52437016, i, 8, 0⟩
/-- MODID.SLEN.L, bits 12:0, RO, R421. -/
def MODID_SLEN_L (i : Nat) : Fld := ⟨52437120, i, 13, 0⟩

def row_INTG_SUMMARY : RegRow := ⟨0xa150000, 1, 4, 1, 4, .direct, fun _ =>
  [(0, INTG_SUMMARY_CLASS, .w1c)]⟩
def row_INTG_SEQ : RegRow := ⟨0xa150004, 1, 4, 1, 4, .direct, fun _ =>
  [(0, INTG_SEQ_NEXT, .ro)]⟩
def row_INTG_RCNT : RegRow := ⟨0xa150010, 5, 4, 1, 4, .direct, fun i =>
  [(0, INTG_RCNT_COUNT i, .ro)]⟩
def row_INTG_OVF : RegRow := ⟨0xa150030, 5, 4, 1, 4, .direct, fun i =>
  [(0, INTG_OVF_COUNT i, .ro)]⟩
def row_INTG_RATE : RegRow := ⟨0xa150050, 1, 4, 1, 4, .direct, fun _ =>
  [(0, INTG_RATE_COUNT, .ro)]⟩
def row_INTG_NEST : RegRow := ⟨0xa150054, 1, 4, 1, 4, .direct, fun _ =>
  [(0, INTG_NEST_NESTED, .ro), (16, INTG_NEST_ESC, .ro)]⟩
def row_INTG_BCERR : RegRow := ⟨0xa150058, 1, 4, 1, 4, .direct, fun _ =>
  [(0, INTG_BCERR_COUNT, .ro)]⟩
def row_INTG_XBERR : RegRow := ⟨0xa15005c, 1, 4, 1, 4, .direct, fun _ =>
  [(0, INTG_XBERR_RETRIED, .ro), (16, INTG_XBERR_FAILED, .ro)]⟩
def row_INTG_FATREC : RegRow := ⟨0xa150080, 8, 4, 1, 4, .direct, fun i =>
  [(0, INTG_FATREC_WORD i, .ro)]⟩
def row_INTG_FATCLR : RegRow := ⟨0xa1500a0, 1, 4, 1, 4, .direct, fun _ =>
  [(0, INTG_FATCLR_CLR, .wo)]⟩
def row_INTG_INJCTRL : RegRow := ⟨0xa150100, 1, 4, 1, 4, .direct, fun _ =>
  [(0, INTG_INJCTRL_GO, .rww), (1, INTG_INJCTRL_CHECK, .rww), (8, INTG_INJCTRL_COUNT, .rww), (31, INTG_INJCTRL_BUSY, .ro)]⟩
def row_INTG_INJTGT : RegRow := ⟨0xa150104, 1, 4, 1, 4, .direct, fun _ =>
  [(0, INTG_INJTGT_UTYPE, .rww), (8, INTG_INJTGT_UINST, .rww)]⟩
def row_INTG_INJARG : RegRow := ⟨0xa150108, 1, 4, 1, 4, .direct, fun _ =>
  [(0, INTG_INJARG_ARG, .rww)]⟩
def row_INTG_INJADDR : RegRow := ⟨0xa15010c, 1, 4, 1, 4, .direct, fun _ =>
  [(0, INTG_INJADDR_OFFS, .rww)]⟩
def row_INTG_INJSTAT : RegRow := ⟨0xa150110, 1, 4, 1, 4, .direct, fun _ =>
  [(0, INTG_INJSTAT_DONE, .ro), (8, INTG_INJSTAT_RESULT, .ro)]⟩
def row_WARD_STAT : RegRow := ⟨0xa160000, 1, 4, 1, 4, .direct, fun _ =>
  [(0, WARD_STAT_FROZEN, .ro), (1, WARD_STAT_LSREF, .w1c)]⟩
def row_WARD_APPLY : RegRow := ⟨0xa160004, 1, 4, 1, 4, .direct, fun _ =>
  [(0, WARD_APPLY_GO, .rww), (4, WARD_APPLY_RESULT, .ro), (8, WARD_APPLY_REASON, .ro)]⟩
def row_WARD_CFGSEL : RegRow := ⟨0xa160010, 1, 4, 1, 4, .direct, fun _ =>
  [(0, WARD_CFGSEL_INDEX, .rw)]⟩
def row_WARD_CFGSTG : RegRow := ⟨0xa160014, 1, 4, 1, 4, .cfg, fun i =>
  [(0, WARD_CFGSTG_WORD i, .rww)]⟩
def row_WARD_CFGACT : RegRow := ⟨0xa160018, 1, 4, 1, 4, .cfg, fun i =>
  [(0, WARD_CFGACT_WORD i, .ro)]⟩
def row_WARD_SIG : RegRow := ⟨0xa16001c, 1, 4, 1, 4, .direct, fun _ =>
  [(0, WARD_SIG_CRC, .ro)]⟩
def row_WARD_JPI : RegRow := ⟨0xa160020, 1, 4, 1, 4, .direct, fun _ =>
  [(0, WARD_JPI_INDEX, .ro)]⟩
def row_WARD_JCI : RegRow := ⟨0xa160024, 1, 4, 1, 4, .direct, fun _ =>
  [(0, WARD_JCI_INDEX, .rww)]⟩
def row_WARD_JSTAT : RegRow := ⟨0xa160028, 1, 4, 1, 4, .direct, fun _ =>
  [(0, WARD_JSTAT_LOST, .ro)]⟩
def row_WARD_JDATA : RegRow := ⟨0xa160040, 8, 4, 1, 4, .jour, fun i =>
  [(0, WARD_JDATA_WORD i, .ro)]⟩
def row_HOST_CTRL : RegRow := ⟨0xa170000, 1, 4, 1, 4, .direct, fun _ =>
  [(0, HOST_CTRL_QOS, .rw)]⟩
def row_HOST_SPICFG : RegRow := ⟨0xa170004, 1, 4, 1, 4, .direct, fun _ =>
  [(0, HOST_SPICFG_WAIT, .rw)]⟩
def row_HOST_SPISTAT : RegRow := ⟨0xa170008, 1, 4, 1, 4, .direct, fun _ =>
  [(0, HOST_SPISTAT_ERR, .w1c), (1, HOST_SPISTAT_LATE, .w1c)]⟩
def row_HOST_FNSTAT : RegRow := ⟨0xa17000c, 1, 4, 1, 4, .direct, fun _ =>
  [(0, HOST_FNSTAT_EN, .ro), (8, HOST_FNSTAT_WARDSEL, .ro)]⟩
def row_HOST_RBASEL : RegRow := ⟨0xa171000, 256, 64, 1, 4, .direct, fun i =>
  [(0, HOST_RBASEL_ADDR i, .rw)]⟩
def row_HOST_RBASEH : RegRow := ⟨0xa171004, 256, 64, 1, 4, .direct, fun i =>
  [(0, HOST_RBASEH_ADDR i, .rw)]⟩
def row_HOST_RBUFL : RegRow := ⟨0xa171008, 256, 64, 1, 4, .direct, fun i =>
  [(0, HOST_RBUFL_ADDR i, .rw)]⟩
def row_HOST_RBUFH : RegRow := ⟨0xa17100c, 256, 64, 1, 4, .direct, fun i =>
  [(0, HOST_RBUFH_ADDR i, .rw)]⟩
def row_HOST_RCFG : RegRow := ⟨0xa171010, 256, 64, 1, 4, .direct, fun i =>
  [(0, HOST_RCFG_EN i, .rw), (1, HOST_RCFG_TYPE i, .rw), (4, HOST_RCFG_LOC i, .rw), (5, HOST_RCFG_FN i, .rw), (8, HOST_RCFG_LOG2SIZE i, .rw), (13, HOST_RCFG_IRQ i, .rw), (14, HOST_RCFG_VEC i, .rw), (20, HOST_RCFG_PEER i, .rw), (28, HOST_RCFG_PART i, .ro)]⟩
def row_HOST_RPI : RegRow := ⟨0xa171014, 256, 64, 1, 4, .direct, fun i =>
  [(0, HOST_RPI_INDEX i, .rw)]⟩
def row_HOST_RCI : RegRow := ⟨0xa171018, 256, 64, 1, 4, .direct, fun i =>
  [(0, HOST_RCI_INDEX i, .rw)]⟩
def row_HOST_RSTAT : RegRow := ⟨0xa17101c, 256, 64, 1, 4, .direct, fun i =>
  [(0, HOST_RSTAT_DROP i, .ro)]⟩
def row_HOST_RSEQ : RegRow := ⟨0xa171020, 256, 64, 1, 4, .direct, fun i =>
  [(0, HOST_RSEQ_SEQ i, .rw)]⟩
def row_PWR_CREQ : RegRow := ⟨0xa180000, 1, 4, 1, 4, .direct, fun _ =>
  [(0, PWR_CREQ_REQ (0), .rw), (2, PWR_CREQ_REQ (1), .rw), (4, PWR_CREQ_REQ (2), .rw), (6, PWR_CREQ_REQ (3), .rw), (8, PWR_CREQ_REQ (4), .rw), (10, PWR_CREQ_REQ (5), .rw), (12, PWR_CREQ_REQ (6), .rw), (14, PWR_CREQ_REQ (7), .rw), (16, PWR_CREQ_REQ (8), .rw), (18, PWR_CREQ_REQ (9), .rw), (20, PWR_CREQ_REQ (10), .rw), (22, PWR_CREQ_REQ (11), .rw), (24, PWR_CREQ_REQ (12), .rw), (26, PWR_CREQ_REQ (13), .rw), (28, PWR_CREQ_REQ (14), .rw), (30, PWR_CREQ_REQ (15), .rw)]⟩
def row_PWR_CSTAT : RegRow := ⟨0xa180004, 1, 4, 1, 4, .direct, fun _ =>
  [(0, PWR_CSTAT_STATE (0), .ro), (2, PWR_CSTAT_STATE (1), .ro), (4, PWR_CSTAT_STATE (2), .ro), (6, PWR_CSTAT_STATE (3), .ro), (8, PWR_CSTAT_STATE (4), .ro), (10, PWR_CSTAT_STATE (5), .ro), (12, PWR_CSTAT_STATE (6), .ro), (14, PWR_CSTAT_STATE (7), .ro), (16, PWR_CSTAT_STATE (8), .ro), (18, PWR_CSTAT_STATE (9), .ro), (20, PWR_CSTAT_STATE (10), .ro), (22, PWR_CSTAT_STATE (11), .ro), (24, PWR_CSTAT_STATE (12), .ro), (26, PWR_CSTAT_STATE (13), .ro), (28, PWR_CSTAT_STATE (14), .ro), (30, PWR_CSTAT_STATE (15), .ro)]⟩
def row_PWR_TEMP : RegRow := ⟨0xa180010, 1, 4, 1, 4, .direct, fun _ =>
  [(0, PWR_TEMP_TJ, .ro), (16, PWR_TEMP_TJHIGH, .ro), (31, PWR_TEMP_CLR, .wo)]⟩
def row_PWR_THERM : RegRow := ⟨0xa180014, 1, 4, 1, 4, .direct, fun _ =>
  [(0, PWR_THERM_WARN, .ro), (1, PWR_THERM_WARNEV, .w1c), (2, PWR_THERM_TRIP, .ro), (3, PWR_THERM_TRIPEV, .w1c)]⟩
def row_PWR_IRAIL : RegRow := ⟨0xa180020, 8, 4, 1, 4, .direct, fun i =>
  [(0, PWR_IRAIL_I i, .ro), (16, PWR_IRAIL_MAX i, .ro)]⟩
def row_PWR_ICLR : RegRow := ⟨0xa180040, 1, 4, 1, 4, .direct, fun _ =>
  [(0, PWR_ICLR_CLR, .wo)]⟩
def row_MODID_CTRL : RegRow := ⟨0xa190000, 1, 4, 1, 4, .direct, fun _ =>
  [(8, MODID_CTRL_DEB, .rw)]⟩
def row_MODID_RESCAN : RegRow := ⟨0xa190004, 1, 4, 1, 4, .direct, fun _ =>
  [(0, MODID_RESCAN_SLOTS, .wo)]⟩
def row_MODID_DSEL : RegRow := ⟨0xa190010, 1, 4, 1, 4, .direct, fun _ =>
  [(0, MODID_DSEL_SLOT, .rw), (8, MODID_DSEL_OFFS, .rw)]⟩
def row_MODID_DDATA : RegRow := ⟨0xa190014, 1, 4, 1, 4, .direct, fun _ =>
  [(0, MODID_DDATA_DATA, .ro)]⟩
def row_MODID_SSTAT : RegRow := ⟨0xa190100, 32, 16, 1, 4, .direct, fun i =>
  [(0, MODID_SSTAT_PRES i, .ro), (1, MODID_SSTAT_STATE i, .ro), (4, MODID_SSTAT_CLASS i, .ro), (12, MODID_SSTAT_CONFLICT i, .ro), (13, MODID_SSTAT_CHGEV i, .w1c), (16, MODID_SSTAT_FIRSTCH i, .ro), (24, MODID_SSTAT_COUNT i, .ro)]⟩
def row_MODID_SLEN : RegRow := ⟨0xa190104, 32, 16, 1, 4, .direct, fun i =>
  [(0, MODID_SLEN_L i, .ro)]⟩
def regsD0 : List RegRow :=
  [row_INTG_SUMMARY, row_INTG_SEQ, row_INTG_RCNT, row_INTG_OVF, row_INTG_RATE, row_INTG_NEST, row_INTG_BCERR, row_INTG_XBERR, row_INTG_FATREC, row_INTG_FATCLR, row_INTG_INJCTRL, row_INTG_INJTGT, row_INTG_INJARG, row_INTG_INJADDR, row_INTG_INJSTAT, row_WARD_STAT, row_WARD_APPLY, row_WARD_CFGSEL, row_WARD_CFGSTG, row_WARD_CFGACT]
def regsD1 : List RegRow :=
  [row_WARD_SIG, row_WARD_JPI, row_WARD_JCI, row_WARD_JSTAT, row_WARD_JDATA, row_HOST_CTRL, row_HOST_SPICFG, row_HOST_SPISTAT, row_HOST_FNSTAT, row_HOST_RBASEL, row_HOST_RBASEH, row_HOST_RBUFL, row_HOST_RBUFH, row_HOST_RCFG, row_HOST_RPI, row_HOST_RCI, row_HOST_RSTAT, row_HOST_RSEQ, row_PWR_CREQ, row_PWR_CSTAT]
def regsD2 : List RegRow :=
  [row_PWR_TEMP, row_PWR_THERM, row_PWR_IRAIL, row_PWR_ICLR, row_MODID_CTRL, row_MODID_RESCAN, row_MODID_DSEL, row_MODID_DDATA, row_MODID_SSTAT, row_MODID_SLEN]
/-- The registers of the blocks INTG, WARD, HOST, PWR and MODID. -/
def regsDRows : List RegRow :=
  regsD0 ++ regsD1 ++ regsD2

end Sys2Proof.Machine
end

