-- ==== Sys2Proof/Machine/State.lean ====
section
/-! DEFINITION. The state of the GL7680 as plain data, the reasons a command can stop, and the state after reset.
Registers stand in `State.flds` under the names of Machine/RegsA.lean to RegsD.lean; the other
structures hold what no register shows. -/
namespace Sys2Proof.Machine

/-! ## Mallet cores (R47 to R78) -/

/-- The kinds of producer that R65 tells apart. -/
inductive Prod where
  /-- a near load into a D register -/
  | nearLoad
  /-- a unit operation writing an accumulator -/
  | accUnit
  /-- a MOVE to a P, M, L or B register -/
  | addrMove
  /-- a MOVE to an LC, LS or LE register -/
  | loopMove
  /-- every other producer -/
  | plain
  deriving DecidableEq, Repr

/-- A write to a register that some consumer may not see yet (R65): register index (R47), value,
the bundle that issued it, and its kind of producer. -/
structure Pw where
  reg : Nat
  val : Acc
  at_ : Nat
  prod : Prod
  deriving DecidableEq, Repr

/-- What a far read returns: memory bytes, or a parameter read of R89. -/
inductive FarWhat where
  /-- `bytes` bytes at device address `a`, through a map entry of class `cls` -/
  | mem (cls a bytes : Nat)
  /-- GLD at device address `a`, sample index `j` -/
  | gld (a j : Nat)
  /-- XFADE on the page of device address `a`, sample index `j` -/
  | xfade (a j : Nat)
  /-- BSCL of bus `b`, sample index `j` -/
  | bscl (b j : Nat)
  deriving DecidableEq, Repr

/-- A far load whose data has not returned (R53): the locked registers with the issuing bundle, and
those that a later bundle has written; the task whose map and QoS it uses. -/
structure FarLoad where
  tid : Nat
  regs : List Nat
  at_ : Nat
  what : FarWhat
  spent : List Nat
  /-- index of the bundle that issued it -/
  pc : Nat
  /-- its place in the order of issue of all far accesses (R154) -/
  seq : Nat
  deriving DecidableEq, Repr

/-- A posted far store (R53): class and device address, bytes, value, index of the bundle that issued it, its
place in the order of issue of all far accesses (R154), and the task whose map and QoS it uses. -/
structure FarStore where
  tid : Nat
  cls : Nat
  addr : Nat
  bytes : Nat
  val : Nat
  pc : Nat
  seq : Nat
  deriving DecidableEq, Repr

/-- An entry of a post buffer (R97, R98). -/
inductive PostE where
  | post (tid flag : Nat)
  | deliver (tid slot val : Nat)
  deriving DecidableEq, Repr

/-- A run of a task on a core (R95): its task, instruction memory, shadows (logical page of cluster
SRAM, frame), post buffer in issue order, and whether it is a re-execution. -/
structure Run where
  tid : Nat
  memB : Bool
  shadows : List (Nat × Nat)
  posts : List PostE
  reexec : Bool
  deriving DecidableEq, Repr

/-- What a core holds aside during an urgent dispatch (R74): the preempted run, its TID, FRM and SIX,
its D0, P0–P3, M0–M3, L0–L3 and B0–B3, its posted stores, and whether it has been abandoned. -/
structure Aside where
  run : Run
  regs : List (Nat × Acc)
  stores : List FarStore
  dead : Bool
  deriving DecidableEq, Repr

/-- How a DONE that waits for posted stores ends the run (R33, R96). -/
inductive Ending where
  | commit | abandon
  deriving DecidableEq, Repr

/-- One mallet core. -/
structure Core where
  /-- register values that every consumer sees, by index (R47) -/
  rf : Tab Acc
  /-- residue tags that differ from the register's value mod 3 (R119): the difference -/
  tagErr : Tab Nat
  /-- writes not yet seen by every consumer, oldest first (R65) -/
  pend : List Pw
  /-- bundles counted for the distances of R65 -/
  bn : Nat
  /-- index of the next bundle -/
  pc : Nat
  /-- the target that applies after the next bundle, when that bundle is the delay slot of a taken branch -/
  delay : Option Nat
  /-- the next bundle is the delay slot of a branch, taken or not (R66) -/
  slot : Bool
  /-- the run in progress -/
  run : Option Run
  /-- the first bundle of the run's grant has not completed -/
  entry : Bool
  /-- far loads whose data has not returned -/
  loads : List FarLoad
  /-- posted far stores not yet completed -/
  stores : List FarStore
  /-- DIRECT stores of runs that have ended otherwise than by DONE, not yet completed (R30) -/
  late : List FarStore
  /-- a DONE that waits for the stores of its run -/
  ending : Option Ending
  /-- the run held aside by an urgent dispatch -/
  aside : Option Aside
  /-- an urgent run is in progress -/
  urgent : Bool
  /-- the task and the instruction memory of an urgent run that has ended, in use until RETT (R74) -/
  lent : Option (Nat × Bool)
  /-- asynchronous traps requested and not yet taken (R69) -/
  wantBreak : Bool
  wantStep : Bool
  wantUrgent : Option Nat
  /-- a held core may execute one bundle (CCTRL.STEP) -/
  stepping : Bool
  /-- SR.RES of a stopped core is 1 -/
  stopFrame : Option Nat
  /-- retirement at the next downbeat, with the cause of its record (R141), 0x100 added where it is an escalation
  (R371), 0x200 where an injected error would cause it and it is only recorded (R373) -/
  retire : Option Nat
  /-- grant order, for R137 -/
  granted : Nat
  /-- the core is RETIRED until the warden restores it (R141) -/
  retired : Bool
  deriving DecidableEq, Repr

/-- A core that holds nothing. -/
def Core.reset : Core :=
  { rf := [], tagErr := [], pend := [], bn := 0, pc := 0, delay := none, slot := false, run := none
    entry := false, loads := [], stores := [], late := [], ending := none, aside := none, urgent := false
    lent := none, wantBreak := false, wantStep := false, wantUrgent := none, stepping := false
    stopFrame := none, retire := none, granted := 0, retired := false }

/-! ## The dispatcher (R121 to R144) -/

/-- A parameter page as an earlier epoch had it, kept for a run first granted at that epoch (R36):
its kind, change in progress, its start and length, and the bytes of TARGET and ACTIVE. -/
structure PageImage where
  glide : Bool
  chg : Bool
  j0 : Nat
  kk : Nat
  target : List Byte
  active : List Byte
  deriving DecidableEq, Repr

/-- A fault stop of a task's run: core, stop code, pc, frame, and whether it was injected (R34, R37, R38). -/
structure Stop where
  core : Nat
  code : Nat
  /-- the check that fired (R38) -/
  check : Nat
  pc : Nat
  frame : Nat
  inj : Bool
  /-- the core's earlier stop was still being handled (R371) -/
  nest : Bool
  deriving DecidableEq, Repr

/-- The working state of a context beside its record and CTXSTAT (R125 to R143). -/
structure Ctx where
  /-- non-counting flags -/
  flags : Nat
  /-- counts of counting flags -/
  counts : Tab Nat
  /-- values delivered to each slot, oldest first; the first fills the slot (R138) -/
  slots : Tab (List Nat)
  /-- operands taken at the first grant, kept for a re-execution (R138) -/
  operands : List (Nat × Nat)
  /-- argument word of the first grant (R132, R35) -/
  arg : Nat
  /-- n of the frame of the first grant (R24, R36) -/
  frame : Nat
  /-- SIX of that frame (R24, R35) -/
  six : Nat
  /-- instruction memory of the first grant (R59) -/
  memB : Bool
  /-- the run counts as in progress from its first grant (R183) -/
  live : Bool
  /-- pages changed since the first grant, as they were (R36) -/
  oldPages : Tab PageImage
  /-- bus factors changed since the first grant: bus to (old, new, j0, kk) -/
  oldBuses : Tab (Nat × Nat × Nat × Nat)
  /-- fault stops of the task's runs (R37, R38) -/
  stops : List Stop
  /-- the frame of the last fault stop and how many there were in it, kept over DONE (R37) -/
  faults : Nat × Nat
  /-- samples by which the gain stands below 1, 0 to N; while it rises, at the first sample of the frame `rise` (R42, R43) -/
  fall : Nat
  /-- the frame in which the gain began to rise -/
  rise : Option Nat
  /-- n of the last frame in which the task missed -/
  missAt : Option Nat
  deriving DecidableEq, Repr

/-- A context that holds nothing. -/
def Ctx.reset : Ctx :=
  { flags := 0, counts := [], slots := [], operands := [], arg := 0, frame := 0, six := 0, memB := false
    live := false, oldPages := [], oldBuses := [], stops := [], faults := (0, 0), fall := 0, rise := none
    missAt := none }

/-- An entry of a ready list (R133): task, home cluster, level, enqueue sequence, re-execution mark. -/
structure ReadyE where
  tid : Nat
  cluster : Nat
  level : Nat
  seq : Nat
  mark : Bool
  deriving DecidableEq, Repr

/-- The dispatcher's own state. -/
structure Disp where
  /-- a downbeat falls in the next step (R130 item 1) -/
  downbeat : Bool
  /-- the ready lists, each in order; marked entries stand before unmarked ones of their list -/
  ready : List ReadyE
  /-- next enqueue sequence, 32 bits -/
  enq : Nat
  /-- HELD tasks in the order in which they became held -/
  held : List Nat
  /-- cores blocked in FETCH since an earlier step, in the order of R134 -/
  fetchQ : List Nat
  /-- cores that have entered FETCH since the last step -/
  fetchNew : List Nat
  /-- host commands for the next step, and those staged with DB -/
  cmds : List DispCmd
  dbCmds : List DispCmd
  /-- commands of a lead written too late for the next downbeat (R343) -/
  lateCmds : List DispCmd
  /-- contexts whose run has ended, for step 3: TID and whether it is re-queued -/
  endings : List (Nat × Bool)
  /-- tasks whose give-up time has been reached since the last step -/
  due : List Nat
  /-- tasks whose give-up actions have been taken in this frame -/
  gaveUp : List Nat
  /-- released posts and deliveries, each with the steps it waits beyond the next (R101), then host posts, for step 5 -/
  posts : List (Nat × PostE)
  hostPosts : List (Nat × Nat)
  /-- sources that have fired -/
  fired : List Nat
  /-- updates left over from earlier steps: next entry, entries left -/
  subs : List (Nat × Nat)
  /-- contexts to evaluate in step 6 -/
  changed : List Nat
  /-- tasks that have joined a list in this step, unmarked (R137) -/
  newReady : List Nat
  /-- urgent tasks reserved for a core being preempted (R137) -/
  reserved : List (Nat × Nat)
  /-- RESTORE requests waiting for the downbeat -/
  restores : List Nat
  /-- grants made so far, for the order of R137 -/
  grants : Nat
  /-- time of the last DONE or abandonment of a deadline task in the frame (R44) -/
  lastEnd : Option Nat
  deriving DecidableEq, Repr

/-- A dispatcher that holds nothing. -/
def Disp.reset : Disp :=
  { downbeat := false, ready := [], enq := 0, held := [], fetchQ := [], fetchNew := [], cmds := [], dbCmds := [], lateCmds := []
    endings := [], due := [], gaveUp := [], posts := [], hostPosts := [], fired := [], subs := []
    changed := [], newReady := [], reserved := [], restores := [], grants := 0, lastEnd := none }

/-- The mark of an OUTPUT page (R41 to R43): the gain at a block's first sample in frame `frame` is (N − fall)/N; it
falls by 1/N per sample in each miss, or rises by 1/N per sample up to 1, from frame to frame, where `rising`. -/
structure Mark where
  silence : Bool
  rising : Bool
  fall : Nat
  frame : Nat
  deriving DecidableEq, Repr

/-- Cluster SRAM frames (R147): the remap per logical page (cluster × 3,072 + page to frame), the
pool of each cluster, pages that a commit or a fallback has changed since
the last digest (R345), and the marks of OUTPUT pages. -/
structure Sram where
  remap : Tab Nat
  pool : Tab (Option (List Nat))
  dirty : List Nat
  marks : Tab (Option Mark)
  deriving DecidableEq, Repr

/-! ## Integrity, host, configuration (chapters 16 and 17) -/

/-- A record before it is numbered and written (R364): class, flags, check, cause, unit, detail bytes. -/
structure Rec where
  cls : Nat
  injected : Bool
  nested : Bool
  escalated : Bool
  check : Nat
  cause : Nat
  utype : Nat
  uinst : Nat
  detail : List Nat
  deriving DecidableEq, Repr

/-- The armed injection (R372): check, unit type and instance, argument, offset, events left. -/
structure Inj where
  check : Nat
  utype : Nat
  uinst : Nat
  arg : Nat
  offs : Nat
  left : Nat
  deriving DecidableEq, Repr

/-- Integrity state that no register shows. -/
structure Integ where
  /-- records of one step wait in `batch` while `batching`, to be written in the order of R368 -/
  batching : Bool
  batch : List Rec
  /-- rings that have dropped a record since the last one written (R369) -/
  gaps : List Nat
  /-- last record let through per unit and cause: utype, uinst, cause, TIME (R367) -/
  rates : List (Nat × Nat × Nat × Nat)
  /-- units whose error is in handling (R371): utype, uinst -/
  handling : List (Nat × Nat)
  /-- macros with a further error while their repair was pending, injected or not (R371, R373) -/
  further : List (Nat × Bool)
  /-- FATREC holds a record (R370) -/
  latched : Bool
  /-- a record of class FATAL has been written since reset (R349) -/
  fatal : Bool
  inj : Option Inj
  /-- memory words with injected wrong bits: word (device address / 8) and how many, 1 or 2 (R372) -/
  flips : List (Nat × Nat)
  /-- poisoned words whose bits fail in the memory, not by an injection (R163) -/
  worn : List Nat
  /-- words with one failing bit in rows beyond repair: corrected at every read (R163) -/
  stuck : List Nat
  /-- the check behind the last error response, 0 where none, and whether its error was injected (R38, R373) -/
  err : Nat × Bool
  deriving DecidableEq, Repr

/-- Host-side state that no register shows: rings whose MSI-X signal is spent (R380), vectors
signalled (function, vector) newest first, the three copies of each configuration word (R393). -/
structure HostSt where
  spent : List Nat
  /-- rings whose RPI − RCI was 0 at the last host write of RCI; a ring not listed as `busy` was empty -/
  busy : List Nat
  msix : List (Nat × Nat)
  cfg : Tab (Nat × Nat × Nat)
  /-- a configuration apply has stored a signature (R393) -/
  signed : Bool
  /-- events written per ring (R386) -/
  events : Tab Nat
  deriving DecidableEq, Repr

/-- What the last host access was answered (R376, R377); the model's own output. -/
inductive Resp where
  | none
  | ok (data : List Word)
  | error
  deriving DecidableEq, Repr
/-! ## Parameter epochs (R174 to R195) -/

/-- What no register shows of a parameter page: the sample index of the change's start, its length, the
n at which a commit last applied to it, whether the refill of its STAGE is outstanding, and the page's own frame that
waits while ACTIVE stands in a frame of the glide pool (R178 to R183). -/
structure PageSt where
  j0 : Nat
  kk : Nat
  appliedAt : Option Nat
  refill : Bool
  extra : Option Nat
  deriving DecidableEq, Repr

/-- A page that no commit has named. -/
def PageSt.reset : PageSt := { j0 := 0, kk := 0, appliedAt := none, refill := false, extra := none }

/-- An entry of a snapshot to capture: TYPE, ARG, and the committed bytes of a STATE entry (R194). -/
structure SnapReq where
  ty : Nat
  arg : Nat
  bytes : List Byte
  deriving DecidableEq, Repr

/-- The epoch engine: pages, pending commits in epoch order, the last 64 accepted epochs (newest first),
a snapshot request and the entries due at the downbeat in progress (R194), the rings whose commit waits for the
acknowledgement of the heel (R343), and the frame pointers: the frame behind each page of the three views, and the
frames of the glide pool in the order in which they are taken, `none` for all 768 (R174, R175, R182). -/
structure EpochSt where
  pages : Tab PageSt
  pend : List Commit
  accepted : List Nat
  snap : Bool
  snapDue : Option (List SnapReq)
  waiting : List Nat
  frames : Tab Nat
  pool : Option (List Nat)
  /-- what was staged at the instant of the last downbeat: the values its COMMITs apply (R10) -/
  atDb : Tab (Tab Nat)
  deriving DecidableEq, Repr

/-- Cluster power (R408): the state in effect per cluster (RETAIN after reset) and the time of the request. -/
structure PowerSt where
  act : Tab Nat
  reqAt : Tab Nat
  deriving DecidableEq, Repr

/-! ## Router (R196 to R214) -/

/-- A destination without a route. -/
def Dest.reset : Dest := { cur := none, out := none, k := 0, kLen := 0, shape := 0 }

/-- One side of a generation of a core input buffer: silence, the sealed block of an edge source by
reference, the block copied into the buffer's storage (R203, R204), or a block formed when the generation was sealed. -/
inductive GenSide where
  | zero
  | edge (e : Nat)
  | copy
  | blk (l : List Nat)
  deriving DecidableEq, Repr

/-- A generation of a core input buffer: the two sides of its crossfade, k of its first sample, K, shape; the frame it
belongs to, plus 3 (0: none); of a copied crossfade the incoming block as read and the larger peak of its sides (R199). -/
structure Gen where
  out : GenSide
  inc : GenSide
  k : Nat
  kLen : Nat
  shape : Nat
  frame : Nat
  raw : List Nat
  peak : Option Nat
  deriving DecidableEq, Repr

/-- A generation without a route. -/
def Gen.reset : Gen := { out := .zero, inc := .zero, k := 0, kLen := 0, shape := 0, frame := 0, raw := [], peak := none }

/-- The tables as the router read them at a downbeat: route and delay descriptors (128 bits each) and COMAP entries that
are not 0, by index (R200, R204). -/
structure RTables where
  descs : Tab Nat
  delays : Tab Nat
  comaps : Tab Nat
  deriving DecidableEq, Repr

/-- A bus with factor 1. -/
def Bus.reset : Bus := { old := 0x10000000, new := 0x10000000, j0 := 0, kk := 0 }

/-- The last block of an endpoint that passed its check, and the fall of its substitute's gain (R359). -/
structure GoodBlk where
  last : List Nat
  fall : Nat
  deriving DecidableEq, Repr

/-- An endpoint that has never failed and delivered silence. -/
def GoodBlk.reset : GoodBlk := { last := [], fall := 0 }

/-- The router's state. -/
structure RouteSt where
  dests : Tab Dest
  /-- the tables at the last downbeat -/
  was : RTables
  /-- core input buffers whose crossfade disagrees in lockstep at the downbeat in progress (R362) -/
  coreMis : List Nat
  /-- generations of core input buffer b, at 3b + (frame mod 3) -/
  gens : Tab Gen
  /-- delay lines: the sample index of the first write since the line became part of a route state (R208) -/
  lines : Tab (Option Nat)
  /-- duplicate descriptors in effect at the last downbeat (R202) -/
  dups : List Nat
  buses : Tab Bus
  /-- samples of source endpoints: of endpoint e, sample s of the slot of frame m at 32 (m mod 3) + s -/
  smp : Tab (Tab Nat)
  /-- blocks of edge destinations: presented in the frame in progress, and from the next downbeat -/
  pres : Tab (Tab Nat)
  next : Tab (Tab Nat)
  /-- edge sources whose sealed block carries a wrong check field, injected (R372) -/
  badSeal : List Nat
  good : Tab GoodBlk
  goodDst : Tab GoodBlk
  /-- the blocks of serial-port output slots presented in the frame before -/
  presOld : Tab (Tab Nat)
  deriving DecidableEq, Repr

/-! ## Memory tests and bank retirement (R160 to R165) -/

/-- A failing bit found in TEST: its row in the region, its word position, and whether more than one bit of its word
fails. -/
structure TestFail where
  row : Nat
  pos : Nat
  many : Bool
  deriving DecidableEq, Repr

/-- A repair found by a test and due at the next downbeat: macro, word position of a column repair, rows, and rows
that fail by an injection alone, for which no resource is used (R373). -/
structure Repair where
  macroId : Nat
  col : Option Nat
  rows : List Nat
  injected : List Nat
  deriving DecidableEq, Repr

/-- A retirement of a global bank, by its bank-select value; `why`: the macro, the first row of the region and the bits
that failed, where a failure is the reason (R164). -/
structure BankReq where
  bank : Nat
  why : Option (Nat × Nat × List TestFail)
  deriving DecidableEq, Repr

/-- The test engines: repair pending per engine, the bank being copied with its spare, and what no register shows. -/
structure MemtSt where
  repairs : Tab (Option Repair)
  copy : Option (Nat × Nat)
  /-- retirements that wait for the copy in progress (R165) -/
  queue : List BankReq
  /-- banks whose retirement is an escalation (R371) -/
  esc : List Nat
  /-- the bank whose switch engine 16 waits for (R163, R165) -/
  waitBank : Option Nat
  /-- the core whose retirement an engine waits for (R163) -/
  waitCore : Tab (Option Nat)
  /-- core memories that are no longer tested (R163) -/
  dead : List Nat
  /-- the bank that BRETIRE.GO shows as not yet switched (R172) -/
  go : Option Nat
  /-- the time of the last uncorrectable error of a global bank (R164) -/
  uncorr : Tab (Option Nat)
  deriving DecidableEq, Repr

/-! ## Serial ports, side-tone, microphones (chapter 10, R215 to R218) -/

/-- A port frame received or substituted since the last seal: grid index, latched mask, words and S32
samples by slot, whether substituted, time of its first edge. -/
structure PFrame where
  j : Nat
  mask : Nat
  words : List Nat
  vals : List Nat
  sub : Bool
  ts : Nat
  deriving DecidableEq, Repr

/-- A serial port: latched masks, last grid index given, last edge, consecutive good edges, the last block
and the last sample received per slot, samples by which the input and output gains stand below 1, whether
the input gain rises, frames since the last seal, and the port frame last sent (none: high impedance). -/
structure PortSt where
  rx : Nat
  tx : Nat
  last : Option Nat
  edge : Option Nat
  /-- the interval between the last two edges, and the one at which the port ran, in ns (R236, R237) -/
  gap : Nat
  per : Nat
  timely : Nat
  good : Tab (List Nat)
  hold : Tab Nat
  fall : Nat
  rising : Bool
  outFall : Nat
  frames : List PFrame
  /-- the samples of the newest frame by slot, the time of its edge, and the samples of the frame before it (R217) -/
  vals : List Nat
  valsAt : Nat
  prev : List Nat
  dout : List (Option Nat)
  /-- what cycle 0 of the frame sent carries of the frame before (R224) -/
  carry : Option Bool
  /-- the grid sample at which the next frame of a master may begin (R228) -/
  next : Int
  /-- the newest edges, newest first, and the measured ratio in 2^−40, of a port through an ASRC (R239) -/
  stamps : List Nat
  ratio : Nat
  /-- the last block of converted output samples by slot, newest last (R240) -/
  sent : Tab (List Nat)
  deriving DecidableEq, Repr

/-- A port that has not started. -/
def PortSt.reset : PortSt :=
  { rx := 0, tx := 0, last := none, edge := none, gap := 0, per := 0, timely := 0, good := [], hold := [], fall := 0, rising := false
    outFall := 0, frames := [], vals := [], valsAt := 0, prev := [], dout := [], carry := none, next := 0, stamps := [], ratio := 0, sent := [] }

/-- The output of a side-tone path or another stage that holds its last good sample after a mismatch (R362):
that sample and the samples by which its gain stands below 1. -/
structure HoldSt where
  last : Nat
  fall : Nat
  deriving DecidableEq, Repr

/-- A stage that has not failed. -/
def HoldSt.reset : HoldSt := { last := 0, fall := 0 }

/-- A microphone or a converter group: samples by which its gain stands below 1, last blocks and samples received per
slot. -/
structure MicSt where
  fall : Nat
  good : Tab (List Nat)
  hold : Tab Nat
  /-- the state at the last sealed sample: 0 off, 1 WAKE, 2 RUN or LOCKED, 3 STUCK or ACQUIRE (R240, R243) -/
  cur : Nat
  /-- the later states with the grid samples from which they hold, newest first -/
  log : List (Nat × Nat)
  /-- the bits of the last frame, and the last input and output of the high-pass filter (R242) -/
  bits : List Bool
  hx : Int
  hy : Int
  deriving DecidableEq, Repr

/-- A microphone that has not run. -/
def MicSt.reset : MicSt := { fall := 0, good := [], hold := [], cur := 0, log := [], bits := [], hx := 0, hy := 0 }

/-- Serial ports and what stands beside them: time of the last downbeat (beat counter, ns), gain writes
that wait for a zero crossing (path × 8 + input), side-tone outputs, microphones, mismatches to come. -/
structure IoSt where
  ports : Tab PortSt
  dbAt : Nat
  zc : Tab (Option Nat)
  side : Tab HoldSt
  mics : Tab MicSt
  asrcMis : List Nat
  deriving DecidableEq, Repr

/-! ## Time bases (R261 to R268) -/

/-- An own Delay_Req or Pdelay_Req that waits for its answer: sequenceId, portIdentity, egress on the beat counter. -/
structure PtpReq where
  seq : Nat
  ident : Nat
  tx : Nat
  deriving DecidableEq, Repr

/-- A time base TB1 to TB4: offset in 2^−16 ns, anchor, the servo's integral in 2^−32 ppb, filtered delay in
2^−16 ns, a two-step Sync that waits for its Follow_Up (sequenceId, ingress, correction), the own request,
a two-step Pdelay answer (sequenceId, t2, t4, correction), the last pair (t3, t4) for the rate ratio,
the length of the present run of updates below (positive) or above (negative) LOCKTHR, and whether it has
stepped since LOCKING was entered. -/
structure TbSt where
  ofs : Int
  anc : Nat
  integ : Int
  dm : Option Int
  sync : Option (Nat × Nat × Int)
  req : Option PtpReq
  presp : Option (Nat × Int × Nat × Int)
  last : Option (Int × Nat)
  run : Int
  stepped : Bool
  deriving DecidableEq, Repr

/-- A time base at reset. -/
def TbSt.reset : TbSt :=
  { ofs := 0, anc := 0, integ := 0, dm := none, sync := none, req := none, presp := none, last := none, run := 0, stepped := false }

/-! ## Network streams (R247 to R260) -/

/-- A receive stream: the grid indices not yet sealed at which samples have been placed, extended
sequence numbers accepted (newest first), whether a whole packet has been placed in time since the last
seal, the samples by which its gain stands below 1, the fade after EN is cleared, last blocks and samples. -/
structure RxSt where
  got : List Nat
  seqs : List Nat
  whole : Bool
  fall : Nat
  fading : Bool
  good : Tab (List Nat)
  hold : Tab Nat
  deriving DecidableEq, Repr

/-- A stream that has received nothing. -/
def RxSt.reset : RxSt := { got := [], seqs := [], whole := false, fall := 0, fading := false, good := [], hold := [] }

/-- The fields that R250 and R259 give a transmitted stream packet. -/
structure TxPacket where
  mac : Nat
  avtp : Bool
  dmac : Nat
  smac : Nat
  tag : Option (Nat × Nat)
  dip : Nat
  sip : Nat
  dscp : Nat
  ttl : Nat
  sport : Nat
  dport : Nat
  pt : Nat
  seq : Nat
  stamp : Nat
  ident : Nat
  /-- RTP: the marker bit and the version; AVTP: sv, tv, sp, format, bit_depth, nsr, channels_per_frame and
  stream_data_length (R253, R259); 0 where the other type has the field -/
  marker : Bool
  version : Nat
  sv : Bool
  tv : Bool
  sp : Bool
  format : Nat
  bitDepth : Nat
  nsr : Nat
  channels : Nat
  dataLen : Nat
  words : List Nat
  badFcs : Bool
  deriving DecidableEq, Repr

/-- Network state beside the registers: receive streams, next packet of each running transmit stream, and
what was sent last: stream packets, and a host frame (MAC, bytes without FCS, FCS inverted). The last two
are the model's own output. -/
structure NetSt where
  rx : Tab RxSt
  tx : Tab Nat
  packets : List TxPacket
  frame : Option (Nat × List Byte × Bool)
  tbs : Tab TbSt
  /-- TBx − the selected time base in ns at the last downbeat, x from 0 (R253) -/
  delta : Tab Int
  deriving DecidableEq, Repr

/-! ## Reference clocks (chapter 12) -/

/-- A candidate's monitor: its last events (newest first, at most 65), whether it has events, consecutive
measurements outside the window, the measurements of the last second (newest first), and when it became
QUALIFIED (R277 to R279). -/
structure CandSt where
  times : List Nat
  alive : Bool
  out : Nat
  offs : List Int
  qAt : Nat
  /-- the measurements inside the window since the candidate became QUALIFYING, one after another (R278) -/
  inside : Nat
  deriving DecidableEq, Repr

/-- A candidate that is not monitored. -/
def CandSt.reset : CandSt := { times := [], alive := false, out := 0, offs := [], qAt := 0, inside := 0 }

/-- A stretch of a DPLL's output frequency: from `f0` at time `t0` towards `target`, at SLEW (R272). -/
structure PllSeg where
  f0 : Int
  t0 : Nat
  target : Int
  slew : Nat
  deriving DecidableEq, Repr

/-- A media DPLL: the stretches of its output frequency over the last second, newest first, and the phase that its clock
has gained on the beat counter at the start of the newest, in 2^−36 ns; the one-second averages (newest first), the
holdover frequency in use, whether a selection is due from FREERUN, and writes that wait for the end of a switch
(R272, R281 to R285). -/
structure PllSt where
  segs : List PllSeg
  dev : Int
  /-- the offset held since the reference was built out, in thirds of 2^−36 ns, and the frequency term that pulls the phase
  error toward 0 (R273, R276) -/
  built : Int
  pull : Int
  avgs : List Int
  hold : Int
  fresh : Bool
  late : List (Nat × Nat)
  deriving DecidableEq, Repr

/-- A media DPLL at reset: FREERUN, its selection due. -/
def PllSt.reset : PllSt := { segs := [], dev := 0, built := 0, pull := 0, avgs := [], hold := 0, fresh := true, late := [] }

/-- A FRAME_OUT pin: its offsets with the times of their writes, newest first; the phase of its alignment input, in thirds of
2^−36 ns, that its pulses follow from `at_`, and the one they had then; the second in which the next is averaged: its start,
its first phase, and sum and number of the differences from that (R288, R289). -/
structure FoSt where
  offs : List (Int × Nat)
  aim : Int
  from_ : Int
  at_ : Nat
  since : Nat
  first : Int
  sum : Int
  cnt : Nat
  deriving DecidableEq, Repr

/-- A FRAME_OUT pin at reset. -/
def FoSt.reset : FoSt := { offs := [], aim := 0, from_ := 0, at_ := 0, since := 0, first := 0, sum := 0, cnt := 0 }

/-- Reference clocks; whether the next downbeat realigns media clock 0 (R274), and where media clock 0 would stand at D(0), in
thirds of 2^−36 ns. -/
structure RefSt where
  cands : Tab CandSt
  plls : Tab PllSt
  fo : Tab FoSt
  align : Bool
  base : Int
  deriving DecidableEq, Repr

/-! ## Amplifier channels (chapter 13) -/

/-- The chain of a channel (R295 to R301): model coefficients (b, a0, a1, a2) once computed, the last two
inputs and outputs of the excursion model, samples in the look-ahead with r(i), gx of the last sample,
samples between the gains and the bridge with their gain, temperature rises in 2^−32 K, gt, and the samples
that reached the bridge in the last frame. Gains are in units of 2^−32, excursions in 2^−32 µm. -/
structure Chain where
  coef : Option (Int × Int × Int × Int)
  u1 : Int
  u2 : Int
  x1 : Int
  x2 : Int
  ahead : List (Int × Nat)
  gx : Nat
  tail : List (Int × Nat)
  dt1 : Int
  dt2 : Int
  gt : Nat
  out : List Int
  deriving DecidableEq, Repr

/-- A chain at rest. -/
def Chain.reset : Chain :=
  { coef := none, u1 := 0, u2 := 0, x1 := 0, x2 := 0, ahead := [], gx := 2 ^ 32, tail := [], dt1 := 0, dt2 := 0
    gt := 2 ^ 32, out := [] }

/-- An amplifier channel: test step in progress (1 to 3, 0 none), whether a RUN waits for the test, commands for
the next downbeat (REQ, from the override path), the states of the last frames, newest first (time of entry,
state, gr then in 2^−32), start times
of its probes, RECOVER completed since the last trip, ABRET written, changeover due, the alternate that its
audio is moved to, the channel whose audio it carries, its inputs' former source for one frame (R304), its own
modulator retired, OFFS and pilot frequency and level in effect, consecutive line measurements of one kind
(1 low, 2 high, 3 within), consecutive NOSIG, the capture (start time, measurements), and PVALID to clear. -/
structure AmpSt where
  test : Nat
  runAfter : Bool
  cmds : List (Nat × Bool)
  hist : List (Nat × Nat × Nat)
  probes : List Nat
  recovered : Bool
  abret : Bool
  abDue : Bool
  /-- an injected mismatch count falls in the frame (R372) -/
  injected : Bool
  moved : Option Nat
  carries : Option Nat
  was : Option (Option Nat)
  gone : Bool
  offs : Option Nat
  pilot : Option (Nat × Nat)
  /-- phase of the pilot at the frame's start, in 768,000ths of a cycle (R309) -/
  phase : Nat
  kind : Nat
  count : Nat
  nosig : Nat
  capture : Option (Nat × List Nat)
  dropValid : Bool
  chain : Chain
  deriving DecidableEq, Repr

/-- An amplifier channel at reset. -/
def AmpSt.reset : AmpSt :=
  { test := 0, runAfter := false, cmds := [], hist := [], probes := [], recovered := false, abret := false
    abDue := false, injected := false, moved := none, carries := none, was := none, gone := false, offs := none, pilot := none, phase := 0, kind := 0
    count := 0, nosig := 0, capture := none, dropValid := false, chain := Chain.reset }

/-! ## Bell unit and alarm override (chapter 14) -/

/-- A waveform as its directory entry gives it (R317): offset, LEN, LOOPST, FMT, RATE, LOOP. -/
structure Wave where
  offset : Nat
  len : Nat
  loopst : Nat
  fmt : Nat
  rate : Nat
  loop : Bool
  deriving DecidableEq, Repr

/-- An activation of a player (R318, R319, R322): grid index of its first sample, PRE and MAIN as they stood,
the waveform numbers, the level gain (none for a Bell player), the index from which it outputs 0, and the
index from which it plays the fallback tone. -/
structure Act where
  j0 : Nat
  pre : Option Wave
  main : Option Wave
  preNo : Nat
  mainNo : Nat
  gain : Option Nat
  stop : Option Nat
  fb : Option Nat
  deriving DecidableEq, Repr

/-- A player: alarm players 0 to 15, Bell players 16 to 23 (R365); activations newest first, and the samples
of the last frame. -/
structure Player where
  acts : List Act
  out : List Nat
  deriving DecidableEq, Repr

/-- A player that has not played. -/
def Player.reset : Player := { acts := [], out := [] }

/-- What feeds a chain or a DAC (R325): the program (none) or a plan, and crossfades oldest first: to what, grid
index of the first sample, length in samples. -/
structure Mixer where
  base : Option Nat
  fades : List (Option Nat × Nat × Nat)
  deriving DecidableEq, Repr

/-- The program alone. -/
def Mixer.reset : Mixer := { base := none, fades := [] }

/-- A Bell DAC channel (R330 to R333): EN in effect; writes of CFG, GAIN, PLAY (waveform to start, stop) that wait for a
strobe; its states, newest first (time of entry, state, ramp gain then in 2^−32); GAIN and SRC in effect from
a time on, newest first; a range change under way to a range; deviations in a row and those injected; failure
for the next downbeat (injected or not); retired; the last frame's samples under gain and ramp. -/
structure DacSt where
  en : Bool
  cfg : Bool
  gain : Option Nat
  go : Option Nat
  stop : Bool
  hist : List (Nat × Nat × Nat)
  eff : List (Nat × Nat × Bool)
  range : Option Nat
  devs : Nat
  inj : Nat
  fail : Option Bool
  gone : Bool
  out : List Int
  deriving DecidableEq, Repr

/-- A DAC channel at reset. -/
def DacSt.reset : DacSt :=
  { en := false, cfg := false, gain := none, go := none, stop := false, hist := [], eff := [], range := none, devs := 0
    inj := 0, fail := none, gone := false, out := [] }

/-- The override path and the Bell unit: levels of ALM_IN and their debounced values, inputs asserted while armed,
plan per channel (0 to 127, DACs from 128), what feeds each, players, DAC channels, spare retired. -/
structure BellSt where
  pins : Nat
  deb : Nat
  seen : Nat
  planOf : Tab (Option Nat)
  mix : Tab Mixer
  players : Tab Player
  dacs : Tab DacSt
  deriving DecidableEq, Repr

/-! ## Pairing (chapter 15) -/

/-- What a device sends its peer (R339, R340, R343 to R346, R351); the model's own output. -/
inductive PairMsg where
  | leash (k : Nat)
  | leashAck (k : Nat)
  | marker (n : Nat)
  | echo
  | echoBack
  | digests (n : Nat) (crcs : List Nat)
  | crcList (c : Nat) (pages : List (Nat × Nat))
  | want (c : Nat) (pages : List Nat)
  | page (c p : Nat) (bytes : List Byte)
  | commit (c : Commit)
  | commitAck (epoch : Nat)
  | cancel (epoch : Nat)
  | write (addr value : Nat)
  | disp (c : DispCmd) (n : Nat)
  | seal (src m : Nat)
  | samples (src e m : Nat) (vals : List Nat)
  | lane (l : Nat)
  | replay
  deriving DecidableEq, Repr

/-- A mirrored block of samples that a seal marker will put in place (R344): source, endpoint, frame, samples. -/
structure MirBlk where
  src : Nat
  e : Nat
  m : Nat
  vals : List Nat
  deriving DecidableEq, Repr

/-- Pairing state that no register shows: messages sent in the frame; the heel's expiry; the lead's last renewal;
lane retirements decided (lane, time); lanes may be driven; the last 64 round trips; the digest sets of the
last digest and its n; clusters in RESYNC (cluster, frames in RESYNC, pages listed); pages received and not yet
installed; what JOIN COPY has brought and whether it is complete; n of D(e) and frames of agreement since;
mirrored sources that wait for their seal marker; mirrored samples received. -/
structure PairSt where
  out : List PairMsg
  expiry : Option Nat
  renewed : Option Nat
  lanes : List (Nat × Nat)
  active : Bool
  rtts : List Nat
  sets : Tab (List Nat)
  setsN : Nat
  resync : List (Nat × Nat × List Nat)
  got : List (Nat × Nat × List Byte)
  items : List JoinItem
  copied : Bool
  joined : Option Nat
  agree : Nat
  wait : List Nat
  mir : List MirBlk
  /-- lane 4 has replaced a lane that was retired (R336, R339) -/
  spared : Bool
  /-- invalid sync headers of the last second: lane, time, count (R339) -/
  hdrs : List (Nat × Nat × Nat)
  /-- digests of the peer for a frame whose own digests are not formed yet (R346) -/
  early : Option (Nat × List Nat)
  /-- pages that the peer has asked for and that have not been sent: cluster, page (R346) -/
  asked : List (Nat × Nat)
  deriving DecidableEq, Repr

/-- A device that has never been paired. -/
def PairSt.reset : PairSt :=
  { out := [], expiry := none, renewed := none, lanes := [], active := false, rtts := [], sets := [], setsN := 0, resync := []
    got := [], items := [], copied := false, joined := none, agree := 0, wait := [], mir := []
    spared := false, hdrs := [], early := none, asked := [] }

/-! ## Boot, power states, modules, UART (chapter 18) -/

/-- What no register of blocks SYS, PWR and MODID shows: the device is held in reset; boot phases completed
(R401); a new rate waits for its downbeat (R25); THERM_WARN has been written and Tj has not fallen below
115 °C since (R409); clusters that have been OFF since their last RUN (R408); stored descriptors by slot
(R411); descriptor loads due at the next downbeat (channel, slot); bundles retired per cluster up to the last downbeat; bytes to send on the UART, the one being
sent first, each marked when it belongs to a device line; bytes received (R417); the key hash in fuses. -/
structure BoardSt where
  held : Bool
  phase : Nat
  rate : Bool
  warned : Bool
  lost : List Nat
  store : Tab (List Nat)
  due : List (Nat × Nat)
  bundles : Tab Nat
  uart : List (Bool × Nat)
  uartRx : List Nat
  key : List Nat
  deriving DecidableEq, Repr

/-- A device held in reset. -/
def BoardSt.reset : BoardSt :=
  { held := true, phase := 0, rate := false, warned := false, lost := [], store := [], due := [], bundles := [], uart := [], uartRx := []
    key := List.replicate 32 0 }


/-! ## The whole machine -/

/-- The state of the block. -/
structure State where
  /-- the commands that wait, first in first out -/
  pending : List Instr
  /-- register fields, by number and index; a field not listed holds its reset value -/
  flds : Tab (Tab Nat)
  /-- staged values of RWE fields (R9), by number and index -/
  staged : Tab (Tab Nat)
  /-- memory by device address; cluster SRAM and the parameter store by physical frame (R145 to R150, R175) -/
  mem : List Host.Cell
  /-- host memory, by function × 2^64 + address (R379) -/
  hostMem : List Host.Cell
  /-- poisoned 64-bit words, by device address / 8 (R363) -/
  poison : List Nat
  /-- number of the next downbeat (R23) -/
  n : Nat
  /-- the commit window of the frame is open (R26) -/
  window : Bool
  /-- beat counter, ns, 64 bits (R261) -/
  bc : Nat
  /-- answer to the last host access -/
  resp : Resp
  /-- names the next free value; the model's own field (log entry 2) -/
  fresh : Nat
  sram : Sram
  cores : Tab Core
  ctxs : Tab Ctx
  disp : Disp
  /-- far accesses issued by the cores so far, for the order of R154 -/
  issued : Nat
  integ : Integ
  host : HostSt
  epoch : EpochSt
  pwr : PowerSt
  route : RouteSt
  memt : MemtSt
  io : IoSt
  net : NetSt
  refs : RefSt
  amps : Tab AmpSt
  bell : BellSt
  pair : PairSt
  board : BoardSt
  deriving DecidableEq, Repr

/-- The block right after reset: no register field differs from its reset value, memory lists nothing. -/
def State.reset : State where
  pending := []
  flds := []
  staged := []
  mem := []
  hostMem := []
  poison := []
  n := 0
  window := false
  bc := 0
  resp := .none
  fresh := 0
  sram := { remap := [], pool := [], dirty := [], marks := [] }
  cores := []
  ctxs := []
  disp := Disp.reset
  issued := 0
  integ := { batching := false, batch := [], gaps := [], rates := [], handling := [], further := [], latched := false, fatal := false, inj := none
             flips := [], worn := [], stuck := [], err := (0, false) }
  host := { spent := [], busy := [], msix := [], cfg := [], signed := false, events := [] }
  epoch := { pages := [], pend := [], accepted := [], snap := false, snapDue := none, waiting := [], frames := [], pool := none, atDb := [] }
  pwr := { act := [], reqAt := [] }
  route := { dests := [], was := { descs := [], delays := [], comaps := [] }, coreMis := [], gens := [], lines := [], dups := [], buses := [], smp := [], pres := [], next := []
             badSeal := [], good := [], goodDst := [], presOld := [] }
  memt := { repairs := [], copy := none, queue := [], esc := [], waitBank := none, waitCore := [], dead := [], go := none, uncorr := [] }
  io := { ports := [], dbAt := 0, zc := [], side := [], mics := [], asrcMis := [] }
  net := { rx := [], tx := [], packets := [], frame := none, tbs := [], delta := [] }
  refs := { cands := [], plls := [], fo := [], align := true, base := 0 }
  amps := []
  bell := { pins := 0, deb := 0, seen := 0, planOf := [], mix := [], players := [], dacs := [] }
  pair := PairSt.reset
  board := BoardSt.reset

/-- No command of this block stops with a fault; the type has no use but the host's interface. -/
inductive Fault where
  /-- raised by nothing: safe -/
  | stuck
  deriving DecidableEq, Repr

/-- The reasons a command can be refused. -/
inductive Refusal where
  /-- raised by the arm of a command that has no meaning yet: safe -/
  | notModelled (mnemonic : String)
  deriving DecidableEq, Repr

end Sys2Proof.Machine
end

