-- ==== Sys2Proof/Machine/Ops.lean ====
section
/-! DEFINITION. The named operations over the state: register fields, memory, cores, contexts, free values. -/
namespace Sys2Proof.Machine

/-! ## Register fields -/

/-- The value of a register field. -/
def State.rd (s : State) (f : Fld) : Nat := tget f.reset (tget [] s.flds f.no) f.idx

/-- The field as a truth value (a one-bit field). -/
def State.on (s : State) (f : Fld) : Bool := s.rd f == 1

/-- Sets a register field to the low bits of `v`. -/
def State.wr (s : State) (f : Fld) (v : Nat) : State :=
  { s with flds := tput [] s.flds f.no (tput f.reset (tget [] s.flds f.no) f.idx (v % 2 ^ f.w)) }

/-- Adds to a counter that wraps at the field's width. -/
def State.inc (s : State) (f : Fld) (v : Nat) : State := s.wr f (s.rd f + v)

/-- Adds to a counter that stays at its highest value. -/
def State.incSat (s : State) (f : Fld) (v : Nat) : State := s.wr f (satAdd (2 ^ f.w - 1) (s.rd f) v)

/-- The staged value of an RWE field, the value in effect where none is staged (R9). -/
def State.rdStaged (s : State) (f : Fld) : Nat := (tget [] s.staged f.no).lookup f.idx |>.getD (s.rd f)

/-- Stages a value for an RWE field (R9, R10: the later write is the one staged). -/
def State.stage (s : State) (f : Fld) (v : Nat) : State :=
  { s with staged := tput [] s.staged f.no (tins (tdel (tget [] s.staged f.no) f.idx) f.idx (v % 2 ^ f.w)) }

/-! ## Structured state -/

def State.core (s : State) (k : Nat) : Core := tget Core.reset s.cores k
def State.setCore (s : State) (k : Nat) (c : Core) : State := { s with cores := tput Core.reset s.cores k c }
def State.ctx (s : State) (t : Nat) : Ctx := tget Ctx.reset s.ctxs t
def State.setCtx (s : State) (t : Nat) (c : Ctx) : State := { s with ctxs := tput Ctx.reset s.ctxs t c }
def State.modCore (s : State) (k : Nat) (f : Core → Core) : State := s.setCore k (f (s.core k))
def State.modCtx (s : State) (t : Nat) (f : Ctx → Ctx) : State := s.setCtx t (f (s.ctx t))

/-! ## Numbers of the frame -/

/-- The frame in progress: D(n) with n one below the next downbeat (R23, R26). -/
def State.frame (s : State) : Nat := s.n - 1

/-- F, the samples of a frame: 32 at 96 kHz, 16 at 48 kHz (R6, R25). -/
def State.fs (s : State) : Nat := if s.on SYS_RATE_ACT then 32 else 16

/-- N of R42: the samples of 1 ms. -/
def State.fadeLen (s : State) : Nat := 3 * s.fs

/-! ## Free values -/

/-- The next free value, `w` bits wide (log entry 2). -/
def State.free (s : State) (w : Nat) : Nat := (Config.freeValue s.fresh).toNat % 2 ^ w

/-- The state after a free value has been used. -/
def State.used (s : State) : State := { s with fresh := s.fresh + 1 }

/-! ## Memory -/

/-- One byte of device memory; a byte that nothing has written reads 0 (log entry 7). -/
def byteAt (m : List Host.Cell) (a : Nat) : Byte := tget 0 m a

/-- Memory with one byte written. -/
def putByte (m : List Host.Cell) (a : Nat) (v : Byte) : List Host.Cell := tput 0 m a v

/-- `n` bytes from address `a`. -/
def bytesAt (m : List Host.Cell) (a : Nat) : Nat → List Byte
  | 0 => []
  | n + 1 => byteAt m a :: bytesAt m (a + 1) n

/-- Memory with the bytes of a list written from address `a`. -/
def putBytes (m : List Host.Cell) (a : Nat) : List Byte → List Host.Cell
  | [] => m
  | v :: vs => putBytes (putByte m a v) (a + 1) vs

/-- The number that little-endian bytes hold (R2). -/
def leNat : List Byte → Nat
  | [] => 0
  | v :: vs => v.toNat + 256 * leNat vs

/-- The low `n` bytes of a number, little-endian (R2). -/
def leBytes (v : Nat) : Nat → List Byte
  | 0 => []
  | n + 1 => BitVec.ofNat 8 v :: leBytes (v / 256) n

/-- The memory is in canonical form: addresses rising, no entry equal to what an unlisted byte reads as. -/
def memWf (m : List Host.Cell) : Bool := tabWf 0 m

/-- `n` bytes of device memory as a number. -/
def State.ld (s : State) (a n : Nat) : Nat := leNat (bytesAt s.mem a n)

/-- Some 64-bit word of the `n` bytes at `a` is poisoned (R363). -/
def State.poisoned (s : State) (a n : Nat) : Bool :=
  s.poison.any fun w => decide (w * 8 < a + n) && decide (a < w * 8 + 8)

/-- Counts one injection that has occurred (R372, R375). -/
def State.injDone (s : State) : State :=
  match s.integ.inj with
  | none => s
  | some j =>
    let s := s.inc INTG_INJSTAT_DONE 1
    if j.left ≤ 1 then
      ({ s with integ := { s.integ with inj := none } }.wr INTG_INJCTRL_BUSY 0).wr INTG_INJSTAT_RESULT 1
    else { s with integ := { s.integ with inj := some { j with left := j.left - 1 } } }

/-- Removes injected wrong bits from a word; the next of several injections inverts them again (R372). -/
def State.unflip (s : State) (w : Nat) : State :=
  if !(s.integ.flips.any fun q => q.1 == w) then s
  else
    let s := s.injDone
    match s.integ.inj with
    | some _ => s
    | none => { s with integ := { s.integ with flips := s.integ.flips.filter fun q => q.1 ≠ w } }

/-- A write reaches a 64-bit word: injected errors go, and a poisoned word is restored, its bytes 0 (R363, R372). -/
def State.touchWord (s : State) (w : Nat) : State :=
  let s := s.unflip w
  if s.poison.contains w then
    { s with mem := putBytes s.mem (w * 8) (leBytes 0 8), poison := s.poison.filter (· ≠ w)
             integ := { s.integ with worn := s.integ.worn.filter (· ≠ w) } }
  else s

/-- Writes `n` bytes at `a`; each word that is touched is restored first (R363). -/
def State.st (s : State) (a n v : Nat) : State :=
  let s := (List.range ((a % 8 + n + 7) / 8)).foldl (fun s i => s.touchWord (a / 8 + i)) s
  { s with mem := putBytes s.mem a (leBytes v n) }

/-- Copies `n` bytes of device memory. -/
def State.copyMem (s : State) (dst src n : Nat) : State :=
  { s with mem := putBytes s.mem dst (bytesAt s.mem src n) }

/-- What a device sends its peer. -/
def State.tell (s : State) (m : PairMsg) : State := { s with pair := { s.pair with out := s.pair.out ++ [m] } }

/-! ## Lines on the UART (R417) -/

/-- The ASCII code of a hexadecimal digit; the spec does not give the case of the letters (log entry 29). -/
def hexDigit (x : Nat) : Nat := if x < 10 then 48 + x else if Config.hexUpper then 55 + x else 87 + x

/-- `n` hexadecimal digits of a number, the highest first. -/
def hexText (x : Nat) : Nat → List Nat
  | 0 => []
  | n + 1 => hexDigit (x / 16 ^ n % 16) :: hexText x n

/-- Appends bytes for transmission; `own` marks a line of the device. -/
def State.uartQueue (s : State) (own : Bool) (l : List Nat) : State :=
  let q := s.board.uart ++ l.map (fun x => (own, x))
  ({ s with board := { s.board with uart := q } }.wr SYS_UARTSTAT_TXFREE (64 - (q.filter fun (e : Bool × Nat) => !e.1).length)).wr
    SYS_UARTSTAT_TXBUSY (b2n !q.isEmpty)

/-- A line of the device: three letters, the node ID, the rest, CR and LF; sent while LOG is 1 (R417, R418). -/
def State.uartLine (s : State) (letters rest : List Nat) : State :=
  if s.on SYS_UARTCFG_LOG then s.uartQueue true (letters ++ [32] ++ hexText (s.rd SYS_NODE_ID) 4 ++ [32] ++ rest ++ [13, 10]) else s

/-! ## Cluster SRAM frames (R147) -/

/-- The frame behind page `p` of cluster `c`. -/
def State.frameOf (s : State) (c p : Nat) : Nat := tget p s.sram.remap (c * 3072 + p)

/-- Device address of byte 0 of frame `f` of cluster `c`: where the model keeps the frame's bytes. -/
def frameAddr (c f : Nat) : Nat := 0x01000000 + c * 0x180000 + f * 512

/-- The pages of a cluster's window that are decoded. -/
def State.sramPages (s : State) (c : Nat) : Nat := 3072 - s.rd (XBAR_CSPOOL_POOL c)

/-- The free shadow frames of a cluster, in the order in which they are taken (log entry 9). -/
def State.poolOf (s : State) (c : Nat) : List Nat :=
  match tget none s.sram.pool c with
  | some l => l
  | none => (List.range (s.rd (XBAR_CSPOOL_POOL c))).map (· + s.sramPages c)

def State.setPool (s : State) (c : Nat) (l : List Nat) : State :=
  { s with sram := { s.sram with pool := tput none s.sram.pool c (some l) } }

/-- Page `key` (cluster × 3,072 + page) enters the digest set of the frame (R345). -/
def State.dirtyPage (s : State) (key : Nat) : State :=
  if s.sram.dirty.contains key then s else { s with sram := { s.sram with dirty := key :: s.sram.dirty } }

/-- Points page `p` of cluster `c` at frame `f` (R148). -/
def State.setRemap (s : State) (c p f : Nat) : State :=
  { s with sram := { s.sram with remap := tput p s.sram.remap (c * 3072 + p) f } }.dirtyPage (c * 3072 + p)

/-- Counts the frames that hold shadows in CSPOOL.INUSE and CSHIGH.HIGH (R171). -/
def State.poolUse (s : State) (c use : Nat) : State :=
  let s := s.wr (XBAR_CSPOOL_INUSE c) use
  if s.rd (XBAR_CSHIGH_HIGH c) < use then s.wr (XBAR_CSHIGH_HIGH c) use else s

/-! ## Clusters and cores -/

/-- The cluster of core `k` (R11). -/
def clusterOf (k : Nat) : Nat := k / 16

/-- Core states of CSTAT.STATE (R78). -/
def stOff : Nat := 0
def stSpare : Nat := 1
def stIdle : Nat := 2
def stRun : Nat := 3
def stTrap : Nat := 4
def stHeld : Nat := 5
def stStopped : Nat := 6
def stRetired : Nat := 7

/-- Context states of CTXSTAT.STATE (R125). -/
def cxDisarmed : Nat := 0
def cxWaiting : Nat := 1
def cxReady : Nat := 2
def cxRunning : Nat := 3
def cxRequeued : Nat := 4
def cxCancelling : Nat := 5
def cxHeld : Nat := 6

/-- Word `w` of the record of context `t` (R122). -/
def State.ctxWord (s : State) (t w : Nat) : Nat := s.rd (DISP_CTXDATA_WORD (t * 16 + w))
/-- A field of word 0 of a context record (R122). -/
def State.ctxF (s : State) (t lo w : Nat) : Nat := bits (s.ctxWord t 0) lo w
/-- The task is a background task (R122, KIND). -/
def State.background (s : State) (t : Nat) : Bool := s.ctxF t 0 1 == 1

end Sys2Proof.Machine
end

