-- ==== Sys2Proof/Machine/Target.lean ====
section
/-! DEFINITION. What a device address decodes to and where the model keeps the byte behind it (R145 to R149, R152,
R167, R173, R175). -/
namespace Sys2Proof.Machine

/-! ## Cluster SRAM pages (R147) -/

/-- The cluster and logical page of a device address in decoded cluster SRAM (R147). -/
def State.sramPage (s : State) (a : Nat) : Option (Nat × Nat) :=
  if a < 0x01000000 ∨ 0x02800000 ≤ a then none
  else
    let c := (a - 0x01000000) / 0x180000
    let p := (a - 0x01000000) % 0x180000 / 512
    if p < s.sramPages c then some (c, p) else none

/-- The number of a cluster's page over all clusters. -/
def pageKey (c p : Nat) : Nat := c * 3072 + p

/-! ## The usable DRAM window (R167, R173) -/

/-- Controller `d` is populated. -/
def State.dramPop (s : State) (d : Nat) : Bool := s.rd (DRAMC_CFG_DENS d) != 3
/-- U of controller `d`. -/
def State.dramU (s : State) (d : Nat) : Nat := 2 ^ 31 * 2 ^ s.rd (DRAMC_CFG_DENS d) / 8 * 7

/-- The controller and offset of a DRAM-window address; none goes to the default target (R167). -/
def State.dramAt (s : State) (addr : Nat) : Option (Nat × Nat) :=
  if addr < 2 ^ 32 ∨ 0x500000000 ≤ addr then none
  else
    let a := addr - 2 ^ 32
    if s.dramPop 0 && s.dramPop 1 then
      let off := a / 512 * 256 + a % 256
      if off < s.dramU (bits a 8 1) then some (bits a 8 1, off) else none
    else if s.dramPop 0 && decide (a < s.dramU 0) then some (0, a) else none

/-- The address in the controller of the check bytes of the line at offset `off` of controller `d` (R167). -/
def State.eccAddr (s : State) (d off : Nat) : Nat := s.dramU d + 8 * (off / 64)

/-! ## Targets (R145, R146, R152) -/

/-- What a device address decodes to. -/
inductive Tgt where
  | gsram
  | csram (c : Nat)
  | operand (k : Nat)
  | instr (k : Nat) (memB : Bool)
  | param
  | wave
  | regs
  | dram (d : Nat)
  | none
  deriving DecidableEq, Repr

/-- Decodes a device address (R145 to R147, R167, R175). -/
def State.target (s : State) (a : Nat) : Tgt :=
  if a < 0x01000000 then .gsram
  else if a < 0x02800000 then
    match s.sramPage a with
    | some (c, _) => .csram c
    | none => .none
  else if a < 0x04000000 then .none
  else if a < 0x08000000 then
    let k := (a - 0x04000000) / 0x40000
    let o := a % 0x40000
    if o < 0x10000 then .operand k
    else if 0x20000 ≤ o ∧ o < 0x28000 then .instr k (decide (0x24000 ≤ o))
    else .none
  else if a < 0x08600000 then (if (a - 0x08000000) % 0x200000 < 0x1C0000 then .param else .none)
  else if a < 0x09000000 then .none
  else if a < 0x09400000 then .wave
  else if a < 0x0A000000 then .none
  else if a < 0x0A1B0000 then .regs
  else match s.dramAt a with
    | some (d, _) => .dram d
    | none => .none

/-- The number of a target (R152). -/
def Tgt.num : Tgt → Nat
  | .csram c => c
  | .operand k => clusterOf k
  | .instr k _ => clusterOf k
  | .gsram => 16
  | .param => 17
  | .wave => 18
  | .regs => 19
  | .dram d => 20 + d
  | .none => 22

/-- The controller is in service (R168, R170). -/
def State.dramActive (s : State) (d : Nat) : Bool := s.rd (DRAMC_STAT_STATE d) == 2

/-! ## Instruction memories in use (R60, R162) -/

/-- Some run executes from instruction memory `b` on core `k`, or in any cluster where it is asked of all. -/
def State.runsFrom (s : State) (b : Bool) : Bool := s.cores.any fun q =>
  (match q.2.run with | some r => r.memB == b | none => false)
  || (match q.2.aside with | some a => a.run.memB == b | none => false)
  || (match q.2.lent with | some x => x.2 == b | none => false)

/-- A write of instruction memory `b` is refused: it is active, or a run executes from it (R60). -/
def State.instrShut (s : State) (b : Bool) : Bool := b2n b == s.rd CORECTL_IMSTAT_ACT || s.runsFrom b

/-! ## Where the model keeps a byte -/

/-- The frame of the parameter store behind page `v` of its address range, counted over the three views (R174, R175). -/
def State.paramFrame (s : State) (v : Nat) : Nat := tget v s.epoch.frames v

/-- The page of the parameter store's address range that shows frame `f`; none where it is no bank's frame. -/
def State.paramView (s : State) (f : Nat) : Option Nat :=
  match s.epoch.frames.find? (·.2 == f) with
  | some q => some q.1
  | none => if s.paramFrame f = f && f % 2048 < 1792 then some f else none

/-- Where the byte at a device address is kept: cluster SRAM through its remap (R147, R148), the parameter store
through its frame pointers (R175). -/
def State.phys (s : State) (a : Nat) : Nat :=
  if a < 0x01000000 then a
  else if a < 0x02800000 then
    let c := (a - 0x01000000) / 0x180000
    let o := (a - 0x01000000) % 0x180000
    frameAddr c (s.frameOf c (o / 512)) + o % 512
  else if a < 0x08000000 then a
  else if a < 0x08600000 then 0x08000000 + s.paramFrame ((a - 0x08000000) / 0x400) * 0x400 + a % 0x400
  else a

end Sys2Proof.Machine
end

