-- ==== Sys2Proof/Machine/Records.lean ====
section
/-! DEFINITION. Partitions as the configuration words give them, rings the device writes, events and records
(R364 to R371, R379 to R381, R386, R391, R393). -/
namespace Sys2Proof.Machine

/-! ## Configuration words in effect -/

/-- The majority of three copies (R393). -/
def vote (c : Nat × Nat × Nat) : Nat := if c.1 = c.2.1 ∨ c.1 = c.2.2 then c.1 else c.2.1

/-- The voted configuration word `i`. -/
def State.cfgWord (s : State) (i : Nat) : Nat := vote (tget (0, 0, 0) s.host.cfg i)

/-- Field `i` of a table of 4-bit fields that starts at word `base` (R391). -/
def State.cfgNib (s : State) (base i : Nat) : Nat := bits (s.cfgWord (base + i / 8)) (4 * (i % 8)) 4

def State.partCluster (s : State) (c : Nat) : Nat := s.cfgNib 0x000 c
def State.partFn (s : State) (f : Nat) : Nat := s.cfgNib 0x002 f
def State.partSpi (s : State) : Nat := s.cfgNib 0x003 0
/-- Owner of register block `b`; BELL and OVR always partition 0 (R388). -/
def State.partBlock (s : State) (b : Nat) : Nat := if b = 0x12 ∨ b = 0x13 then 0 else s.cfgNib 0x004 b
/-- Owner of ring `r`; 8 names the warden. -/
def State.partRing (s : State) (r : Nat) : Nat := s.cfgNib 0x010 r
def State.partCtx (s : State) (t : Nat) : Nat := s.cfgNib 0x100 t

/-- The number that stands for the warden among owners (R391). -/
def warden : Nat := 8

/-- The device has WARDSEL latched at 1: the SPI port is the warden's (R378). -/
def State.spiWarden (s : State) : Bool := s.on SYS_STRAP_WARDSEL

/-- The port is the warden's; the safety image acts with the warden's rights (R378; R395 gives it port code 2). -/
def State.isWarden (s : State) : Port → Bool
  | .pcie fn => !s.spiWarden && fn.val == 0
  | .spi => s.spiWarden
  | .image => true

/-- The partition a port acts for; the warden's port has number 8 here (R378). -/
def State.portPart (s : State) (p : Port) : Nat :=
  if s.isWarden p then warden else
  match p with
  | .pcie fn => s.partFn fn.val
  | .spi => s.partSpi
  | .image => warden

/-! ## Rings the device produces -/

/-- Ring types of R379. -/
def ringCmd : Nat := 0
def ringCpl : Nat := 1
def ringEvent : Nat := 2
def ringError : Nat := 3
def ringNetrx : Nat := 4
def ringNettx : Nat := 5
def ringSdma : Nat := 6

def State.ringSize (s : State) (r : Nat) : Nat := 2 ^ s.rd (HOST_RCFG_LOG2SIZE r)
/-- Entries the ring holds (R380). -/
def State.ringUsed (s : State) (r : Nat) : Nat := (s.rd (HOST_RPI_INDEX r) + 2 ^ 32 - s.rd (HOST_RCI_INDEX r)) % 2 ^ 32
def State.ringFull (s : State) (r : Nat) : Bool := decide (s.ringSize r ≤ s.ringUsed r)
def State.ringBase (s : State) (r : Nat) : Nat := s.rd (HOST_RBASEL_ADDR r) + 2 ^ 32 * s.rd (HOST_RBASEH_ADDR r)
def State.ringBuf (s : State) (r : Nat) : Nat := s.rd (HOST_RBUFL_ADDR r) + 2 ^ 32 * s.rd (HOST_RBUFH_ADDR r)
def State.ringIs (s : State) (r ty : Nat) : Bool := s.on (HOST_RCFG_EN r) && s.rd (HOST_RCFG_TYPE r) == ty

/-- Writes bytes at a device address; each poisoned word that is touched is restored (R363). -/
def State.devPut (s : State) (a : Nat) : List Byte → State
  | [] => s
  | v :: vs =>
    let p := s.phys a
    let s := s.touchWord (p / 8)
    { s with mem := putByte s.mem p v }.devPut (a + 1) vs

/-- The bursts that `n` bytes at `a` take: none crosses a 256-byte boundary (R153). -/
def spans (a n : Nat) : List (Nat × Nat) :=
  let f := min n (256 - a % 256)
  (if f = 0 then [] else [(a, f)]) ++
    (List.range ((n - f + 255) / 256)).map fun i => (a + f + 256 * i, min 256 (n - f - 256 * i))

/-- Where byte `a` of the bus address space of function `fn` lies in the model's host memory. -/
def hostAddr (fn a : Nat) : Nat := fn * 2 ^ 64 + a % 2 ^ 64

/-- The target of an access by a device engine answers without an error. Register blocks do not (a burst reaches no
register), nor do writes of the parameter store, which R175 gives to the host (log entry 31); core windows follow R57
and R60. -/
def State.answers (s : State) (a : Nat) (write : Bool) : Bool :=
  match s.target a with
  | .gsram | .csram _ | .wave => true
  | .dram d => s.dramActive d
  | .operand k =>
    let st := s.rd (CORECTL_CSTAT_STATE k)
    !(write && (st == stRun || st == stTrap || st == stStopped))
  | .instr _ b => !(write && s.instrShut b)
  | .param => !write
  | .regs | .none => false

/-- A transaction at the default target is noted in DEFREC and DEFCNT (R156, R171). -/
def State.noteDefault (s : State) (a master qos : Nat) (write : Bool) : State :=
  let s := ((((s.wr XBAR_DEFREC0_ADDRLO a).wr XBAR_DEFREC1_ADDRHI (a / 2 ^ 32)).wr XBAR_DEFREC1_MASTER master).wr
    XBAR_DEFREC1_QOS qos).wr XBAR_DEFREC1_WRITE (b2n write)
  s.incSat XBAR_DEFCNT_COUNT 1

/-- Writes an entry of an ERROR ring: a write that ends in an error response writes no record of its own, which would
go the same way (DESIGN CHOICE, log entry 31). -/
def State.ringPutQuiet (s : State) (r a : Nat) (bs : List Byte) : State :=
  if s.on (HOST_RCFG_LOC r) then { s with hostMem := putBytes s.hostMem (hostAddr (s.rd (HOST_RCFG_FN r)) a) bs }
  else (spans a bs.length).foldl (fun (s : State) q =>
    if s.answers q.1 true then s.devPut q.1 ((bs.drop (q.1 - a)).take q.2)
    else if s.target q.1 = .none then s.noteDefault q.1 16 (s.rd HOST_CTRL_QOS) true else s) s

/-- Signals MSI-X vector VEC of function FN when RPI advances on a ring that was empty at the last host
write of RCI, at most once until the host next writes RCI (R380). -/
def State.ringSignal (s : State) (r : Nat) : State :=
  if s.on (HOST_RCFG_IRQ r) && !(s.host.spent.contains r) && !(s.host.busy.contains r) then
    { s with host := { s.host with spent := r :: s.host.spent
                                   msix := (s.rd (HOST_RCFG_FN r), s.rd (HOST_RCFG_VEC r)) :: s.host.msix } }
  else s

/-- Writes a 64-byte entry at RPI with `put` and only then advances RPI (R380). The caller has found room. -/
def State.ringPushBy (put : State → Nat → Nat → List Byte → State) (s : State) (r : Nat) (e : List Byte) : State :=
  let a := s.ringBase r + s.rd (HOST_RPI_INDEX r) % s.ringSize r * 64
  ((put s r a e).inc (HOST_RPI_INDEX r) 1).ringSignal r

/-- The lowest-numbered enabled ring of a type that the owner has (R386; R368 read alike, log entry 10). -/
def State.ringOf (s : State) (owner ty : Nat) : Option Nat :=
  (List.range 256).find? fun r => s.ringIs r ty && s.partRing r == owner

/-- The owner's ring of a type, else the warden's (R368, R386). -/
def State.ringFor (s : State) (owner ty : Nat) : Option Nat :=
  match s.ringOf owner ty with
  | some r => some r
  | none => s.ringOf warden ty

/-- Pads bytes to a length with 0. -/
def padTo (n : Nat) (l : List Byte) : List Byte := (l ++ List.replicate n 0).take n

/-! ## Records (R364 to R371) -/

/-- Unit types of R365. -/
def uCore : Nat := 0x01
def uMacro : Nat := 0x02
def uBank : Nat := 0x03
def uDram : Nat := 0x04
def uMaster : Nat := 0x05
def uTask : Nat := 0x06
def uEndpoint : Nat := 0x07
def uSource : Nat := 0x08
def uCluster : Nat := 0x09
def uAmp : Nat := 0x0A
def uDac : Nat := 0x0B
def uPlayer : Nat := 0x0C
def uLane : Nat := 0x0D
def uPort : Nat := 0x0E
def uMic : Nat := 0x0F
def uStream : Nat := 0x10
def uAsrc : Nat := 0x11
def uEpoch : Nat := 0x12
def uOvr : Nat := 0x13
def uDevice : Nat := 0x14
def uMac : Nat := 0x15
def uSide : Nat := 0x16

/-- The register block through which a unit's partition is found, for units no assignment names (log entry 11). -/
def unitBlock (utype uinst : Nat) : Nat :=
  if utype = uMacro ∨ utype = uBank then 0x03
  else if utype = uDram then 0x04
  else if utype = uMaster then 0x02
  else if utype = uEndpoint ∨ utype = uSide then 0x06
  else if utype = uSource then 0x01
  else if utype = uAmp then 0x0F
  else if utype = uDac ∨ utype = uPlayer then 0x12
  else if utype = uLane then 0x14
  else if utype = uPort ∨ utype = uAsrc then 0x07
  else if utype = uMic then 0x08
  else if utype = uStream then 0x09
  else if utype = uEpoch then 0x05
  else if utype = uOvr then 0x13
  else if utype = uMac then 0x09 + uinst
  else 0x00

/-- The partition that owns a unit (R364, PART). -/
def State.unitPart (s : State) (utype uinst : Nat) : Nat :=
  if utype = uCore then s.partCluster (clusterOf uinst)
  else if utype = uCluster then s.partCluster uinst
  else if utype = uTask then s.partCtx uinst
  else s.partBlock (unitBlock utype uinst)

/-- The 32 bytes of a record (R364). -/
def recBytes (s : State) (r : Rec) (seq part : Nat) (nested gap : Bool) : List Byte :=
  leBytes s.bc 8 ++ leBytes seq 4
    ++ leBytes (r.cls + 8 * b2n nested + 16 * b2n r.injected + 32 * b2n r.escalated + 64 * b2n gap) 1
    ++ leBytes (r.check % 16 + 16 * (part % 8)) 1 ++ leBytes r.cause 2 ++ leBytes r.utype 1 ++ leBytes 0 1
    ++ leBytes r.uinst 2 ++ leBytes s.frame 4 ++ padTo 8 (r.detail.map (BitVec.ofNat 8 ·))

/-- The eight words of 32 bytes. -/
def wordsOf : List Byte → List Nat
  | a :: b :: c :: d :: t => leNat [a, b, c, d] :: wordsOf t
  | _ => []

/-- Latches a FATAL record in FATREC unless one is held (R370), with its UART line (R417). -/
def State.latchFatal (s : State) (bs : List Byte) : State :=
  if s.integ.latched then s else
  let s := (wordsOf bs).zipIdx.foldl (fun s (w, i) => s.wr (INTG_FATREC_WORD i) w) s
  let s : State := { s with integ := { s.integ with latched := true } }
  if s.on SYS_BOOTSTAT_DONE then s.uartLine [71, 76, 70] (bs.flatMap fun x => hexText x.toNat 2) else s

/-- A FATAL record stops PAIR_HB (R349). -/
def State.noteFatal (s : State) : State := { s with integ := { s.integ with fatal := true } }

/-- The unit's error is in handling (R371). -/
def State.inHandling (s : State) (utype uinst : Nat) : Bool := s.integ.handling.contains (utype, uinst)

def State.beginHandling (s : State) (utype uinst : Nat) : State :=
  if s.inHandling utype uinst then s
  else { s with integ := { s.integ with handling := (utype, uinst) :: s.integ.handling } }

def State.endHandling (s : State) (utype uinst : Nat) : State :=
  { s with integ := { s.integ with handling := s.integ.handling.filter (· ≠ (utype, uinst)) } }

/-- Numbers a record, counts it and writes it to its ring or drops it (R368 to R371). -/
def State.writeRec (s : State) (r : Rec) : State :=
  let nested := r.nested
  let seq := s.rd INTG_SEQ_NEXT
  let part := s.unitPart r.utype r.uinst
  let s := (s.inc INTG_SEQ_NEXT 1).wr INTG_SUMMARY_CLASS (setBit (s.rd INTG_SUMMARY_CLASS) r.cls true)
  let s := if nested then s.incSat INTG_NEST_NESTED 1 else s
  let s := if r.escalated then s.incSat INTG_NEST_ESC 1 else s
  let s := if r.cls = 4 then (s.latchFatal (recBytes s r seq part nested false)).noteFatal else s
  match s.ringFor part ringError with
  | none => s.incSat (INTG_OVF_COUNT r.cls) 1
  | some g =>
    if s.ringFull g then
      { s.incSat (INTG_OVF_COUNT r.cls) 1 with integ := { s.integ with gaps := if s.integ.gaps.contains g then s.integ.gaps else g :: s.integ.gaps } }
    else
      let e := recBytes s r seq part nested (s.integ.gaps.contains g)
      let s := (s.inc (INTG_RCNT_COUNT r.cls) 1).ringPushBy State.ringPutQuiet g (padTo 64 (e ++ leBytes (s.rd SYS_NODE_ID) 2))
      { s with integ := { s.integ with gaps := s.integ.gaps.filter (· ≠ g) } }

/-- Produces a record; inside a step that batches, it waits for the step's end (R368). A further error of a unit
whose error is in handling is NESTED, and one of a macro escalates when its repair takes effect (R371); the records
of a core are those of its stops, which carry their own mark. -/
def State.emit (s : State) (r : Rec) : State :=
  let more := r.utype != uCore && s.inHandling r.utype r.uinst
  let r := { r with nested := r.nested || more }
  let s : State := if more && r.utype == uMacro then
    { s with integ := { s.integ with further := (r.uinst, r.injected) :: s.integ.further } } else s
  if s.integ.batching then { s with integ := { s.integ with batch := s.integ.batch ++ [r] } }
  else s.writeRec r

/-- The order of R368 among the records of one step. -/
def recBefore (a b : Rec) : Bool :=
  if a.cls ≠ b.cls then decide (b.cls < a.cls)
  else if a.utype ≠ b.utype then decide (a.utype < b.utype)
  else decide (a.uinst < b.uinst)

/-- Inserts a record behind those that are not after it. -/
def insRec (r : Rec) : List Rec → List Rec
  | [] => [r]
  | q :: t => if recBefore r q then r :: q :: t else q :: insRec r t

/-- Runs a step whose records are written at its end in the order of R368. -/
def State.batched (f : State → State) (s : State) : State :=
  if s.integ.batching then f s else
  let s := f { s with integ := { s.integ with batching := true } }
  let rs := s.integ.batch.foldl (fun l r => insRec r l) []
  rs.foldl State.writeRec { s with integ := { s.integ with batching := false, batch := [] } }

/-- Produces a record unless the unit and cause had one let through less than `interval` ns ago; a
withheld record is counted in INTG.RATE (R367). -/
def State.emitRated (s : State) (interval : Nat) (r : Rec) : State :=
  let same := fun (q : Nat × Nat × Nat × Nat) => q.1 == r.utype && q.2.1 == r.uinst && q.2.2.1 == r.cause
  match s.integ.rates.find? same with
  | some q =>
    if s.bc < q.2.2.2 + interval then s.incSat INTG_RATE_COUNT 1
    else
      ({ s with integ := { s.integ with rates := (r.utype, r.uinst, r.cause, s.bc) :: s.integ.rates.filter (fun q => !same q) } }).emit r
  | none => ({ s with integ := { s.integ with rates := (r.utype, r.uinst, r.cause, s.bc) :: s.integ.rates } }).emit r

/-- A plain record. -/
def mkRec (cls check cause utype uinst : Nat) (detail : List Nat) : Rec :=
  { cls, injected := false, nested := false, escalated := false, check, cause, utype, uinst, detail }

def cCorrected : Nat := 0
def cRecovered : Nat := 1
def cDegraded : Nat := 2
def cLost : Nat := 3
def cFatal : Nat := 4

/-- The low and high byte of a 16-bit detail. -/
def d16 (x : Nat) : List Nat := [x % 256, x / 256 % 256]

/-- Address detail A (R366): address, master, QoS. -/
def detA (a master qos : Nat) : List Nat :=
  [a % 256, a / 2 ^ 8 % 256, a / 2 ^ 16 % 256, a / 2 ^ 24 % 256, a / 2 ^ 32 % 256, a / 2 ^ 40 % 256, master, qos]

/-- Task detail T (R366): task, completing core (0xFFFF for none), pc, byte 30. -/
def detT (tid core pc b30 : Nat) : List Nat := d16 tid ++ d16 core ++ d16 pc ++ [b30]

/-! ## Memory macros and ECC errors (R150, R172, R363) -/

/-- The macro of bank `b` and offset `bo` within it, of a memory whose banks hold `per` macros from id `base`. -/
def bankMacro (base per b bo : Nat) : Nat := base + per * b + bo / 65536

/-- The bank that serves bank-select value `b` of global SRAM (R164). -/
def State.servingBank (s : State) (b : Nat) : Nat :=
  if s.rd MEMT_BANKMAP_SPARE33 = b then 33 else if s.rd MEMT_BANKMAP_SPARE32 = b then 32 else b

/-- The unit that holds a byte, by where the model keeps it: a macro (R150, R172) or a DRAM controller. -/
def State.unitOf (s : State) (p : Nat) : Nat × Nat :=
  if p < 0x01000000 then (uMacro, bankMacro 1152 8 (s.servingBank (bits p 6 5)) (p / 2048 * 64 + p % 64))
  else if p < 0x02800000 then
    let o := p - 0x01000000
    let x := o % 0x180000
    (uMacro, bankMacro (768 + 24 * (o / 0x180000)) 3 (bits x 6 3) (x / 512 * 64 + x % 64))
  else if p < 0x08000000 then
    let k := (p - 0x04000000) / 0x40000
    let o := p % 0x40000
    (uMacro, if o < 0x10000 then k else if o < 0x24000 then 256 + 2 * k else 257 + 2 * k)
  else if p < 0x08600000 then
    let w := (p - 0x08000000) / 64
    (uMacro, bankMacro 1424 8 (w % 12) (w / 12 * 64 + p % 64))
  else if p < 0x0A000000 then
    let a := p - 0x09000000
    (uMacro, bankMacro 1520 8 (bits a 6 3) (a / 512 * 64 + a % 64))
  else (uDram, if s.rd (DRAMC_CFG_DENS 0) ≠ 3 ∧ s.rd (DRAMC_CFG_DENS 1) ≠ 3 then bits p 8 1 else 0)

/-- Where the model keeps the byte at an offset of a macro (the inverse of `unitOf`); none where no address reaches it. -/
def State.macroByte (s : State) (id off : Nat) : Option Nat :=
  if id < 256 then (if off < 0x10000 then some (0x04000000 + id * 0x40000 + off) else none)
  else if id < 768 then
    let k := (id - 256) / 2
    if off < 0x4000 then some (0x04000000 + k * 0x40000 + (if id % 2 = 0 then 0x20000 else 0x24000) + off) else none
  else if 0x10000 ≤ off then none
  else if id < 1152 then
    let i := (id - 768) % 24
    let bo := i % 3 * 65536 + off
    some (0x01000000 + (id - 768) / 24 * 0x180000 + bo / 64 * 512 + i / 3 * 64 + bo % 64)
  else if id < 1424 then
    let b := (id - 1152) / 8
    let bo := (id - 1152) % 8 * 65536 + off
    ((List.range 32).find? fun v => s.servingBank v == b).map fun v => bo / 64 * 2048 + v * 64 + bo % 64
  else if id < 1520 then
    let bo := (id - 1424) % 8 * 65536 + off
    some (0x08000000 + (bo / 64 * 12 + (id - 1424) / 8) * 64 + bo % 64)
  else if id < 1584 then
    let bo := (id - 1520) % 8 * 65536 + off
    some (0x09000000 + bo / 64 * 512 + (id - 1520) / 8 * 64 + bo % 64)
  else none

/-- An error response: the check behind it, 0 where none, and whether its error was injected (R38, R373). -/
def State.errored (s : State) (check : Nat) (inj : Bool) : State := { s with integ := { s.integ with err := (check, inj) } }

/-! ## Failing rows and retired banks (R163, R164) -/

/-- Failing rows that stay in service: the words with more than one failing bit are poisoned, those with one are
corrected at every read (R163). -/
def State.exhaust (s : State) (m row : Nat) (fs : List TestFail) (esc : Bool) : State :=
  let s := (s.wr (MEMT_MACSTAT_EXHAUSTED m) 1).emit
    { mkRec cDegraded 10 0x0014 uMacro m (d16 (row + (fs.head?.map (·.row)).getD 0)) with escalated := esc }
  fs.foldl (fun s f => match s.macroByte m ((row + f.row) * 64 + 8 * f.pos) with
    | some a =>
      if f.many then { s with poison := a / 8 :: s.poison.filter (· ≠ a / 8)
                              integ := { s.integ with worn := a / 8 :: s.integ.worn.filter (· ≠ a / 8) } }
      else { s with integ := { s.integ with stuck := a / 8 :: s.integ.stuck.filter (· ≠ a / 8) } }
    | none => s) s

/-- A spare bank that can take a bank's place: unused, and without rows that fail beyond repair (DESIGN CHOICE, log
entry 37). -/
def State.spareBank (s : State) : Option Nat :=
  let whole := fun q => (List.range 8).all fun j => !s.on (MEMT_MACSTAT_EXHAUSTED (1152 + 8 * q + j))
  if s.rd MEMT_BANKMAP_SPARE32 = 0x3F && whole 32 then some 32
  else if s.rd MEMT_BANKMAP_SPARE33 = 0x3F && whole 33 then some 33 else none

/-- No spare bank remains: NOSPARE is set, and the rows that failed stay in service (R164). -/
def State.noSpare (s : State) (q : BankReq) : State :=
  let s := s.wr MEMT_BANKMAP_NOSPARE 1
  let s := if s.memt.go = some q.bank then { s with memt := { s.memt with go := none } }.wr MEMT_BRETIRE_GO 0 else s
  let s := match q.why with
    | some (m, row, fs) => s.exhaust m row fs (s.memt.esc.contains q.bank)
    | none => s
  if s.memt.waitBank = some q.bank then { s with memt := { s.memt with waitBank := none } }.wr (MEMT_EPOS_PHASE 16) 3 else s

/-- A retirement of a global bank: the copy into the lowest unused spare starts, waits for the copy in progress, or
finds no spare (R164, R165). A bank whose retirement is under way is not retired again. -/
def State.retireBank (s : State) (q : BankReq) : State :=
  if s.memt.copy.any (·.1 == q.bank) || s.memt.queue.any (·.bank == q.bank) then s
  else if s.memt.copy.isSome then { s with memt := { s.memt with queue := s.memt.queue ++ [q] } }
  else match s.spareBank with
    | some x => ({ s with memt := { s.memt with copy := some (q.bank, x) } }.wr MEMT_BANKMAP_COPY 1).beginHandling uBank q.bank
    | none => s.noSpare q

/-- An uncorrectable error, not injected, in a word of global SRAM: the second of its bank within 1 s retires the bank
(R164, R373). -/
def State.bankError (s : State) (w : Nat) : State :=
  if 0x01000000 ≤ w * 8 then s
  else
    let b := bits (w * 8) 6 5
    let (_, m) := s.unitOf (w * 8)
    let again := match tget none s.memt.uncorr b with | some t => decide (s.bc ≤ t + 1000000000) | none => false
    let s : State := { s with memt := { s.memt with uncorr := tput none s.memt.uncorr b (some s.bc) } }
    if again then s.retireBank ⟨b, some (m, w * 8 / 2048 % 1024, [])⟩ else s

/-! ## Reads and writes of words -/

/-- A read reaches a 64-bit word: an injected single error is corrected, a double one poisons the word, and each read
of a poisoned word writes a LOST record; a word with one failing bit is corrected at each read (R163, R356, R363, R372;
log entry 34). -/
def State.readWord (s : State) (w a master qos : Nat) : State :=
  let (ty, u) := s.unitOf (w * 8)
  let count := fun (s : State) (one : Bool) =>
    if ty = uMacro ∧ u < 768 then
      (if one then s.incSat (CORECTL_CCOUNT_ECCC (if u < 256 then u else (u - 256) / 2)) 1 else s)
    else if ty = uDram then (if one then s.incSat (DRAMC_ECC_CORR u) 1 else s.incSat (DRAMC_ECC_UNCORR u) 1) else s
  let stuck := s.integ.stuck.contains w
  match s.integ.flips.lookup w with
  | some k =>
    if k = 1 ∧ !stuck then
      (count (s.unflip w) true).emit { mkRec cCorrected 1 0x0001 ty u (detA a master qos) with injected := true }
    else
      let s := (count (s.unflip w) false).emit { mkRec cLost 1 0x0026 ty u (detA a master qos) with injected := true }
      { s with poison := w :: s.poison.filter (· ≠ w) }
  | none =>
    if s.poison.contains w then
      let worn := s.integ.worn.contains w
      let s := (count s false).emit { mkRec cLost 1 0x0026 ty u (detA a master qos) with injected := !worn }
      if worn then s.bankError w else s
    else if stuck then (count s true).emit (mkRec cCorrected 1 0x0001 ty u (detA a master qos))
    else s

/-- A read of `n` bytes at a device address: the state after its ECC checks, and whether some word of it is poisoned. -/
def State.eccRead (s : State) (a n master qos : Nat) : State × Bool :=
  let ws := ((List.range n).map fun i => s.phys (a + i) / 8).eraseDups
  let all := fun (s : State) => ws.foldl (fun s w => s.readWord w a master qos) s
  let s := if n ≤ 8 then all s else State.batched all s
  match ws.find? s.poison.contains with
  | some w => (s.errored 1 (!s.integ.worn.contains w), true)
  | none => (s, false)

/-- A pass over memory that reads every word in error for which `at_` gives the address it reads; other words are as
they stand (R356, R363). -/
def State.readErrors (s : State) (at_ : Nat → Option Nat) (master qos : Nat) : State :=
  ((s.integ.flips.map (·.1) ++ s.poison ++ s.integ.stuck).eraseDups).foldl (fun (s : State) w =>
    match at_ w with
    | some a => s.readWord w a master qos
    | none => s) s

/-- The words of a DRAM line that a write of `n` bytes at `a` leaves as they are, where it writes less than the line:
the read-modify-write reads them, but nothing from a poisoned word (R167, R363). -/
def State.lineRest (s : State) (a n : Nat) : List Nat :=
  if a < 2 ^ 32 then []
  else ([a / 64, (a + n - 1) / 64].eraseDups).flatMap fun l =>
    if a ≤ l * 64 ∧ l * 64 + 64 ≤ a + n then []
    else ((List.range 8).map (l * 8 + ·)).filter fun w =>
      !(decide (a < w * 8 + 8) && decide (w * 8 < a + n)) && !s.poison.contains w

/-- A write of bytes to memory that answers. -/
def State.memPut (s : State) (master qos a : Nat) (bs : List Byte) : State :=
  ((s.lineRest a bs.length).foldl (fun (s : State) w => s.readWord w a master qos) s).devPut a bs

/-! ## Accesses of the device's engines (R152, R156, R170, R363) -/

/-- A transaction at the default target (R156, R171). -/
def State.defaultTarget (s : State) (a master qos : Nat) (write : Bool) : State :=
  ((s.noteDefault a master qos write).emit (mkRec cCorrected 12 0x0003 uMaster master (detA a master qos))).errored 12 false

/-- An access to a controller that is not ACTIVE (R170). -/
def State.dramRefuse (s : State) (d a master qos : Nat) : State :=
  s.emit (mkRec cCorrected 0 0x0009 uDram d ((detA a master qos).take 7 ++ [s.rd (DRAMC_STAT_STATE d)]))

/-- What an access that does not answer leaves behind: the default target's record, or that of a controller that is not
in service. -/
def State.noAnswer (s : State) (master qos a : Nat) (write : Bool) : State :=
  match s.target a with
  | .none => s.defaultTarget a master qos write
  | .dram d => s.dramRefuse d a master qos
  | _ => s

/-- A write of an engine, in bursts: false where one of them ends in an error response. -/
def State.engineWrite (s : State) (master qos a : Nat) (bs : List Byte) : State × Bool :=
  (spans a bs.length).foldl (fun (q : State × Bool) x =>
    if q.1.answers x.1 true then (q.1.memPut master qos x.1 ((bs.drop (x.1 - a)).take x.2), q.2)
    else (q.1.noAnswer master qos x.1 true, false)) (s, true)

/-- The crossbar master of a ring's accesses and their QoS: 17 for the rings of the network DMA, 16 for the others; the
spec gives the host's QoS alone (R152, R379; log entry 31). -/
def State.ringMaster (s : State) (r : Nat) : Nat × Nat :=
  if 4 ≤ s.rd (HOST_RCFG_TYPE r) then (17, 0) else (16, s.rd HOST_CTRL_QOS)

/-- Puts bytes of a ring where its memory lies (R379, LOC). -/
def State.ringPut (s : State) (r a : Nat) (bs : List Byte) : State :=
  if s.on (HOST_RCFG_LOC r) then { s with hostMem := putBytes s.hostMem (hostAddr (s.rd (HOST_RCFG_FN r)) a) bs }
  else (s.engineWrite (s.ringMaster r).1 (s.ringMaster r).2 a bs).1

/-- Writes a 64-byte entry at RPI and only then advances RPI (R380). The caller has found room. -/
def State.ringPush (s : State) (r : Nat) (e : List Byte) : State := State.ringPushBy State.ringPut s r e

/-! ## Events (R386) -/

/-- Writes an event of a type with detail bytes 24 to 61; dropped events are counted in RSTAT.DROP (R381). -/
def State.event (s : State) (ty owner : Nat) (detail : List Byte) : State :=
  match s.ringFor owner ringEvent with
  | none => s
  | some r =>
    if s.ringFull r then s.incSat (HOST_RSTAT_DROP r) 1 else
    let e := leBytes ty 2 ++ leBytes owner 1 ++ leBytes 0 1 ++ leBytes (tget 0 s.host.events r + 1) 4 ++ leBytes s.bc 8
      ++ leBytes s.frame 8 ++ padTo 38 detail ++ leBytes (s.rd SYS_NODE_ID) 2
    let s := { s with host := { s.host with events := tput 0 s.host.events r ((tget 0 s.host.events r + 1) % 2 ^ 32) } }
    s.ringPush r e

end Sys2Proof.Machine
end

