-- ==== Sys2Proof/Machine/Runs.lean ====
section
/-! DEFINITION. Runs of tasks: the transaction map, shadows, fallback marks, commitment, abandonment and core stops
(R30 to R43, R95, R96, R100, R123, R141, R147, R148). -/
namespace Sys2Proof.Machine

/-! ## The transaction map (R30, R123) -/

/-- A map entry: core-view base, length, device address, class. -/
structure MapE where
  vbase : Nat
  len : Nat
  dev : Nat
  cls : Nat
  deriving DecidableEq, Repr

/-- Classes of R123. -/
def clInput : Nat := 0
def clParam : Nat := 1
def clState : Nat := 2
def clOutput : Nat := 3
def clDirect : Nat := 4

def State.mapWord (s : State) (i w : Nat) : Nat := s.rd (DISP_MAPDATA_WORD (i * 4 + w))

/-- Entry `i` of the map table. -/
def State.mapEntry (s : State) (i : Nat) : MapE :=
  { vbase := s.mapWord i 0, len := s.mapWord i 1
    dev := s.mapWord i 2 + 2 ^ 32 * bits (s.mapWord i 3) 0 16, cls := bits (s.mapWord i 3) 16 3 }

/-- The map of a task: MAPCOUNT entries from MAPFIRST, in table order. -/
def State.taskMap (s : State) (t : Nat) : List MapE :=
  (List.range (bits (s.ctxWord t 9) 16 5)).map fun i => s.mapEntry (bits (s.ctxWord t 9) 0 11 + i)

/-- Where byte `a` of an entry lies: a device address; for INPUT, the entry's words 2 and 3 and the offset (R198). -/
def MapE.target (e : MapE) (a : Nat) : Nat := if e.cls = clInput then e.dev * 2 ^ 32 + (a - e.vbase) else e.dev + (a - e.vbase)

/-- The first entry that covers a far core-view address: its class and where the byte lies (R51, R123). -/
def State.translate (s : State) (t a : Nat) : Option (Nat × Nat) :=
  match (s.taskMap t).find? fun e => decide (e.vbase ≤ a) && decide (a < e.vbase + e.len) with
  | some e => some (e.cls, e.target a)
  | none => none

/-- The endpoint, AGE and byte offset in the block of an INPUT address (R198). -/
def State.inputOf (s : State) (x : Nat) : Nat × Nat × Nat :=
  let w := x / 2 ^ 32
  let off := x % 2 ^ 32
  (bits w 0 14 + off / (4 * s.fs), bits w 14 2, off % (4 * s.fs))

/-- A task may read the endpoint: port slots, microphones, Bell sources, network channels, level endpoints, core inputs (R198, R199). -/
def State.readable (s : State) (e : Nat) : Bool :=
  e < 0x848 || (decide (0x980 ≤ e) && decide (e < 0x980 + 2048 / s.fs)) || (decide (0x1000 ≤ e) && decide (e < 0x2000))
  || (decide (0x3000 ≤ e) && decide (e < 0x3800))

/-- An INPUT access reaches a readable piece (R198). -/
def State.inputOk (s : State) (x : Nat) : Bool :=
  let (e, age, _) := s.inputOf x
  s.readable e && (age == 1 || age == 2) && decide (x / 2 ^ 32 < 2 ^ 16)

/-- The logical pages of a task's map entries of class OUTPUT. -/
def State.outputPages (s : State) (t : Nat) : List Nat :=
  ((s.taskMap t).filter (·.cls == clOutput)).flatMap fun e =>
    (List.range (e.len / 512)).filterMap fun i => (s.sramPage (e.dev + i * 512)).map fun q => pageKey q.1 q.2

/-- The map contains a DIRECT range (R34). -/
def State.hasDirect (s : State) (t : Nat) : Bool := (s.taskMap t).any (·.cls == clDirect)

/-! ## Marked pages (R41 to R43) -/

def State.markOf (s : State) (key : Nat) : Option Mark := tget none s.sram.marks key
def State.setMark (s : State) (key : Nat) (m : Option Mark) : State :=
  { s with sram := { s.sram with marks := tput none s.sram.marks key m } }

/-- A value times a gain `num / den`: exact where the product is whole, else its floor or one above (log entry 12). -/
def gainMul (x : Int) (num den : Nat) : Int :=
  let p := x * num
  if p % den = 0 then p / den else if Config.gainUp x num den then p / den + 1 else p / den

/-- The fall of a gain that began to rise in frame `since` with fall `fall`, at the first sample of frame `frame` (R43). -/
def risen (F fall since frame : Nat) : Nat := fall - F * (frame - since)

/-- Word `w` of a page of 128 words read in frame `frame` under a mark (R42, R43): block sample `w mod F`. -/
def markedWord (m : Mark) (F frame : Nat) (word : Nat → Nat) (w : Nat) : Nat :=
  let N := 3 * F
  let smp := w % F
  let g := N - (if m.rising then risen F m.fall m.frame frame else m.fall)
  if m.rising then ux 32 (gainMul (sx 32 (word w)) (min N (g + smp)) N)
  else ux 32 (gainMul (sx 32 (word (if m.silence then w - smp + F - 1 else w))) (g - smp) N)

/-- Word `w` of a committed page of cluster `c`, with its mark's fallback or rise (R41, R148). -/
def State.pageWord (s : State) (c p w : Nat) : Nat :=
  let base := frameAddr c (s.frameOf c p)
  let word := fun i => s.ld (base + 4 * i) 4
  match s.markOf (pageKey c p) with
  | none => word w
  | some m => markedWord m s.fs s.frame word w

/-- A read of 4 or 8 aligned bytes of a committed page. -/
def State.pageRead (s : State) (c p off n : Nat) : Nat :=
  let lo := s.pageWord c p (off / 4)
  if n = 8 then lo + 2 ^ 32 * s.pageWord c p (off / 4 + 1) else lo / 2 ^ (8 * (off % 4)) % 2 ^ (8 * n)

/-- Samples by which the gain of a task's outputs stands below 1 at the first sample of the frame (R43). -/
def State.fallNow (s : State) (t : Nat) : Nat :=
  let c := s.ctx t
  match c.rise with
  | some f => risen s.fs c.fall f s.frame
  | none => c.fall

/-- A task that misses: its OUTPUT pages present its fallback, whose gain falls through the frame (R41, R43). A
gain that was still rising falls from where it stood (DESIGN CHOICE, log entry 51: R43 names no such miss). -/
def State.missPages (s : State) (t : Nat) : State :=
  if (s.ctx t).missAt = some s.frame then s else
  let e := s.fallNow t
  let s := (s.outputPages t).foldl (fun s k =>
    (s.setMark k (some ⟨s.ctxF t 26 1 == 1, false, e, s.frame⟩)).dirtyPage k) s
  s.modCtx t fun c => { c with missAt := some s.frame, fall := min s.fadeLen (e + s.fs), rise := none }

/-- A task that reaches DONE: its pages carry the gain that rises from the frame of its first DONE on, until it
reaches 1 (R43). -/
def State.donePages (s : State) (t : Nat) : State :=
  let since := (s.ctx t).rise.getD s.frame
  let fall := (s.ctx t).fall
  if s.fallNow t = 0 then
    ((s.outputPages t).foldl (fun s k => s.setMark k none) s).modCtx t fun c => { c with fall := 0, rise := none }
  else
    ((s.outputPages t).foldl (fun s k => s.setMark k (some ⟨false, true, fall, since⟩)) s).modCtx t fun c =>
      { c with rise := some since }

/-- The marks at a downbeat: those whose gain has reached 1 are cleared; the pages of the others that rise read
differently in the new frame, for the digest (R43, R345). -/
def State.marksDownbeat (s : State) : State :=
  s.sram.marks.foldl (fun (s : State) q => match q.2 with
    | some m =>
      if !m.rising then s
      else if risen s.fs m.fall m.frame s.frame = 0 then (s.setMark q.1 none).dirtyPage q.1 else s.dirtyPage q.1
    | none => s) s

/-! ## Shadows (R31, R32, R148) -/

/-- Returns a frame to its cluster's pool (R148); the router's copies take no time (log entry 14). -/
def State.freeFrame (s : State) (c f : Nat) : State :=
  let l := s.poolOf c ++ [f]
  (s.setPool c l).poolUse c (s.rd (XBAR_CSPOOL_POOL c) - l.length)

/-- A shadow for page `p` of cluster `c`: STATE pages start as a copy of the committed page, OUTPUT pages zeroed (R30, R31). -/
def State.newShadow (s : State) (c p cls : Nat) : Option (Nat × State) :=
  match s.poolOf c with
  | [] => none
  | f :: l =>
    let s := (s.setPool c l).poolUse c (s.rd (XBAR_CSPOOL_POOL c) - l.length)
    let s := (List.range 64).foldl (fun (s : State) i => s.touchWord (frameAddr c f / 8 + i)) s
    let s := if cls = clState then s.copyMem (frameAddr c f) (frameAddr c (s.frameOf c p)) 512
      else { s with mem := putBytes s.mem (frameAddr c f) (List.replicate 512 0) }
    some (f, s)

/-- A run reads the words at the physical bytes `p` to `p + n − 1` of a page, at device address `a`: single errors are
corrected; the answer tells of a poisoned word and whether its error was injected (R40, R363). -/
def State.pageEcc (s : State) (p a n master qos : Nat) : State × Option Bool :=
  (List.range ((p % 8 + n + 7) / 8)).foldl (fun (q : State × Option Bool) j =>
    let x := p / 8 + j
    match q.1.integ.flips.lookup x with
    | some 1 => (q.1.readWord x a master qos, q.2)
    | some _ =>
      let s := q.1.unflip x
      ({ s with poison := x :: s.poison.filter (· ≠ x) }, some true)
    | none => if q.1.poison.contains x then (q.1, q.2.orElse fun _ => some (!q.1.integ.worn.contains x)) else q) (s, none)

/-- The page in frame `f` of cluster `c` is marked poisoned: each of its words (R40). -/
def State.poisonFrame (s : State) (c f : Nat) : State :=
  let ws := (List.range 64).map (frameAddr c f / 8 + ·)
  { s with poison := ws ++ s.poison.filter fun w => !ws.contains w
           integ := { s.integ with flips := s.integ.flips.filter fun q => !ws.contains q.1 } }

/-- A committed page is poisoned: on a pair the peer is asked for its committed copy (R40, R347). -/
def State.poisonPage (s : State) (c p : Nat) : State :=
  let s := s.poisonFrame c (s.frameOf c p)
  if s.on PAIR_STAT_LINK && (s.rd PAIR_STAT_ROLE == 1 || s.rd PAIR_STAT_ROLE == 2) then s.tell (.want c [p]) else s

/-- Discards the shadows of a run (R30, R34). -/
def State.dropShadows (s : State) (r : Run) : State :=
  r.shadows.foldl (fun s q => s.freeFrame (q.1 / 3072) q.2) s

/-- The pointer exchange of R33 for one page: the shadow's frame is committed, the former frame returns to the pool. -/
def State.installFrame (s : State) (key f : Nat) : State :=
  let c := key / 3072
  let p := key % 3072
  let old := s.frameOf c p
  (s.setRemap c p f).freeFrame c old

/-! ## Ends of runs -/

/-- The POSTs of a context's completion list, in list order (R100, R124). -/
def State.completionPosts (s : State) (t : Nat) : List PostE :=
  (List.range (bits (s.ctxWord t 10) 16 5)).filterMap fun i =>
    let e := s.rd (DISP_CMPDATA_ENTRY (bits (s.ctxWord t 10) 0 13 + i))
    if bits e 0 12 = 0 then none else some (PostE.post (bits e 0 12) (bits e 16 5))

/-- The steps each entry of a release waits: a POST waits for one step per earlier POST of the release to the same
flag (R101). The completion list counts with the instruction POSTs (DEDUCED, log entry 51). -/
def postDelays (ps : List PostE) : List (Nat × PostE) :=
  ps.zipIdx.map fun q => match q.1 with
    | .post t f => (((ps.take q.2).filter (· == .post t f)).length, q.1)
    | .deliver .. => (0, q.1)

/-- Releases posts to the dispatcher, behind those released before (R101, R130 item 5). -/
def State.release (s : State) (ps : List PostE) : State :=
  { s with disp := { s.disp with posts := s.disp.posts ++ postDelays ps } }

/-- The run of a deadline task has reached DONE or was abandoned (R44). -/
def State.deadlineEnd (s : State) (t : Nat) : State :=
  if s.background t then s else { s with disp := { s.disp with lastEnd := some s.bc } }

/-- Tells the dispatcher that the run of a task has ended (R130 item 3). -/
def State.runEnded (s : State) (t : Nat) (requeue : Bool) : State :=
  { s with disp := { s.disp with endings := s.disp.endings ++ [(t, requeue)] } }

/-- Ends what lasts for the whole run of a task: old epochs are read no more (R36, R183), matched operands are freed (R138). -/
def State.endLife (s : State) (t : Nat) : State :=
  let n := (s.ctx t).operands.length
  let s := s.modCtx t fun c => { c with live := false, oldPages := [], oldBuses := [], operands := [] }
  let s := s.wr DISP_MSUSE_INUSE (s.rd DISP_MSUSE_INUSE - n)
  ((s.ctx t).stops.foldl (fun s q => s.endHandling uCore q.core) s).modCtx t fun c => { c with stops := [] }

/-- The CHECK of a stop code: residue 4, ECC 1, crossbar error 0 (R356, R364). -/
def stopCheck (code : Nat) : Nat := if code = 0x40 then 4 else if code = 0x41 then 1 else 0

/-- Commits a run that reached DONE on core `k` (R33): shadows replace the committed pages, POSTs and
MATCHes are released in issue order, then the completion list; a re-execution writes RECOVERED (R38). -/
def State.commitRun (s : State) (k : Nat) (r : Run) : State :=
  let s := r.shadows.foldl (fun s q => s.installFrame q.1 q.2) s
  let s := (s.donePages r.tid).deadlineEnd r.tid
  let s := s.release (r.posts ++ s.completionPosts r.tid)
  let s := match r.reexec, (s.ctx r.tid).stops.getLast? with
    | true, some q =>
      s.emit { mkRec cRecovered q.check 0x0004 uCore q.core (detT r.tid k q.pc 0) with injected := q.inj, nested := q.nest }
    | _, _ => s
  (s.endLife r.tid).runEnded r.tid false

/-- Abandons a task without a LOST record (R126): its fallback and its completion list. -/
def State.missTask (s : State) (t : Nat) : State :=
  (((s.missPages t).deadlineEnd t).release (s.completionPosts t)).endLife t

/-- Abandons a task (R41): fallback, completion list, LOST record with a cause; that of a miss after a fault, or of a
stop, carries the marks of the stop (R40, R371, R373). -/
def State.abandonTask (s : State) (t check cause core pc b30 : Nat) : State :=
  let q := if cause = 0x0020 ∨ 0x40 ≤ b30 then (s.ctx t).stops.getLast? else none
  let r := mkRec cLost check cause uTask t (detT t core pc b30)
  ((s.missTask t).inc (DISP_CNT_COUNT 1) (b2n (!s.background t))).emit
    (match q with | some q => { r with injected := q.inj, nested := q.nest } | none => r)

/-- The power state in effect of cluster `c`: 0 OFF, 1 RETAIN, 2 RUN (R407, R408). -/
def State.power (s : State) (c : Nat) : Nat := tget 1 s.pwr.act c

/-- Core `k` is not, or no longer, blocked in FETCH. -/
def State.unfetch (s : State) (k : Nat) : State :=
  { s with disp := { s.disp with fetchQ := s.disp.fetchQ.filter (· ≠ k), fetchNew := s.disp.fetchNew.filter (· ≠ k) } }

/-- The posted stores of the run in progress go their way without it: DIRECT stores complete, the others are
discarded with its shadows (R30). -/
def Core.dropStores (c : Core) : Core :=
  { c with late := c.late ++ c.stores.filter (·.cls == clDirect), stores := [] }

/-- The same of the run held aside, whose shadows have been discarded (R30, R31). -/
def Core.dropAside (c : Core) : Core :=
  match c.aside with
  | some a => { c with late := c.late ++ a.stores.filter (·.cls == clDirect)
                       aside := some { a with stores := [], run := { a.run with shadows := [] } } }
  | none => c

/-- The core holds no run and no trap request. -/
def Core.free (c : Core) : Core :=
  { c.dropStores.dropAside with
    run := none, loads := [], ending := none, aside := none, urgent := false, lent := none, wantUrgent := none
    wantBreak := false, wantStep := false, delay := none, slot := false, entry := false, stepping := false }

/-- HOLD has effect on core `k` (R77, R78). -/
def State.holding (s : State) (k : Nat) : Bool := s.on (CORECTL_CCTRL_HOLD k) && s.on CORECTL_DBG_EN

/-- The core holds no run: it is in FETCH, HELD where HOLD withholds it, or OFF where its cluster is not in RUN
(R78, R95, R408). -/
def State.coreToFetch (s : State) (k : Nat) : State :=
  let s := (s.modCore k Core.free).unfetch k
  let st := if s.power (clusterOf k) ≠ 2 then stOff else if s.holding k then stHeld else stIdle
  let s := (s.wr (CORECTL_CSTAT_STATE k) st).wr (CORECTL_CSTAT_TID k) 0
  if st = stIdle then { s with disp := { s.disp with fetchNew := s.disp.fetchNew ++ [k] } } else s

/-- Counts a fault stop of task `t` in the frame (R37). -/
def State.countFault (s : State) (t : Nat) : State :=
  s.modCtx t fun c => { c with faults := (s.frame, if c.faults.1 = s.frame then c.faults.2 + 1 else 1) }

/-- What a core stop does to the task of one discarded run (R34, R37, R40). A background task is abandoned as a
deadline task is where R32, R34, R37 or DONE with A = 1 say so: these rules name the case, R27 speaks of the
give-up time (DEDUCED, log entry 51). -/
def State.stopTask (s : State) (k code check pc : Nat) (inj nest : Bool) (r : Run) : State :=
  let s := s.dropShadows r
  let t := r.tid
  let s := (s.modCtx t fun c => { c with stops := c.stops ++ [⟨k, code, check, pc, s.frame, inj, nest⟩] }).countFault t
  if s.rd (DISP_CTXSTAT_STATE t) = cxCancelling then (s.missTask t).runEnded t false
  else if s.hasDirect t ∨ 3 ≤ (s.ctx t).faults.2 then (s.abandonTask t check 0x0025 0xFFFF pc code).runEnded t false
  else s.runEnded t true

/-- SR of a stopped core: the run has ended, so TM is 0; RES is 1 after a residue mismatch (R49, R78, R120). -/
def Core.stopSr (c : Core) (res : Bool) : Core :=
  let sr := ((c.pend.filter (·.reg == 0x3E)).getLast?.map (·.val)).getD (tget 0 c.rf 0x3E)
  { c with rf := tput 0 c.rf 0x3E (BitVec.ofNat 80 (setBit (setBit sr.toNat 10 false) 8 res))
           pend := c.pend.filter (·.reg != 0x3E) }

/-- Stops core `k` under R34 with a code of CFAULT.CAUSE; the check behind an error response is that of the response (R38). `inj` marks an injected fault, which retires
nothing and is not remembered (R141, R373). `pc`: the bundle at which it occurred (R78). -/
def State.stopCoreAt (s : State) (k code : Nat) (inj : Bool) (pc : Nat) : State :=
  let c := s.core k
  let tid := match c.run with | some r => r.tid | none => 0
  let s := (((s.wr (CORECTL_CFAULT_CAUSE k) code).wr (CORECTL_CFAULT_PC k) pc).wr (CORECTL_CFAULT_TID k) tid).wr (CORECTL_CFAULT_VALID k) 1
  let s := if code = 0x40 then s.incSat (CORECTL_CCOUNT_RESID k) 1 else s
  let near := match c.stopFrame with | some m => decide (s.frame - m < 3000) | none => false
  let nest := s.inHandling uCore k
  let due := if (code == 0x40 && near) || code == 0x41 then some code else none
  let due := if nest then some (due.getD 0 + 0x100) else due
  let retire := c.retire.orElse fun _ => if inj then due.map (· + 0x200) else due
  let check := if code = 0x42 then s.integ.err.1 else stopCheck code
  let s := s.setCore k { (c.stopSr (code == 0x40)).free with
    stopFrame := if code = 0x40 && !inj then some s.frame else c.stopFrame
    retire := retire }
  let s := (s.wr (CORECTL_CSTAT_STATE k) stStopped).wr (CORECTL_CSTAT_TID k) 0
  let s := s.beginHandling uCore k
  let s := match c.run with | some r => s.stopTask k code check pc inj nest r | none => s
  match c.aside with
  | some a => if a.dead || !c.urgent then s else s.stopTask k code check pc inj nest a.run
  | none => s

/-- A stop at the bundle at pc. -/
def State.stopCore (s : State) (k code : Nat) (inj : Bool) : State := s.stopCoreAt k code inj (s.core k).pc

end Sys2Proof.Machine
end

