-- ==== Sys2Proof/Machine/Operands.lean ====
section
/-! DEFINITION. Operands of bundles: which write a consumer sees (R65), addresses (R61, R62), the registers a
bundle names (R80 to R92). -/
namespace Sys2Proof.Machine

/-- Register indices of R47. -/
def xD (r : Fin 16) : Nat := r.val
def xA (a : Fin 4) : Nat := 0x10 + a.val
def xAE (a : Fin 4) : Nat := 0x14 + a.val
def xP (p : Fin 8) : Nat := 0x18 + p.val
def xM (p : Fin 8) : Nat := 0x20 + p.val
def xL (p : Fin 8) : Nat := 0x28 + p.val
def xB (p : Fin 8) : Nat := 0x30 + p.val
def xLC (x : Fin 2) : Nat := 0x38 + x.val
def xLS (x : Fin 2) : Nat := 0x3A + x.val
def xLE (x : Fin 2) : Nat := 0x3C + x.val
def xSR : Nat := 0x3E
def xTID : Nat := 0x3F
def xFRM : Nat := 0x40
def xSIX : Nat := 0x41
def xTRA : Nat := 0x42
def xTCS : Nat := 0x43

/-- Width of a register (R47). -/
def regWidth (i : Nat) : Nat :=
  if i < 0x10 then 32 else if i < 0x14 then 80 else if i < 0x18 then 6 else if i < 0x38 then 32
  else if i < 0x3A then 16 else if i < 0x3E then 11 else if i = 0x3F then 12 else 32

/-- The kinds of consumer that R65 tells apart. -/
inductive Cons where
  /-- MAC, MSU, MPY, MIX, MIXA, CLR, ADDS on an accumulator -/
  | accOp
  /-- RND, RNDX, NORM, a MOVE from an accumulator or exponent, STR -/
  | accRead
  /-- every other reader -/
  | plain
  deriving DecidableEq, Repr

/-- The distance of a producer to a consumer (R65; the readings of log entry 13). -/
def distOf : Prod → Cons → Nat
  | .nearLoad, _ => 2
  | .accUnit, .accOp => 1
  | .accUnit, _ => 3
  | .addrMove, _ => 2
  | .loopMove, _ => 2
  | .plain, _ => 1

/-- The write a consumer sees: of those whose distance has elapsed, the one issued last (R65). -/
def Core.see (c : Core) (u : Cons) (r : Nat) : Acc :=
  match (c.pend.filter fun w => w.reg == r && decide (w.at_ + distOf w.prod u ≤ c.bn)).getLast? with
  | some w => w.val
  | none => tget 0 c.rf r

/-- By how much, mod 3, the residue tag that a consumer sees of a register differs from the value it sees (R119): a
write brings its own tag. -/
def Core.tagOff (c : Core) (u : Cons) (r : Nat) : Nat :=
  if c.pend.any fun w => w.reg == r && decide (w.at_ + distOf w.prod u ≤ c.bn) then 0 else tget 0 c.tagErr r % 3

/-- The raw value a plain reader sees. -/
def Core.seeN (c : Core) (r : Nat) : Nat := (c.see .plain r).toNat
/-- A D register as a 32-bit raw value. -/
def Core.d (c : Core) (r : Fin 16) : Nat := c.seeN (xD r) % 2 ^ 32
/-- A D register as a signed raw value (R104). -/
def Core.ds (c : Core) (r : Fin 16) : Int := sx 32 (c.d r)
/-- SR (R49). -/
def Core.sr (c : Core) : Nat := c.seeN xSR
/-- SR.TM. -/
def Core.tm (c : Core) : Bool := bit c.sr 10
/-- SR.RM. -/
def Core.rm (c : Core) : Nat := bits c.sr 11 2
/-- SR.LA bit `x`. -/
def Core.la (c : Core) (x : Fin 2) : Bool := bit c.sr (16 + x.val)

/-- Adds a write, truncated to the register's width, as issued by the bundle in progress; a far load in
flight to the register no longer replaces it (R65). -/
def Core.push (c : Core) (r : Nat) (v : Nat) (p : Prod) : Core :=
  { c with
    pend := c.pend ++ [⟨r, BitVec.ofNat 80 (v % 2 ^ regWidth r), c.bn, p⟩]
    loads := c.loads.map fun l => if l.regs.contains r then { l with spent := r :: l.spent } else l }

/-- Sets a register at once, for every reader: task entry, traps, grants. -/
def Core.force (c : Core) (r v : Nat) : Core :=
  { c with rf := tput 0 c.rf r (BitVec.ofNat 80 (v % 2 ^ regWidth r)), tagErr := tdel c.tagErr r
           pend := c.pend.filter (·.reg ≠ r) }

/-- Puts writes into the register file, in order, each with its own residue tag (R65, R119). -/
def Core.land (c : Core) (l : List Pw) : Core :=
  { c with rf := l.foldl (fun t w => tput 0 t w.reg w.val) c.rf
           tagErr := l.foldl (fun t w => tdel t w.reg) c.tagErr }

/-- Writes every result still outstanding (R70 step 1). -/
def Core.settle (c : Core) : Core := { c.land c.pend with pend := [] }

/-- Counts `n` bundles; writes that every consumer sees by then leave the list, in order (R65). -/
def Core.tick (c : Core) (n : Nat) : Core :=
  { c.land (c.pend.filter fun w => decide (w.at_ + 3 ≤ c.bn + n)) with
    bn := c.bn + n
    pend := c.pend.filter fun w => !decide (w.at_ + 3 ≤ c.bn + n) }

/-! ## Addresses (R61, R62) -/

/-- The address generator of a pointer. -/
def genOf (p : Fin 8) : Nat := p.val / 2

/-- Moves pointer value `pk` by `off` in its buffer: linear, or true modulo (R62). The sum P − B + off of the modulo
is taken exactly, with P − B a signed 32-bit value (DESIGN CHOICE, log entry 13: the spec does not say whether the
sum wraps to 32 bits before the mod). -/
def ptrMove (pk bk lk : Nat) (off : Int) : Nat :=
  if lk = 0 then ux 32 ((pk : Int) + off)
  else ux 32 ((bk : Int) + (sx 32 (ux 32 ((pk : Int) - bk)) + off) % (lk : Int))

/-- The offset an addressing mode adds to form the effective address (R62). -/
def modeOffs : Mode → Int
  | .indexed off => sx 12 off.toNat
  | _ => 0

/-- The effective address (R62). -/
def Core.ea (c : Core) (p : Fin 8) (m : Mode) : Nat :=
  ptrMove (c.seeN (xP p)) (c.seeN (xB p)) (c.seeN (xL p)) (modeOffs m)

/-- The updated pointer after an access of `size` bytes; none where the mode does not update (R62). -/
def Core.nextPtr (c : Core) (p : Fin 8) (m : Mode) (size : Nat) : Option Nat :=
  match m with
  | .postInc => some (ptrMove (c.seeN (xP p)) (c.seeN (xB p)) (c.seeN (xL p)) size)
  | .postMod => some (ptrMove (c.seeN (xP p)) (c.seeN (xB p)) (c.seeN (xL p)) (sx 32 (c.seeN (xM p))))
  | _ => none

/-! ## What a bundle names -/

/-- Accumulator a unit operation names, and whether it may be fused (R84). -/
def UnitOp.acc : UnitOp → Option (Fin 4)
  | .nop => none
  | .mac a _ _ | .msu a _ _ | .mpy a _ _ | .mix a _ _ => some a
  | .mixa a _ => some a
  | .clr a => some a
  | .adds a _ => some a
  | .rnd _ a | .rndx _ a | .norm _ a => some a

def UnitOp.fusable : UnitOp → Bool
  | .mac .. | .msu .. | .mix .. | .adds .. => true
  | _ => false

/-- D registers a unit operation reads. -/
def UnitOp.reads : UnitOp → List (Fin 16)
  | .mac _ x y | .msu _ x y | .mpy _ x y | .mix _ x y => [x, y]
  | .mixa _ g => [g]
  | .adds _ x => [x]
  | _ => []

/-- D registers a unit operation writes. -/
def UnitOp.dests : UnitOp → List (Fin 16)
  | .rnd d _ => [d]
  | .rndx d _ => [d, d + 1]
  | .norm d _ => [d]
  | _ => []

/-- A register of a pair is even (R80). -/
def even (r : Fin 16) : Bool := r.val % 2 == 0

def UnitOp.pairOk : UnitOp → Bool
  | .rndx d _ => even d
  | _ => true

def MemOp.ptr : MemOp → Option (Fin 8 × Mode)
  | .none => Option.none
  | .ld32 p m _ | .ld64 p m _ | .st32 p m _ | .st64 p m _ => some (p, m)
  | .str p m _ => some (p, m)

def MemOp.size : MemOp → Nat
  | .ld64 .. | .st64 .. => 8
  | _ => 4

def MemOp.store : MemOp → Bool
  | .st32 .. | .st64 .. | .str .. => true
  | _ => false

/-- D registers a memory operation loads. -/
def MemOp.dests : MemOp → List (Fin 16)
  | .ld32 _ _ r => [r]
  | .ld64 _ _ r => [r, r + 1]
  | _ => []

/-- D registers a memory operation stores. -/
def MemOp.reads : MemOp → List (Fin 16)
  | .st32 _ _ r => [r]
  | .st64 _ _ r => [r, r + 1]
  | _ => []

def MemOp.pairOk : MemOp → Bool
  | .ld64 _ _ r | .st64 _ _ r => even r
  | _ => true

/-- The mode may stand in an ARITH slot: indexed may not (R81). -/
def MemOp.slotMode : MemOp → Bool
  | m => match m.ptr with
    | some (_, .indexed _) => false
    | _ => true

/-- No element of one list is in the other. -/
def disjoint (a b : List (Fin 16)) : Bool := a.all fun x => !b.contains x

/-- The encoding of an ARITH bundle is not reserved (R80, R84, R85). -/
def arithOk (u0 u1 : UnitOp) (m0 m1 : MemOp) : Bool :=
  (match u0.acc, u1.acc with
    | some a, some b => a ≠ b || (u0.fusable && u1.fusable)
    | _, _ => true)
  && u0.pairOk && u1.pairOk && m0.pairOk && m1.pairOk && m0.slotMode && m1.slotMode
  && !(m0.store && m1.store)
  && disjoint u0.dests u1.dests && disjoint (u0.dests ++ u1.dests) (m0.dests ++ m1.dests)
  && disjoint m0.dests m1.dests && disjoint (m0.reads ++ m1.reads) (u0.dests ++ u1.dests)
  && disjoint m0.reads m1.dests && disjoint m1.reads m0.dests

/-- An accumulator as a register index of a MOVE. -/
def isAccIdx (i : Fin 68) : Bool := 0x10 ≤ i.val && i.val < 0x14

/-- The encoding of a MOVE bundle is not reserved (R86, R87). -/
def moveOk : MoveOp → Bool
  | .mov d s => !isAccIdx d && !isAccIdx s
  | .ldi d _ => !isAccIdx d
  | .mem m => m ≠ .none && m.pairOk
  | _ => true

/-- The encoding of a CTRL bundle at index `pc` is not reserved (R92). -/
def ctrlOk (pc : Nat) : CtrlOp → Bool
  | .loop _ _ last => decide (pc + 1 ≤ last.toNat)
  | _ => true

/-- D registers a second source reads. -/
def Src.reads : Src → List (Fin 16)
  | .reg r => [r]
  | .imm _ => []

def Sel.reads : Sel → List (Fin 16)
  | .reg r => [r]
  | .imm _ => []

def MoveOp.reads : MoveOp → List (Fin 16)
  | .mov _ s => if h : s.val < 16 then [⟨s.val, h⟩] else []
  | .mvla _ d _ => [d]
  | .alu _ _ a b => a :: b.reads
  | .abs _ a | .neg _ a | .normd _ a => [a]
  | .exp d a => [d, a]
  | .cmp a b | .tst a b => a :: b.reads
  | .mem m => m.reads
  | .gld _ _ ds | .xfade _ _ ds => [ds]
  | .bscl _ ds => [ds]
  | _ => []

def CtrlOp.reads : CtrlOp → List (Fin 16)
  | .brr _ r => [r]
  | .loop _ c _ => c.reads
  | .post t _ => t.reads
  | .matchOp t _ v => v :: t.reads
  | _ => []

/-- D registers a bundle reads; a bundle that reads a locked register waits (R53). -/
def Bundle.reads : Bundle → List (Fin 16)
  | .arith u0 u1 m0 m1 => u0.reads ++ u1.reads ++ m0.reads ++ m1.reads
  | .move op => op.reads
  | .ctrl op => op.reads

/-- A register is locked by a far load in flight (R53). -/
def Core.locked (c : Core) (r : Nat) : Bool := c.loads.any fun l => l.regs.contains r

/-- A branch, RETT, DONE or FETCH (R66, R67). -/
def Bundle.jumps : Bundle → Bool
  | .ctrl (.br ..) | .ctrl (.brr ..) | .ctrl (.jl ..) | .ctrl .rett | .ctrl (.done _) | .ctrl .fetch => true
  | _ => false

/-- The register a MOV or LDI writes. -/
def Bundle.moveDst : Bundle → Option Nat
  | .move (.mov d _) => some d.val
  | .move (.ldi d _) => some d.val
  | _ => none

/-- The condition holds of SR (R91). -/
def condHolds (sr : Nat) : Cond → Bool
  | .al => true
  | .eq => bit sr 5
  | .ne => !bit sr 5
  | .mi => bit sr 6
  | .pl => !bit sr 6
  | .cs => bit sr 7
  | .cc => !bit sr 7
  | .le => bit sr 5 || bit sr 6
  | .gt => !bit sr 5 && !bit sr 6
  | .av => bits sr 0 4 != 0
  | .sv => bit sr 4

/-- The value of a second source. -/
def Core.src (c : Core) : Src → Nat
  | .reg r => c.d r
  | .imm v => v.toNat

/-- The value of a count or target. -/
def Core.sel (c : Core) : Sel → Nat
  | .reg r => c.d r
  | .imm v => v.toNat

end Sys2Proof.Machine
end

