-- ==== Sys2Proof/Machine/Flags.lean ====
section
/-! DEFINITION. SR and what operations compute: flags (R49, R87), unit operations (R82, R84), D-register operations (R87). -/
namespace Sys2Proof.Machine

/-- The bits of SR a program writes (R49): AV, SV, Z, N, C, PE, RM. -/
def srRwMask : Nat := 0x1AFF

/-- SR after a MOVE of `v`: only its RW fields change (R49, R87). -/
def srMove (sr v : Nat) : Nat := (v &&& srRwMask) ||| (sr &&& (0xFFFFFFFF - srRwMask))

/-- The Z, N and C of CMP (R87). -/
def cmpFlags (sr a b : Nat) : Nat :=
  setBit (setBit (setBit sr 5 (a == b)) 6 (decide (sx 32 a < sx 32 b))) 7 (decide (a < b))

/-- The Z and N of TST (R87). -/
def tstFlags (sr a b : Nat) : Nat := setBit (setBit sr 5 ((a &&& b) == 0)) 6 (bit (a &&& b) 31)

/-- A D-register operation of R87 on 32-bit raw values. -/
def aluEval (op : AluOp) (a b : Nat) : Nat :=
  let n := b % 64
  match op with
  | .add => (a + b) % 2 ^ 32
  | .sub => (a + 2 ^ 32 - b) % 2 ^ 32
  | .and => a &&& b
  | .or => a ||| b
  | .xor => a ^^^ b
  | .shl => if 32 ≤ n then 0 else a * 2 ^ n % 2 ^ 32
  | .shra => ux 32 (shr (sx 32 a) (min n 31))
  | .shrl => if 32 ≤ n then 0 else a / 2 ^ n
  | .min => if sx 32 a ≤ sx 32 b then a else b
  | .max => if sx 32 a ≤ sx 32 b then b else a

/-- abs with its saturating case (R87): the value and whether SV is set. -/
def absEval (a : Nat) : Nat × Bool :=
  if a = 0x80000000 then (0x7FFFFFFF, true) else (ux 32 (Int.natAbs (sx 32 a)), false)

/-- Negation with its saturating case (R87). -/
def negEval (a : Nat) : Nat × Bool :=
  if a = 0x80000000 then (0x7FFFFFFF, true) else (ux 32 (-(sx 32 a)), false)

/-- What a unit operation leaves: register writes in order and SR. -/
structure UnitRes where
  writes : List (Nat × Nat × Prod)
  sr : Nat
  /-- the accumulator written, for a fused second operation (R84) -/
  acc : Option (Nat × Int × Nat)
  /-- residue stages reached (R119 rows from 0, R372) -/
  stages : List Nat
  deriving DecidableEq, Repr

/-- An accumulator as a unit operation reads it: the first unit's result when fused (R84). -/
def Core.accIn (c : Core) (k : Fin 4) (prev : Option (Nat × Int × Nat)) : Int × Nat :=
  match prev with
  | some (j, a, ae) => if j = k.val then (a, ae) else (sx 80 (c.see .accOp (xA k)).toNat, (c.see .accOp (xAE k)).toNat)
  | none => (sx 80 (c.see .accOp (xA k)).toNat, (c.see .accOp (xAE k)).toNat)

/-- A raw accumulator and exponent as the readers of R65 see them. -/
def Core.accOut (c : Core) (k : Fin 4) : Int × Nat := (sx 80 (c.see .accRead (xA k)).toNat, (c.see .accRead (xAE k)).toNat)

/-- The result of an operation that writes Ak, with AEk where it changes. -/
def accRes (k : Fin 4) (sr : Nat) (r : AccRes) (wae : Bool) (p : Prod) (stages : List Nat) : UnitRes :=
  { writes := (xA k, ux 80 r.a, p) :: (if wae then [(xAE k, r.ae, p)] else [])
    sr := if r.av then setBit sr k.val true else sr
    acc := some (k.val, r.a, r.ae)
    stages := stages ++ (if r.av then [5] else []) }

/-- A shift by `n` reaches the shift stage unless `n` is 0 (R372). -/
def shiftStage (n : Nat) : List Nat := if n = 0 then [] else [2]

/-- The stages that round_q131 reaches: shift, rounding increment, clamp (R119, R372). -/
def roundStages (a : Int) (ae rm : Nat) : List Nat :=
  shiftStage (32 - ae) ++ (if ae < 32 && shr a (32 - ae) ≠ roundRaw a ae rm then [4] else [])
    ++ (if (roundQ131 a ae rm).2 then [5] else [])

/-- Evaluates a unit operation (R82, R107 to R114). -/
def unitEval (c : Core) (sr : Nat) (prev : Option (Nat × Int × Nat)) : UnitOp → UnitRes
  | .nop => ⟨[], sr, none, []⟩
  | .mac k x y =>
    let (a, ae) := c.accIn k prev
    accRes k sr (sat80 (a + shr (alignMul (c.ds x) (c.ds y)) ae) ae) false .accUnit ([0, 1] ++ shiftStage ae ++ [3])
  | .msu k x y =>
    let (a, ae) := c.accIn k prev
    accRes k sr (sat80 (a - shr (alignMul (c.ds x) (c.ds y)) ae) ae) false .accUnit ([0, 1] ++ shiftStage ae ++ [3])
  | .mpy k x y => accRes k sr ⟨alignMul (c.ds x) (c.ds y), 0, false⟩ true .accUnit [0, 1, 7]
  | .mix k x y =>
    let (a, ae) := c.accIn k prev
    let r := rescueAdd a ae (alignMul (c.ds x) (c.ds y))
    accRes k sr r (r.ae ≠ ae) .accUnit ([0, 1] ++ shiftStage r.ae ++ [3])
  | .mixa k g =>
    let (a, ae) := c.accIn k prev
    accRes k sr (sat80 (scaleAcc a (c.ds g)) ae) false .accUnit [6, 2]
  | .clr k => accRes k sr ⟨0, 0, false⟩ true .plain [7]
  | .adds k x =>
    let (a, ae) := c.accIn k prev
    accRes k sr (sat80 (a + shr (c.ds x * (2 ^ 32 : Nat)) ae) ae) false .accUnit (shiftStage ae ++ [3])
  | .rnd d k =>
    let (a, ae) := c.accOut k
    let (q, sv) := roundQ131 a ae c.rm
    ⟨[(xD d, ux 32 q, .plain)], if sv then setBit sr 4 true else sr, none, roundStages a ae c.rm⟩
  | .rndx d k =>
    let (a, ae) := c.accOut k
    let (m, e) := exportAcc a ae c.rm
    ⟨[(xD d, ux 32 m, .plain), (xD d + 1, ux 32 e, .plain)], sr, none,
      (if a = 0 then [] else [2]) ++ (if a ≠ 0 && shr (a * (2 ^ normR a : Nat)) 48 ≠ m then [4] else [])⟩
  | .norm d k =>
    let (a, ae) := c.accOut k
    ⟨[(xD d, ux 32 (normShift a ae), .plain)], sr, none, if a = 0 then [] else shiftStage (normR a)⟩

/-- How far the tag of a product is off, mod 3, where the tags of its factors `x` and `y` are off by `ex` and `ey` (R119). -/
def prodOff (x y : Int) (ex ey : Nat) : Int := ((x + ex) * (y + ey) - x * y) % 3

/-- How far the tag of Ak is off as a unit operation reads it; the first unit's result carries a good tag. -/
def Core.accOff (c : Core) (k : Fin 4) (prev : Option (Nat × Int × Nat)) : Nat :=
  match prev with
  | some (j, _) => if j = k.val then 0 else c.tagOff .accOp (xA k)
  | none => c.tagOff .accOp (xA k)

/-- The prediction of a rounded store or result from the tag of Ak is wrong: the clamp's residue is that of the limit,
and a shift by 0 before it compares nothing (R119; the reading of log entry 13). -/
def Core.roundOff (c : Core) (k : Fin 4) : Bool :=
  let (a, ae) := c.accOut k
  c.tagOff .accRead (xA k) != 0 && (decide (ae < 32) || !(roundQ131 a ae c.rm).2)

/-- The residue predicted from the tags of its operands differs from that of a result of a unit operation at some
stage (R119, R120). NORM predicts its shift from the tag of Ak (log entry 13). -/
def UnitOp.mismatch (c : Core) (prev : Option (Nat × Int × Nat)) (op : UnitOp) : Bool :=
  let td := fun r => c.tagOff .plain (xD r)
  let mul := fun (x y : Fin 16) => prodOff (c.ds x) (c.ds y) (td x) (td y) != 0
  match op with
  | .nop | .clr _ => false
  | .mac k x y | .msu k x y | .mix k x y => mul x y || c.accOff k prev != 0
  | .mpy _ x y => mul x y
  | .mixa k g => prodOff (c.accIn k prev).1 (c.ds g) (c.accOff k prev) (td g) != 0
  | .adds k x => (td x + c.accOff k prev) % 3 != 0 || (td x != 0 && (c.accIn k prev).2 != 0)
  | .rnd _ k => c.roundOff k
  | .rndx _ k | .norm _ k => c.tagOff .accRead (xA k) != 0

/-- The same of a store (R119): STR is a rounded result, a store of D registers checks their tags. -/
def MemOp.mismatch (c : Core) : MemOp → Bool
  | .str _ _ a => c.roundOff a
  | m => m.reads.any fun r => c.tagOff .plain (xD r) != 0

end Sys2Proof.Machine
end

