-- ==== Sys2Proof/Machine/Mallet.lean ====
section
/-! DEFINITION. One bundle on one core: faults and traps (R66 to R75), memory access (R51 to R56), control (R90 to R101). -/
namespace Sys2Proof.Machine

/-- Device address of byte `a` of the operand memory of core `k` (R146). -/
def opAddr (k a : Nat) : Nat := 0x04000000 + k * 0x40000 + a

/-! ## Traps (R68 to R75) -/

/-- Vector bundle of a cause (R68). -/
def vectorOf (cause : Nat) : Nat :=
  if cause = 0x10 then 4 else if cause = 0x20 ∨ cause = 0x21 then 8 else if cause = 0x30 then 12 else 0

/-- SR at trap entry: LAT takes LA, LA is cleared, TM is set (R70). -/
def srTrap (sr : Nat) : Nat := setBit (setBits (setBits sr 18 2 (bits sr 16 2)) 16 2 0) 10 true

/-- The state of a core that holds a run: HELD until HOLD is released, else TRAP or RUN (R78). -/
def State.runState (s : State) (k : Nat) (tm : Bool) : Nat :=
  if s.rd (CORECTL_CSTAT_STATE k) = stHeld then stHeld else if tm then stTrap else stRun

/-- The task whose transaction map and QoS a core uses: that of an urgent run until RETT (R54, R74). -/
def Core.tid (c : Core) : Nat := match c.lent, c.run with | some q, _ => q.1 | none, some r => r.tid | none, none => 0

/-- The instruction memory from which a core executes: that of an urgent run until RETT (R59, R70, R74). -/
def Core.memB (c : Core) : Bool := match c.lent, c.run with | some q, _ => q.2 | none, some r => r.memB | none, none => false

/-- Trap entry (R70): outstanding results are written, TRA and TCS are set, the loops are inactive, and
the core continues at the vector bundle in trap mode. TRA.TGT is 0 where DSV is 0 (log entry 13). A single step
whose bundle traps still asks for its STEP trap (R75, R78). -/
def State.takeTrap (s : State) (k cause code entry pc : Nat) (dsv : Bool) (tgt : Nat) : State :=
  let c := (s.core k).settle
  let c := c.force xTRA (pc % 2048 + 2 ^ 15 * b2n dsv + 2 ^ 16 * (if dsv then tgt % 2048 else 0))
  let c := c.force xTCS (cause + 256 * code + 65536 * entry)
  let c := c.force xSR (srTrap c.sr)
  let s := s.setCore k { c with
    pc := vectorOf cause, delay := none, slot := false
    wantStep := c.wantStep || c.stepping, stepping := false }
  let tid := match c.run with | some r => r.tid | none => 0
  ((((s.wr (CORECTL_CSTAT_STATE k) (s.runState k true)).wr (CORECTL_CFAULT_CAUSE k) cause).wr (CORECTL_CFAULT_PC k) pc).wr
    (CORECTL_CFAULT_TID k) tid).wr (CORECTL_CFAULT_VALID k) 1

/-- Abandons a run with a LOST record (R41): shadows discarded, posts discarded, the dispatcher told. -/
def State.abandonRun (s : State) (k : Nat) (r : Run) (check cause b30 : Nat) : State :=
  ((s.dropShadows r).abandonTask r.tid check cause 0xFFFF (s.core k).pc b30).runEnded r.tid false

/-- Clears SR.TM; results of earlier bundles keep their distances (R65, R72). -/
def Core.leaveTm (c : Core) : Core := c.force xSR (setBit c.settle.sr 10 false)

/-- The urgent run has ended: the preempted run is the core's run again, with its posted stores; its registers, map
and QoS are held aside until RETT, and the urgent run's stay in use, with its instruction memory (R59, R74). -/
def Core.urgentOver (c : Core) : Core :=
  { c.dropStores with
    run := match c.aside with | some a => if a.dead then none else some a.run | none => none
    stores := match c.aside with | some a => a.stores | none => []
    aside := c.aside.map fun a => { a with stores := [] }
    lent := some (c.tid, c.memB)
    urgent := false, loads := [], ending := none }

/-- The urgent run has been abandoned: the core goes on at vector bundle 14 (R74). -/
def Core.urgentDead (c : Core) : Core := { c.settle.urgentOver with pc := 14, delay := none, slot := false }

/-- Abandons the run in progress at once and lets the core go on: at vector bundle 14 where an urgent run
was abandoned (R74), else to FETCH with SR.TM cleared (R73). -/
def State.abandonNow (s : State) (k check cause b30 : Nat) : State :=
  let c := s.core k
  let s := match c.run with
    | some r => s.abandonRun k r check cause b30
    | none => s
  if c.urgent then s.modCore k Core.urgentDead
  else (s.modCore k Core.leaveTm).coreToFetch k

/-- A fault of the bundle at pc (R68, R70, R73, R74): a trap, or the end of the run in trap mode. -/
def State.bundleFault (s : State) (k cause : Nat) : State :=
  let c := s.core k
  if c.settle.tm then s.abandonNow k 0 0x0025 cause
  else s.takeTrap k cause 0 0 c.pc c.slot (c.delay.getD (c.pc + 1))

/-- PC_END: the bundle at 2,047 has completed (R58). -/
def State.pcEnd (s : State) (k : Nat) : State :=
  if (s.core k).settle.tm then s.abandonNow k 0 0x0025 0x04 else s.takeTrap k 0x04 0 0 2047 false 0

/-- A boundary at which an asynchronous trap may be taken (R69). -/
def Core.safePoint (c : Core) : Bool :=
  c.loads.isEmpty && !c.slot && c.ending.isNone &&
  c.pend.all fun w => decide (w.at_ + distOf w.prod .accRead ≤ c.bn) || distOf w.prod .accRead == 1

/-! ## Memory operations of a bundle -/

/-- The fault an access raises (R51, R55, R68, R148): 2 ALIGN, 1 ACCESS. -/
def State.accessFault (s : State) (t ea size : Nat) (store : Bool) : Option Nat :=
  if ea % size ≠ 0 then some 2
  else if ea < 0x10000 then none
  else match s.translate t ea with
    | none => some 1
    | some (cls, dev) =>
      if store && (cls == clInput || cls == clParam) then some 1
      else if cls == clInput && !s.inputOk dev then some 1
      else if (cls == clState || cls == clOutput) && (s.sramPage dev).isNone then some 1
      else none

def State.memFault (s : State) (c : Core) (t : Nat) (m : MemOp) : Option Nat :=
  match m.ptr with
  | none => none
  | some (p, mode) => s.accessFault t (c.ea p mode) m.size m.store

/-- A near read of 64-bit words by core `k`: an injected single error is corrected with its record; the state,
whether a word is uncorrectable, and whether that error was injected (R56, R363, R372). -/
def State.nearRead (s : State) (k a n : Nat) : State × Bool × Bool :=
  (List.range ((a % 8 + n + 7) / 8)).foldl (fun (q : State × Bool × Bool) i =>
    let s := q.1
    let w := a / 8 + i
    match s.integ.flips.lookup w with
    | some 1 => (s.readWord w (w * 8) (clusterOf k) 0, q.2)
    | some _ => (s.unflip w, true, true)
    | none => (s, q.2.1 || s.poison.contains w, q.2.2 || (s.poison.contains w && !s.integ.worn.contains w))) (s, false, false)

/-- Device address of the bundle at pc in the instruction memory of the run (R58, R146). -/
def Core.bundleAddr (c : Core) (k : Nat) : Nat :=
  0x04020000 + k * 0x40000 + b2n c.memB * 0x4000 + c.pc * 8

/-- The ECC checks of a bundle's near reads (R56); a misaligned access reads nothing. -/
def State.nearEcc (s : State) (k : Nat) (c : Core) (ms : List MemOp) : State × Bool × Bool :=
  ms.foldl (fun q m => match m.ptr with
    | none => q
    | some (p, mode) =>
      if !m.store && c.ea p mode < 0x10000 && c.ea p mode % m.size == 0 then
        let (s, bad, inj) := q.1.nearRead k (opAddr k (c.ea p mode)) m.size
        (s, q.2.1 || bad, q.2.2 || inj)
      else q) (s, false, false)

/-- The value a store writes (R83), and SR. -/
def storeValue (c : Core) (sr : Nat) : MemOp → Nat × Nat
  | .st32 _ _ r => (c.d r, sr)
  | .st64 _ _ r => (c.d r + 2 ^ 32 * c.d (r + 1), sr)
  | .str _ _ a =>
    let (x, ae) := c.accOut a
    let (q, sv) := roundQ131 x ae c.rm
    (ux 32 q, if sv then setBit sr 4 true else sr)
  | _ => (0, sr)

/-- What a load in slot `i` does to the core: a near load writes its registers, a far load locks them (R53, R65). -/
def State.loadOp (s : State) (k t i : Nat) (c : Core) (m : MemOp) : Core :=
  match m.ptr with
  | none => c
  | some (p, mode) =>
    if m.store then c else
    let ea := (s.core k).ea p mode
    if ea < 0x10000 then
      m.dests.zipIdx.foldl (fun c (r, i) => c.push (xD r) (s.ld (opAddr k (ea + 4 * i)) 4) .nearLoad) c
    else match s.translate t ea with
      | none => c
      | some (cls, dev) => { c with loads := c.loads ++ [⟨t, m.dests.map xD, c.bn, .mem cls dev m.size, [], c.pc, s.issued + i⟩] }

/-- A run reads a poisoned word, at device address `a`, of a committed page: it is abandoned, not re-executed (R40). -/
def State.poisonRun (s : State) (k a : Nat) (inj : Bool) : State :=
  let c := s.core k
  let s := match c.run with
    | none => s
    | some r =>
      let s := (((s.dropShadows r).missTask r.tid).inc (DISP_CNT_COUNT 1) (b2n (!s.background r.tid)))
      (s.emit { mkRec cLost 1 0x0026 uTask r.tid (detA a (clusterOf k) (s.ctxF r.tid 27 4)) with injected := inj }).runEnded r.tid false
  if c.urgent then s.modCore k Core.urgentDead
  else (s.modCore k Core.leaveTm).coreToFetch k

/-- Why a store ends its run: the shadow pool is empty (R32), or the page to copy holds a poisoned word, at device
address `a` (R40). -/
inductive StoreEnd where
  | full
  | poisoned (a : Nat) (inj : Bool)

/-- The run on core `k` ends by its store. -/
def State.storeEnds (s : State) (k : Nat) : StoreEnd → State
  | .full => s.abandonNow k 0 0x0021 0
  | .poisoned a inj => s.poisonRun k a inj

/-- Checks of the words of page `pg` of cluster `cl` before a run of task `t` copies it (R31, R363): the state, and the
first poisoned word. -/
def State.copyEcc (s : State) (k t cl pg : Nat) : State × Option (Nat × Bool) :=
  (List.range 64).foldl (fun (q : State × Option (Nat × Bool)) i =>
    let a := 0x01000000 + cl * 0x180000 + pg * 512 + 8 * i
    let (s, bad) := q.1.pageEcc (frameAddr cl (q.1.frameOf cl pg) + 8 * i) a 8 (clusterOf k) (s.ctxF t 27 4)
    (s, q.2.orElse fun _ => bad.map fun inj => (a, inj))) (s, none)

/-- What a store does (R30, R31, R53, R56): near memory is written; a far store is posted, and the first
store to a STATE or OUTPUT page takes a shadow, unless the pool is empty (R32) or the page to copy is poisoned (R40). -/
def State.storeOp (s : State) (k t i : Nat) (c : Core) (m : MemOp) : State × Option StoreEnd :=
  match m.ptr with
  | none => (s, none)
  | some (p, mode) =>
    if !m.store then (s, none) else
    let ea := c.ea p mode
    let v := (storeValue c 0 m).1
    if ea < 0x10000 then (s.st (opAddr k ea) m.size v, none)
    else match s.translate t ea with
      | none => (s, none)
      | some (cls, dev) =>
        let post := fun (s : State) => s.modCore k fun q => { q with stores := q.stores ++ [⟨t, cls, dev, m.size, v, c.pc, s.issued + i⟩] }
        if cls = clState ∨ cls = clOutput then
          match s.sramPage dev, (s.core k).run with
          | some (cl, pg), some r =>
            if (r.shadows.lookup (pageKey cl pg)).isSome then (post s, none)
            else match (if cls = clState then s.copyEcc k t cl pg else (s, none)) with
              | (s, some (a, inj)) => (s.poisonPage cl pg, some (.poisoned a inj))
              | (s, none) =>
                match s.newShadow cl pg cls with
                | none => (s, some .full)
                | some (f, s) => (post (s.modCore k fun c => { c with run := some { r with shadows := (pageKey cl pg, f) :: r.shadows } }), none)
          | _, _ => (s, none)
        else (post s, none)

/-- The post-modify of a memory operation (R62, R65). -/
def postModify (c0 c : Core) (m : MemOp) : Core :=
  match m.ptr with
  | none => c
  | some (p, mode) =>
    match c0.nextPtr p mode m.size with
    | some v => c.push (xP p) v .plain
    | none => c

/-! ## The end of a bundle -/

/-- The loop-end decisions of the bundle at pc (R67, R94): the core and the next bundle. `v` is the core as
the bundle saw it. Where the bundle at LEx itself moves a value to LCx, the decrement of the count it saw stands
over the move (DESIGN CHOICE, log entry 13: the spec does not say which write is the later). -/
def loopEnd (v c : Core) : Core × Nat :=
  let pc := v.pc
  let atEnd := fun (x : Fin 2) => v.la x && v.seeN (xLE x) == pc
  let dec := fun (c : Core) (x : Fin 2) =>
    let n := (v.seeN (xLC x) + 65535) % 65536
    let c := c.push (xLC x) n .plain
    if n = 0 then (c.push xSR (setBit c.settle.sr (16 + x.val) false) .plain, none) else (c, some (v.seeN (xLS x)))
  let one := fun (c : Core) =>
    if atEnd 1 then
      match dec c 1 with
      | (c, some t) => (c, t)
      | (c, none) => (c, pc + 1)
    else (c, pc + 1)
  if atEnd 0 then
    match dec c 0 with
    | (c, some t) => (c, t)
    | (c, none) => one c
  else one c

/-- The next bundle after one that is no branch: the pending target, or what the loops decide. -/
def nextOf (v c : Core) : Core × Nat :=
  match v.delay with
  | some t => (c, t)
  | none => loopEnd v c

/-- A request for an URGENT trap goes when the running bundle has cleared SR.PE (R75). -/
def State.urgentArmed (s : State) (k : Nat) : State :=
  let c := s.core k
  if c.wantUrgent.isSome && !bit c.sr 9 then
    { s with disp := { s.disp with reserved := s.disp.reserved.filter (·.2 ≠ k) } }.setCore k { c with wantUrgent := none }
  else s

/-- Completes a bundle that counts `n` (R92): the core goes on at bundle `pc`. Each bundle has two places in the
order in which far accesses are issued. -/
def State.finish (s : State) (k : Nat) (c : Core) (pc n : Nat) (delay : Option Nat) (slot : Bool) : State :=
  let c := { c with pc := if pc = 2048 then 2047 else pc, delay := delay, slot := slot, entry := c.entry && c.tm
                    wantStep := c.wantStep || c.stepping, stepping := false }
  let s := ({ s with issued := s.issued + 2 }.setCore k (c.tick n)).inc (CORECTL_CBUNDLES_COUNT k) 1
  let s := s.urgentArmed k
  if pc = 2048 then s.pcEnd k else s

/-- Completes a bundle that does not redirect the core. -/
def State.finishSeq (s : State) (k : Nat) (v c : Core) (n : Nat) : State :=
  let (c, pc) := nextOf v c
  s.finish k c pc n none false

/-- SR written by the bundle, where it changes. -/
def pushSr (v c : Core) (sr : Nat) : Core := if sr = v.sr then c else c.push xSR sr .plain

/-! ## ARITH bundles -/

/-- An armed injection of CHECK 4 on core `k` meets a stage the bundle reaches (R372). -/
def State.injResidue (s : State) (k : Nat) (stages : List Nat) : Bool :=
  match s.integ.inj with
  | some j => j.check == 4 && j.uinst == k && stages.contains (j.arg % 8)
  | none => false

/-- The stages a STR reaches (R119, R372). -/
def memStages (c : Core) : MemOp → List Nat
  | .str _ _ a => roundStages (c.accOut a).1 (c.accOut a).2 c.rm
  | _ => []

/-- The unit operations of a bundle. -/
def Bundle.units : Bundle → UnitOp × UnitOp
  | .arith u0 u1 _ _ => (u0, u1)
  | _ => (.nop, .nop)

/-- The memory operations of a bundle. -/
def Bundle.mems : Bundle → List MemOp
  | .arith _ _ m0 m1 => [m0, m1]
  | .move (.mem m) => [m]
  | _ => []

/-- The stages of residue checking that a bundle reaches (R372). -/
def Bundle.stages (c : Core) (b : Bundle) : List Nat :=
  let r0 := unitEval c c.sr none b.units.1
  r0.stages ++ (unitEval c r0.sr r0.acc b.units.2).stages ++ b.mems.flatMap (memStages c)

/-- A residue tag that some operation of the bundle uses gives a wrong prediction (R119, R120). -/
def Bundle.mismatch (c : Core) (b : Bundle) : Bool :=
  let r0 := unitEval c c.sr none b.units.1
  b.units.1.mismatch c none || b.units.2.mismatch c r0.acc || b.mems.any (·.mismatch c)

/-- An ARITH bundle whose encoding and residues are sound: both units, then the slots, then the stores (R56, R81 to R85). -/
def State.runArith (s : State) (k t : Nat) (u0 u1 : UnitOp) (m0 m1 : MemOp) : State :=
  let v := s.core k
  let r0 := unitEval v v.sr none u0
  let r1 := unitEval v r0.sr r0.acc u1
  let sr := (storeValue v (storeValue v r1.sr m0).2 m1).2
  let c := (r0.writes ++ r1.writes).foldl (fun c w => c.push w.1 w.2.1 w.2.2) v
  let c := postModify v (postModify v (s.loadOp k t 1 (s.loadOp k t 0 c m0) m1) m0) m1
  let c := pushSr v c sr
  match (s.setCore k c).storeOp k t 0 v m0 with
  | (s1, some e) => s1.storeEnds k e
  | (s1, none) =>
    match s1.storeOp k t 1 v m1 with
    | (s2, some e) => s2.storeEnds k e
    | (s2, none) => s2.finishSeq k v (s2.core k) 1

/-! ## MOVE bundles -/

/-- Producer kind of a MOVE into a register (R65). -/
def moveProd (r : Nat) : Prod :=
  if 0x18 ≤ r ∧ r < 0x38 then .addrMove else if 0x38 ≤ r ∧ r < 0x3E then .loopMove else .plain

/-- The bits of a register that a MOVE writes: the reserved bits of TRA and TCS stay 0 (R50). -/
def moveMask (r : Nat) : Nat := if r = xTRA then 0x07FF87FF else if r = xTCS then 0x07FFFFFF else 0xFFFFFFFF

/-- Writes a register by MOV or LDI (R50, R87, R88). -/
def moveTo (v c : Core) (r x : Nat) : Core :=
  if r = xSR then c.push r (srMove v.sr x) .plain else c.push r (x &&& moveMask r) (moveProd r)

/-- A far read of R89 with its address; ACCESS where the address is not of class PARAM. -/
def State.paramRead (s : State) (k t : Nat) (v : Core) (d : Fin 16) (a : Nat) (mk : Nat → FarWhat) : State :=
  match (if a < 0x10000 then none else s.translate t a) with
  | some (cls, dev) =>
    if cls = clParam then s.finishSeq k v { v with loads := v.loads ++ [⟨t, [xD d], v.bn, mk dev, [], v.pc, s.issued⟩] } 1
    else s.bundleFault k 1
  | none => s.bundleFault k 1

/-- The sample index SIX + s of a parameter read (R89). -/
def State.paramIx (s : State) (v : Core) (x : Nat) : Nat := (v.seeN xSIX + x % s.fs) % 2 ^ 32

/-- A MOVE bundle whose encoding is sound (R86 to R89). -/
def State.runMove (s : State) (k t : Nat) (op : MoveOp) : State :=
  let v := s.core k
  match op with
  | .nop => s.finishSeq k v v 1
  | .mov d src =>
    let x := if 0x14 ≤ src.val ∧ src.val < 0x18 then (v.see .accRead src.val).toNat else v.seeN src.val
    s.finishSeq k v (moveTo v v d.val x) 1
  | .ldi d imm => s.finishSeq k v (moveTo v v d.val imm.toNat) 1
  | .mval d a part =>
    let x := (v.see .accRead (xA a)).toNat
    s.finishSeq k v (v.push (xD d) (if part.val = 0 then x else if part.val = 1 then x / 2 ^ 32 else ux 32 (sx 16 (x / 2 ^ 64))) .plain) 1
  | .mvla a d part =>
    let x := (v.see .accRead (xA a)).toNat
    s.finishSeq k v (v.push (xA a) (if part.val = 0 then setBits x 0 32 (v.d d) else if part.val = 1 then setBits x 32 32 (v.d d)
      else setBits x 64 16 (v.d d)) .plain) 1
  | .alu op d a b => s.finishSeq k v (v.push (xD d) (aluEval op (v.d a) (v.src b)) .plain) 1
  | .abs d a =>
    let r := absEval (v.d a)
    s.finishSeq k v (pushSr v (v.push (xD d) r.1 .plain) (if r.2 then setBit v.sr 4 true else v.sr)) 1
  | .neg d a =>
    let r := negEval (v.d a)
    s.finishSeq k v (pushSr v (v.push (xD d) r.1 .plain) (if r.2 then setBit v.sr 4 true else v.sr)) 1
  | .cmp a b => s.finishSeq k v (pushSr v v (cmpFlags v.sr (v.d a) (v.src b))) 1
  | .tst a b => s.finishSeq k v (pushSr v v (tstFlags v.sr (v.d a) (v.src b))) 1
  | .normd d a => s.finishSeq k v (v.push (xD d) (normD (v.ds a)) .plain) 1
  | .exp d a => s.finishSeq k v (v.push (xD d) (aluEval .min (v.d d) (normD (v.ds a))) .plain) 1
  | .mem m => s.runArith k t .nop .nop m .none
  | .gld d p ds => s.paramRead k t v d (v.seeN (xP p)) fun a => .gld a (s.paramIx v (bits (v.d ds) 0 5))
  | .xfade d p ds => s.paramRead k t v d (v.seeN (xP p)) fun a => .xfade a (s.paramIx v (bits (v.d ds) 0 5))
  | .bscl d ds => s.finishSeq k v
      { v with loads := v.loads ++ [⟨t, [xD d], v.bn, .bscl (bits (v.d ds) 0 9) (s.paramIx v (bits (v.d ds) 16 5)), [], v.pc, s.issued⟩] } 1

/-! ## CTRL bundles -/

/-- A branch, taken or not (R66, R92). -/
def State.runBranch (s : State) (k : Nat) (c : Core) (taken : Bool) (target : Nat) : State :=
  s.finish k c (c.pc + 1) 1 (if taken then some (target % 2048) else none) true

/-- Ends the run in progress by DONE (R96), its posted stores being complete. After an urgent run the core goes on at
the bundle after DONE (R74); past bundle 2,047 that is a PC_END of the preempted run (R58). -/
def State.endRun (s : State) (k : Nat) (e : Ending) : State :=
  let c := s.core k
  let handler := c.tm && !c.urgent
  let s := match c.run, e with
    | none, _ => s
    | some r, .commit => s.commitRun k r
    | some r, .abandon => s.abandonRun k r 0 (if handler then 0x0025 else 0x0022) (if handler then bits (c.seeN xTCS) 0 8 else 0)
  if c.tm && c.urgent then
    if c.pc = 2047 then (s.modCore k Core.urgentOver).pcEnd k
    else s.modCore k fun c => { c.urgentOver with pc := c.pc + 1 }
  else (s.modCore k Core.leaveTm).coreToFetch k

/-- DONE (R33, R96): it waits for every posted far store; far loads in flight are discarded. -/
def State.runDone (s : State) (k : Nat) (e : Ending) : State :=
  let v := s.core k
  let s := s.finish k { v with loads := [] } v.pc 1 none false
  if v.stores.isEmpty then s.endRun k e else s.modCore k fun c => { c with ending := some e }

/-- Records a POST or MATCH in the run's buffer; a full buffer abandons the run (R97 to R99). -/
def State.runPost (s : State) (k : Nat) (target : Nat) (e : Nat → PostE) : State :=
  let v := s.core k
  let t := target % 4096
  match v.run with
  | none => s.finishSeq k v v 1
  | some r =>
    if t = 0 then s.finishSeq k v v 1
    else if 64 ≤ r.posts.length then s.abandonNow k 0 0x0023 0
    else s.finishSeq k v { v with run := some { r with posts := r.posts ++ [e t] } } 1

/-- The save area of R71 as two 64-bit words. -/
def Core.saveArea (c : Core) : Nat × Nat :=
  let la := if c.tm then bits c.sr 18 2 else bits c.sr 16 2
  (c.seeN (xLC 0) + 2 ^ 16 * c.seeN (xLC 1) + 2 ^ 32 * la,
    c.seeN (xLS 0) + 2 ^ 16 * c.seeN (xLE 0) + 2 ^ 32 * c.seeN (xLS 1) + 2 ^ 48 * c.seeN (xLE 1))

/-- The loop registers and SR.LA read back from a save area, visible to every later bundle (R71, R93). -/
def Core.loadArea (c : Core) (w0 w1 : Nat) : Core :=
  let c := ((c.force (xLC 0) (bits w0 0 16)).force (xLC 1) (bits w0 16 16)).force xSR (setBits c.settle.sr 16 2 (bits w0 32 2))
  (((c.force (xLS 0) (bits w1 0 11)).force (xLE 0) (bits w1 16 11)).force (xLS 1) (bits w1 32 11)).force (xLE 1) (bits w1 48 11)

/-- The fault of SAVELP and RSTLP (R93). -/
def areaFault (ea : Nat) : Option Nat := if ea % 8 ≠ 0 then some 2 else if 0xFFF0 < ea then some 1 else none

/-- The entry bundle in the context of the run in progress (R122). -/
def State.entryOf (s : State) (c : Core) : Option Nat := c.run.map fun r => bits (s.ctxWord r.tid 1) 0 11

/-- RETT (R72, R74, R75): leaves trap mode at TRA; after an urgent dispatch the preempted run returns with what was
held aside, or the core is free to FETCH where that run has been abandoned. The bundle of an ENTRY fault is the first
of its grant again where RETT returns to it (R58, R73). -/
def State.runRett (s : State) (k : Nat) : State :=
  let v := s.core k
  let tra := v.seeN xTRA
  let s := match v.urgent, v.run with
    | true, some r => (s.abandonRun k r 0 0x0022 0).modCore k Core.urgentOver
    | _, _ => s
  let c := (s.core k).leaveTm
  let go := fun (c : Core) =>
    ((s.finish k c (bits tra 0 11) 1 (if bit tra 15 then some (bits tra 16 11) else none) (bit tra 15)).modCore k fun q =>
      { q with entry := v.entry && s.entryOf c == some (bits tra 0 11) }).wr (CORECTL_CSTAT_STATE k) (s.runState k false)
  match c.aside with
  | none => go c
  | some a =>
    if a.dead then (s.setCore k c).coreToFetch k
    else ((go { a.regs.foldl (fun c q => c.force q.1 q.2.toNat) c with aside := none, lent := none }).wr
      (CORECTL_CSTAT_TID k) a.run.tid).wr (CORECTL_CSTAT_MEM k) (b2n a.run.memB)

/-- A CTRL bundle whose encoding is sound (R90 to R99). Three points the spec leaves open are settled here (DESIGN
CHOICE, log entry 13): a LOOP x at LEx of an active loop x makes that loop's end decision first, with the state it
saw, and then writes the new loop state, and with a count of 0 skips to the bundle after its own body; a TRAP at bundle
2,047 sets TRA.PC to 0 and raises no PC_END; a TRAP in trap mode enters the trap again and so overwrites TRA, TCS and
SR.LAT. -/
def State.runCtrl (s : State) (k : Nat) (op : CtrlOp) : State :=
  let v := s.core k
  match op with
  | .nop => s.finishSeq k v v 1
  | .br cnd t => s.runBranch k v (condHolds v.sr cnd) t.toNat
  | .brr cnd r => s.runBranch k v (condHolds v.sr cnd) (v.d r)
  | .jl d t => s.runBranch k (v.push (xD d) (v.pc + 2) .plain) true t.toNat
  | .loop x n last =>
    let cnt := v.sel n % 65536
    let (c, nx) := nextOf v v
    let sr := setBit c.settle.sr (16 + x.val) (cnt != 0)
    let c := ((c.push (xLC x) cnt .plain).push (xLS x) (v.pc + 1) .plain).push (xLE x) last.toNat .plain
    let c := c.push xSR sr .plain
    if cnt = 0 ∧ v.delay = none then s.finish k c (last.toNat + 1) 1 none false else s.finish k c nx 1 none false
  | .fetch => if v.tm then s.bundleFault k 3 else s.runDone k .commit
  | .done a => s.runDone k (if a then .abandon else .commit)
  | .post t f => s.runPost k (v.sel t) fun t => .post t f.val
  | .matchOp t sl x => s.runPost k (v.sel t) fun t => .deliver t sl.val (v.d x)
  | .trap code =>
    let (c, nx) := nextOf v v
    ((s.finish k c (nx % 2048) 1 none false).takeTrap k 0x10 code.toNat 0 nx false 0).wr (CORECTL_CFAULT_PC k) v.pc
  | .rett => if v.tm then s.runRett k else s.bundleFault k 3
  | .savelp p =>
    let ea := v.seeN (xP p)
    match areaFault ea with
    | some f => s.bundleFault k f
    | none => ((s.st (opAddr k ea) 8 v.saveArea.1).st (opAddr k (ea + 8)) 8 v.saveArea.2).finishSeq k v v 2
  | .rstlp p =>
    let ea := v.seeN (xP p)
    match areaFault ea with
    | some f => s.bundleFault k f
    | none =>
      let (s, bad, inj) := s.nearRead k (opAddr k ea) 16
      if bad then s.stopCore k 0x41 inj
      else
        let (c, nx) := nextOf v v
        s.finish k (c.loadArea (s.ld (opAddr k ea) 8) (s.ld (opAddr k (ea + 8)) 8)) nx 2 none false

/-! ## A bundle -/

/-- The encoding of a bundle at index `pc` is not reserved (R80). -/
def bundleOk (pc : Nat) : Bundle → Bool
  | .arith u0 u1 m0 m1 => arithOk u0 u1 m0 m1
  | .move op => moveOk op
  | .ctrl op => ctrlOk pc op

/-- The two memory operations use pointers of one generator (R61). -/
def genClash : Bundle → Bool
  | .arith _ _ m0 m1 =>
    match m0.ptr, m1.ptr with
    | some (p, _), some (q, _) => genOf p == genOf q
    | _, _ => false
  | _ => false

/-- A bundle that raises ILLEGAL where it stands (R48, R61, R66, R67). -/
def illegalHere (c : Core) (b : Bundle) : Bool :=
  genClash b
  || (match b.moveDst with
      | some r => (0x3F ≤ r && r ≤ 0x41) || ((r == 0x42 || r == 0x43) && !c.tm)
      | none => false)
  || (b.jumps && c.slot)
  || (b.jumps && ((c.la 0 && c.seeN (xLE 0) == c.pc) || (c.la 1 && c.seeN (xLE 1) == c.pc)))

/-- The core can execute a bundle: it holds a run and is in RUN or TRAP, or held with one step granted (R78). A held
core executes no further bundle after the one of its STEP, even where the boundary after it is no safe point: its STEP
trap then waits for a further STEP (DESIGN CHOICE, log entry 13). -/
def State.canRun (s : State) (k : Nat) : Bool :=
  let st := s.rd (CORECTL_CSTAT_STATE k)
  let c := s.core k
  (st == stRun || st == stTrap || (st == stHeld && c.stepping)) && c.ending.isNone && (c.run.isSome || c.aside.isSome)

/-- The bundle at pc is read from instruction memory (R58): the state, and how the core stops on its ECC. -/
def State.fetchEcc (s : State) (k : Nat) : State × Bool × Bool := s.nearRead k ((s.core k).bundleAddr k) 8

/-- The grant whose first bundle this is names an entry below 16 (R58, R68); a handler's own bundles are no such. -/
def Core.badEntry (c : Core) : Bool := c.entry && decide (c.pc < 16) && !c.tm

/-- One bundle on core `k` (R65 to R101). A bundle that reads a locked register waits: nothing changes (R53). A fault of
the hardware stops the core before any trap of the same bundle (R75): the ECC of the bundle itself, a residue mismatch
(`mism` where the hardware itself fails, an injection, a corrupted tag), the ECC of its near reads. Then come the
faults: ENTRY, ILLEGAL, those of the memory operations in slot order. -/
def State.runBundle (s : State) (k : Nat) (b : Bundle) (mism : Bool) : State :=
  let c := s.core k
  let t := c.tid
  if !s.canRun k then s
  else if b.reads.any fun r => c.locked (xD r) then s
  else match s.fetchEcc k with
  | (s, true, inj) => s.stopCore k 0x41 inj
  | (s, false, _) =>
    if !bundleOk c.pc b then s.bundleFault k (if c.badEntry then 5 else 3)
    else if mism then s.stopCore k 0x40 false
    else if s.injResidue k (b.stages c) then s.injDone.stopCore k 0x40 true
    else if b.mismatch c then s.stopCore k 0x40 false
    else match (if genClash b then (s, false, false) else s.nearEcc k c b.mems) with
    | (s, true, inj) => s.stopCore k 0x41 inj
    | (s, false, _) =>
      if c.badEntry then s.bundleFault k 5
      else if illegalHere c b then s.bundleFault k 3
      else match (b.mems.filterMap fun m => s.memFault c t m).head? with
        | some f => s.bundleFault k f
        | none =>
          match b with
          | .arith u0 u1 m0 m1 => s.runArith k t u0 u1 m0 m1
          | .move op => s.runMove k t op
          | .ctrl op => s.runCtrl k op

/-- A bundle whose encoding is reserved (R80): ILLEGAL, unless its own ECC stops the core or the grant's entry is
below 16 (R58, R75). -/
def State.runReserved (s : State) (k : Nat) : State :=
  if !s.canRun k then s
  else match s.fetchEcc k with
  | (s, true, inj) => s.stopCore k 0x41 inj
  | (s, false, _) => s.bundleFault k (if (s.core k).badEntry then 5 else 3)

end Sys2Proof.Machine
end

