-- ==== Sys2Proof/Machine/Encoding.lean ====
section
/-! DEFINITION. The encodings of bundles (R79 to R92): a 64-bit word as a bundle, or none where it is a reserved encoding. -/
namespace Sys2Proof.Machine

/-- A D register from a register index field. -/
def asD (x : Nat) : Option (Fin 16) := if h : x < 16 then some ⟨x, h⟩ else none
/-- An accumulator from a register index field. -/
def asA (x : Nat) : Option (Fin 4) := if x < 0x10 then none else if h : x - 0x10 < 4 then some ⟨x - 0x10, h⟩ else none
/-- A pointer from a register index field. -/
def asP (x : Nat) : Option (Fin 8) := if x < 0x18 then none else if h : x - 0x18 < 8 then some ⟨x - 0x18, h⟩ else none
/-- A register index that R47 lists. -/
def asReg (x : Nat) : Option (Fin 68) := if h : x < 68 then some ⟨x, h⟩ else none
/-- A 4-bit field as a D register, a 2-bit field as an accumulator, a 3-bit field as a pointer. -/
def d4 (x : Nat) : Fin 16 := ⟨x % 16, Nat.mod_lt _ (by decide)⟩
def a2 (x : Nat) : Fin 4 := ⟨x % 4, Nat.mod_lt _ (by decide)⟩
def p3 (x : Nat) : Fin 8 := ⟨x % 8, Nat.mod_lt _ (by decide)⟩

/-- The field holds 0. -/
def zeroF (x : Nat) : Option Unit := if x = 0 then some () else none

/-- A unit's opcode, accumulator and operand fields (R82). -/
def decUnit (op a x y : Nat) : Option UnitOp :=
  match op with
  | 0 => if a = 0 ∧ x = 0 ∧ y = 0 then some .nop else none
  | 1 => some (.mac (a2 a) (d4 x) (d4 y))
  | 2 => some (.msu (a2 a) (d4 x) (d4 y))
  | 3 => some (.mpy (a2 a) (d4 x) (d4 y))
  | 4 => some (.mix (a2 a) (d4 x) (d4 y))
  | 5 => if y = 0 then some (.mixa (a2 a) (d4 x)) else none
  | 6 => if x = 0 ∧ y = 0 then some (.clr (a2 a)) else none
  | 7 => if y = 0 then some (.adds (a2 a) (d4 x)) else none
  | 8 => if y = 0 then some (.rnd (d4 x) (a2 a)) else none
  | 9 => if y = 0 then some (.rndx (d4 x) (a2 a)) else none
  | 10 => if y = 0 then some (.norm (d4 x) (a2 a)) else none
  | _ => none

/-- A mode field of an ARITH slot (R81). -/
def decMode (m : Nat) : Option Mode :=
  match m with
  | 0 => some .ind
  | 1 => some .postInc
  | 2 => some .postMod
  | _ => none

/-- A memory opcode with its pointer, mode and data register (R83). -/
def decMop (op : Nat) (p : Fin 8) (m : Mode) (r : Nat) : Option MemOp :=
  match op with
  | 1 => some (.ld32 p m (d4 r))
  | 2 => some (.ld64 p m (d4 r))
  | 3 => some (.st32 p m (d4 r))
  | 4 => some (.st64 p m (d4 r))
  | 5 => if r < 4 then some (.str p m (a2 r)) else none
  | _ => none

/-- A memory slot of an ARITH bundle. -/
def decSlot (op p m r : Nat) : Option MemOp :=
  if op = 0 then (if p = 0 ∧ m = 0 ∧ r = 0 then some .none else none)
  else do decMop op (p3 p) (← decMode m) r

/-- An ARITH bundle (R81). -/
def decArith (w : Nat) : Option Bundle := do
  let u0 ← decUnit (bits w 56 4) (bits w 54 2) (bits w 50 4) (bits w 46 4)
  let u1 ← decUnit (bits w 42 4) (bits w 40 2) (bits w 36 4) (bits w 32 4)
  let m0 ← decSlot (bits w 29 3) (bits w 26 3) (bits w 24 2) (bits w 20 4)
  let m1 ← decSlot (bits w 17 3) (bits w 14 3) (bits w 12 2) (bits w 8 4)
  let _ ← zeroF (bits w 0 8)
  some (.arith u0 u1 m0 m1)

/-- The second source of a MOVE operation; the field it does not use must be 0 (R86). Which registers SB may name as b is not
given for ADD to MAX, CMP and TST: D0 to D15, as their a; another index is a reserved encoding (log entry 51). -/
def decSrc (sb i imm : Nat) : Option Src :=
  if i = 1 then (if sb = 0 then some (.imm (BitVec.ofNat 32 imm)) else none)
  else if imm = 0 then (asD sb).map .reg else none

/-- The mode and offset of a MOVE memory operation (R86). -/
def decMoveMode (i imm : Nat) : Option Mode :=
  if i ≠ 1 ∨ bits imm 14 18 ≠ 0 then none
  else match bits imm 12 2 with
    | 0 => some (.indexed (BitVec.ofNat 12 imm))
    | 1 => if bits imm 0 12 = 0 then some .postInc else none
    | 2 => if bits imm 0 12 = 0 then some .postMod else none
    | _ => none

/-- A two-operand D-register operation by its opcode (R87). -/
def aluOf (op : Nat) : Option AluOp :=
  match op with
  | 0x08 => some .add | 0x09 => some .sub | 0x0A => some .and | 0x0B => some .or | 0x0C => some .xor
  | 0x0D => some .shl | 0x0E => some .shra | 0x0F => some .shrl | 0x10 => some .min | 0x11 => some .max
  | _ => none

/-- The part of MVAL and MVLA (R87). -/
def decPart (imm : Nat) : Option (Fin 3) := if h : imm < 3 then some ⟨imm, h⟩ else none

/-- A MOVE bundle (R86, R87). -/
def decMove (w : Nat) : Option Bundle := do
  let op := bits w 54 6
  let dst := bits w 47 7
  let sa := bits w 40 7
  let sb := bits w 33 7
  let i := bits w 32 1
  let imm := bits w 0 32
  let none3 := fun (x y z : Nat) => zeroF (x + y + z)
  let m ← match op with
    | 0x00 => do let _ ← none3 (dst + sa) (sb + i) imm; some MoveOp.nop
    | 0x01 => do let _ ← none3 sb i imm; some (.mov (← asReg dst) (← asReg sa))
    | 0x02 => do let _ ← none3 sa sb (1 - i); some (.ldi (← asReg dst) (BitVec.ofNat 32 imm))
    | 0x03 => do let _ ← none3 sb (1 - i) 0; some (.mval (← asD dst) (← asA sa) (← decPart imm))
    | 0x04 => do let _ ← none3 sb (1 - i) 0; some (.mvla (← asA dst) (← asD sa) (← decPart imm))
    | 0x12 => do let _ ← none3 sb i imm; some (.abs (← asD dst) (← asD sa))
    | 0x13 => do let _ ← none3 sb i imm; some (.neg (← asD dst) (← asD sa))
    | 0x14 => do let _ ← zeroF dst; some (.cmp (← asD sa) (← decSrc sb i imm))
    | 0x15 => do let _ ← zeroF dst; some (.tst (← asD sa) (← decSrc sb i imm))
    | 0x16 => do let _ ← none3 sb i imm; some (.normd (← asD dst) (← asD sa))
    | 0x17 => do let _ ← none3 sb i imm; some (.exp (← asD dst) (← asD sa))
    | 0x20 => do let _ ← zeroF sb; some (.mem (.ld32 (← asP sa) (← decMoveMode i imm) (← asD dst)))
    | 0x21 => do let _ ← zeroF sb; some (.mem (.ld64 (← asP sa) (← decMoveMode i imm) (← asD dst)))
    | 0x22 => do let _ ← zeroF dst; some (.mem (.st32 (← asP sa) (← decMoveMode i imm) (← asD sb)))
    | 0x23 => do let _ ← zeroF dst; some (.mem (.st64 (← asP sa) (← decMoveMode i imm) (← asD sb)))
    | 0x24 => do let _ ← zeroF dst; some (.mem (.str (← asP sa) (← decMoveMode i imm) (← asA sb)))
    | 0x28 => do let _ ← none3 i imm 0; some (.gld (← asD dst) (← asP sa) (← asD sb))
    | 0x29 => do let _ ← none3 i imm 0; some (.xfade (← asD dst) (← asP sa) (← asD sb))
    | 0x2A => do let _ ← none3 i imm sa; some (.bscl (← asD dst) (← asD sb))
    | _ => do some (.alu (← aluOf op) (← asD dst) (← asD sa) (← decSrc sb i imm))
  some (.move m)

/-- A condition (R91). -/
def decCond (c : Nat) : Option Cond :=
  match c with
  | 0 => some .al | 1 => some .eq | 2 => some .ne | 3 => some .mi | 4 => some .pl | 5 => some .cs
  | 6 => some .cc | 7 => some .le | 8 => some .gt | 9 => some .av | 10 => some .sv
  | _ => none

/-- The target of POST and MATCH, with the immediate bits beside it that must be 0 (R92). -/
def decTarget (i ra imm : Nat) : Option Sel :=
  if i = 1 then (if ra = 0 then some (.imm (BitVec.ofNat 16 (bits imm 0 12))) else none)
  else if bits imm 0 12 = 0 then (asD ra).map .reg else none

/-- A CTRL bundle (R90 to R92). A field an opcode does not use must be 0 (log entry 13). -/
def decCtrl (w : Nat) : Option Bundle := do
  let op := bits w 54 6
  let ra := bits w 47 7
  let rb := bits w 40 7
  let cond := bits w 36 4
  let i := bits w 33 1
  let x := bits w 32 1
  let imm := bits w 0 32
  let _ ← zeroF (bits w 34 2)
  let c ← match op with
    | 0x00 => do let _ ← zeroF (ra + rb + cond + i + x + imm); some CtrlOp.nop
    | 0x01 => do let _ ← zeroF (ra + rb + i + x + imm / 2 ^ 11); some (.br (← decCond cond) (BitVec.ofNat 11 imm))
    | 0x02 => do let _ ← zeroF (rb + i + x + imm); some (.brr (← decCond cond) (← asD ra))
    | 0x03 => do let _ ← zeroF (rb + cond + i + x + imm / 2 ^ 11); some (.jl (← asD ra) (BitVec.ofNat 11 imm))
    | 0x08 => do
      let _ ← zeroF (rb + cond + bits imm 11 5)
      let cnt ← if i = 1 then (if ra = 0 then some (Sel.imm (BitVec.ofNat 16 (imm / 2 ^ 16))) else none)
        else if imm / 2 ^ 16 = 0 then (asD ra).map .reg else none
      some (.loop (if x = 0 then 0 else 1) cnt (BitVec.ofNat 11 imm))
    | 0x10 => do let _ ← zeroF (ra + rb + cond + i + x + imm); some .fetch
    | 0x11 => do let _ ← zeroF (ra + rb + cond + i + x + imm / 2); some (.done (imm % 2 == 1))
    | 0x12 => do
      let _ ← zeroF (rb + cond + x + bits imm 12 4 + imm / 2 ^ 21)
      some (.post (← decTarget i ra imm) ⟨bits imm 16 5, Nat.mod_lt _ (by decide)⟩)
    | 0x13 => do
      let _ ← zeroF (cond + x + bits imm 12 4 + imm / 2 ^ 19)
      some (.matchOp (← decTarget i ra imm) ⟨bits imm 16 3, Nat.mod_lt _ (by decide)⟩ (← asD rb))
    | 0x18 => do let _ ← zeroF (ra + rb + cond + i + x + imm / 256); some (.trap (BitVec.ofNat 8 imm))
    | 0x19 => do let _ ← zeroF (ra + rb + cond + i + x + imm); some .rett
    | 0x1A => do let _ ← zeroF (rb + cond + i + x + imm); some (.savelp (← asP ra))
    | 0x1B => do let _ ← zeroF (rb + cond + i + x + imm); some (.rstlp (← asP ra))
    | _ => none
  some (.ctrl c)

/-- A bundle word (R79); none where the form code, an opcode or a field is reserved (R80). -/
def decodeBundle (w : DWord) : Option Bundle :=
  match bits w.toNat 60 4 with
  | 1 => decArith w.toNat
  | 2 => decMove w.toNat
  | 3 => decCtrl w.toNat
  | _ => none

/-- The word at index `pc` is a reserved encoding (R80). -/
def reservedWord (pc : Nat) (w : DWord) : Bool :=
  match decodeBundle w with
  | none => true
  | some b => !bundleOk pc b

/-! ## The words of bundles -/

/-- A number made of fields, each with its width, from the lowest bit up. -/
def pack : List (Nat × Nat) → Nat
  | [] => 0
  | (w, v) :: l => v % 2 ^ w + 2 ^ w * pack l

/-- The fields of a unit operation, from the lowest (R81, R82). -/
def encUnit : UnitOp → List (Nat × Nat)
  | .nop => [(4, 0), (4, 0), (2, 0), (4, 0)]
  | .mac a x y => [(4, y.val), (4, x.val), (2, a.val), (4, 1)]
  | .msu a x y => [(4, y.val), (4, x.val), (2, a.val), (4, 2)]
  | .mpy a x y => [(4, y.val), (4, x.val), (2, a.val), (4, 3)]
  | .mix a x y => [(4, y.val), (4, x.val), (2, a.val), (4, 4)]
  | .mixa a g => [(4, 0), (4, g.val), (2, a.val), (4, 5)]
  | .clr a => [(4, 0), (4, 0), (2, a.val), (4, 6)]
  | .adds a x => [(4, 0), (4, x.val), (2, a.val), (4, 7)]
  | .rnd d a => [(4, 0), (4, d.val), (2, a.val), (4, 8)]
  | .rndx d a => [(4, 0), (4, d.val), (2, a.val), (4, 9)]
  | .norm d a => [(4, 0), (4, d.val), (2, a.val), (4, 10)]

/-- The mode field of an ARITH slot (R81). -/
def encMode : Mode → Nat
  | .ind => 0
  | .postInc => 1
  | .postMod => 2
  | .indexed _ => 3

/-- The opcode of a memory operation in a slot, its pointer, mode and data register (R83). -/
def encSlot : MemOp → List (Nat × Nat)
  | .none => [(4, 0), (2, 0), (3, 0), (3, 0)]
  | .ld32 p m r => [(4, r.val), (2, encMode m), (3, p.val), (3, 1)]
  | .ld64 p m r => [(4, r.val), (2, encMode m), (3, p.val), (3, 2)]
  | .st32 p m r => [(4, r.val), (2, encMode m), (3, p.val), (3, 3)]
  | .st64 p m r => [(4, r.val), (2, encMode m), (3, p.val), (3, 4)]
  | .str p m a => [(4, a.val), (2, encMode m), (3, p.val), (3, 5)]

/-- Fields SB, I and imm of a second source (R86). -/
def encSrc : Src → Nat × Nat × Nat
  | .reg r => (r.val, 0, 0)
  | .imm v => (0, 1, v.toNat)

/-- The immediate of a MOVE memory operation: offset and mode (R86). -/
def encMoveMode : Mode → Nat
  | .indexed off => off.toNat
  | .ind => 0
  | .postInc => 2 ^ 12
  | .postMod => 2 ^ 13

/-- The opcode of a two-operand D-register operation (R87). -/
def encAlu : AluOp → Nat
  | .add => 0x08
  | .sub => 0x09
  | .and => 0x0A
  | .or => 0x0B
  | .xor => 0x0C
  | .shl => 0x0D
  | .shra => 0x0E
  | .shrl => 0x0F
  | .min => 0x10
  | .max => 0x11

/-- A MOVE word from opcode, DST, SA, SB, I and imm (R86). -/
def moveWord (op dst sa sb i imm : Nat) : Nat := pack [(32, imm), (1, i), (7, sb), (7, sa), (7, dst), (6, op), (4, 2)]

/-- The word of a MOVE operation (R86, R87). -/
def encMove : MoveOp → Nat
  | .nop => moveWord 0x00 0 0 0 0 0
  | .mov d s => moveWord 0x01 d.val s.val 0 0 0
  | .ldi d v => moveWord 0x02 d.val 0 0 1 v.toNat
  | .mval d a part => moveWord 0x03 d.val (xA a) 0 1 part.val
  | .mvla a d part => moveWord 0x04 (xA a) d.val 0 1 part.val
  | .alu op d a b => moveWord (encAlu op) d.val a.val (encSrc b).1 (encSrc b).2.1 (encSrc b).2.2
  | .abs d a => moveWord 0x12 d.val a.val 0 0 0
  | .neg d a => moveWord 0x13 d.val a.val 0 0 0
  | .cmp a b => moveWord 0x14 0 a.val (encSrc b).1 (encSrc b).2.1 (encSrc b).2.2
  | .tst a b => moveWord 0x15 0 a.val (encSrc b).1 (encSrc b).2.1 (encSrc b).2.2
  | .normd d a => moveWord 0x16 d.val a.val 0 0 0
  | .exp d a => moveWord 0x17 d.val a.val 0 0 0
  | .mem .none => moveWord 0x00 0 0 0 0 0
  | .mem (.ld32 p m r) => moveWord 0x20 r.val (xP p) 0 1 (encMoveMode m)
  | .mem (.ld64 p m r) => moveWord 0x21 r.val (xP p) 0 1 (encMoveMode m)
  | .mem (.st32 p m r) => moveWord 0x22 0 (xP p) r.val 1 (encMoveMode m)
  | .mem (.st64 p m r) => moveWord 0x23 0 (xP p) r.val 1 (encMoveMode m)
  | .mem (.str p m a) => moveWord 0x24 0 (xP p) (xA a) 1 (encMoveMode m)
  | .gld d p ds => moveWord 0x28 d.val (xP p) ds.val 0 0
  | .xfade d p ds => moveWord 0x29 d.val (xP p) ds.val 0 0
  | .bscl d ds => moveWord 0x2A d.val 0 ds.val 0 0

/-- A condition field (R91). -/
def encCond : Cond → Nat
  | .al => 0
  | .eq => 1
  | .ne => 2
  | .mi => 3
  | .pl => 4
  | .cs => 5
  | .cc => 6
  | .le => 7
  | .gt => 8
  | .av => 9
  | .sv => 10

/-- A CTRL word from opcode, RA, RB, condition, I, X and imm (R90). -/
def ctrlWord (op ra rb cond i x imm : Nat) : Nat :=
  pack [(32, imm), (1, x), (1, i), (2, 0), (4, cond), (7, rb), (7, ra), (6, op), (4, 3)]

/-- RA, I and the immediate of a target or count (R90). -/
def encSel : Sel → Nat × Nat × Nat
  | .reg r => (r.val, 0, 0)
  | .imm v => (0, 1, v.toNat)

/-- The word of a CTRL operation (R90, R92). -/
def encCtrl : CtrlOp → Nat
  | .nop => ctrlWord 0x00 0 0 0 0 0 0
  | .br c t => ctrlWord 0x01 0 0 (encCond c) 0 0 t.toNat
  | .brr c r => ctrlWord 0x02 r.val 0 (encCond c) 0 0 0
  | .jl d t => ctrlWord 0x03 d.val 0 0 0 0 t.toNat
  | .loop x n last => ctrlWord 0x08 (encSel n).1 0 0 (encSel n).2.1 x.val (pack [(16, last.toNat), (16, (encSel n).2.2)])
  | .fetch => ctrlWord 0x10 0 0 0 0 0 0
  | .done a => ctrlWord 0x11 0 0 0 0 0 (b2n a)
  | .post t f => ctrlWord 0x12 (encSel t).1 0 0 (encSel t).2.1 0 (pack [(12, (encSel t).2.2), (4, 0), (5, f.val)])
  | .matchOp t sl v => ctrlWord 0x13 (encSel t).1 v.val 0 (encSel t).2.1 0 (pack [(12, (encSel t).2.2), (4, 0), (3, sl.val)])
  | .trap c => ctrlWord 0x18 0 0 0 0 0 c.toNat
  | .rett => ctrlWord 0x19 0 0 0 0 0 0
  | .savelp p => ctrlWord 0x1A (xP p) 0 0 0 0 0
  | .rstlp p => ctrlWord 0x1B (xP p) 0 0 0 0 0

/-- The word of a bundle (R79). -/
def encodeBundle : Bundle → DWord
  | .arith u0 u1 m0 m1 =>
    BitVec.ofNat 64 (pack ([(8, 0)] ++ encSlot m1 ++ encSlot m0 ++ encUnit u1 ++ encUnit u0 ++ [(4, 1)]))
  | .move op => BitVec.ofNat 64 (encMove op)
  | .ctrl op => BitVec.ofNat 64 (encCtrl op)

/-- The mode may stand in the MOVE form, whose plain access is the indexed one with offset 0 (R86). -/
def MemOp.moveMode (m : MemOp) : Bool :=
  match m.ptr with
  | some (_, .ind) => false
  | some _ => true
  | Option.none => false

/-- A target that the 12 bits of its field hold (R92). -/
def Sel.fits : Sel → Bool
  | .reg _ => true
  | .imm v => decide (v.toNat < 4096)

/-- The operands of a bundle are values that its encoding admits (R81, R86, R90, R92). -/
def encodable : Bundle → Bool
  | .arith _ _ m0 m1 => m0.slotMode && m1.slotMode
  | .move (.mem m) => m.moveMode
  | .ctrl (.post t _) => t.fits
  | .ctrl (.matchOp t _ _) => t.fits
  | _ => true

end Sys2Proof.Machine
end

