-- ==== Sys2Proof/Machine/BundleRows.lean ====
section
/-! DEFINITION. The commands that execute one bundle on a core, one meaning per row (R82, R83, R87, R89, R92). -/
namespace Sys2Proof.Machine

/-- What a meaning answers. -/
abbrev Out := Host.Outcome State Fault Refusal

/-- The ARITH bundle that holds a unit operation in unit `u`. -/
def unitBundle (u : Fin 2) (op : UnitOp) (r : Rest) : Bundle :=
  if u = 0 then .arith op r.other r.m0 r.m1 else .arith r.other op r.m0 r.m1

/-- The bundle that holds a memory operation. -/
def memBundle : Place → MemOp → Bundle
  | .move _, m => .move (.mem m)
  | .slot i u0 u1 other _, m => if i = 0 then .arith u0 u1 m other else .arith u0 u1 other m

/-- A hardware fault of the bundle a memory operation stands in. -/
def Place.mism : Place → Bool
  | .move m => m
  | .slot _ _ _ _ m => m

/-- The NOP bundle of a form. -/
def nopBundle : NopForm → Bundle
  | .arith => .arith .nop .nop .none .none
  | .move => .move .nop
  | .ctrl => .ctrl .nop

/-- MAC Ak, Dx, Dy in an ARITH bundle (R82). -/
def execMac (k : CoreId) (u : Fin 2) (a : Fin 4) (x y : Fin 16) (rest : Rest) (s : State) : Out :=
  .next (s.runBundle k.val (unitBundle u (.mac a x y) rest) rest.mism)

/-- MSU Ak, Dx, Dy (R82). -/
def execMsu (k : CoreId) (u : Fin 2) (a : Fin 4) (x y : Fin 16) (rest : Rest) (s : State) : Out :=
  .next (s.runBundle k.val (unitBundle u (.msu a x y) rest) rest.mism)

/-- MPY Ak, Dx, Dy (R82). -/
def execMpy (k : CoreId) (u : Fin 2) (a : Fin 4) (x y : Fin 16) (rest : Rest) (s : State) : Out :=
  .next (s.runBundle k.val (unitBundle u (.mpy a x y) rest) rest.mism)

/-- MIX Ak, Dx, Dy (R82, R108). -/
def execMix (k : CoreId) (u : Fin 2) (a : Fin 4) (x y : Fin 16) (rest : Rest) (s : State) : Out :=
  .next (s.runBundle k.val (unitBundle u (.mix a x y) rest) rest.mism)

/-- MIXA Ak, Dg (R82, R117). -/
def execMixa (k : CoreId) (u : Fin 2) (a : Fin 4) (g : Fin 16) (rest : Rest) (s : State) : Out :=
  .next (s.runBundle k.val (unitBundle u (.mixa a g) rest) rest.mism)

/-- CLR Ak (R82). -/
def execClr (k : CoreId) (u : Fin 2) (a : Fin 4) (rest : Rest) (s : State) : Out :=
  .next (s.runBundle k.val (unitBundle u (.clr a) rest) rest.mism)

/-- ADDS Ak, Dx (R82). -/
def execAdds (k : CoreId) (u : Fin 2) (a : Fin 4) (x : Fin 16) (rest : Rest) (s : State) : Out :=
  .next (s.runBundle k.val (unitBundle u (.adds a x) rest) rest.mism)

/-- RND Dd, Ak (R82, R111). -/
def execRnd (k : CoreId) (u : Fin 2) (d : Fin 16) (a : Fin 4) (rest : Rest) (s : State) : Out :=
  .next (s.runBundle k.val (unitBundle u (.rnd d a) rest) rest.mism)

/-- RNDX Dd, Ak (R82, R112). -/
def execRndx (k : CoreId) (u : Fin 2) (d : Fin 16) (a : Fin 4) (rest : Rest) (s : State) : Out :=
  .next (s.runBundle k.val (unitBundle u (.rndx d a) rest) rest.mism)

/-- NORM Dd, Ak (R82, R114). -/
def execNorm (k : CoreId) (u : Fin 2) (d : Fin 16) (a : Fin 4) (rest : Rest) (s : State) : Out :=
  .next (s.runBundle k.val (unitBundle u (.norm d a) rest) rest.mism)

/-- LD32 Dr, [Pk] (R83). -/
def execLd32 (k : CoreId) (p : Fin 8) (m : Mode) (r : Fin 16) (place : Place) (s : State) : Out :=
  .next (s.runBundle k.val (memBundle place (.ld32 p m r)) place.mism)

/-- LD64 Dr, [Pk] (R83). -/
def execLd64 (k : CoreId) (p : Fin 8) (m : Mode) (r : Fin 16) (place : Place) (s : State) : Out :=
  .next (s.runBundle k.val (memBundle place (.ld64 p m r)) place.mism)

/-- ST32 [Pk], Dr (R83). -/
def execSt32 (k : CoreId) (p : Fin 8) (m : Mode) (r : Fin 16) (place : Place) (s : State) : Out :=
  .next (s.runBundle k.val (memBundle place (.st32 p m r)) place.mism)

/-- ST64 [Pk], Dr (R83). -/
def execSt64 (k : CoreId) (p : Fin 8) (m : Mode) (r : Fin 16) (place : Place) (s : State) : Out :=
  .next (s.runBundle k.val (memBundle place (.st64 p m r)) place.mism)

/-- STR [Pk], Ak (R83, R111). -/
def execStr (k : CoreId) (p : Fin 8) (m : Mode) (a : Fin 4) (place : Place) (s : State) : Out :=
  .next (s.runBundle k.val (memBundle place (.str p m a)) place.mism)

/-- NOP in the ARITH, MOVE or CTRL form (R82, R87, R92). -/
def execNop (k : CoreId) (form : NopForm) (s : State) : Out :=
  .next (s.runBundle k.val (nopBundle form) false)

/-- MOV dst, src (R87, R88). -/
def execMov (k : CoreId) (dst src : Fin 68) (s : State) : Out :=
  .next (s.runBundle k.val (.move (.mov dst src)) false)

/-- LDI dst, imm32 (R87). -/
def execLdi (k : CoreId) (dst : Fin 68) (imm : Word) (s : State) : Out :=
  .next (s.runBundle k.val (.move (.ldi dst imm)) false)

/-- MVAL Dd, Ak, part (R87). -/
def execMval (k : CoreId) (d : Fin 16) (a : Fin 4) (part : Fin 3) (s : State) : Out :=
  .next (s.runBundle k.val (.move (.mval d a part)) false)

/-- MVLA Ak, Ds, part (R87). -/
def execMvla (k : CoreId) (a : Fin 4) (d : Fin 16) (part : Fin 3) (s : State) : Out :=
  .next (s.runBundle k.val (.move (.mvla a d part)) false)

/-- ADD Dd, Da, b (R87). -/
def execAdd (k : CoreId) (d a : Fin 16) (b : Src) (s : State) : Out :=
  .next (s.runBundle k.val (.move (.alu .add d a b)) false)

/-- SUB Dd, Da, b (R87). -/
def execSub (k : CoreId) (d a : Fin 16) (b : Src) (s : State) : Out :=
  .next (s.runBundle k.val (.move (.alu .sub d a b)) false)

/-- AND Dd, Da, b (R87). -/
def execAndD (k : CoreId) (d a : Fin 16) (b : Src) (s : State) : Out :=
  .next (s.runBundle k.val (.move (.alu .and d a b)) false)

/-- OR Dd, Da, b (R87). -/
def execOrD (k : CoreId) (d a : Fin 16) (b : Src) (s : State) : Out :=
  .next (s.runBundle k.val (.move (.alu .or d a b)) false)

/-- XOR Dd, Da, b (R87). -/
def execXorD (k : CoreId) (d a : Fin 16) (b : Src) (s : State) : Out :=
  .next (s.runBundle k.val (.move (.alu .xor d a b)) false)

/-- SHL Dd, Da, b (R87). -/
def execShl (k : CoreId) (d a : Fin 16) (b : Src) (s : State) : Out :=
  .next (s.runBundle k.val (.move (.alu .shl d a b)) false)

/-- SHRA Dd, Da, b (R87). -/
def execShra (k : CoreId) (d a : Fin 16) (b : Src) (s : State) : Out :=
  .next (s.runBundle k.val (.move (.alu .shra d a b)) false)

/-- SHRL Dd, Da, b (R87). -/
def execShrl (k : CoreId) (d a : Fin 16) (b : Src) (s : State) : Out :=
  .next (s.runBundle k.val (.move (.alu .shrl d a b)) false)

/-- MIN Dd, Da, b (R87). -/
def execMinD (k : CoreId) (d a : Fin 16) (b : Src) (s : State) : Out :=
  .next (s.runBundle k.val (.move (.alu .min d a b)) false)

/-- MAX Dd, Da, b (R87). -/
def execMaxD (k : CoreId) (d a : Fin 16) (b : Src) (s : State) : Out :=
  .next (s.runBundle k.val (.move (.alu .max d a b)) false)

/-- ABS Dd, Da (R87). -/
def execAbs (k : CoreId) (d a : Fin 16) (s : State) : Out :=
  .next (s.runBundle k.val (.move (.abs d a)) false)

/-- NEG Dd, Da (R87). -/
def execNeg (k : CoreId) (d a : Fin 16) (s : State) : Out :=
  .next (s.runBundle k.val (.move (.neg d a)) false)

/-- CMP Da, b (R87). -/
def execCmp (k : CoreId) (a : Fin 16) (b : Src) (s : State) : Out :=
  .next (s.runBundle k.val (.move (.cmp a b)) false)

/-- TST Da, b (R87). -/
def execTst (k : CoreId) (a : Fin 16) (b : Src) (s : State) : Out :=
  .next (s.runBundle k.val (.move (.tst a b)) false)

/-- NORMD Dd, Da (R87, R113). -/
def execNormd (k : CoreId) (d a : Fin 16) (s : State) : Out :=
  .next (s.runBundle k.val (.move (.normd d a)) false)

/-- EXP Dd, Da (R87, R113). -/
def execExp (k : CoreId) (d a : Fin 16) (s : State) : Out :=
  .next (s.runBundle k.val (.move (.exp d a)) false)

/-- GLD Dd, Pk, Ds (R89). -/
def execGld (k : CoreId) (d : Fin 16) (p : Fin 8) (ds : Fin 16) (s : State) : Out :=
  .next (s.runBundle k.val (.move (.gld d p ds)) false)

/-- XFADE Dd, Pk, Ds (R89). -/
def execXfade (k : CoreId) (d : Fin 16) (p : Fin 8) (ds : Fin 16) (s : State) : Out :=
  .next (s.runBundle k.val (.move (.xfade d p ds)) false)

/-- BSCL Dd, Ds (R89). -/
def execBscl (k : CoreId) (d ds : Fin 16) (s : State) : Out :=
  .next (s.runBundle k.val (.move (.bscl d ds)) false)

/-- BR cond, target (R92). -/
def execBr (k : CoreId) (c : Cond) (target : BitVec 11) (s : State) : Out :=
  .next (s.runBundle k.val (.ctrl (.br c target)) false)

/-- BRR cond, Dr (R92). -/
def execBrr (k : CoreId) (c : Cond) (r : Fin 16) (s : State) : Out :=
  .next (s.runBundle k.val (.ctrl (.brr c r)) false)

/-- JL Dd, target (R92). -/
def execJl (k : CoreId) (d : Fin 16) (target : BitVec 11) (s : State) : Out :=
  .next (s.runBundle k.val (.ctrl (.jl d target)) false)

/-- LOOP x, count, end (R67, R92). -/
def execLoop (k : CoreId) (x : Fin 2) (count : Sel) (last : BitVec 11) (s : State) : Out :=
  .next (s.runBundle k.val (.ctrl (.loop x count last)) false)

/-- FETCH in a run (R95). -/
def execFetch (k : CoreId) (s : State) : Out :=
  .next (s.runBundle k.val (.ctrl (.fetch)) false)

/-- DONE with A = 0 (R96). -/
def execDone (k : CoreId) (s : State) : Out :=
  .next (s.runBundle k.val (.ctrl (.done false)) false)

/-- DONE with A = 1 (R96). -/
def execDoneAbandon (k : CoreId) (s : State) : Out :=
  .next (s.runBundle k.val (.ctrl (.done true)) false)

/-- POST target, flag (R97). -/
def execPost (k : CoreId) (target : Sel) (flag : Fin 32) (s : State) : Out :=
  .next (s.runBundle k.val (.ctrl (.post target flag)) false)

/-- MATCH target, slot, value (R98). -/
def execMatchOp (k : CoreId) (target : Sel) (slot : Fin 8) (value : Fin 16) (s : State) : Out :=
  .next (s.runBundle k.val (.ctrl (.matchOp target slot value)) false)

/-- TRAP code (R68). -/
def execTrap (k : CoreId) (code : BitVec 8) (s : State) : Out :=
  .next (s.runBundle k.val (.ctrl (.trap code)) false)

/-- RETT (R72). -/
def execRett (k : CoreId) (s : State) : Out :=
  .next (s.runBundle k.val (.ctrl (.rett)) false)

/-- SAVELP [Pk] (R71, R93). -/
def execSavelp (k : CoreId) (p : Fin 8) (s : State) : Out :=
  .next (s.runBundle k.val (.ctrl (.savelp p)) false)

/-- RSTLP [Pk] (R71, R93). -/
def execRstlp (k : CoreId) (p : Fin 8) (s : State) : Out :=
  .next (s.runBundle k.val (.ctrl (.rstlp p)) false)

end Sys2Proof.Machine
end

