-- ==== Sys2Proof/Machine/Dispatcher.lean ====
section
/-! DEFINITION. The FETCH dispatcher (chapter 06): contexts, commands, flags, readiness, grants, urgent dispatch, matching,
retirement. -/
namespace Sys2Proof.Machine

/-! ## Flags and slots (R130 item 5, R132, R138, R139) -/

/-- Flag `f` of context `t` is a counting flag (R122). -/
def State.counting (s : State) (t f : Nat) : Bool := bit (s.ctxWord t 3) f

/-- Flag `f` counts as set (R132). -/
def State.flagSet (s : State) (t f : Nat) : Bool :=
  if s.counting t f then decide (1 ≤ tget 0 (s.ctx t).counts f) else bit (s.ctx t).flags f

/-- The flags that count as set, as a word (R132, CTXFLAGS). -/
def State.flagWord (s : State) (t : Nat) : Nat :=
  (List.range 32).foldl (fun w f => w + b2n (s.flagSet t f) * 2 ^ f) 0

def State.touch (s : State) (t : Nat) : State :=
  { s with disp := { s.disp with changed := if s.disp.changed.contains t then s.disp.changed else t :: s.disp.changed } }

/-- One event on a flag (R130 item 5): a plain flag is set; a count rises by 1 and stays at 255, the event lost. -/
def State.postFlag (s : State) (t f : Nat) : State :=
  if t = 0 then s else
  let s := s.touch t
  if s.counting t f then
    if tget 0 (s.ctx t).counts f < 255 then
      s.modCtx t fun c => { c with counts := tput 0 c.counts f (tget 0 c.counts f + 1) }
    else (s.wr (DISP_CTXSTAT_CSAT t) 1).wr DISP_STATUS_CSAT 1
  else s.modCtx t fun c => { c with flags := setBit c.flags f true }

/-- The task is declared matching (R122). -/
def State.matching (s : State) (t : Nat) : Bool := s.ctxF t 16 1 == 1
def State.slotMask (s : State) (t : Nat) : Nat := bits (s.ctxWord t 1) 16 8

/-- One MATCH delivery (R138, R139). -/
def State.deliver (s : State) (t slot v : Nat) : State :=
  if t = 0 then s
  else if !s.matching t || !bit (s.slotMask t) slot then s.wr DISP_STATUS_MATCHERR 1
  else if 512 ≤ s.rd DISP_MSUSE_INUSE then
    (s.wr DISP_STATUS_MSFULL 1).emit (mkRec cLost 0 0x0024 uTask t (d16 t))
  else
    let s := s.inc DISP_MSUSE_INUSE 1
    let s := if s.rd DISP_MSUSE_HIGH < s.rd DISP_MSUSE_INUSE then s.wr DISP_MSUSE_HIGH (s.rd DISP_MSUSE_INUSE) else s
    (s.modCtx t fun c => { c with slots := tput [] c.slots slot (tget [] c.slots slot ++ [v]) }).touch t

/-- The slots that hold a value (CTXSTAT.SLOTF). -/
def State.slotsFilled (s : State) (t : Nat) : Nat :=
  (List.range 8).foldl (fun w j => w + b2n (!(tget [] (s.ctx t).slots j).isEmpty) * 2 ^ j) 0

/-- A context in WAITING is ready (R132, R138). -/
def State.isReady (s : State) (t : Nat) : Bool :=
  if s.matching t then (List.range 8).all fun j => !bit (s.slotMask t) j || !(tget [] (s.ctx t).slots j).isEmpty
  else
    let m := s.ctxWord t 2
    if s.ctxF t 15 1 = 1 then (List.range 32).all fun f => !bit m f || s.flagSet t f
    else (List.range 32).any fun f => bit m f && s.flagSet t f

/-! ## Ready lists (R133) -/

def State.ctxState (s : State) (t : Nat) : Nat := s.rd (DISP_CTXSTAT_STATE t)
def State.setCtxState (s : State) (t x : Nat) : State := s.wr (DISP_CTXSTAT_STATE t) x

/-- Joins a list with the next enqueue sequence (R133). A marked task stands at level 0. -/
def State.joinList (s : State) (t : Nat) (mark : Bool) : State :=
  let e : ReadyE := ⟨t, s.ctxF t 7 4, if mark then 0 else s.ctxF t 1 4, s.disp.enq, mark⟩
  let s := { s with disp := { s.disp with ready := s.disp.ready ++ [e], enq := (s.disp.enq + 1) % 2 ^ 32
                                          newReady := if mark then s.disp.newReady else s.disp.newReady ++ [t] } }
  (s.setCtxState t (if mark then cxRequeued else cxReady)).wr (DISP_CTXSTAT_MARK t) (b2n mark)

/-- Takes a task off its list. -/
def State.leaveList (s : State) (t : Nat) : State :=
  { s with disp := { s.disp with ready := s.disp.ready.filter (·.tid ≠ t), held := s.disp.held.filter (· ≠ t)
                                 reserved := s.disp.reserved.filter (·.1 ≠ t) } }

/-- A context that has become ready joins its list, or is HELD when its give-up time has come (R133). -/
def State.becomeReady (s : State) (t : Nat) : State :=
  if !s.background t && s.disp.gaveUp.contains t then
    { s with disp := { s.disp with held := s.disp.held ++ [t] } }.setCtxState t cxHeld
  else s.joinList t false

/-- `a` is older than `b` by serial-number arithmetic; a marked task is older than an unmarked one (R133). -/
def older (a b : ReadyE) : Bool :=
  if a.mark ≠ b.mark then a.mark else a.seq ≠ b.seq && decide ((b.seq + 2 ^ 32 - a.seq) % 2 ^ 32 < 2 ^ 31)

/-! ## ARM, CANCEL, CLEAR, POST (R126, R127, R390) -/

/-- The device range of a map entry lies wholly in the window of pages at `base` (R127). -/
def inView (e : MapE) (base : Nat) : Bool := decide (base ≤ e.dev) && decide (e.dev + e.len ≤ base + 0x1C0000)

/-- A map entry that ARM refuses (R127). -/
def State.badEntry (s : State) (i : Nat) : Bool :=
  let e := s.mapEntry i
  4 < e.cls || e.vbase < 0x10000 || e.vbase % 512 != 0 || e.len % 512 != 0 || e.len == 0 || bits (s.mapWord i 3) 19 13 != 0
  || (e.cls == clParam && !inView e 0x08200000 && !inView e 0x08400000)
  || (e.cls != clInput && decide (e.dev < 0x08200000) && decide (0x08000000 < e.dev + e.len))

/-- The record of a context is one that ARM refuses with BADCFG (R127). -/
def State.badCfg (s : State) (t : Nat) : Bool :=
  let w := fun i => s.ctxWord t i
  let first := bits (w 9) 0 11
  let cnt := bits (w 9) 16 5
  bit (w 0) 31 || bits (w 1) 11 5 != 0 || bits (w 1) 24 8 != 0
  || bits (w 9) 11 5 != 0 || bits (w 9) 21 11 != 0 || bits (w 10) 13 3 != 0 || bits (w 10) 21 11 != 0
  || ((List.range 5).any fun i => w (11 + i) != 0)
  || s.ctxF t 5 2 == 3 || 13 < s.ctxF t 11 4
  || (!s.background t && (s.ctxF t 19 7 < 56 || 90 < s.ctxF t 19 7))
  || bits (w 1) 0 11 < 16
  || (s.ctxF t 17 1 == 1 && s.ctxF t 1 4 != 0)
  || (s.matching t && s.slotMask t == 0) || (!s.matching t && s.slotMask t != 0)
  || (!s.matching t && w 2 == 0)
  || 16 < cnt || 16 < bits (w 10) 16 5 || 2048 < first + cnt || 8192 < bits (w 10) 0 13 + bits (w 10) 16 5
  || ((List.range cnt).any fun i => s.badEntry (first + i))
  || (s.ctxF t 17 1 == 1 && s.matching t)

/-- Takes away what a cancelled deadline task was due: fallback and completion list, no record (R126, R40). -/
def State.cancelDue (s : State) (t : Nat) : State :=
  (if s.background t then (s.release (s.completionPosts t)).endLife t else s.missTask t)

/-- Applies a DISP command (R126): the state and the result code. -/
def State.applyCmd (s : State) (c : DispCmd) : State × Nat :=
  let t := c.tid
  let st := s.ctxState t
  match c.op with
  | 1 =>
    if st ≠ cxDisarmed then (s, 1) else if s.badCfg t then (s, 2)
    else ((s.setCtxState t cxWaiting).touch t, 0)
  | 2 =>
    if st = cxRunning then (s.setCtxState t cxCancelling, 0)
    else if st = cxReady ∨ st = cxHeld then
      let s := (s.leaveList t).setCtxState t cxDisarmed
      (if s.background t then s else s.cancelDue t, 0)
    else if st = cxRequeued then
      (((s.leaveList t).setCtxState t cxDisarmed).wr (DISP_CTXSTAT_MARK t) 0 |>.cancelDue t, 0)
    else if st = cxWaiting then (s.setCtxState t cxDisarmed, 0)
    else (s, 0)
  | 3 =>
    if st ≠ cxDisarmed then (s, 1)
    else
      let held := (List.range 8).foldl (fun n j => n + (tget [] (s.ctx t).slots j).length) 0
      let s := s.modCtx t fun c => { c with flags := 0, counts := [], slots := [] }
      (((s.wr DISP_MSUSE_INUSE (s.rd DISP_MSUSE_INUSE - held)).wr (DISP_CTXSTAT_CSAT t) 0).touch t, 0)
  | 4 => ({ s with disp := { s.disp with hostPosts := s.disp.hostPosts ++ [(t, c.flag)] } }, 0)
  | _ => (s, 2)

/-- Records a command's result (CMDRES). -/
def State.cmdResult (s : State) (t code : Nat) : State :=
  ((s.wr DISP_CMDRES_CODE code).wr DISP_CMDRES_TID t).wr DISP_CMDRES_VALID 1

/-- A write of DISP.CMD from a port whose partition is `q` (R126, R144, R390). A DB command is checked now
and applied at the next downbeat's step, as is every command of a lead, no sooner than 43.333 µs after its write (R343);
another waits for the next step with BUSY at 1. None is the error response of a write while BUSY. -/
def State.writeCmd (s : State) (q op flag tid : Nat) (db : Bool) : Option State :=
  if s.on DISP_STATUS_BUSY then none
  else if tid = 0 then some (s.cmdResult tid 3)
  else if q ≠ warden && (s.partCtx tid != q || (op == 1 && s.partCluster (s.ctxF tid 7 4) != q)) then some (s.cmdResult tid 4)
  else if op = 0 ∨ 4 < op then some (s.cmdResult tid 2)
  else if db || s.rd PAIR_STAT_ROLE == 1 then
    let c : DispCmd := ⟨op, flag, tid⟩
    let code := (s.applyCmd c).2
    let late := s.rd PAIR_STAT_ROLE == 1 && decide (s.io.dbAt + 290000 < s.bc)
    let d := if late then { s.disp with lateCmds := s.disp.lateCmds ++ [c] } else { s.disp with dbCmds := s.disp.dbCmds ++ [c] }
    let s : State := if code = 0 then { s with disp := d } else s
    let s := if code = 0 && s.rd PAIR_STAT_ROLE == 1 then s.tell (.disp c (s.n + b2n late)) else s
    some (s.cmdResult tid code)
  else some ({ s with disp := { s.disp with cmds := s.disp.cmds ++ [(⟨op, flag, tid⟩ : DispCmd)] } }.wr DISP_STATUS_BUSY 1)

/-- Item 2 of a step: host commands in the order received (R130). -/
def State.takeCmds (s : State) : State :=
  let l := s.disp.cmds
  let s := { s with disp := { s.disp with cmds := [] } }
  (l.foldl (fun s c => let (s, code) := s.applyCmd c; s.cmdResult c.tid code) s).wr DISP_STATUS_BUSY 0

/-! ## Ends of runs and give-up times (R130 items 3 and 4, R133) -/

/-- Item 3: a run's end changes its context's state. A fault stop of a run whose context was cancelled before it was
taken in is not re-executed: fallback and completion list, no record (R40, R140). -/
def State.takeEnding (s : State) (e : Nat × Bool) : State :=
  let t := e.1
  let st := s.ctxState t
  if e.2 && st == cxRunning then s.joinList t true
  else if e.2 && st == cxCancelling then (s.missTask t).setCtxState t cxDisarmed
  else
    let s := s.wr (DISP_CTXSTAT_MARK t) 0
    if st = cxRunning then (s.setCtxState t cxWaiting).touch t
    else if st = cxCancelling then s.setCtxState t cxDisarmed
    else s

def State.takeEndings (s : State) : State :=
  let l := s.disp.endings
  l.foldl State.takeEnding { s with disp := { s.disp with endings := [] } }

/-- The core that runs task `t`, or holds its run aside. -/
def State.coreOf (s : State) (t : Nat) : Option Nat :=
  (List.range 256).find? fun k =>
    let c := s.core k
    (match c.run with | some r => r.tid == t | none => false) || (match c.aside with | some a => a.run.tid == t && !a.dead | none => false)

/-- Stops the run of a task on its core at its give-up time: the core is free, goes on at bundle 14 after
an urgent run, or ends the preempted run at RETT (R41, R74, R75). -/
def State.dropRun (s : State) (t : Nat) : State :=
  match s.coreOf t with
  | none => s
  | some k =>
    let c := s.core k
    match c.run with
    | some r =>
      if r.tid = t then
        let s := s.dropShadows r
        if c.urgent then s.modCore k Core.urgentDead
        else (s.modCore k Core.leaveTm).coreToFetch k
      else match c.aside with
        | some a => (s.dropShadows a.run).setCore k { c with aside := some { a with dead := true } }.dropAside
        | none => s
    | none => s

/-- A give-up time (R41, R130 item 4, R133). -/
def State.giveUpTask (s : State) (t : Nat) : State :=
  let st := s.ctxState t
  let fault := (s.ctx t).stops.getLast?
  let check := match fault with | some q => q.check | none => 0
  let pc := match s.coreOf t with | some k => (s.core k).pc | none => 0
  let s := { s with disp := { s.disp with gaveUp := t :: s.disp.gaveUp } }
  if s.background t then s
  else if st = cxReady ∨ st = cxRequeued then
    (((s.leaveList t).abandonTask t check 0x0020 0xFFFF pc 0).wr (DISP_CTXSTAT_MARK t) 0 |>.setCtxState t cxWaiting).touch t
  else if st = cxRunning then ((((s.dropRun t).abandonTask t check 0x0020 0xFFFF pc 0).wr (DISP_CTXSTAT_MARK t) 0).setCtxState t cxWaiting).touch t
  else if st = cxCancelling then ((s.dropRun t).abandonTask t check 0x0020 0xFFFF pc 0).setCtxState t cxDisarmed
  else s

/-- The give-up time of task `t` is reached: the next step takes its give-up actions (R130). -/
def State.giveUp (s : State) (t : Nat) : State :=
  { s with disp := { s.disp with due := s.disp.due ++ [t] } }

/-- Item 4 of a step: the give-up times reached since the last step (R130). Commands and ends of runs come before. -/
def State.takeGiveUps (s : State) : State :=
  s.disp.due.foldl State.giveUpTask { s with disp := { s.disp with due := [] } }

/-! ## Flag updates (R124, R128, R130 item 5, R131) -/

/-- The subscription entries of a source: first entry and how many, truncated at entry 8,191 (R144). -/
def State.sourceSubs (s : State) (src : Nat) : Nat × Nat :=
  let f := s.rd (DISP_SRCCFG_SRCFIRST src)
  (f, min (s.rd (DISP_SRCCFG_SRCCOUNT src)) (8192 - f))

/-- Inserts a source behind those not above it. -/
def insNat (x : Nat) : List Nat → List Nat
  | [] => [x]
  | y :: t => if x < y then x :: y :: t else y :: insNat x t

def sortNat (l : List Nat) : List Nat := l.foldl (fun a x => insNat x a) []

/-- Applies up to `fuel` subscription updates; the rest wait for the next step (R131). -/
def State.applySubs (s : State) : Nat → List (Nat × Nat) → State
  | 0, l => { s with disp := { s.disp with subs := l } }
  | n + 1, l =>
    match l.dropWhile (·.2 == 0) with
    | [] => { s with disp := { s.disp with subs := [] } }
    | (e, cnt) :: l =>
      let w := s.rd (DISP_SUBDATA_ENTRY e)
      State.applySubs (s.postFlag (bits w 0 12) (bits w 16 5)) n ((e + 1, cnt - 1) :: l)

/-- The class of PAIR.MIRCFG that an input source belongs to (R344). -/
def mirClass (src : Nat) : Option Nat :=
  if src < 16 ∨ 640 ≤ src then none else if src < 80 then some 0 else if src < 112 then some 1 else if src < 128 then some 2 else some 3

/-- The source is mirrored (R344). -/
def State.mirrored (s : State) (src : Nat) : Bool :=
  match mirClass src with | some c => bit (s.rd PAIR_MIRCFG_CLASSES) c | none => false

/-- Fires a hardware event source in the next step (R128). On a heel that has joined, a mirrored source waits for
its seal marker (R344). -/
def State.fire (s : State) (src : Nat) : State :=
  if s.rd PAIR_STAT_ROLE == 2 && s.pair.joined.isSome && s.mirrored src then
    { s with pair := { s.pair with wait := s.pair.wait ++ [src] } }
  else { s with disp := { s.disp with fired := s.disp.fired ++ [src] } }

/-- One released post or delivery. -/
def State.takePost (s : State) : PostE → State
  | .post t f => s.postFlag t f
  | .deliver t sl v => s.deliver t sl v

/-- Item 5 of a step: released POSTs and MATCHes, host posts, subscription updates in source order. A repeated POST of
a run waits for its own step (R101). -/
def State.takeUpdates (s : State) : State :=
  let ps := (s.disp.posts.filter (·.1 == 0)).map (·.2)
  let rest := (s.disp.posts.filter (·.1 != 0)).map fun q => (q.1 - 1, q.2)
  let hs := s.disp.hostPosts
  let fs := sortNat s.disp.fired
  let s := { s with disp := { s.disp with posts := rest, hostPosts := [], fired := [] } }
  let s := ps.foldl State.takePost s
  let s := hs.foldl (fun s q => s.postFlag q.1 q.2) s
  let subs := s.disp.subs ++ (fs.map s.sourceSubs).filter (·.2 ≠ 0)
  State.applySubs s 64 subs

/-! ## Readiness (R130 item 6) -/

/-- Evaluates the changed contexts in increasing TID order. -/
def State.evalReady (s : State) : State :=
  (sortNat s.disp.changed).foldl (fun (s : State) t =>
    if s.ctxState t = cxWaiting && s.isReady t then s.becomeReady t else s)
    { s with disp := { s.disp with changed := [] } }

/-! ## Grants (R95, R131 to R137) -/

/-- The physical index that holds logical core `j` of cluster `c` (R142). -/
def State.physOf (s : State) (c j : Nat) : Nat := s.rd (DISP_LMAP_PHYS (c * 14 + j))
def State.vacant (s : State) (c j : Nat) : Bool := bit (s.rd (DISP_LVAC_VAC c)) j
/-- The logical core that physical index `i` of cluster `c` holds. -/
def State.logicalOf (s : State) (c i : Nat) : Option Nat :=
  (List.range 14).find? fun j => s.physOf c j == i && !s.vacant c j

/-- A task's affinity, home and partition allow core `k` (R136, R390). -/
def State.allows (s : State) (t k : Nat) : Bool :=
  let home := s.ctxF t 7 4
  let aff := s.ctxF t 5 2
  let lc := s.ctxF t 11 4
  let part := s.partCtx t
  (part == s.partCluster (clusterOf k)) &&
  (if aff = 0 then true
   else if aff = 1 then clusterOf k == home
   else if s.vacant home lc then clusterOf k == home
   else clusterOf k == home && s.physOf home lc == k % 16)

/-- The task may be granted at this time: DISP.CTRL.EN is 1, a deadline task not in the commit window,
and no task on a heel before D(e) (R133, R140, R348). -/
def State.mayGrant (s : State) (t : Nat) : Bool :=
  s.on DISP_CTRL_EN && !(s.window && !s.background t) && !(s.rd PAIR_STAT_ROLE == 2 && s.pair.joined.isNone)

/-- Core `k` is free for a grant: blocked in FETCH, not to be retired, its cluster not about to leave RUN (R141, R408). -/
def State.coreFree (s : State) (k : Nat) : Bool :=
  s.rd (CORECTL_CSTAT_STATE k) == stIdle && (s.core k).retire.isNone && s.rd (PWR_CSTAT_STATE (clusterOf k)) == 2

/-- The better of two entries for a core: higher level, then marked, then earlier in its list (R134). -/
def betterOwn (a b : ReadyE) : Bool := if a.level ≠ b.level then decide (a.level < b.level) else a.mark && !b.mark

/-- The better of two entries to steal: higher level, then older (R135). -/
def betterSteal (a b : ReadyE) : Bool := if a.level ≠ b.level then decide (a.level < b.level) else older a b

/-- The best element of a list by `better`, the earlier one where neither is better. -/
def bestOf (better : ReadyE → ReadyE → Bool) : List ReadyE → Option ReadyE
  | [] => none
  | e :: l => match bestOf better l with
    | none => some e
    | some f => if better f e then some f else some e

/-- The entry core `k` is granted from its own cluster's lists (R134). -/
def State.ownPick (s : State) (k : Nat) : Option ReadyE :=
  bestOf betterOwn (s.disp.ready.filter fun e => e.cluster == clusterOf k && s.allows e.tid k && s.mayGrant e.tid)

/-- The entry core `k` steals, not one of `kept` (R135, R390). -/
def State.stealPick (s : State) (kept : List Nat) (k : Nat) : Option ReadyE :=
  bestOf betterSteal (s.disp.ready.filter fun e =>
    e.cluster != clusterOf k && !kept.contains e.tid && s.ctxF e.tid 5 2 == 0 && s.allows e.tid k && s.mayGrant e.tid
    && s.partCluster e.cluster == s.partCluster (clusterOf k))

/-- Consumes the flags of the wait mask that are set (R132): the state and the set of them. -/
def State.consume (s : State) (t : Nat) : State × Nat :=
  (List.range 32).foldl (fun (q : State × Nat) f =>
      if bit (s.ctxWord t 2) f && q.1.flagSet t f then
        (q.1.modCtx t fun c =>
          if s.counting t f then { c with counts := tput 0 c.counts f (tget 0 c.counts f - 1) }
          else { c with flags := setBit c.flags f false }, q.2 + 2 ^ f)
      else q) (s, 0)

/-- Takes the operands of a matching task: each used slot gives its first value; a queued one fills it (R138). -/
def State.takeSlots (s : State) (t : Nat) : State :=
  s.modCtx t fun c => (List.range 8).foldl (fun c j =>
    match tget [] c.slots j with
    | v :: l => if bit (s.slotMask t) j then { c with operands := c.operands ++ [(j, v)], slots := tput [] c.slots j l } else c
    | [] => c) c

/-- What the first grant of a task fixes for all its runs: consumed flags, argument word, frame and SIX, memory (R24, R35, R36, R59, R132). -/
def State.firstGrant (s : State) (t : Nat) : State :=
  let (s, set) := if s.matching t then (s.takeSlots t, 0) else s.consume t
  s.modCtx t fun c => { c with arg := if s.ctxF t 18 1 = 1 then set else s.ctxWord t 4
                               frame := s.frame, six := s.fs * s.frame % 2 ^ 32, memB := s.on CORECTL_IMSTAT_ACT, live := true }

/-- The registers at task entry that are not 0 (R24, R47). -/
def State.entryRegs (s : State) (t : Nat) : List (Nat × Nat) :=
  let c := s.ctx t
  let ptrs := [0, 1, 2, 3].flatMap fun i => [(0x18 + i, s.ctxWord t (5 + i)), (0x30 + i, s.ctxWord t (5 + i))]
  (0, c.arg) :: ptrs ++ [(xTID, t), (xFRM, c.frame % 2 ^ 32), (xSIX, c.six)]

/-- Writes the eight operand slots of a matching task (R95 step 3). -/
def State.writeSlots (s : State) (k t : Nat) : State :=
  if s.matching t then
    (List.range 8).foldl (fun s j => s.st (opAddr k (0xFFE0 + 4 * j)) 4 (((s.ctx t).operands.lookup j).getD 0)) s
  else s

/-- Marks the context RUNNING and counts the run (R39, R144). -/
def State.startRun (s : State) (t : Nat) (mark : Bool) : State :=
  let s := (s.leaveList t).setCtxState t cxRunning
  let s := s.wr (DISP_CTXSTAT_RUNS t) (min 3 (s.rd (DISP_CTXSTAT_RUNS t) + 1))
  let s := if mark then s.inc (DISP_CNT_COUNT 0) 1 else s.firstGrant t
  { s with disp := { s.disp with grants := s.disp.grants + 1 } }

/-- Withdraws the urgent trap requests for a task (R137). -/
def State.withdraw (s : State) (t : Nat) : State :=
  match s.disp.reserved.lookup t with
  | some k => s.modCore k fun c => if c.wantUrgent = some t then { c with wantUrgent := none } else c
  | none => s

/-- Grants a task to a core blocked in FETCH (R95). -/
def State.grant (s : State) (k : Nat) (e : ReadyE) (stolen : Bool) : State :=
  let t := e.tid
  let s := ((s.withdraw t).startRun t e.mark)
  let s := if stolen then s.inc (DISP_CNT_COUNT 2) 1 else s
  let c := s.core k
  let c0 := { c with rf := [], pend := [], tagErr := [] }
  let c := (s.entryRegs t).foldl (fun c q => c.force q.1 q.2) c0
  let s := s.setCore k { c with
    pc := bits (s.ctxWord t 1) 0 11, delay := none, slot := false, entry := true
    run := some ⟨t, (s.ctx t).memB, [], [], e.mark⟩, loads := [], stores := [], ending := none, aside := none, urgent := false
    lent := none, wantBreak := false, wantStep := false, granted := s.disp.grants }
  let s := ((s.wr (CORECTL_CSTAT_STATE k) stRun).wr (CORECTL_CSTAT_TID k) t).wr (CORECTL_CSTAT_MEM k) (b2n (s.ctx t).memB)
  (s.unfetch k).writeSlots k t

/-- What core `k` in FETCH is granted: a task of its own cluster's lists, else a stolen one (R134, R135). -/
def State.fetchPick (s : State) (kept : List Nat) (k : Nat) : Option (ReadyE × Bool) :=
  if !s.coreFree k then none
  else match s.ownPick k with
    | some e => some (e, false)
    | none => (s.stealPick kept k).map fun e => (e, true)

/-- Grants to cores of a cluster in FETCH order, at most `fuel` of them (R131, R134). -/
def State.grantCluster (kept : List Nat) (s : State) (fuel : Nat) : List Nat → State
  | [] => s
  | k :: ks =>
    match fuel, s.fetchPick kept k with
    | 0, _ => s
    | n + 1, some (e, stolen) => State.grantCluster kept (s.grant k e stolen) n ks
    | n + 1, none => State.grantCluster kept s (n + 1) ks

/-- The tasks that the cores `ks` of a cluster, in FETCH order, find on its own lists in a step, at most `fuel` (R131,
R134): no other cluster steals them in that step (DEDUCED, log entry 16). -/
def State.ownTasks (s : State) (fuel : Nat) : List Nat → List Nat
  | [] => []
  | k :: ks =>
    match fuel, (if s.coreFree k then s.ownPick k else none) with
    | 0, _ => []
    | n + 1, some e => e.tid :: State.ownTasks { s with disp := { s.disp with ready := s.disp.ready.filter (·.tid ≠ e.tid) } } n ks
    | n + 1, none => State.ownTasks s (n + 1) ks

/-- Inserts core `k` behind those of no higher logical number. -/
def State.insLogical (s : State) (k : Nat) : List Nat → List Nat
  | [] => [k]
  | j :: l =>
    let lg := fun k => (s.logicalOf (clusterOf k) (k % 16)).getD 14
    if lg k < lg j then k :: j :: l else j :: State.insLogical s k l

/-- Cores that entered FETCH since the last step are served behind the earlier ones, by rising logical number (R134). -/
def State.orderFetch (s : State) : State :=
  let l := s.disp.fetchNew.foldl (fun l k => s.insLogical k l) []
  { s with disp := { s.disp with fetchQ := s.disp.fetchQ ++ l, fetchNew := [] } }

/-- The cores of cluster `c` blocked in FETCH, in the order in which they are served (R134). -/
def State.inFetch (s : State) (c : Nat) : List Nat := s.disp.fetchQ.filter fun k => clusterOf k == c

/-- Item 7 of a step (R131, R134, R135): by rising cluster number, each cluster's cores in FETCH order, at most 2. -/
def State.grantAll (s : State) : State :=
  let s := s.orderFetch
  let kept := (List.range 16).flatMap fun c => s.ownTasks 2 (s.inFetch c)
  (List.range 16).foldl (fun (s : State) c => State.grantCluster kept s 2 (s.inFetch c)) s

/-! ## Urgent dispatch (R74, R137) -/

/-- The core to preempt for an urgent task: of those that qualify, the highest level number, then the run granted last. -/
def State.preemptPick (s : State) (t : Nat) : Option Nat :=
  let ok := fun (k : Nat) =>
    let c := s.core k
    s.rd (CORECTL_CSTAT_STATE k) == stRun && bit c.sr 9 && !c.tm && c.wantUrgent.isNone && c.retire.isNone && s.allows t k
    && (match c.run with | some r => decide (1 ≤ s.ctxF r.tid 1 4) | none => false)
  let lev : Nat → Nat := fun k => match (s.core k).run with | some r => s.ctxF r.tid 1 4 | none => 0
  (List.range 256).foldl (fun (b : Option Nat) k =>
    if !ok k then b else match b with
      | none => some k
      | some j => if lev j < lev k ∨ (lev j = lev k ∧ (s.core j).granted < (s.core k).granted) then some k else some j) none

/-- Signals an URGENT trap for each urgent task that became READY in this step and was not granted (R137). -/
def State.signalUrgent (s : State) : State :=
  s.disp.newReady.foldl (fun s t =>
    if s.ctxState t = cxReady && s.ctxF t 17 1 == 1 && s.mayGrant t then
      match s.preemptPick t with
      | some k => { s with disp := { s.disp with reserved := (t, k) :: s.disp.reserved } }.modCore k fun c => { c with wantUrgent := some t }
      | none => s
    else s) { s with disp := { s.disp with newReady := [] } }

/-- The URGENT trap at a safe point (R68 to R75): the run is held aside and the urgent task granted, in the instruction
memory of its own first grant (R59). -/
def State.takeUrgent (s : State) (k : Nat) : State :=
  let c := s.core k
  match c.wantUrgent, c.run with
  | some t, some r =>
    if s.ctxState t ≠ cxReady then s.modCore k fun c => { c with wantUrgent := none }
    else if !bit c.sr 9 then (s.setCore k { c with wantUrgent := none }).withdraw t
    else if s.rd (CORECTL_CSTAT_STATE k) = stRun && !c.tm && c.safePoint && c.retire.isNone && s.mayGrant t then
      let keep := [0, 0x18, 0x19, 0x1A, 0x1B, 0x20, 0x21, 0x22, 0x23, 0x28, 0x29, 0x2A, 0x2B, 0x30, 0x31, 0x32, 0x33, xTID, xFRM, xSIX]
      let regs := keep.map fun i => (i, c.settle.see .plain i)
      let entry := bits (s.ctxWord t 1) 0 11
      let s := s.startRun t false
      let s := s.takeTrap k 0x30 0 entry c.pc false 0
      let c1 := [0x20, 0x21, 0x22, 0x23, 0x28, 0x29, 0x2A, 0x2B].foldl (fun c i => Core.force c i 0) (s.core k)
      let c1 := (s.entryRegs t).foldl (fun c q => c.force q.1 q.2) c1
      let s := s.setCore k { c1 with
        aside := some ⟨r, regs, c.stores, false⟩, urgent := true, wantUrgent := none, stores := [], loads := []
        run := some ⟨t, (s.ctx t).memB, [], [], false⟩, granted := s.disp.grants }
      (s.wr (CORECTL_CSTAT_TID k) t).wr (CORECTL_CSTAT_MEM k) (b2n (s.ctx t).memB)
    else s
  | _, _ => s

/-! ## Retirement and spares (R141 to R143) -/

/-- Physical index `i` of cluster `c` is a spare: not retired and holding no logical number (R142). -/
def State.isSpare (s : State) (c i : Nat) : Bool := !(s.core (c * 16 + i)).retired && (s.logicalOf c i).isNone

/-- The SPARE of a cluster with the lowest physical index. -/
def State.spareOf (s : State) (c : Nat) : Option Nat := (List.range 16).find? fun i => s.isSpare c i

/-- SPARES of LVAC. -/
def State.countSpares (s : State) (c : Nat) : State :=
  s.wr (DISP_LVAC_SPARES c) ((List.range 16).filter fun i => s.isSpare c i).length

/-- Sets whether core `k` is in service (INSVC). -/
def State.inService (s : State) (k : Nat) (b : Bool) : State :=
  s.wr (CORECTL_INSVC_MAP (k / 32)) (setBit (s.rd (CORECTL_INSVC_MAP (k / 32))) (k % 32) b)

/-- Gives logical core `j` of cluster `c` to physical index `i`, which enters service and performs FETCH (R142). -/
def State.activate (s : State) (c j i : Nat) : State :=
  let k := c * 16 + i
  let s := (s.wr (DISP_LMAP_PHYS (c * 14 + j)) i).wr (DISP_LVAC_VAC c) (setBit (s.rd (DISP_LVAC_VAC c)) j false)
  ((s.inService k true).coreToFetch k).countSpares c

/-- STATUS.VACANT: some logical core of some cluster is vacant (R144). -/
def State.vacancy (s : State) : State :=
  s.wr DISP_STATUS_VACANT (b2n ((List.range 16).any fun c => s.rd (DISP_LVAC_VAC c) != 0))

/-- Retires core `k` (R141, R142): a spare takes its logical number, or the number is vacant; one DEGRADED record. -/
def State.retireCore (s : State) (k cause : Nat) : State :=
  let c := clusterOf k
  let s := (s.modCore k fun x => { x with retire := none, retired := true }).unfetch k
  let lg := s.logicalOf c (k % 16)
  let s := (s.wr (CORECTL_CSTAT_STATE k) stRetired).inService k false
  let check := stopCheck (cause % 256)
  let fin := fun (s : State) (repl : Nat) =>
    (s.countSpares c).emit { mkRec cDegraded check 0x0010 uCore k (d16 repl ++ [cause % 256]) with escalated := cause ≥ 0x100 }
  match lg with
  | none => fin s 0xFFFF
  | some j =>
    match s.spareOf c with
    | some i => fin (s.activate c j i) (c * 16 + i)
    | none => fin ((s.wr (DISP_LVAC_VAC c) (setBit (s.rd (DISP_LVAC_VAC c)) j true)).vacancy) 0xFFFF

/-- A retired core becomes a SPARE; it fills the lowest vacant logical number (R141, R143). -/
def State.restoreCore (s : State) (k : Nat) : State :=
  if !(s.core k).retired then s else
  let c := clusterOf k
  let s := (s.modCore k fun x => { x with retired := false }).wr (CORECTL_CSTAT_STATE k) stSpare
  match (List.range 14).find? fun j => s.vacant c j with
  | some j => (s.activate c j (k % 16)).vacancy
  | none => s.countSpares c

/-- The cores of a cluster in the order in which retirements are served: logical numbers first (R143). -/
def State.retireOrder (s : State) (c : Nat) : List Nat :=
  let lg := (List.range 14).filterMap fun j => if s.vacant c j then none else some (c * 16 + s.physOf c j)
  lg ++ ((List.range 16).map (c * 16 + ·)).filter fun k => !lg.contains k

/-- The record of a retirement that an injected error would cause: nothing is retired (R141, R373). -/
def State.recordRetire (s : State) (k cause : Nat) : State :=
  let c := clusterOf k
  let repl := match s.logicalOf c (k % 16), s.spareOf c with | some _, some i => c * 16 + i | _, _ => 0xFFFF
  s.emit { mkRec cDegraded (stopCheck (cause % 256)) 0x0010 uCore k (d16 repl ++ [cause % 256]) with
    injected := true, escalated := bit cause 8 }

/-- A stopped core at the downbeat: it returns to service, or is retired with the others (R37, R141). -/
def State.downbeatCore (s : State) (k : Nat) : State :=
  let c := s.core k
  let back := fun (s : State) =>
    if s.rd (CORECTL_CSTAT_STATE k) = stStopped then
      (s.modCore k fun c => { c with rf := tput 0 c.rf xSR (BitVec.ofNat 80 (setBit (tget 0 c.rf xSR).toNat 8 false)) }).coreToFetch k
    else s
  match c.retire with
  | some cause =>
    if 0x200 ≤ cause then back ((s.recordRetire k cause).modCore k fun c => { c with retire := none })
    else if c.run.isNone && c.aside.isNone then s.retireCore k cause else s
  | none => back s

/-- Retirements, returns and restorations of a downbeat (R130 item 1, R141 to R143). -/
def State.downbeatCores (s : State) : State :=
  let s := (List.range 16).foldl (fun s c => (s.retireOrder c).foldl State.downbeatCore s) s
  let l := s.disp.restores
  let s := l.foldl State.restoreCore { s with disp := { s.disp with restores := [] } }
  let k := s.rd DISP_CORECMD_CORE
  s.wr DISP_CORECMD_PEND (b2n (s.rd DISP_CORECMD_OP == 1 && (s.core k).retire.isSome))

/-- The dispatcher's own part of item 1: HELD tasks join their lists, staged commands apply (R130). -/
def State.downbeatTasks (s : State) : State :=
  let l := s.disp.held
  let s := { s with disp := { s.disp with held := [] } }
  let s := l.foldl (fun s t => s.joinList t false) s
  let cs := s.disp.dbCmds
  cs.foldl (fun s c => (s.applyCmd c).1) { s with disp := { s.disp with dbCmds := [] } }

/-- Items 2 to 7 of a step (R130). -/
def State.stepRest (s : State) : State :=
  s.takeCmds.takeEndings.takeGiveUps.takeUpdates.evalReady.grantAll.signalUrgent

/-! ## Asynchronous traps and HOLD (R68, R69, R75, R78) -/

/-- A breakpoint matches the next bundle of core `k` (R78). -/
def State.breakHere (s : State) (k : Nat) : Bool :=
  let c := s.core k
  s.on CORECTL_DBG_EN && s.on (CORECTL_CBRK_EN k) && s.rd (CORECTL_CBRK_ADDR k) == c.pc
  && c.run.isSome && b2n c.memB == s.rd (CORECTL_CBRK_MEM k)

/-- BREAK: at a safe point before the bundle at ADDR, or at the next one (R68, R69). -/
def State.takeBreak (s : State) (k : Nat) : State :=
  let c := s.core k
  if !(s.breakHere k || c.wantBreak) || s.rd (CORECTL_CSTAT_STATE k) ≠ stRun then s
  else if c.safePoint && !c.tm then (s.modCore k fun c => { c with wantBreak := false }).takeTrap k 0x20 0 0 c.pc false 0
  else s.modCore k fun c => { c with wantBreak := true }

/-- STEP: after a single-stepped bundle, at the next safe point (R68, R78). -/
def State.takeStep (s : State) (k : Nat) : State :=
  let c := s.core k
  let st := s.rd (CORECTL_CSTAT_STATE k)
  if c.wantStep && c.run.isSome && (st == stRun || st == stHeld) && c.safePoint && !c.tm && s.on CORECTL_DBG_EN then
    (s.modCore k fun c => { c with wantStep := false }).takeTrap k 0x21 0 0 c.pc false 0
  else s

/-- HOLD at a safe point: state HELD, withheld from FETCH (R75, R78). -/
def State.takeHold (s : State) (k : Nat) : State :=
  let c := s.core k
  let st := s.rd (CORECTL_CSTAT_STATE k)
  if s.holding k && (st == stRun || st == stTrap || st == stIdle) && c.safePoint then
    (s.wr (CORECTL_CSTAT_STATE k) stHeld).unfetch k
  else s

/-- HOLD released: the core resumes where it was held; a core that was in FETCH performs FETCH again. -/
def State.releaseHold (s : State) (k : Nat) : State :=
  if s.rd (CORECTL_CSTAT_STATE k) ≠ stHeld then s
  else
    let c := s.core k
    if c.run.isNone && c.aside.isNone then s.coreToFetch k
    else (s.setCore k { c with stepping := false }).wr (CORECTL_CSTAT_STATE k) (if c.tm then stTrap else stRun)

end Sys2Proof.Machine
end

