-- ==== Sys2Proof/Machine/Host.lean ====
section
/-! DEFINITION. Register accesses by access code (R3, R4, R8 to R10, R440), partition checks of register blocks
(R378, R389), the journal (R395), memory as rings reach it, command rings and completions (R379 to R385). -/
namespace Sys2Proof.Machine

/-! ## Who makes an access -/

/-- The accessor of a transaction: its partition (8 the warden), the port code of the journal, its
crossbar master and its QoS (R152, R155, R376, R378, R395). -/
structure Who where
  q : Nat
  code : Nat
  master : Nat
  qos : Nat
  deriving DecidableEq, Repr

/-- The accessor that a port stands for. -/
def State.whoOf (s : State) (p : Port) : Who :=
  { q := s.portPart p
    code := match p with | .pcie _ => 0 | .spi => 1 | .image => 2
    master := 16, qos := s.rd HOST_CTRL_QOS }

/-- The safety image or the device itself, with the warden's rights. -/
def imageWho : Who := ⟨warden, 2, 16, 8⟩

/-- Answers an access: the response and the state. -/
def State.answer (s : State) (r : Resp) : State := { s with resp := r }

/-- Answers a write that was accepted, or refused with an error response. -/
def State.answerW (s : State) (ok : Bool) : State := s.answer (if ok then .ok [] else .error)

/-- Records an access refused by a partition check (R389). -/
def State.refusedRec (s : State) (w : Who) (a : Nat) : State :=
  s.emit (mkRec cCorrected 0 0x000A uMaster w.master (detA a w.master w.qos))

/-- The number of the register block that holds an address (R11). -/
def blockOf (a : Nat) : Nat := (a - 0x0A000000) / 0x10000

/-- The block may be reached by the accessor (R389). -/
def State.mayReach (s : State) (w : Who) (blk : Nat) (write : Bool) : Bool :=
  w.q == warden || blk == 0x01 || blk == 0x05 || blk == 0x17 || (if blk = 0x16 then !write else s.partBlock blk == w.q)

/-! ## Fields and access codes -/

/-- The value of a register as its fields stand. -/
def State.rowVal (s : State) (r : RegRow) (i : Nat) : Nat :=
  (r.flds i).foldl (fun v q => v + s.rd q.2.1 * 2 ^ q.1) 0

/-- The value a write gives the fields that it may change. -/
def State.rowNew (s : State) (r : RegRow) (i v : Nat) : Nat :=
  (r.flds i).foldl (fun x q => x + (if q.2.2 = .ro then s.rd q.2.1 else bits v q.1 q.2.1.w) * 2 ^ q.1) 0

/-- Writes one field by its access code (R9). -/
def State.wrField (s : State) (v : Nat) (q : Nat × Fld × Access) : State :=
  let x := bits v q.1 q.2.1.w
  match q.2.2 with
  | .ro => s
  | .wo => s
  | .rw => s.wr q.2.1 x
  | .rww => s.wr q.2.1 x
  | .w1c => s.wr q.2.1 (s.rd q.2.1 - (s.rd q.2.1 &&& x))
  | .rwe => s.stage q.2.1 x

/-- Writes every field of a register by its access code; reserved bits are ignored (R4). -/
def State.wrRow (s : State) (r : RegRow) (i v : Nat) : State := (r.flds i).foldl (fun s q => s.wrField v q) s

/-- The write would change the field (R440). -/
def State.changes (s : State) (r : RegRow) (i v : Nat) (f : Fld) : Bool :=
  (r.flds i).any fun q => q.2.1 == f && bits v q.1 f.w != s.rd f

/-- The write would change a field of the register that host software may write (R9, R440). -/
def State.changesRow (s : State) (r : RegRow) (i v : Nat) : Bool :=
  (r.flds i).any fun q => (q.2.2 == .rw || q.2.2 == .rww) && bits v q.1 q.2.1.w != s.rd q.2.1

/-- The value an RWW field reads: HOLD reads 0 while the debug port is off (R77). -/
def State.rwwNow (s : State) (f : Fld) : Nat :=
  if f.no = (CORECTL_CCTRL_HOLD 0).no then (if s.on CORECTL_DBG_EN then s.rd f else 0) else s.rd f

/-- The register at an index is read-only as a whole: PDDATA of a register page (R195). -/
def RegRow.fixed (r : RegRow) (i : Nat) : Bool := r.addr == 0x0A050024 && decide (1792 ≤ i)

/-- The write would change an RWW field. -/
def State.changesRww (s : State) (r : RegRow) (i v : Nat) : Bool :=
  !r.fixed i && (r.flds i).any fun q => q.2.2 == .rww && bits v q.1 q.2.1.w != s.rwwNow q.2.1

/-! ## The journal (R395) -/

/-- The journal holds 256 entries that have not been consumed. -/
def State.journalFull (s : State) : Bool :=
  decide (256 ≤ (s.rd WARD_JPI_INDEX + 2 ^ 32 - s.rd WARD_JCI_INDEX) % 2 ^ 32)

/-- Entries the journal has room for. -/
def State.journalFree (s : State) : Nat := 256 - (s.rd WARD_JPI_INDEX + 2 ^ 32 - s.rd WARD_JCI_INDEX) % 2 ^ 32

/-- Writes a journal entry: where, old and new value, kind, port and reason. -/
def State.journal (s : State) (subject old new kind port reason : Nat) : State :=
  let e := s.rd WARD_JPI_INDEX % 256 * 8
  let ws := [s.rd WARD_JPI_INDEX, s.frame % 2 ^ 32, subject, old, new, kind + 2 ^ 8 * port + 2 ^ 16 * reason,
    s.bc % 2 ^ 32, s.bc / 2 ^ 32 % 2 ^ 32]
  let s := ws.zipIdx.foldl (fun s q => s.wr (WARD_JDATA_WORD (e + q.2)) q.1) s
  s.inc WARD_JPI_INDEX 1

/-! ## A register write -/

/-- What a register with rules of its own makes of a write that has passed the access checks: the state
before, the accessor, the register, its index, the value, and the state that its access codes give; none where refused. -/
abbrev OptHook := State → Who → RegRow → Nat → Nat → State → Option State

/-- The same with the state that a refused write leaves and whether it was accepted. -/
abbrev Hook := State → Who → RegRow → Nat → Nat → State → State × Bool

/-- A refused write leaves the state as it was. -/
def OptHook.full (h : OptHook) : Hook := fun s w r i v t => match h s w r i v t with | some u => (u, true) | none => (s, false)

/-- The device address of a register, for an index of its fields. -/
def RegRow.at_ (r : RegRow) (i : Nat) : Nat :=
  if r.win == .mf then r.addr + i / 64 % r.n1 * r.s1
  else if 1 < r.n2 then r.addr + i / r.n2 * r.s1 + i % r.n2 * r.s2 else r.addr + i % r.n1 * r.s1

/-- A write of the safety-arming bit, which a full journal does not refuse (R395). -/
def isArm (r : RegRow) (v : Nat) : Bool := r.addr == 0x0A130000 && bit v 0

/-- A 32-bit write of a register: partition, RWW, the register's own rules, the journal (R9, R389, R395, R440).
Answers whether it was accepted. -/
def State.writeRow (hook : Hook) (s : State) (w : Who) (r : RegRow) (i v : Nat) : State × Bool :=
  let a := r.at_ i
  if !s.mayReach w (blockOf a) true then (s.refusedRec w a, false)
  else
    let rww := s.changesRww r i v
    if rww && w.q != warden then (s.refusedRec w a, false)
    else
      let jci := r.addr == 0x0A160024
      if rww && s.journalFull && !isArm r v && !jci then (s, false)
      else match hook s w r i v (s.wrRow r i v) with
        | (t, false) => (t, false)
        | (t, true) =>
          if !rww then (t, true)
          else if t.journalFull then (t.incSat WARD_JSTAT_LOST 1, true)
          else (t.journal (a % 2 ^ 31) (s.rowVal r i) (s.rowNew r i v) 0 w.code 0, true)

/-! ## Memory as a device address reaches it -/

/-- One byte at a device address; a marked page reads as its fallback (R41), a poisoned word as 0 (R363). -/
def State.devByte (s : State) (a : Nat) : Byte :=
  if s.poison.contains (s.phys a / 8) then 0 else
  match s.sramPage a with
  | some (c, p) =>
    match s.markOf (pageKey c p) with
    | none => byteAt s.mem (s.phys a)
    | some _ => BitVec.ofNat 8 (s.pageWord c p (a % 512 / 4) / 2 ^ (8 * (a % 4)))
  | none => byteAt s.mem (s.phys a)

/-- `n` bytes from a device address. -/
def State.devGet (s : State) (a : Nat) : Nat → List Byte
  | 0 => []
  | n + 1 => s.devByte a :: s.devGet (a + 1) n

/-- A number of `n` bytes at a device address. -/
def State.devLd (s : State) (a n : Nat) : Nat := leNat (s.devGet a n)
/-- Writes a number of `n` bytes at a device address. -/
def State.devSt (s : State) (a n v : Nat) : State := s.devPut a (leBytes v n)

/-! ## Reads by engines, rings the host produces -/

/-- A read of memory that answers: its ECC checks, and the bytes, 0 in a word that could not be read (R363). -/
def State.memGet (s : State) (master qos a n : Nat) : State × List Byte :=
  let s := (s.eccRead a n master qos).1
  (s, s.devGet a n)

/-- A read of an engine, in bursts: the bytes it cannot read are 0 (R363). -/
def State.engineRead (s : State) (master qos a n : Nat) : State × List Byte :=
  (spans a n).foldl (fun (q : State × List Byte) x =>
    if q.1.answers x.1 false then
      let (s, bs) := q.1.memGet master qos x.1 x.2
      (s, q.2 ++ bs)
    else (q.1.noAnswer master qos x.1 false, q.2 ++ List.replicate x.2 0)) (s, [])

/-- Reads bytes where a ring's memory lies (R379, LOC). -/
def State.ringGet (s : State) (r a n : Nat) : State × List Byte :=
  if s.on (HOST_RCFG_LOC r) then (s, bytesAt s.hostMem (hostAddr (s.rd (HOST_RCFG_FN r)) a) n)
  else s.engineRead (s.ringMaster r).1 (s.ringMaster r).2 a n

/-- Reads the entry at RCI. -/
def State.ringFetch (s : State) (r : Nat) : State × List Byte :=
  s.ringGet r (s.ringBase r + s.rd (HOST_RCI_INDEX r) % s.ringSize r * 64) 64

/-- The 64 bytes of the entry at RCI. -/
def State.ringEntry (s : State) (r : Nat) : List Byte := (s.ringFetch r).2

/-- Bytes `lo` to `lo + n − 1` of an entry as a number. -/
def entN (e : List Byte) (lo n : Nat) : Nat := leNat ((e.drop lo).take n)

/-- Status codes of R384. -/
def stOK : Nat := 0
def stDUP : Nat := 1
def stMALFORMED : Nat := 2
def stBADOP : Nat := 3
def stORDER : Nat := 4
def stUNKNOWN : Nat := 5
def stPARTITION : Nat := 6
def stOVERFLOW : Nat := 7
def stCANCELLED : Nat := 8
def stNOTPENDING : Nat := 9
def stNOTLEAD : Nat := 0x0A
def stNOTMIRRORED : Nat := 0x0B
def stACCESS : Nat := 0x0C

/-- The ring that completions of ring `r` go to. -/
def State.peerOf (s : State) (r : Nat) : Nat := s.rd (HOST_RCFG_PEER r)

/-- Ring `r` has an entry to execute, and room in the ring its completion goes to (R381). -/
def State.cmdReady (s : State) (r : Nat) : Bool :=
  s.ringIs r ringCmd && s.ringUsed r != 0 && !(s.ringIs (s.peerOf r) ringCpl && s.ringFull (s.peerOf r))

/-- The ring holds a command with an opcode that `p` accepts. -/
def State.cmdIs (s : State) (r : Nat) (p : Nat → Bool) : Bool := s.cmdReady r && p (entN (s.ringEntry r) 0 1)

/-- Writes a completion (R384) to ring `peer`, where that is an enabled CPL ring; one that PCIE_PERST_N has
disabled counts it as dropped (R416). -/
def State.completion (s : State) (peer op status ring seq tag result : Nat) (late : Bool) : State :=
  if s.ringIs peer ringCpl then
    if s.ringFull peer then s.incSat (HOST_RSTAT_DROP peer) 1
    else s.ringPush peer (leBytes op 1 ++ leBytes status 1 ++ leBytes ring 1 ++ leBytes 0 1 ++ leBytes seq 4 ++ leBytes tag 8
      ++ leBytes s.bc 8 ++ leBytes result 8 ++ leBytes (b2n late) 1 ++ leBytes 0 1 ++ padTo 30 (leBytes (s.rd SYS_NODE_ID) 2))
  else if s.rd (HOST_RCFG_TYPE peer) = ringCpl && s.on (HOST_RCFG_LOC peer) then s.incSat (HOST_RSTAT_DROP peer) 1
  else s

/-- SEQ is newer than RSEQ (R385). -/
def State.newSeq (s : State) (r seq : Nat) : Bool :=
  let d := (seq + 2 ^ 32 - s.rd (HOST_RSEQ_SEQ r)) % 2 ^ 32
  decide (1 ≤ d) && decide (d ≤ 2 ^ 31 - 1)

/-- Takes the command at RCI of ring `r`, executes it when its SEQ is newer, and writes its completion (R382, R385).
`run` gives the status, the result and LATE; none where the completion comes later. -/
def State.takeCommand (s : State) (r : Nat) (run : State → List Byte → State × Option (Nat × Nat × Bool)) : State :=
  let (s, e) := s.ringFetch r
  let seq := entN e 4 4
  let fin := fun (s : State) (q : Nat × Nat × Bool) => s.completion (s.peerOf r) (entN e 0 1) q.1 r seq (entN e 8 8) q.2.1 q.2.2
  if !s.newSeq r seq then fin (s.inc (HOST_RCI_INDEX r) 1) (stDUP, 0, false)
  else
    let s := (s.inc (HOST_RCI_INDEX r) 1).wr (HOST_RSEQ_SEQ r) seq
    match run s e with
    | (t, some q) => fin t q
    | (t, none) => t

end Sys2Proof.Machine
end

