-- ==== Sys2Proof/Machine/Epoch.lean ====
section
/-! DEFINITION. The epoch and glide engine (chapter 08): banks of parameter pages, commits, glides, groups, snapshots. -/
namespace Sys2Proof.Machine

/-! ## Pages and banks (R174, R175) -/

/-- Device addresses of the banks of page `p`: STAGE, TARGET and ACTIVE views (R175). -/
def stageAddr (p : Nat) : Nat := 0x08000000 + p * 0x400
def targetAddr (p : Nat) : Nat := 0x08200000 + p * 0x400
def activeAddr (p : Nat) : Nat := 0x08400000 + p * 0x400

/-- Page kind GLIDE (R177). -/
def State.glide (s : State) (p : Nat) : Bool := s.on (EPOCH_PDDATA_KIND p)
/-- A change is in progress on the page. -/
def State.changing (s : State) (p : Nat) : Bool := s.on (EPOCH_PGSTAT_CHG p)
def State.page (s : State) (p : Nat) : PageSt := tget PageSt.reset s.epoch.pages p
def State.setPage (s : State) (p : Nat) (q : PageSt) : State :=
  { s with epoch := { s.epoch with pages := tput PageSt.reset s.epoch.pages p q } }

/-- The sample index of D(n):0, modulo 2^32 (R24, R178). -/
def State.sampleIx (s : State) (n : Nat) : Nat := s.fs * n % 2 ^ 32

/-- The register block of a register page that has RWE fields: ROUTE and CORECTL (R174). -/
def rweBlock (p : Nat) : Bool := p == 1798 || p == 1818

/-- PDDATA.VALID of a page as it reads (R195). -/
def State.pageValid (s : State) (p : Nat) : Bool := if p < 1792 then s.on (EPOCH_PDDATA_VALID p) else rweBlock p

/-- PDDATA.OWNER of a page as it reads (R195). -/
def State.pageOwner (s : State) (p : Nat) : Nat := if p < 1792 then s.rd (EPOCH_PDDATA_OWNER p) else s.partBlock (p - 1792)

/-! ## Glides (R180) -/

/-- j − j0 as a signed 32-bit difference. -/
def sinceJ0 (j j0 : Nat) : Int := sx 32 ((j + 2 ^ 32 - j0 % 2 ^ 32) % 2 ^ 32)

/-- g(j) of a GLIDE word (R180). -/
def glideWord (a t : Nat) (chg : Bool) (j0 kk j : Nat) : Nat :=
  if !chg then t else ux 32 (glideAt (sx 32 a) (sx 32 t) (sinceJ0 j j0) kk)

/-- w(j) of XFADE (R180). -/
def xfadeAt (chg : Bool) (j0 kk j : Nat) : Nat :=
  let k := sinceJ0 j j0
  if !chg || kk = 0 || (kk : Int) ≤ k then 0x7FFFFFFF else ux 32 ((2 ^ 31 - 1 : Nat) * k / kk)

/-- The page as it stands. -/
def State.pageImage (s : State) (p : Nat) : PageImage :=
  { glide := s.glide p, chg := s.changing p, j0 := (s.page p).j0, kk := (s.page p).kk
    target := s.devGet (targetAddr p) 1024, active := s.devGet (activeAddr p) 1024 }

/-- The page of the epoch that task `t` reads (R36). -/
def State.pageOf (s : State) (t p : Nat) : PageImage :=
  match (s.ctx t).oldPages.lookup p with
  | some q => q
  | none => s.pageImage p

/-- The task maps page `p` as class PARAM. -/
def State.mapsPage (s : State) (t p : Nat) : Bool :=
  (s.taskMap t).any fun e => e.cls == clParam &&
    ((decide (e.dev < targetAddr p + 0x400) && decide (targetAddr p < e.dev + e.len))
      || (decide (e.dev < activeAddr p + 0x400) && decide (activeAddr p < e.dev + e.len)))

/-- The page is HELD (R183). -/
def State.pageHeld (s : State) (p : Nat) : Bool :=
  match (s.page p).appliedAt with
  | none => false
  | some n => s.ctxs.any fun q => q.2.live && s.background q.1 && decide (q.2.frame < n) && s.mapsPage q.1 p

/-- Keeps the page as it stands for every run in progress that reads it (R36). -/
def State.keepOld (s : State) (p : Nat) : State :=
  let img := s.pageImage p
  s.ctxs.foldl (fun s q =>
    if q.2.live && decide (q.2.frame < s.frame) && s.mapsPage q.1 p && (q.2.oldPages.lookup p).isNone then
      s.modCtx q.1 fun c => { c with oldPages := tins c.oldPages p img }
    else s) s

/-! ## Parameter reads (R181) -/

/-- The page and the offset in it of an address in a TARGET or ACTIVE view; true for ACTIVE. -/
def viewOf (a : Nat) : Option (Nat × Nat × Bool) :=
  if 0x08200000 ≤ a ∧ a < 0x083C0000 then some ((a - 0x08200000) / 0x400, (a - 0x08200000) % 0x400, false)
  else if 0x08400000 ≤ a ∧ a < 0x085C0000 then some ((a - 0x08400000) / 0x400, (a - 0x08400000) % 0x400, true)
  else none

/-- Bytes `o` to `o + n − 1` of a bank image. -/
def imgWord (l : List Byte) (o n : Nat) : Nat := leNat ((l.drop o).take n)

/-- A plain read of class PARAM by task `t` (R181). -/
def State.paramLoad (s : State) (t a n : Nat) : Nat :=
  match viewOf a with
  | none => 0
  | some (p, o, act) =>
    let q := s.pageOf t p
    imgWord (if act && q.chg then q.active else q.target) o n

/-- GLD (R89, R181). -/
def State.gldRead (s : State) (t a j : Nat) : Nat :=
  match viewOf a with
  | none => 0
  | some (p, o, _) =>
    let q := s.pageOf t p
    if q.glide then glideWord (imgWord q.active o 4) (imgWord q.target o 4) q.chg q.j0 q.kk j else imgWord q.target o 4

/-- XFADE (R89, R181). -/
def State.xfadeRead (s : State) (t a j : Nat) : Nat :=
  match viewOf a with
  | none => 0
  | some (p, _, _) => let q := s.pageOf t p; xfadeAt q.chg q.j0 q.kk j

/-! ## The glide pool (R182) -/

/-- Sets POOL.FREE, and LOW where it falls below. -/
def State.setFree (s : State) (v : Nat) : State :=
  let s := s.wr EPOCH_POOL_FREE v
  if v < s.rd EPOCH_POOL_LOW then s.wr EPOCH_POOL_LOW v else s

/-- The glide pool's frames, in the order in which they are taken (log entry 9). -/
def State.poolFrames (s : State) : List Nat :=
  s.epoch.pool.getD ((List.range 3).flatMap fun v => (List.range 256).map fun i => 2048 * v + 1792 + i)

/-- A frame returns to the glide pool. -/
def State.givePool (s : State) (f : Nat) : State :=
  ({ s with epoch := { s.epoch with pool := some (s.poolFrames ++ [f]) } }).setFree (s.rd EPOCH_POOL_FREE + 1)

/-- Points view page `v` of the store at frame `f`. -/
def State.setFrame (s : State) (v f : Nat) : State :=
  { s with epoch := { s.epoch with frames := tput v s.epoch.frames v f } }

/-- The pages of the three views that show the banks of page `p`. -/
def stageV (p : Nat) : Nat := p
def targetV (p : Nat) : Nat := 2048 + p
def activeV (p : Nat) : Nat := 4096 + p

/-- A read of a bank's 1 KiB by the epoch engine, crossbar master 22 (R152); a word it cannot read is 0 (R363). -/
def State.bankRead (s : State) (a : Nat) : State × List Byte := s.memGet 22 0 a 1024

/-- The engine copies one bank to another (R178, R179). -/
def State.bankCopy (s : State) (dst src : Nat) : State :=
  let (s, bs) := s.bankRead src
  s.devPut dst bs

/-- The values of every word of a page at sample index `j`, from the contents of its banks (R178). -/
def reachedBytes (glide : Bool) (q : PageImage) (j : Nat) : List Byte :=
  if glide then
    (List.range 256).flatMap fun i => leBytes (glideWord (imgWord q.active (4 * i) 4) (imgWord q.target (4 * i) 4) q.chg q.j0 q.kk j) 4
  else q.target

/-- The values of every word of a page at sample index `j`, as the engine reads its banks. -/
def State.reached (s : State) (p j : Nat) : State × List Byte :=
  let (s, t) := s.bankRead (targetAddr p)
  if s.glide p && s.changing p then
    let (s, a) := s.bankRead (activeAddr p)
    (s, reachedBytes true { s.pageImage p with target := t, active := a } j)
  else (s, t)

/-- The page gives up the frame of the glide pool behind its ACTIVE bank: its own frame stands there again (R182). -/
def State.dropPool (s : State) (p : Nat) : State :=
  match (s.page p).extra with
  | some f =>
    let g := s.paramFrame (activeV p)
    ((s.setFrame (activeV p) f).setPage p { s.page p with extra := none }).givePool g |>.wr (EPOCH_PGSTAT_POOL p) 0
  | none => s

/-- A change ends: the pool frame returns, ACTIVE takes TARGET, the page is settled (R178, R182). -/
def State.endChange (s : State) (p : Nat) : State :=
  let s := ((s.keepOld p).dropPool p).bankCopy (activeAddr p) (targetAddr p)
  (s.wr (EPOCH_PGSTAT_CHG p) 0).wr (EPOCH_PGSTAT_REMAIN p) 0

/-- Pages with a change in progress. -/
def State.changingPages (s : State) : List Nat :=
  (s.epoch.pages.map (·.1)).filter fun p => s.changing p

/-- Item 1 of R182 at D(n): changes whose glide length has elapsed end; REMAIN is brought up to date. -/
def State.endChanges (s : State) (n : Nat) : State :=
  let j := s.sampleIx n
  s.changingPages.foldl (fun s p =>
    let q := s.page p
    if (q.kk : Int) ≤ sinceJ0 j q.j0 then s.endChange p
    else s.wr (EPOCH_PGSTAT_REMAIN p) (q.kk - (sinceJ0 j q.j0).toNat)) s

/-! ## Applying commits (R178, R182, R191, R192) -/

/-- The glide length in samples of the device rate (R185). -/
def State.glideLen (s : State) (glide : Nat) : Nat := if s.on SYS_RATE_ACT then 2 * glide else glide

/-- The RWE fields of a block take the values that were staged at the downbeat; what has been staged since then waits
for the following COMMIT (R10). IMSEL changes the active instruction memory (R59, R77). -/
def State.applyBlock (s : State) (blk : Nat) : State :=
  let mine := s.epoch.atDb.filter fun q => q.1 / 2 ^ 21 == blk
  let s := mine.foldl (fun s q => q.2.foldl (fun (s : State) e =>
      let s := s.wr ⟨q.1, e.1, 32, 0⟩ e.2
      let l := tget [] s.staged q.1
      if l.lookup e.1 = some e.2 then { s with staged := tput [] s.staged q.1 (tdel l e.1) } else s) s) s
  if blk = 0x1A then s.wr CORECTL_IMSTAT_ACT (s.rd CORECTL_IMSEL_SEL) else s

/-- ACTIVE of a GLIDE page in a change moves to a frame of the glide pool, which takes the values reached at `j`; the
frame of an earlier apply is to return at the end of the downbeat (R178, R182). -/
def State.takePool (s : State) (p j : Nat) (old : List Nat) : State × List Nat :=
  match s.poolFrames with
  | [] => (s, old)
  | f :: l =>
    let (s, bs) := s.reached p j
    let was := s.paramFrame (activeV p)
    let q := s.page p
    let (q, old) := match q.extra with
      | some _ => (q, old ++ [was])
      | none => ({ q with extra := some was }, old)
    let s := { s with epoch := { s.epoch with pool := some l } }.setFree (s.rd EPOCH_POOL_FREE - 1)
    ((((s.setPage p q).setFrame (activeV p) f).wr (EPOCH_PGSTAT_POOL p) 1).devPut (activeAddr p) bs, old)

/-- What a page change does, for the first commit of the downbeat that names it: an exchange of frame pointers (R178).
STAGE's frame becomes TARGET's; the former TARGET's becomes STAGE's, or ACTIVE's on a SWITCH page in a change. `old`:
the frames of earlier applies, which return at the end of the downbeat (R182). -/
def State.changePage (s : State) (p n kk epoch : Nat) (old : List Nat) : State × List Nat :=
  let s := s.keepOld p
  let j := s.sampleIx n
  let (s, old) := if s.glide p && s.changing p then s.takePool p j old else (s, old)
  let fs := s.paramFrame (stageV p)
  let ft := s.paramFrame (targetV p)
  let fa := s.paramFrame (activeV p)
  let s := if s.changing p && !s.glide p then (s.setFrame (activeV p) ft).setFrame (stageV p) fa else s.setFrame (stageV p) ft
  let s := (s.setFrame (targetV p) fs).bankCopy (stageAddr p) (targetAddr p)
  let s := s.setPage p { s.page p with j0 := j, kk := kk, appliedAt := some n, refill := true }
  (((s.wr (EPOCH_PGSTAT_CHG p) 1).wr (EPOCH_PGSTAT_REMAIN p) kk).wr (EPOCH_PGEPOCH_EPOCH p) epoch, old)

/-- Why a commit is rejected at its apply downbeat, `done` being the pages changed at it already (R191). -/
def State.commitFails (s : State) (c : Commit) (done : List Nat) : Option Nat :=
  let ps := c.pages.filter (· < 1792)
  let need := (ps.filter fun p => s.glide p && s.changing p && !done.contains p).length
  if (ps.any fun p => s.pageHeld p && !done.contains p) || decide (s.rd EPOCH_POOL_FREE < need) then some stOVERFLOW
  else if c.pages.any fun p => !s.pageValid p then some stUNKNOWN
  else if c.pages.any fun p => s.pageOwner p != c.part && c.part != warden then some stPARTITION
  else none

/-- The working state of item 2 of R182: pages changed, frames to return. -/
structure Applying where
  s : State
  pages : List Nat
  old : List Nat

/-- One commit at its apply downbeat D(n). -/
def Applying.one (n : Nat) (w : Applying) (c : Commit) : Applying :=
  match w.s.commitFails c w.pages with
  | some st =>
    let s := w.s.wr EPOCH_STATUS_REJECT 1
    let s := s.event 0x0002 c.part (leBytes c.epoch 4 ++ leBytes st 1)
    { w with s := s.emit (mkRec cCorrected 0 0x0005 uEpoch 0
        [c.epoch % 256, c.epoch / 2 ^ 8 % 256, c.epoch / 2 ^ 16 % 256, c.epoch / 2 ^ 24 % 256, st]) }
  | none =>
    let kk := if c.imm then 0 else w.s.glideLen c.glide
    let w := c.pages.foldl (fun w p =>
      if 1792 ≤ p then
        { w with s := ((w.s.applyBlock (p - 1792)).setPage p { w.s.page p with kk := kk, appliedAt := some n }).wr (EPOCH_PGEPOCH_EPOCH p) c.epoch }
      else if w.pages.contains p then
        { w with s := ((w.s.setPage p { w.s.page p with kk := kk }).wr (EPOCH_PGSTAT_REMAIN p) kk).wr (EPOCH_PGEPOCH_EPOCH p) c.epoch }
      else
        let (s, old) := w.s.changePage p n kk c.epoch w.old
        { s := s, pages := p :: w.pages, old := old }) w
    let s := ((w.s.wr EPOCH_CUR_EPOCH c.epoch).wr EPOCH_CURNL_NLO n).wr EPOCH_CURNH_NHI (n / 2 ^ 32)
    { w with s := s.event 0x0001 c.part (leBytes c.epoch 4 ++ leBytes (b2n c.late) 1) }

/-- The epoch engine at D(n), in the order of R182. -/
def State.epochDownbeat (s : State) (n : Nat) : State :=
  let s := s.endChanges n
  let due := s.epoch.pend.filter fun c => decide (c.n ≤ n)
  let s := { s with epoch := { s.epoch with pend := s.epoch.pend.filter fun c => !decide (c.n ≤ n) } }
  let w := due.foldl (Applying.one n) ⟨s, [], []⟩
  let s := w.pages.foldl (fun s p => if (s.page p).kk = 0 then s.endChange p else s) w.s
  w.old.foldl State.givePool s

/-! ## Executing COMMIT and COMMIT_CANCEL (R186 to R190) -/

/-- The pages a commit group holds (R187). -/
def State.groupPages (s : State) (g : Nat) : List Nat :=
  (List.range 64).flatMap fun w => (List.range 32).filterMap fun b =>
    if bit (s.rd (EPOCH_GDATA_MEMBERS (g * 64 + w))) b then some (32 * w + b) else none

/-- The pages a COMMIT names; none where its body holds a reserved value (R186). -/
def State.commitPages (s : State) (e : List Byte) : Option (List Nat) :=
  let set := entN e 21 1
  let count := entN e 22 2
  if set = 0 then
    if 1 ≤ count ∧ count ≤ 14 ∧ entN e (36 + 2 * count) (28 - 2 * count) = 0 then
      some ((List.range count).map fun i => entN e (36 + 2 * i) 2)
    else none
  else if set = 1 then
    if 1 ≤ count ∧ count ≤ 2048 ∧ entN e 38 26 = 0 then some ((List.range count).map (entN e 36 2 + ·)) else none
  else if set = 2 then
    if count = 0 ∧ entN e 36 1 < 64 ∧ entN e 37 27 = 0 then some (s.groupPages (entN e 36 1)) else none
  else none

/-- The body holds a reserved value, or a GLIDE that its mode does not allow (R186). -/
def commitBad (e : List Byte) : Bool :=
  let b20 := entN e 20 1
  let imm := bit b20 7
  let w := bits b20 0 2
  w == 3 || bits b20 2 5 != 0 || 3 ≤ entN e 21 1 || (imm && w != 0) || (w == 0 && entN e 24 8 != 0)
  || (!imm && (96000 < entN e 32 4)) || (bits (entN e 32 4) 17 15 != 0)

/-- Role codes of PAIR.STAT.ROLE (R341, R355). -/
def roDetached : Nat := 0
def roLead : Nat := 1
def roHeel : Nat := 2
def roSolo : Nat := 3
def roFenced : Nat := 4
def State.role (s : State) : Nat := s.rd PAIR_STAT_ROLE
/-- The device has authority (R341, R342). -/
def State.authority (s : State) : Bool := s.role != roHeel && s.role != roFenced

/-- The first downbeat whose cut-off has not passed; `past` tells of a lead that its earlier cut-off has
passed (R188, R343). -/
def State.firstOpen (s : State) (past : Bool) : Nat :=
  if s.window || (past && s.role == roLead) then s.n + 1 else s.n

/-- The apply downbeat of a commit and its LATE mark (R188, R189). -/
def State.applyAt (s : State) (e : List Byte) (past : Bool) : Nat × Bool :=
  let w := bits (entN e 20 1) 0 2
  let at_ := entN e 24 8
  if bit (entN e 20 1) 7 then ((if s.disp.downbeat then s.frame else s.n) + b2n (past && s.role == roLead), false)
  else if w = 0 then (s.firstOpen past, false)
  else
    let n := if w = 1 then at_ else (3 * at_ + 999999) / 1000000
    if n < s.firstOpen past then (s.firstOpen past, true) else (n, false)

/-- What executing a COMMIT of a ring of partition `part` decides (R190): a status, or the commit to accept. -/
def State.judgeCommit (s : State) (part : Nat) (e : List Byte) (past : Bool) : Nat ⊕ Commit :=
  let ep := entN e 16 4
  let d := (ep + 2 ^ 32 - s.rd EPOCH_HIGH_EPOCH) % 2 ^ 32
  if !s.authority then .inl stNOTLEAD
  else if commitBad e then .inl stMALFORMED
  else match s.commitPages e with
    | none => .inl stMALFORMED
    | some ps =>
      if s.epoch.accepted.contains ep then .inl stDUP
      else if ep = 0 ∨ d = 0 ∨ 2 ^ 31 - 1 < d then .inl stORDER
      else if ps.any fun p => decide (2047 < p) || !s.pageValid p then .inl stUNKNOWN
      else if ps.any fun p => s.pageOwner p != part && part != warden then .inl stPARTITION
      else
        let imm := bit (entN e 20 1) 7
        if !imm && 16 ≤ (s.epoch.pend.filter fun c => !c.imm).length then .inl stOVERFLOW
        else
          let (n, late) := s.applyAt e past
          .inr { epoch := ep, n := n, late := late, glide := entN e 32 4, imm := imm, pages := ps.eraseDups, part := part }

/-- Accepts a commit (R190). -/
def State.acceptCommit (s : State) (c : Commit) : State :=
  let s := (s.wr EPOCH_HIGH_EPOCH c.epoch).wr EPOCH_STATUS_LATE (if c.late then 1 else s.rd EPOCH_STATUS_LATE)
  { s with epoch := { s.epoch with pend := s.epoch.pend ++ [c], accepted := (c.epoch :: s.epoch.accepted).take 64 } }

/-- COMMIT_CANCEL (R190): a pending commit whose apply has not begun is removed. -/
def State.cancelCommit (s : State) (e : List Byte) : State × Nat :=
  let ep := entN e 16 4
  if !s.authority then (s, stNOTLEAD)
  else if entN e 20 44 ≠ 0 then (s, stMALFORMED)
  else if s.epoch.pend.any fun c => c.epoch == ep && !(s.disp.downbeat && decide (c.n ≤ s.frame)) then
    ({ s with epoch := { s.epoch with pend := s.epoch.pend.filter fun c => c.epoch != ep } }, stCANCELLED)
  else (s, stNOTPENDING)

/-! ## STAGE, snapshots, registers (R179, R194, R195) -/

/-- The refill of a page's STAGE completes unless the page is HELD (R179, R183). -/
def State.refillPage (s : State) (p : Nat) : State :=
  if (s.page p).refill && !s.pageHeld p then s.setPage p { s.page p with refill := false } else s

/-- A host access to the STAGE view of page `p`: none while the page is HELD, with STGHELD set by the
caller; an access that waits for the refill finds it complete (R179). -/
def State.stageReady (s : State) (p : Nat) : Option State :=
  if s.pageHeld p then none else some (s.refillPage p)

/-- The STATE address of a snapshot entry lies in decoded cluster SRAM. -/
def State.snapState (s : State) (arg : Nat) : Bool := (s.sramPage (arg * 1024)).isSome && (s.sramPage (arg * 1024 + 512)).isSome

/-- D(n) is the first downbeat after a GO: the entries of the list become due, STATE entries with their pages as
committed before D(n) (R194). -/
def State.snapOpen (s : State) : State :=
  if !s.epoch.snap then s else
  let go := fun (q : State × List SnapReq) (i : Nat) =>
    let ty := q.1.rd (EPOCH_SNAPLIST_TYPE i)
    let arg := q.1.rd (EPOCH_SNAPLIST_ARG i)
    if ty = 3 && q.1.snapState arg then
      let (s, bs) := q.1.memGet 22 0 (arg * 1024) 1024
      (s, q.2 ++ [⟨ty, arg, bs⟩])
    else (q.1, q.2 ++ [⟨ty, arg, []⟩])
  let (s, l) := (List.range (min 16 (s.rd EPOCH_SNAPCTL_COUNT))).foldl go (s, [])
  { s with epoch := { s.epoch with snap := false, snapDue := some l } }

/-- The 1 KiB a snapshot entry captures at D(n); none where the entry is invalid (R194). -/
def State.snapEntry (s : State) (r : SnapReq) (n : Nat) : State × Option (List Byte) :=
  let some' := fun (q : State × List Byte) => (q.1, some q.2)
  if r.ty = 3 then (s, if r.bytes.isEmpty then none else some r.bytes)
  else if 1792 ≤ r.arg then (s, none)
  else if r.ty = 0 then some' (s.bankRead (if s.changing r.arg then activeAddr r.arg else targetAddr r.arg))
  else if r.ty = 1 then some' (s.bankRead (targetAddr r.arg))
  else some' (s.reached r.arg (s.sampleIx n))

/-- Device address of entry `i` of the snapshot window (R194). -/
def snapAddr (i : Nat) : Nat := 0x0A058000 + i * 0x400

/-- Captures the snapshot list after the commits of D(n) have applied (R194). -/
def State.snapCapture (s : State) (n : Nat) : State :=
  match s.epoch.snapDue with
  | none => s
  | some l =>
  let s := { s with epoch := { s.epoch with snapDue := none } }
  let s := l.zipIdx.foldl (fun (s : State) q =>
    match s.snapEntry q.1 n with
    | (s, some bs) => { s with mem := putBytes s.mem (snapAddr q.2) bs }
    | (s, none) => { s with mem := putBytes s.mem (snapAddr q.2) (List.replicate 1024 0) }.wr EPOCH_SNAPSTAT_ERR 1) s
  let s := ((s.wr EPOCH_SNAPEPOCH_EPOCH (s.rd EPOCH_CUR_EPOCH)).wr EPOCH_SNAPNL_NLO n).wr EPOCH_SNAPNH_NHI (n / 2 ^ 32)
  (s.wr EPOCH_SNAPSTAT_BUSY 0).wr EPOCH_SNAPSTAT_DONE 1

/-- Writes of EPOCH registers with rules of their own (R192, R194, R195). -/
def epochHook : OptHook := fun s _ r i v t =>
  if r.addr = 0x0A050014 then (if bit v 31 then some (t.wr EPOCH_POOL_LOW (s.rd EPOCH_POOL_FREE)) else some t)
  else if r.addr = 0x0A050024 then
    if 1792 ≤ i then some s
    else if s.changes r i v (EPOCH_PDDATA_KIND i) && (s.changing i || s.epoch.pend.any fun c => c.pages.contains i) then none
    else some t
  else if r.addr = 0x0A050040 then
    if bit v 0 then
      if s.on EPOCH_SNAPSTAT_BUSY then none
      else if bits v 4 5 = 0 then some (t.wr EPOCH_SNAPSTAT_DONE 1)
      else some ({ t with epoch := { t.epoch with snap := true } }.wr EPOCH_SNAPSTAT_BUSY 1)
    else some t
  else some t

end Sys2Proof.Machine
end

