-- ==== Sys2Proof/Machine/Ward.lean ====
section
/-! DEFINITION. The warden's configuration words (R391 to R393), the WARD and HOST registers (R397, R398), CRC-32 (R402). -/
namespace Sys2Proof.Machine

/-! ## CRC-32 (R402) -/

/-- One bit of a reflected CRC-32. -/
def crcBit (c : Nat) : Nat := if c % 2 = 1 then (c / 2) ^^^ 0xEDB88320 else c / 2

/-- One byte. -/
def crcByte (c b : Nat) : Nat :=
  crcBit (crcBit (crcBit (crcBit (crcBit (crcBit (crcBit (crcBit (c ^^^ b))))))))

/-- CRC-32: IEEE 802.3 polynomial, reflected, initial value and final inversion (R402). -/
def crc32 (l : List Nat) : Nat := (l.foldl crcByte 0xFFFFFFFF) ^^^ 0xFFFFFFFF

/-- The four bytes of a word, little-endian. -/
def wordBytes (w : Nat) : List Nat := [w % 256, w / 2 ^ 8 % 256, w / 2 ^ 16 % 256, w / 2 ^ 24 % 256]

/-! ## Configuration words (R391) -/

/-- The index is listed (R391). -/
def cfgListed (i : Nat) : Bool :=
  i < 8 || (decide (0x10 ≤ i) && decide (i < 0x30)) || (decide (0x100 ≤ i) && decide (i < 0x300)) || (decide (0x400 ≤ i) && decide (i < 0x800))

/-- The listed indices in order. -/
def cfgAll : List Nat :=
  List.range 8 ++ (List.range 0x20).map (· + 0x10) ++ (List.range 0x200).map (· + 0x100) ++ (List.range 0x400).map (· + 0x400)

/-- Nibble `j` of a word. -/
def nib (w j : Nat) : Nat := bits w (4 * j) 4

/-- The word is BADVALUE (R391). -/
def cfgBad (i w : Nat) : Bool :=
  if i < 3 then (List.range 8).any fun j => decide (7 < nib w j)
  else if i = 3 then decide (7 < w)
  else if i < 7 then (List.range 8).any fun j => decide (7 < nib w j)
  else if i = 7 then ((List.range 3).any fun j => decide (7 < nib w j)) || bits w 12 20 != 0
  else if i < 0x30 then (List.range 8).any fun j => decide (8 < nib w j)
  else if i = 0x100 then (List.range 7).any fun j => decide (7 < nib w (j + 1))
  else if i < 0x300 then (List.range 8).any fun j => decide (7 < nib w j)
  else if i % 4 = 1 then bits w 18 13 != 0
  else if i % 4 = 3 then bits w 16 16 != 0
  else bits w 0 12 != 0

/-- The staged word. -/
def State.cfgStaged (s : State) (i : Nat) : Nat := s.rd (WARD_CFGSTG_WORD i)

/-- The window that configuration word `i` belongs to, as staged, gives a partition other than 0 write access to
the Bell waveform memory (R392). -/
def State.waveWindow (s : State) (i : Nat) : Bool :=
  let b := i / 4 * 4
  let w := fun j => s.cfgStaged (b + j)
  let base := w 0 + 2 ^ 32 * bits (w 1) 0 16
  let lim := w 2 + 2 ^ 32 * bits (w 3) 0 16
  0x480 ≤ i && bit (w 1) 31 && bit (w 1) 17 && decide (base < 0x09400000) && decide (0x09000000 < lim)

/-- The word assigns BELL or OVR away from partition 0, or gives write access to the waveform memory (R392). -/
def State.cfgUnsafe (s : State) (i : Nat) : Bool :=
  if i = 6 then nib (s.cfgStaged i) 2 != 0 || nib (s.cfgStaged i) 3 != 0
  else if 0x400 ≤ i then s.waveWindow i
  else false

/-- Fields of a word that the apply would change. -/
def State.cfgDiff (s : State) (i : Nat) : List Nat :=
  (List.range 8).filter fun j => nib (s.cfgStaged i) j != nib (s.cfgWord i) j

/-- A staged field `i` of the table of 4-bit fields at `base`. -/
def State.stgNib (s : State) (base i : Nat) : Nat := nib (s.cfgStaged (base + i / 8)) (i % 8)

/-- A changed object is in use (R392, order 4). -/
def State.cfgInUse (s : State) (i : Nat) : Bool :=
  if i < 2 then (s.cfgDiff i).any fun j =>
    let c := 8 * i + j
    (List.range 4096).any fun t =>
      s.rd (DISP_CTXSTAT_STATE t) != 0 && s.ctxF t 7 4 == c && s.stgNib 0x100 t != s.stgNib 0 c
  else if 0x10 ≤ i ∧ i < 0x30 then (s.cfgDiff i).any fun j => s.on (HOST_RCFG_EN (8 * (i - 0x10) + j))
  else if 0x100 ≤ i ∧ i < 0x300 then (s.cfgDiff i).any fun j => s.rd (DISP_CTXSTAT_STATE (8 * (i - 0x100) + j)) != 0
  else false

/-- REASON codes of WARD.APPLY. -/
def reLIFESAFETY : Nat := 1
def reINUSE : Nat := 2
def reBADVALUE : Nat := 3
def reJOURNAL : Nat := 4
def reFROZEN : Nat := 5

/-- Why an apply is refused (R392). -/
def State.applyRefused (s : State) (ch : List Nat) : Option Nat :=
  if s.on WARD_STAT_FROZEN then some reFROZEN
  else if s.journalFree < ch.length then some reJOURNAL
  else match ch.find? fun i => s.cfgUnsafe i || cfgBad i (s.cfgStaged i) with
    | some i => some (if s.cfgUnsafe i then reLIFESAFETY else reBADVALUE)
    | none => if ch.any s.cfgInUse then some reINUSE else none

/-- Sets all three copies of a configuration word (R393). -/
def State.setCfg (s : State) (i v : Nat) : State :=
  { s with host := { s.host with cfg := tput (0, 0, 0) s.host.cfg i (v, v, v) } }

/-- The signature over the words in effect (R393). -/
def State.cfgCrc (s : State) : Nat := crc32 (cfgAll.flatMap fun i => wordBytes (s.cfgWord i))

/-- The journal's port code of the warden's port. -/
def State.wardCode (s : State) : Nat := b2n s.spiWarden

/-- The apply of the staged words at a downbeat, where one has been requested (R392). -/
def State.wardApply (s : State) : State :=
  if !s.on WARD_APPLY_GO then s else
  let s := s.wr WARD_APPLY_GO 0
  let ch := cfgAll.filter fun i => s.cfgStaged i != s.cfgWord i
  let fin := fun (s : State) (res rea : Nat) =>
    ((s.wr WARD_APPLY_RESULT res).wr WARD_APPLY_REASON rea).event 0x000A warden (leBytes res 1 ++ leBytes rea 1)
  match s.applyRefused ch with
  | some rea =>
    let s := if s.journalFull then s else s.journal (2 ^ 31) 0 0 2 s.wardCode rea
    fin s 2 rea
  | none =>
    let s := ch.foldl (fun s i => (s.journal (2 ^ 31 + i) (s.cfgWord i) (s.cfgStaged i) 1 s.wardCode 0).setCfg i (s.cfgStaged i)) s
    let s := { s with host := { s.host with signed := true } }.wr WARD_SIG_CRC s.cfgCrc
    fin s (if ch.isEmpty then 3 else 1) 0

/-- A copy of a configuration word disturbed by a fault of the hardware: index, copy, value. -/
def State.upsetCfg (s : State) (u : Nat × Fin 3 × Nat) : State :=
  let c := tget (0, 0, 0) s.host.cfg u.1
  let c := if u.2.1 = 0 then (u.2.2, c.2.1, c.2.2) else if u.2.1 = 1 then (c.1, u.2.2, c.2.2) else (c.1, c.2.1, u.2.2)
  if cfgListed u.1 then { s with host := { s.host with cfg := tput (0, 0, 0) s.host.cfg u.1 c } } else s

/-- Rewrites a copy that differs from the majority, with its record (R393). -/
def State.voteFix (s : State) : State :=
  s.host.cfg.foldl (fun s (q : Nat × Nat × Nat × Nat) =>
    let c := q.2
    if c.1 = c.2.1 ∧ c.1 = c.2.2 then s
    else if c.1 = c.2.1 ∨ c.1 = c.2.2 ∨ c.2.1 = c.2.2 then
      (s.setCfg q.1 (vote c)).emit (mkRec cCorrected 11 0x000B uDevice 0 (d16 q.1))
    else s) s

/-- The signature check of a downbeat (R393); before the first apply there is no stored signature. -/
def State.sigCheck (s : State) : State :=
  if s.host.signed && s.cfgCrc != s.rd WARD_SIG_CRC && !s.on WARD_STAT_FROZEN then
    (s.wr WARD_STAT_FROZEN 1).emit (mkRec cFatal 11 0x0032 uDevice 0 [])
  else s

/-! ## Registers -/

/-- Writes of WARD registers with rules of their own (R395, R398). -/
def wardHook : OptHook := fun s _ r i v t =>
  if r.addr = 0x0A160014 then (if cfgListed i then some t else none)
  else if r.addr = 0x0A160004 then
    -- GO stays at 1 until the downbeat
    some (if s.on WARD_APPLY_GO then t.wr WARD_APPLY_GO 1 else t)
  else if r.addr = 0x0A160024 then
    let jci := s.rd WARD_JCI_INDEX
    if (v + 2 ^ 32 - jci) % 2 ^ 32 ≤ (s.rd WARD_JPI_INDEX + 2 ^ 32 - jci) % 2 ^ 32 then some t else none
  else some t

/-- The fields of RCFG break R379 (R397). -/
def State.badRing (s : State) (r : Nat) : Bool :=
  let ty := s.rd (HOST_RCFG_TYPE r)
  let spi := s.partRing r == s.portPart .spi
  ty == 7 || s.rd (HOST_RCFG_LOG2SIZE r) < 4 || 16 < s.rd (HOST_RCFG_LOG2SIZE r) || s.ringBase r % 64 != 0
  || (4 ≤ ty && s.ringBuf r % 2048 != 0) || (spi && s.on (HOST_RCFG_LOC r))

/-- A change of a ring's configuration that waits for EN at 0. -/
def State.ringLocked (s : State) (r : RegRow) (i v : Nat) : Bool :=
  s.on (HOST_RCFG_EN i) &&
    (r.flds i).any fun q => q.2.2 == .rw && q.2.1.no != (HOST_RCFG_EN i).no && q.2.1.no != (HOST_RCFG_IRQ i).no && s.changes r i v q.2.1

/-- Writes of HOST registers with rules of their own (R380, R390, R397). -/
def hostHook : OptHook := fun s w r i v t =>
  if r.addr = 0x0A170004 then (if bits v 0 4 = 0 then none else some t)
  else if r.addr < 0x0A171000 then some t
  else if w.q ≠ warden && s.partRing i != w.q then none
  else if r.addr = 0x0A171014 then
    let ty := s.rd (HOST_RCFG_TYPE i)
    if v = s.rd (HOST_RPI_INDEX i) then some s
    else if ty ≠ ringCmd ∧ ty ≠ ringNettx then none
    else if s.ringSize i < (v + 2 ^ 32 - s.rd (HOST_RCI_INDEX i)) % 2 ^ 32 then none
    else some t
  else if r.addr = 0x0A171018 then
    let ty := s.rd (HOST_RCFG_TYPE i)
    if ty = ringCmd ∨ ty = ringNettx then (if v = s.rd (HOST_RCI_INDEX i) then some s else none)
    else if s.ringUsed i < (v + 2 ^ 32 - s.rd (HOST_RCI_INDEX i)) % 2 ^ 32 then none
    else
      let busy := (s.host.busy.filter (· ≠ i)) ++ (if v = s.rd (HOST_RPI_INDEX i) then [] else [i])
      some { t with host := { t.host with spent := t.host.spent.filter (· ≠ i), busy := busy } }
  else if s.ringLocked r i v then none
  else if r.addr = 0x0A171010 && bit v 0 && !s.on (HOST_RCFG_EN i) && t.badRing i then none
  else some t

end Sys2Proof.Machine
end

