-- ==== Sys2Proof/Machine/Router.lean ====
section
/-! DEFINITION. The router (chapter 09): route tables, blocks, crossfades, delay lines, bus scaling, block checks. -/
namespace Sys2Proof.Machine

/-! ## Samples of source endpoints -/

/-- A network receive channel (R196). -/
def netRx (e : Nat) : Bool := decide (0x1000 ≤ e) && decide (e < 0x2000)

/-- Where the generation of frame `m` of a network receive channel lies in global SRAM: three generations of 4,096 blocks of
128 bytes from NET0.GBASE fill the region's 1.5 MiB (R254, R269; the order is DEDUCED, log entry 48). -/
def State.netAddr (s : State) (e m : Nat) : Nat := s.rd NET_GBASE_BASE * 0x10000 + ((m % 3) * 4096 + (e - 0x1000)) * 128

/-- Sample `i` of endpoint `e` in the slot of frame `m`. -/
def State.smpAt (s : State) (e m i : Nat) : Nat :=
  if netRx e then s.devLd (s.netAddr e m + 4 * i) 4 else tget 0 (tget [] s.route.smp e) (32 * (m % 3) + i)

/-- Writes a sample of a source endpoint. -/
def State.setSmp (s : State) (e m i v : Nat) : State :=
  if netRx e then (s.engineWrite 17 0 (s.netAddr e m + 4 * i) (leBytes v 4)).1
  else { s with route := { s.route with smp := tput [] s.route.smp e (tput 0 (tget [] s.route.smp e) (32 * (m % 3) + i) (v % 2 ^ 32)) } }

/-- The block of a source endpoint for frame `m`. -/
def State.edgeBlock (s : State) (e m : Nat) : List Nat := (List.range s.fs).map fun i => s.smpAt e m i

/-- The endpoint is an edge source (R196). -/
def edgeSource (e : Nat) : Bool := e < 0x848 || netRx e
/-- The endpoint is a core output buffer. -/
def coreOut (e : Nat) : Bool := decide (0x3800 ≤ e) && decide (e < 0x4000)
/-- The endpoint is a core input buffer. -/
def coreIn (e : Nat) : Bool := decide (0x3000 ≤ e) && decide (e < 0x3800)
/-- The endpoint is an edge destination (R196). -/
def edgeDest (e : Nat) : Bool :=
  e < 0x800 || (decide (0x840 ≤ e) && decide (e < 0x848)) || (decide (0x900 ≤ e) && decide (e < 0x980)) || (decide (0x2000 ≤ e) && decide (e < 0x3000))

/-- A block of zeros. -/
def State.zeroBlk (s : State) : List Nat := List.replicate s.fs 0

/-- COMAP of a source as part of the route state (R203): UNIT, and VALID in bit 18. -/
def State.comapOf (s : State) (src : Nat) : Nat :=
  if coreOut src then s.rd (ROUTE_COMAP_UNIT (src - 0x3800)) + 2 ^ 18 * s.rd (ROUTE_COMAP_VALID (src - 0x3800)) else 0

/-- The 32-bit words of bytes. -/
def smpWords : List Byte → List Nat
  | a :: b :: c :: d :: l => leNat [a, b, c, d] :: smpWords l
  | _ => []

/-- A read of the router, crossbar master 21 (R152); its QoS is not given (log entry 31). -/
def State.routerRead (s : State) (a n : Nat) : State × List Nat :=
  let (s, bs) := s.engineRead 21 0 a n
  (s, smpWords bs)

/-- A write of samples by the router. -/
def State.routerWrite (s : State) (a : Nat) (b : List Nat) : State := (s.engineWrite 21 0 a (b.flatMap fun x => leBytes x 4)).1

/-- The block of a core output buffer at COMAP entry `comap` as committed, read through the remap with any fallback (R204). -/
def State.coreBlock (s : State) (comap : Nat) : State × List Nat :=
  if bit comap 18 then s.routerRead (0x01000000 + comap % 2 ^ 18 * 128) (4 * s.fs) else (s, s.zeroBlk)

/-! ## Route tables (R200 to R202, R207) -/

/-- Device address of the first byte of a table that begins at a page, in the TARGET view (R200). -/
def tableAddr (page : Nat) : Nat := targetAddr page

/-- Adds a number to a rising list. -/
def insAsc (x : Nat) : List Nat → List Nat
  | [] => [x]
  | y :: t => if x < y then x :: y :: t else if x = y then y :: t else y :: insAsc x t

/-- The address in the parameter store's range that shows the byte kept at `p`; none where no view shows it. -/
def State.paramAddr (s : State) (p : Nat) : Option Nat :=
  if p < 0x08000000 ∨ 0x08600000 ≤ p then none
  else (s.paramView ((p - 0x08000000) / 0x400)).map fun v => 0x08000000 + v * 0x400 + p % 0x400

/-- Indices of entries of `sz` bytes with some byte that is not 0, rising, in a table of `cnt` entries from a page: an
all-zero descriptor is no route and holds no error. -/
def State.usedEntries (s : State) (page sz cnt : Nat) : List Nat :=
  s.mem.foldl (fun l c => match s.paramAddr c.1 with
    | some a => if tableAddr page ≤ a ∧ a < tableAddr page + sz * cnt then insAsc ((a - tableAddr page) / sz) l else l
    | none => l) []

/-- The router reads its tables at each downbeat: errors in their words are corrected or recorded, and a word it
cannot read is 0 (R356, R363). -/
def State.tablesRead (s : State) : State :=
  let tabs := [(s.rd ROUTE_RTBASE_PAGE, 64), (s.rd ROUTE_GTBASE_PAGE, 64), (s.rd ROUTE_BTBASE_PAGE, 2), (s.rd ROUTE_DTBASE_PAGE, 16)]
  s.readErrors (fun w => (s.paramAddr (w * 8)).filter fun a =>
    tabs.any fun q => decide (tableAddr q.1 ≤ a) && decide (a < tableAddr (q.1 + q.2))) 21 0

/-- The tables as they stand. -/
def State.tables (s : State) : RTables :=
  let words := fun (page : Nat) (l : List Nat) => l.map fun d => (d, s.devLd (tableAddr page + d * 16) 16)
  let maps := (tget [] s.flds (ROUTE_COMAP_UNIT 0).no ++ tget [] s.flds (ROUTE_COMAP_VALID 0).no).foldl (fun l q => insAsc q.1 l) []
  { descs := words (s.rd ROUTE_RTBASE_PAGE) (s.usedEntries (s.rd ROUTE_RTBASE_PAGE) 16 4096)
    delays := words (s.rd ROUTE_DTBASE_PAGE) (s.usedEntries (s.rd ROUTE_DTBASE_PAGE) 16 1024)
    comaps := maps.map fun e => (e, s.comapOf (0x3800 + e)) }

/-- The state of a delay descriptor of 128 bits `x` (R207): BASE, SIZE, LEN and whether it is valid. -/
def State.delayDesc (s : State) (x : Nat) : Nat × Nat × Nat × Bool :=
  let base := bits x 0 48
  let size := bits x 64 32
  let inDram := (s.dramAt base).isSome && (s.dramAt (base + size - 1)).isSome
  let inSram := (List.range (size / 512)).all fun i => (s.sramPage (base + 512 * i)).isSome
  (base, size, bits x 96 24, bit x 63 && base % 512 == 0 && size != 0 && size % 512 == 0
    && bits x 48 15 == 0 && bits x 120 8 == 0 && (inDram || inSram))

/-- What a route descriptor says (R201). -/
inductive DescV where
  /-- EN is 0 -/
  | off
  /-- a reserved field that is not 0, or a reserved XF: ignored -/
  | bad
  | route (dst src dly xf shape : Nat)
  deriving DecidableEq, Repr

/-- The descriptor of 128 bits `x` (R201). -/
def descOf (x : Nat) : DescV :=
  let xf := bits x 48 12
  if bit x 14 || bits x 30 2 != 0 || bits x 42 2 != 0 || bits x 45 3 != 0 || bits x 60 4 != 0 || bits x 64 64 != 0
      || (decide (3073 ≤ xf) && decide (xf ≤ 4094)) then .bad
  else if !bit x 15 then .off
  else .route (bits x 0 14) (bits x 16 14) (bits x 32 10) xf (bits x 44 1)

/-- What of a descriptor counts for the route state: DST, SRC and DLY (R203). -/
def descKey (x : Nat) : Option (Nat × Nat × Nat) :=
  match descOf x with
  | .route dst src dly _ _ => some (dst, src, dly)
  | _ => none

/-- What the scan of the route table has found so far: routes by destination, which source feeds each
delay descriptor, duplicate descriptors, and the STATUS conditions (R202, R208, R219). -/
structure Scan where
  routes : Tab (Option Route)
  feeds : List (Nat × Nat)
  dups : List (Nat × Nat)
  badSrc : Bool
  cfgErr : Bool
  clamp : Bool

/-- The greatest delay of a line of `size` bytes (R208). -/
def State.maxDelay (s : State) (size : Nat) : Nat := size / 4 - 2 * s.fs

/-- Takes in descriptor `d` of 128 bits `x` (R201, R202, R207, R208). -/
def State.scanOne (s : State) (delays : Tab Nat) (q : Scan) (p : Nat × Nat) : Scan :=
  match descOf p.2 with
  | .bad => { q with cfgErr := true }
  | .off => q
  | .route dst src dly xf shape =>
    if !(coreIn dst || edgeDest dst) || (coreIn dst && dly != 0) then { q with cfgErr := true }
    else if (tget none q.routes dst).isSome then { q with dups := q.dups ++ [(p.1, dst)] }
    else
      let badSrc := !(edgeSource src || coreOut src)
      let (base, size, len, valid) := if dly = 0 then (0, 0, 0, true) else s.delayDesc (tget 0 delays dly)
      let fed := dly != 0 && q.feeds.any fun f => f.1 == dly && f.2 != src
      let side : RSide := ⟨src, s.comapOf src, dly, base, size, len, valid, !badSrc && valid && !fed⟩
      { q with
        routes := tput none q.routes dst (some ⟨side, p.1, xf, shape⟩)
        feeds := if dly = 0 ∨ fed then q.feeds else q.feeds ++ [(dly, src)]
        badSrc := q.badSrc || badSrc
        cfgErr := q.cfgErr || !valid || fed
        clamp := q.clamp || (dly != 0 && valid && decide (s.maxDelay size < len)) }

/-- The route table as it stands. -/
def State.scan (s : State) (t : RTables) : Scan := t.descs.foldl (s.scanOne t.delays) ⟨[], [], [], false, false, false⟩

/-! ## Route changes (R205) -/

/-- Epoch `a` is newer than `b` (R190). -/
def newerEpoch (a b : Nat) : Bool :=
  let d := (a + 2 ^ 32 - b) % 2 ^ 32
  decide (1 ≤ d) && decide (d ≤ 2 ^ 31 - 1)

/-- The pages through which a route's state differs from the last downbeat: its descriptor's, its delay descriptor's,
and the ROUTE register page for its source's COMAP (R203, R219). -/
def State.movedPages (s : State) (now : RTables) (r : Route) : List Nat :=
  let was := s.route.was
  let differs := fun (a b : Tab Nat) (i : Nat) => tget 0 a i != tget 0 b i
  (if descKey (tget 0 was.descs r.desc) ≠ descKey (tget 0 now.descs r.desc) then [s.rd ROUTE_RTBASE_PAGE + r.desc / 64] else [])
  ++ (if r.side.dly != 0 && differs was.delays now.delays r.side.dly then [s.rd ROUTE_DTBASE_PAGE + r.side.dly / 64] else [])
  ++ (if coreOut r.side.src && differs was.comaps now.comaps (r.side.src - 0x3800) then [1798] else [])

/-- The glide length of the commit that changed a destination's route state at D(n), from route `a` to `b`: of the pages
that changed it the one named by the highest epoch; 0 where no commit of D(n) did (R205). -/
def State.routeGlide (s : State) (n : Nat) (now : RTables) (a b : Option Route) : Nat :=
  let hit := ((a.toList ++ b.toList).flatMap (s.movedPages now)).filter fun p => (s.page p).appliedAt == some n
  ((hit.map fun p => (s.rd (EPOCH_PGEPOCH_EPOCH p), (s.page p).kk)).foldl (fun (m : Option (Nat × Nat)) q =>
    match m with
    | some b => if newerEpoch q.1 b.1 then some q else m
    | none => some q) none).elim 0 (·.2)

/-- The crossfade length K (R205). -/
def State.xfLen (s : State) (kk xf : Nat) : Nat :=
  let f := s.fs
  let xmin := if xf = 0 then f else if xf = 4095 then 0 else xf * (f / 16)
  min (max kk xmin) (3072 * (f / 16))

/-- What of a side is route state (R203): whether another route feeds its line is not. -/
def RSide.key (r : RSide) : RSide := { r with ok := true }

/-- The route state differs (R205). -/
def routeChanged (a b : Option RSide) : Bool := a.map RSide.key != b.map RSide.key

/-- A destination at D(n): its route in effect becomes `new`, with a crossfade where the route state differs (R205, R211). -/
def State.routeDest (s : State) (n : Nat) (now : RTables) (d : Dest) (new : Option Route) : Dest :=
  if !routeChanged (d.cur.map (·.side)) (new.map (·.side)) then { d with cur := new }
  else
    let r := match new with | some r => some r | none => d.cur
    let K := match r with | some r => s.xfLen (s.routeGlide n now d.cur new) r.xf | none => 0
    { cur := new, out := if K = 0 then none else d.cur.map (·.side), k := 0, kLen := K
      shape := match r with | some r => r.shape | none => 0 }

/-! ## Sines for the EQP shape (R206) -/

/-- π in units of 2^−96, rounded. -/
def piFix : Nat := 0x3243F6A8885A308D313198A2E

/-- Terms of the sine series: the next term is the last times x² over (2i+2)(2i+3), alternating. -/
def sinTerms (x : Int) : Nat → Nat → Int → Int
  | 0, _, _ => 0
  | n + 1, i, t => t + sinTerms x n (i + 1) (-(t * x / (2 ^ 96 : Nat) * x / (2 ^ 96 : Nat)) / ((2 * i + 2) * (2 * i + 3) : Nat))

/-- sin of an angle in units of 2^−96, in the same units, for angles to π/2. -/
def sinFix (x : Int) : Int := sinTerms x 22 0 x

/-- Rounds a quotient by 2^sh to nearest, ties to even. -/
def rne (x : Int) (sh : Nat) : Int := roundStep (shr x sh) (x % (2 ^ sh : Nat)) (2 ^ (sh - 1) : Nat) false 0

/-- (2^31 − 1) × sin(πk / 2K), rounded to nearest, ties to even; the sine is one half where 3k = K, the one tie. -/
def eqpWeight (k K : Nat) : Int :=
  if 3 * k = K then (2 ^ 30 : Nat) else rne ((2 ^ 31 - 1 : Nat) * sinFix ((piFix * k : Nat) / (2 * K) : Nat)) 96

/-- Incoming and outgoing weights (R206). -/
def xfWeights (shape k K : Nat) : Int × Int :=
  if shape = 0 then
    let wn : Int := ((2 ^ 31 - 1) * k / K : Nat)
    (wn, (2 ^ 31 - 1 : Nat) - wn)
  else (eqpWeight k K, eqpWeight (K - k) K)

/-- One crossfaded sample (R206). -/
def xfSample (shape k K xo xn : Nat) : Nat :=
  if K ≤ k then xn
  else
    let (wn, wo) := xfWeights shape k K
    ux 32 (clampS 32 (rne (sx 32 xo * wo + sx 32 xn * wn) 31))

/-- A crossfaded block whose first sample has index `k`. -/
def xfBlock (shape k K : Nat) (xo xn : List Nat) : List Nat :=
  (xo.zip xn).zipIdx.map fun q => xfSample shape (k + q.2) K q.1.1 q.1.2

/-! ## Block checks (R358, R359) -/

/-- The substitute of a failed block, and the state of its endpoint (R359, R42). -/
def State.substitute (s : State) (g : GoodBlk) : List Nat × GoodBlk :=
  let N := s.fadeLen
  let b := (List.range s.fs).map fun i => ux 32 (gainMul (sx 32 (g.last.getD i 0)) (N - g.fall - i) N)
  (b, { g with fall := min N (g.fall + s.fs) })

/-- A block that passed, under the rising gain where the endpoint has failed before (R359, R43). -/
def State.passed (s : State) (g : GoodBlk) (b : List Nat) : List Nat × GoodBlk :=
  let N := s.fadeLen
  if g.fall = 0 then (b, { last := b, fall := 0 })
  else
    (b.zipIdx.map fun q => ux 32 (gainMul (sx 32 q.1) (min N (N - g.fall + q.2)) N),
      { last := b, fall := g.fall - s.fs })

/-- An armed injection of a check on an endpoint (R372). -/
def State.injOn (s : State) (check utype uinst : Nat) : Bool :=
  match s.integ.inj with
  | some j => j.check == check && j.utype == utype && j.uinst == uinst
  | none => false

/-- The argument of the armed injection. -/
def State.injArg (s : State) : Nat := match s.integ.inj with | some j => j.arg | none => 0

/-- One failed block check: the record and the count (R359). -/
def State.blockFail (s : State) (e src : Nat) (inj : Bool) : State :=
  (s.incSat INTG_BCERR_COUNT 1).emit { mkRec cLost 5 0x0027 uEndpoint e (d16 src) with injected := inj }

/-- One lockstep mismatch of a stage, at most one record per unit per second (R362). -/
def State.mismatch (s : State) (utype uinst stage : Nat) (inj : Bool) : State :=
  s.emitRated 1000000000 { mkRec cLost 13 0x0033 utype uinst [stage] with injected := inj }

/-- The block of a side's source as a router hop reads it, `bad` naming the sources whose check fails: the raw
block, or its substitute (R358, R359). A side whose COMAP is no longer in effect leaves the source's last good block. -/
def State.hopBlock (s : State) (bad : List Nat) (r : RSide) (m : Nat) : List Nat × State :=
  let e := r.src
  let (s, raw) := if coreOut e then s.coreBlock r.comap else if netRx e then s.routerRead (s.netAddr e m) (4 * s.fs) else (s, s.edgeBlock e m)
  let coreInj := coreOut e && s.injOn 5 uEndpoint e
  let inj := (coreInj && s.injArg % 65536 != 0) || s.route.badSeal.contains e
  let s := if coreInj then s.injDone else s
  let g := tget GoodBlk.reset s.route.good e
  let (b, g) := if bad.contains e || inj then s.substitute g else s.passed g raw
  let s := if bad.contains e || inj then s.blockFail e e inj else s
  (b, if r.comap = s.comapOf e then { s with route := { s.route with good := tput GoodBlk.reset s.route.good e g } } else s)

/-! ## Deliveries in the commit window (R203, R204, R208) -/

/-- Blocks read in this window, by source and COMAP entry, or by delay descriptor and tap: each is read and checked once. -/
abbrev Blks := List ((Nat × Nat) × List Nat)

/-- Reads a source's block once per window. -/
def State.fetchBlk (s : State) (bad : List Nat) (m : Nat) (bl : Blks) (r : RSide) : List Nat × Blks × State :=
  match bl.lookup (r.src, r.comap) with
  | some b => (b, bl, s)
  | none => let (b, s) := s.hopBlock bad r m; (b, ((r.src, r.comap), b) :: bl, s)

/-- Writes a block of frame `n` into a delay line, which may wrap at its end (R208). -/
def State.lineWrite (s : State) (sd : RSide) (n : Nat) (b : List Nat) : State :=
  let C := sd.size / 4
  let o := s.fs * n % C
  let s := (s.routerWrite (sd.base + 4 * o) (b.take (C - o))).routerWrite sd.base (b.drop (C - o))
  if (tget none s.route.lines sd.base).isSome then s
  else { s with route := { s.route with lines := tput none s.route.lines sd.base (some (s.fs * n)) } }

/-- The delay of a side's tap (R208). -/
def State.tapLen (s : State) (sd : RSide) : Nat := min sd.len (s.maxDelay sd.size)

/-- The tap of a delay line for the block of frame `n` (R208). -/
def State.tapRead (s : State) (sd : RSide) (n : Nat) : State × List Nat :=
  let C := sd.size / 4
  let len := s.tapLen sd
  let j0 := s.fs * n
  match tget none s.route.lines sd.base with
  | none => (s, s.zeroBlk)
  | some f =>
    if j0 + s.fs ≤ f + len then (s, s.zeroBlk)
    else
      let o := (j0 + C - len % C) % C
      let k := min s.fs (C - o)
      let (s, x) := s.routerRead (sd.base + 4 * o) (4 * k)
      let (s, y) := s.routerRead sd.base (4 * (s.fs - k))
      (s, (x ++ y).zipIdx.map fun q => if j0 + q.2 < f + len then 0 else q.1)

/-- The number by which `bad` names the tap of delay descriptor `d`. -/
def tapNo (d : Nat) : Nat := 0x4000 + d

/-- The block of a delay-line tap, checked as the router reads it (R210, R358, R359); `cur` marks the tap in effect,
whose last good block is kept. -/
def State.tapBlk (s : State) (bad : List Nat) (n : Nat) (bl : Blks) (r : RSide) (cur : Bool) : List Nat × Blks × State :=
  let s := if s.maxDelay r.size < r.len then s.wr ROUTE_STATUS_DLYCLAMP 1 else s
  let e := tapNo r.dly
  match bl.lookup (e, s.tapLen r) with
  | some b => (b, bl, s)
  | none =>
    let (s, raw) := s.tapRead r n
    let g := tget GoodBlk.reset s.route.good e
    let (b, g) := if bad.contains e then s.substitute g else s.passed g raw
    let s := if bad.contains e then s.blockFail r.src r.src false else s
    (b, ((e, s.tapLen r), b) :: bl, if cur then { s with route := { s.route with good := tput GoodBlk.reset s.route.good e g } } else s)

/-- The block of one side for an edge destination in the window of frame `n`; `cur` marks the incoming side. -/
def State.sideBlock (s : State) (bad : List Nat) (n : Nat) (bl : Blks) (sd : Option RSide) (cur : Bool) : List Nat × Blks × State :=
  match sd with
  | none => (s.zeroBlk, bl, s)
  | some r =>
    if !r.ok then (s.zeroBlk, bl, s)
    else if r.dly ≠ 0 then s.tapBlk bad n bl r cur
    else s.fetchBlk bad (n + 2) bl r

/-- Address in the copy region of the block of core input buffer `b` for frame `m` (R204). -/
def State.ciAddr (s : State) (b m : Nat) : Nat := s.rd ROUTE_CIBASE_BASE * 0x10000 + ((m % 3) * 2048 + b) * 128

/-- Writes a block into the copy region. -/
def State.ciWrite (s : State) (b m : Nat) (blk : List Nat) : State := s.routerWrite (s.ciAddr b m) blk

def State.dest (s : State) (d : Nat) : Dest := tget Dest.reset s.route.dests d
def State.setDest (s : State) (d : Nat) (x : Dest) : State := { s with route := { s.route with dests := tput Dest.reset s.route.dests d x } }
/-- The generation of core input buffer `b` for the frame whose number plus 3 is `m`. -/
def State.gen (s : State) (b m : Nat) : Gen :=
  let g := tget Gen.reset s.route.gens (3 * b + m % 3)
  if g.frame = m then g else Gen.reset
def State.setGen (s : State) (b m : Nat) (g : Gen) : State :=
  { s with route := { s.route with gens := tput Gen.reset s.route.gens (3 * b + m % 3) g } }

/-- A crossfade is in progress. -/
def Dest.fading (d : Dest) : Bool := decide (d.k < d.kLen)
/-- The destination after `f` more samples of its crossfade. -/
def Dest.advance (d : Dest) (f : Nat) : Dest :=
  if d.kLen ≤ d.k + f then { d with k := 0, kLen := 0, out := none, shape := 0 } else { d with k := d.k + f }

/-- The outgoing side while a crossfade runs. -/
def Dest.old (d : Dest) : Option RSide := if d.fading then d.out else none
/-- The incoming side. -/
def Dest.new (d : Dest) : Option RSide := d.cur.map (·.side)

/-- The destination forms a new block: a crossfade, or a tap that spans two stored blocks (R210). -/
def State.forms (s : State) (d : Dest) : Bool :=
  d.fading || (match d.new with | some r => r.dly != 0 && s.tapLen r % s.fs != 0 | none => false)

/-- The substitute of a block that fails at a serial port's FIFO: the port's underrun policy (R235, R359). -/
def State.fifoSub (s : State) (d : Nat) (g : GoodBlk) : List Nat × GoodBlk :=
  if 0x800 ≤ d then s.substitute g
  else
    let pol := s.rd (SPORT_CFG_UPOL (d / 32))
    if pol = 0 then s.substitute g
    else if pol = 1 then (s.zeroBlk, { g with fall := s.fadeLen })
    else
      let (b, h) := s.substitute { g with last := List.replicate s.fs (g.last.getLastD 0) }
      (b, { h with last := g.last })

/-- The block of an edge destination passes into its presentation FIFO, or its substitute does: `hop` fails at
the router, `fifo` at the FIFO (R359, R362). -/
def State.present (s : State) (d : Nat) (b : List Nat) (hop fifo inj : Bool) : State :=
  let g := tget GoodBlk.reset s.route.goodDst d
  let (b, g) := if hop then s.substitute g else if fifo then s.fifoSub d g else s.passed g b
  let s := { s with route := { s.route with
    goodDst := tput GoodBlk.reset s.route.goodDst d g
    next := tput [] s.route.next d ((b.zipIdx.map fun q => (q.2, q.1)).filter fun q => q.2 ≠ 0) } }
  if fifo then s.blockFail d d inj else s

/-- One edge destination in the window of frame `n`. `badD` fail at the presentation FIFO, `mis` mismatch in lockstep. -/
def State.deliverEdge (bad badD mis : List Nat) (n : Nat) (q : State × Blks) (d : Nat) : State × Blks :=
  let s := q.1
  let x := s.dest d
  let (xn, bl, s) := s.sideBlock bad n q.2 x.new true
  let (xo, bl, s) := s.sideBlock bad n bl x.old false
  let forms := s.forms x
  let b := if x.fading then xfBlock x.shape x.k x.kLen xo xn else xn
  let i5 := forms && s.injOn 5 uEndpoint d
  let i13 := forms && s.injOn 13 uEndpoint d
  let a5 := i5 && s.injArg % 65536 != 0
  let s := if i5 || i13 then s.injDone else s
  let m := forms && mis.contains d
  let s := if m || i13 then s.mismatch uEndpoint d 0 i13 else s
  let s := s.present d b (i13 || m) (badD.contains d || a5) a5
  (if x.fading then s.setDest d (x.advance s.fs) else s, bl)

/-- The source of a side is a core output buffer. -/
def sideCore (r : Option RSide) : Bool := match r with | some r => r.ok && coreOut r.src | none => false
/-- The source of a side is an edge source. -/
def sideEdge (r : Option RSide) : Bool := match r with | some r => r.ok && edgeSource r.src | none => false

/-- Sample `i` of one side of generation `m` of core input buffer `b`. -/
def State.genSample (s : State) (b m i : Nat) : GenSide → Nat
  | .zero => 0
  | .edge e => s.smpAt e m i
  | .copy => s.devLd (s.ciAddr b m + 4 * i) 4
  | .blk l => l.getD i 0

/-- Sample `i` of generation `m` of a core input buffer. -/
def State.ciSample (s : State) (b m i : Nat) : Nat :=
  let g := s.gen b m
  let xn := s.genSample b m i g.inc
  if g.k + i < g.kLen then xfSample g.shape (g.k + i) g.kLen (s.genSample b m i g.out) xn else xn

/-- The block of generation `m` of a core input buffer. -/
def State.ciBlock (s : State) (b m : Nat) : List Nat := (List.range s.fs).map fun i => s.ciSample b m i

/-- The absolute value of a sample, with |−2^31| given as 2^31 − 1 (R199). -/
def absSample (x : Nat) : Nat := min 0x7FFFFFFF (sx 32 x).natAbs

/-- The largest absolute value of a block. -/
def peakOf (b : List Nat) : Nat := b.foldl (fun v x => max v (absSample x)) 0

/-- Generation `m` of core input buffer `d` has been formed by a crossfade; `hop` marks copies of the stage that
disagreed. It is then the substitute of its last block, and rises again after it (R210, R359, R362). -/
def State.formCore (s : State) (d m : Nat) (hop : Bool) : State :=
  let b := d - 0x3000
  let g := tget GoodBlk.reset s.route.goodDst d
  if !hop && g.fall == 0 then s
  else
    let g := if g.fall = 0 then { g with last := s.ciBlock b (m - 1) } else g
    let (blk, g) := if hop then s.substitute g else s.passed g (s.ciBlock b m)
    let s : State := { s with route := { s.route with
      goodDst := tput GoodBlk.reset s.route.goodDst d (if g.fall = 0 then GoodBlk.reset else g) } }
    if (s.gen b m).inc = .copy ∧ (s.gen b m).kLen = 0 then (s.ciWrite b m blk).setGen b m { Gen.reset with inc := .copy, frame := m }
    else s.setGen b m { Gen.reset with inc := .blk blk, frame := m }

/-- The lockstep comparison of a crossfade for core input buffer `d`, with an armed injection; an injected check field
of its block reaches no verification point (R362, R372). Answers whether it fails. -/
def State.coreCompare (s : State) (d : Nat) (mis : List Nat) : State × Bool :=
  let s := if s.injOn 5 uEndpoint d then s.injDone else s
  let i13 := s.injOn 13 uEndpoint d
  let s := if i13 then s.injDone else s
  if mis.contains d || i13 then (s.mismatch uEndpoint d 0 i13, true) else (s, false)

/-- One core input buffer in the window of frame `n`: blocks of core output buffers are copied, crossfaded where neither
side is an edge source (R203, R204, R206). -/
def State.deliverCore (bad mis : List Nat) (n : Nat) (q : State × Blks) (d : Nat) : State × Blks :=
  let s := q.1
  let x := s.dest d
  let b := d - 0x3000
  if !(sideCore x.new || sideCore x.old) then q
  else if sideEdge x.new || sideEdge x.old then
    match (if sideCore x.new then x.new else x.old) with
    | some r => let (blk, bl, s) := s.fetchBlk bad n q.2 r; (s.ciWrite b n blk, bl)
    | none => q
  else
    let (xn, bl, s) := s.sideBlock bad n q.2 x.new true
    let (xo, bl, s) := s.sideBlock bad n bl x.old false
    let blk := if x.fading then xfBlock x.shape x.k x.kLen xo xn else xn
    let s := (s.ciWrite b n blk).setGen b (n + 3) { Gen.reset with
      inc := .copy, frame := n + 3
      raw := if x.fading then xn else [], peak := if x.fading then some (max (peakOf xo) (peakOf xn)) else none }
    let (s, hop) := if x.fading then s.coreCompare d mis else (s, false)
    let s := s.formCore d (n + 3) hop
    (if x.fading then s.setDest d (x.advance s.fs) else s, bl)

/-- The commit-window copies of frame `n` (R203): delay lines are written by the sources in effect, then
every destination receives its block. -/
def State.routeWindow (s : State) (bad badD mis : List Nat) (n : Nat) : State :=
  let ds := s.route.dests.map (·.1)
  let lines := ((ds.filter edgeDest).filterMap fun d => match (s.dest d).new with
    | some r => if r.ok && r.dly != 0 then some r else none
    | none => none)
  let (s, bl, _) := lines.foldl (fun (q : State × Blks × List Nat) r =>
      if q.2.2.contains r.base then q
      else
        let (b, bl, s) := q.1.fetchBlk bad (n + 2) q.2.1 r
        (s.lineWrite r n b, bl, r.base :: q.2.2)) (s, [], [])
  let q := (ds.filter edgeDest).foldl (State.deliverEdge bad badD mis n) (s, bl)
  ((ds.filter coreIn).foldl (State.deliverCore bad mis n) q).1

/-! ## At the downbeat -/

/-- The kind of a side of a generation. -/
def genSide : Option RSide → GenSide
  | some r => if !r.ok then .zero else if coreOut r.src then .copy else .edge r.src
  | none => .zero

/-- The generation of frame n − 1 of a core input buffer at D(n), `before` being the destination before this downbeat's
route change (R203). A new state with an edge source, and silence after an edge source, begins with this generation;
one that is delivered in commit windows begins with the next, and this generation stays as the former state gives it.
A window has set the generation where neither side is an edge source. -/
def State.sealCore (s : State) (n d : Nat) (before : Dest) : State :=
  let x := s.dest d
  let b := d - 0x3000
  let m := n + 2
  let set := (s.gen b m).frame == m
  let changed := routeChanged before.new x.new
  if changed && (sideCore x.new || (!sideEdge x.new && sideCore before.new)) then
    if set then s
    else (s.setGen b m { Gen.reset with out := genSide before.old, inc := genSide before.new, k := before.k
                                        kLen := before.kLen, shape := before.shape, frame := m }).formCore d m false
  else if set && !changed then s
  else
    let out := if sideCore x.old && !(s.gen b m).raw.isEmpty then .blk (s.gen b m).raw else genSide x.old
    let s := s.setGen b m { Gen.reset with out, inc := genSide x.new, k := x.k, kLen := x.kLen, shape := x.shape, frame := m }
    let (s, hop) := if x.fading then s.coreCompare d s.route.coreMis else (s, false)
    (s.formCore d m hop).setDest d (if x.fading then x.advance s.fs else x)

/-- Routes at D(n), after its commits (R200 to R205): STATUS conditions, duplicate records, route changes, core input generations. -/
def State.routeDownbeat (s : State) (n : Nat) : State :=
  let s := s.tablesRead
  let now := s.tables
  let q : Scan := s.scan now
  let set := fun (s : State) (f : Fld) (b : Bool) => if b then s.wr f 1 else s
  let s := set (set (set (set s ROUTE_STATUS_DUPDST (!q.dups.isEmpty)) ROUTE_STATUS_BADSRC q.badSrc) ROUTE_STATUS_CFGERR q.cfgErr)
    ROUTE_STATUS_DLYCLAMP q.clamp
  let s : State := (q.dups.filter fun p => !s.route.dups.contains p.1).foldl (fun (s : State) (p : Nat × Nat) =>
    s.emit (mkRec cCorrected 0 0x0006 uEndpoint p.2 (d16 p.1))) s
  let s : State := { s with route := { s.route with dups := q.dups.map Prod.fst } }
  let en : Bool := s.on ROUTE_CTRL_EN
  let s : State := s.wr ROUTE_CTRL_ENACT (b2n en)
  let ds : List Nat := (s.route.dests.map Prod.fst ++ (if en then q.routes.map Prod.fst else ([] : List Nat))).eraseDups
  let (s, cnt) : State × Nat := ds.foldl (fun (w : State × Nat) (d : Nat) =>
    let s := w.1
    let before := s.dest d
    let new : Option Route := if en = true then tget none q.routes d else none
    let x := s.routeDest n now before new
    let s := s.setDest d x
    (if coreIn d then s.sealCore n d before else s, w.2 + b2n x.fading)) (s, 0)
  let used := s.route.dests.flatMap fun p => (p.2.new.toList ++ p.2.old.toList).filterMap fun r => if r.dly = 0 then none else some r.base
  let s : State := { s with route := { s.route with lines := s.route.lines.filter fun l => used.contains l.1 } }
  let s : State := { s with route := { s.route with was := now, coreMis := [] } }
  let s : State := s.wr ROUTE_XFCNT_COUNT cnt
  if s.rd ROUTE_XFCNT_HIGH < cnt then s.wr ROUTE_XFCNT_HIGH cnt else s

/-- Presentation at D(n): the blocks of the commit window before it (R26, R203). -/
def State.presentDownbeat (s : State) : State :=
  { s with route := { s.route with presOld := s.route.pres.filter (fun q => q.1 < 0x800 || 0x2000 ≤ q.1), pres := s.route.next, next := [] } }

/-- Seals at D(n): an injected check-field error of an edge source is placed at the seal of its next block (R372). -/
def State.sealInject (s : State) : State :=
  let s := { s with route := { s.route with badSeal := [] } }
  match s.integ.inj with
  | some j =>
    if j.check == 5 && j.utype == uEndpoint && edgeSource j.uinst then
      let s := { s with route := { s.route with badSeal := if j.arg % 65536 = 0 then [] else [j.uinst] } }
      s.injDone
    else s
  | none => s

/-! ## Reads of generations (R198, R199) -/

/-- The level of a core input buffer: of a crossfade, the larger peak of the two sides (R199). -/
def State.level (s : State) (b m : Nat) : Nat :=
  let g := s.gen b m
  let side := fun (x : GenSide) => peakOf ((List.range s.fs).map fun i => s.genSample b m i x)
  match g.peak with
  | some p => p
  | none => if g.k < g.kLen then max (side g.inc) (side g.out) else side g.inc

/-- Word `i` of the block of a readable endpoint for frame `m`. -/
def State.inputWord (s : State) (e m i : Nat) : Nat :=
  if coreIn e then s.ciSample (e - 0x3000) m i
  else if 0x980 ≤ e ∧ e < 0xA00 then s.level (s.fs * (e - 0x980) + i) m
  else s.smpAt e m i

/-- Where a read of class INPUT finds its bytes in device memory: in the copy region of core input buffers, or in
the generation region of network receive channels (R204, R254). -/
def State.inputAt (s : State) (n x : Nat) : Option Nat :=
  let (e, age, o) := s.inputOf x
  let m := n + 3 - age
  if netRx e then some (s.netAddr e m + o)
  else if coreIn e then
    match (s.gen (e - 0x3000) m).inc with
    | .copy => some (s.ciAddr (e - 0x3000) m + o)
    | .edge src => if netRx src then some (s.netAddr src m + o) else none
    | _ => none
  else none

/-- A read of class INPUT by a task first granted in frame `n` (R29, R198). -/
def State.inputLoad (s : State) (n x bytes : Nat) : Nat :=
  let (e, age, o) := s.inputOf x
  let m := n + 3 - age
  let w := s.inputWord e m (o / 4)
  if bytes = 8 then w + 2 ^ 32 * s.inputWord e m (o / 4 + 1) else w

/-! ## Bus scaling (R212, R213, R115, R116) -/

def State.bus (s : State) (b : Nat) : Bus := tget Bus.reset s.route.buses b

/-- Open gates of bus `b` (R212). -/
def State.openGates (s : State) (b : Nat) : Nat :=
  (List.range 32).foldl (fun n w =>
    let x := s.ld (tableAddr (s.rd ROUTE_GTBASE_PAGE) + b * 128 + 4 * w) 4
    n + ((List.range 32).filter fun i => bit x i).length) 0

/-- The bus table word. -/
def State.busWord (s : State) (b : Nat) : Nat := s.devLd (tableAddr (s.rd ROUTE_BTBASE_PAGE) + b * 4) 4

/-- The factor of a bus at sample index `j` (R116). -/
def busFactorAt (x : Bus) (j : Nat) : Nat := (glideAt x.old x.new (sinceJ0 j x.j0) x.kk).toNat

/-- Keeps bus `b` as it stands for the runs in progress that were first granted before D(n) (R36). -/
def State.keepBus (s : State) (n b : Nat) : State :=
  let x := s.bus b
  s.ctxs.foldl (fun s q =>
    if q.2.live && decide (q.2.frame < n) && (q.2.oldBuses.lookup b).isNone then
      s.modCtx q.1 fun c => { c with oldBuses := tins c.oldBuses b (x.old, x.new, x.j0, x.kk) }
    else s) s

/-- Gives bus `b` new values at D(n). -/
def State.setBus (s : State) (n b : Nat) (x : Bus) : State :=
  let s := s.keepBus n b
  { s with route := { s.route with buses := tput Bus.reset s.route.buses b x } }

/-- One bus at D(n): a changed target starts a glide, and a glide whose samples have passed stands at its target
(R116, R118). -/
def State.busDownbeat (n : Nat) (s : State) (b : Nat) : State :=
  let w := s.busWord b
  let x := s.bus b
  let t := busFactor (bits w 0 2) (s.openGates b)
  let s := if bits w 0 2 = 3 then s.wr ROUTE_STATUS_CFGERR 1 else s
  let j := s.sampleIx n
  if t = x.new then
    if x.kk ≠ 0 ∧ (x.kk : Int) ≤ sinceJ0 j x.j0 then s.setBus n b { x with old := x.new, kk := 0 } else s
  else
    let sgl := bits w 16 16
    s.setBus n b ⟨busFactorAt x j, t, j, if s.on SYS_RATE_ACT then 2 * sgl else sgl⟩

/-- Every bus at D(n): only those with an open gate, a table word or a factor that is not 1 can change. -/
def State.busesDownbeat (s : State) (n : Nat) : State :=
  let bs := s.usedEntries (s.rd ROUTE_GTBASE_PAGE) 128 512 ++ s.usedEntries (s.rd ROUTE_BTBASE_PAGE) 4 512
    ++ s.route.buses.map (·.1)
  bs.eraseDups.foldl (State.busDownbeat n) s

/-- BSCL of bus `b` at sample index `j` for task `t` (R89, R116). -/
def State.bsclRead (s : State) (t b j : Nat) : Nat :=
  match (s.ctx t).oldBuses.lookup b with
  | some q => busFactorAt ⟨q.1, q.2.1, q.2.2.1, q.2.2.2⟩ j
  | none => busFactorAt (s.bus b) j

/-! ## Registers -/

/-- Pages of the table that a base register places (R200). -/
def tablePages (a : Nat) : Nat :=
  if a = 0x0A060018 then 2 else if a = 0x0A06001C then 16 else 64

/-- Writes of ROUTE registers with rules of their own, side-tone apart (R219). -/
def routeHook : OptHook := fun s _ r i v t =>
  let moved := (r.flds i).any fun q => s.changes r i v q.2.1
  let busy := s.on ROUTE_CTRL_EN || s.on ROUTE_CTRL_ENACT
  if r.addr = 0x0A060010 ∨ r.addr = 0x0A060014 ∨ r.addr = 0x0A060018 ∨ r.addr = 0x0A06001C then
    if moved && (busy || 1792 < bits v 0 11 + tablePages r.addr) then none else some t
  else if r.addr = 0x0A060020 then
    if moved && (busy || 0xF4 < bits v 0 8) then none else some t
  else some t

end Sys2Proof.Machine
end

