-- ==== Sys2Proof/Machine/Fabric.lean ====
section
/-! DEFINITION. The crossbar's targets, the default target, memory tests, bank retirement and DRAM (chapter 07). -/
namespace Sys2Proof.Machine

/-- A crossing of a class is fenced (R415). -/
def State.fence (s : State) (cls : Nat) : State :=
  (s.wr SYS_XRSTEV_CLASS (setBit (s.rd SYS_XRSTEV_CLASS) cls true)).incSat (SYS_XRSTCNT_COUNT cls) 1

/-! ## DRAM controllers (R166 to R170) -/

/-- The bytes of the DRAM window that controller `d` serves. -/
def State.dramOf (s : State) (d a : Nat) : Bool := match s.dramAt a with | some q => q.1 == d | none => false

/-- Writing TRAINd.START (R168, R173, R415). -/
def State.dramTrainStart (s : State) (d : Nat) : State :=
  let st := s.rd (DRAMC_STAT_STATE d)
  if st = 0 ∨ st = 4 then (s.wr (DRAMC_STAT_STATE d) 1).fence 1 else s

/-- Training ends: the usable range is zero and the controller ACTIVE, or FAILED with the failing step (R168). -/
def State.dramTrained (s : State) (d err : Nat) : State :=
  if s.rd (DRAMC_STAT_STATE d) ≠ 1 then s
  else if err ≠ 0 then (s.wr (DRAMC_STAT_STATE d) 4).wr (DRAMC_STAT_TRAINERR d) err
  else
    ({ s with
      mem := s.mem.filter fun c => !s.dramOf d c.1
      poison := s.poison.filter fun w => !s.dramOf d (w * 8)
      integ := { s.integ with flips := s.integ.flips.filter fun q => !s.dramOf d (q.1 * 8) } }.wr
      (DRAMC_STAT_STATE d) 2).wr (DRAMC_STAT_TRAINERR d) 0

/-- A write of PWRd.REQ: acted on only in ACTIVE and SELF_REFRESH (R169, R173). -/
def State.dramPower (s : State) (d req : Nat) : State :=
  let st := s.rd (DRAMC_STAT_STATE d)
  if st = 2 ∨ st = 3 then s.wr (DRAMC_STAT_STATE d) (2 + req) else s

/-- The controller reads MR4 (R166); its devices answer while it is ACTIVE. -/
def State.mr4 (s : State) (d v : Nat) : State := if s.dramActive d then s.wr (DRAMC_STAT_MR4 d) v else s

/-- Writes of DRAMC registers with rules of their own (R168 to R170, R173). -/
def dramHook : OptHook := fun s _ r i v t =>
  if r.addr = 0x0A040100 then (if s.changesRow r i v && s.rd (DRAMC_STAT_STATE i) ≠ 0 then none else some t)
  else if r.addr = 0x0A040104 then some (if bit v 0 then t.dramTrainStart i else t)
  else if r.addr = 0x0A04010C then some (t.dramPower i (bits v 0 1))
  else some t

/-! ## Memory test engines (R160 to R163) -/

/-- Regions of engine `e` (R160). -/
def memtRegions (e : Nat) : Nat := if e < 16 then 12288 else if e = 16 then 69632 else if e = 17 then 24576 else 16384

/-- Macro and first row of region `r` of engine `e` (R160, R172). -/
def memtPlace (e r : Nat) : Nat × Nat :=
  if e < 16 then
    if r < 4096 then (16 * e + r / 256, r % 256 * 4)
    else if r < 6144 then (256 + 32 * e + (r - 4096) / 64, (r - 4096) % 64 * 4)
    else (768 + 24 * e + (r - 6144) / 256, (r - 6144) % 256 * 4)
  else if e = 16 then (1152 + r / 256, r % 256 * 4)
  else if e = 17 then (1424 + r / 256, r % 256 * 4)
  else (1520 + r / 256, r % 256 * 4)

/-- The core whose memory a macro is, with whether it is instruction memory and which. -/
def macroCore (m : Nat) : Option (Nat × Option Bool) :=
  if m < 256 then some (m, none) else if m < 768 then some ((m - 256) / 2, some ((m - 256) % 2 == 1)) else none

/-- Engine `e` skips a region of macro `m` (R162, R163). -/
def State.memtSkips (s : State) (e m : Nat) : Bool :=
  (e < 16 && s.power e != 2) ||
  match macroCore m with
  | some (k, mem) =>
    let st := s.rd (CORECTL_CSTAT_STATE k)
    st == stRun || st == stTrap || s.memt.dead.contains m ||
    (match mem with
     | some b => b != s.on (CORECTL_IMSTAT_ACT) && s.runsFrom b
     | none => false)
  | none => false

/-- The engine goes on to its next region (R160). -/
def State.memtNext (s : State) (e : Nat) : State :=
  let r := s.rd (MEMT_EPOS_REGION e) + 1
  let s := s.wr (MEMT_EPOS_PHASE e) 0
  if r = memtRegions e then (s.wr (MEMT_EPOS_REGION e) 0).inc (MEMT_EPASS_PASSES e) 1 else s.wr (MEMT_EPOS_REGION e) r

/-- INTERVAL has passed: the engine starts SAVE of its region or skips it (R160 to R162, R165). -/
def State.memtStart (s : State) (e : Nat) : State :=
  let ph := s.rd (MEMT_EPOS_PHASE e)
  if !s.on MEMT_CTRL_EN || !(ph == 0 || ph == 5) then s
  else
    let s := if ph = 5 then s.memtNext e else s
    if s.memtSkips e (memtPlace e (s.rd (MEMT_EPOS_REGION e))).1 then s.wr (MEMT_EPOS_PHASE e) 5 else s.wr (MEMT_EPOS_PHASE e) 1

/-- Device addresses of the 32 words of the region an engine stands at. -/
def State.memtWords (s : State) (e : Nat) : List Nat :=
  let (m, row) := memtPlace e (s.rd (MEMT_EPOS_REGION e))
  (List.range 32).filterMap fun i => s.macroByte m (row * 64 + 8 * i)

/-- SAVE ends: every word is read; single errors are corrected and recorded; with an uncorrectable word the region is
restored untested (R161). -/
def State.memtSaved (s : State) (e : Nat) : State :=
  if s.rd (MEMT_EPOS_PHASE e) ≠ 1 then s
  else
    let ws := s.memtWords e
    let s := ws.foldl (fun s a => s.readWord (a / 8) a 23 0) s
    s.wr (MEMT_EPOS_PHASE e) (if ws.any (fun a => s.poison.contains (a / 8)) then 3 else 2)

/-- The word position that fails in most rows. -/
def worstPos (fs : List TestFail) : Nat :=
  let rows := fun p => ((fs.filter (·.pos == p)).map (·.row)).eraseDups.length
  (List.range 8).foldl (fun b p => if rows b < rows p then p else b) 0

/-- The repair R163 gives for failing bits, from the spare rows and the column group that are left; none where they do not suffice. -/
def planRepair (left : Nat) (colUsed : Bool) (fs : List TestFail) : Option (Option Nat × List Nat) :=
  let rows := (fs.map (·.row)).eraseDups
  let p := worstPos fs
  let twice := decide (2 ≤ ((fs.filter (·.pos == p)).map (·.row)).eraseDups.length)
  let rest := ((fs.filter (·.pos != p)).map (·.row)).eraseDups
  if (twice || decide (left < rows.length)) && !colUsed then (if rest.length ≤ left then some (some p, rest) else none)
  else if rows.length ≤ left then some (none, rows) else none

/-- The bank-select value that a bank serves: itself, or the retired bank that a spare replaces. -/
def State.bankSel (s : State) (b : Nat) : Nat :=
  if b = 32 then s.rd MEMT_BANKMAP_SPARE32 else if b = 33 then s.rd MEMT_BANKMAP_SPARE33 else b

/-- A bank of global SRAM answers some bank-select value: no unused spare and no retired bank. -/
def State.bankServes (s : State) (b : Nat) : Bool := decide (s.bankSel b < 32) && s.servingBank (s.bankSel b) == b

/-- No repair of macro `m` suffices (R163), or a further error has come up before it took effect (`esc`, R371): the
global bank or the core is retired, or the row stays as it is. A bank that serves no bank-select value has nothing to
retire (DESIGN CHOICE, log entry 37). -/
def State.spareless (s : State) (e m row : Nat) (fs : List TestFail) (esc : Bool) : State :=
  let stays := fun (s : State) => (s.exhaust m row fs esc).wr (MEMT_EPOS_PHASE e) 3
  if e = 16 then
    let bank := s.rd (MEMT_EPOS_REGION e) / 2048
    if !s.bankServes bank then stays s
    else
      let b := s.bankSel bank
      let s : State := if esc then { s with memt := { s.memt with esc := b :: s.memt.esc } } else s
      ({ s with memt := { s.memt with waitBank := some b } }.wr (MEMT_EPOS_PHASE e) 4).retireBank ⟨b, some (m, row, fs)⟩
  else match macroCore m with
    | some (k, _) =>
      if (s.core k).retired then { s with memt := { s.memt with dead := m :: s.memt.dead } }.wr (MEMT_EPOS_PHASE e) 3
      else
        let s := s.modCore k fun c =>
          match c.retire with
          | some x => if 0x200 ≤ x then { c with retire := some (0x100 * b2n esc) } else c
          | none => { c with retire := some (0x100 * b2n esc) }
        { s with memt := { s.memt with waitCore := tput none s.memt.waitCore e (some k), dead := m :: s.memt.dead } }.wr
          (MEMT_EPOS_PHASE e) 4
    | none => stays s

/-- The record of what an injected failure beyond repair would cause, by its memory: nothing is retired (R163, R373). -/
def State.sparelessInjected (s : State) (e m row : Nat) : State :=
  match macroCore m, e == 16 && s.bankServes (s.rd (MEMT_EPOS_REGION e) / 2048), s.spareBank with
  | some (k, _), _, _ => s.recordRetire k 0
  | none, true, some x =>
    s.emit { mkRec cDegraded 10 0x0013 uBank (s.bankSel (s.rd (MEMT_EPOS_REGION e) / 2048)) [x] with injected := true }
  | none, _, _ => s.emit { mkRec cDegraded 10 0x0014 uMacro m (d16 row) with injected := true }

/-- TEST ends with the failing bits `fs`, of rows 0 to 3 of the region (R163); an armed injection adds a failing row,
judged apart from the failures of the hardware (R372, R373). -/
def State.memtTested (s : State) (e : Nat) (fs : List TestFail) : State :=
  if s.rd (MEMT_EPOS_PHASE e) ≠ 2 then s
  else
    let (m, row) := memtPlace e (s.rd (MEMT_EPOS_REGION e))
    let (hit, arg) := match s.integ.inj with
      | some j => (j.check == 10 && j.uinst == m && j.offs / 256 == row / 4, j.arg % 4)
      | none => (false, 0)
    let s := if hit then s.injDone else s
    let left := s.rd (MEMT_MACSTAT_ROWSLEFT m)
    let col := s.on (MEMT_MACSTAT_COLUSED m)
    let alone := hit && !fs.any (·.row == arg)
    let s := s.incSat (MEMT_MACSTAT_FAILROWS m) ((fs.map (·.row)).eraseDups.length)
    let injPlan := if alone then planRepair left col [⟨arg, 0, false⟩] else some (none, [])
    let s := if injPlan.isNone then s.sparelessInjected e m (row + arg) else s
    let inj := if alone && injPlan.isSome then [row + arg] else []
    let due := fun (s : State) (r : Repair) =>
      { s with memt := { s.memt with repairs := tput none s.memt.repairs e (some r) } }.wr (MEMT_EPOS_PHASE e) 4
    if fs.isEmpty then (if inj.isEmpty then s.wr (MEMT_EPOS_PHASE e) 3 else due s ⟨m, none, [], inj⟩)
    else match planRepair left col fs with
      | some (c, rows) => due (s.beginHandling uMacro m) ⟨m, c, rows.map (row + ·), inj⟩
      | none =>
        (inj.foldl (fun (s : State) x => s.emit { mkRec cDegraded 10 0x0011 uMacro m (d16 x) with injected := true }) s).spareless
          e m row fs false

/-- RESTORE ends: steering returns and the engine goes on (R161). -/
def State.memtRestored (s : State) (e : Nat) : State := if s.rd (MEMT_EPOS_PHASE e) = 3 then s.memtNext e else s

/-- A region of core `k`, or of a cluster that leaves RUN, is restored and tested again on the next pass (R162, R165). -/
def State.memtAbandon (s : State) (e : Nat) : State :=
  let ph := s.rd (MEMT_EPOS_PHASE e)
  if ph = 1 ∨ ph = 2 ∨ ph = 3 then s.memtNext e else s

/-- Tests of core memories give way to cores that have been granted a task (R162). -/
def State.memtYield (s : State) : State :=
  (List.range 16).foldl (fun s e =>
    let ph := s.rd (MEMT_EPOS_PHASE e)
    if ph = 1 ∨ ph = 2 then
      match macroCore (memtPlace e (s.rd (MEMT_EPOS_REGION e))).1 with
      | some (k, _) =>
        let st := s.rd (CORECTL_CSTAT_STATE k)
        if st = stRun ∨ st = stTrap then s.memtAbandon e else s
      | none => s
    else s) s

/-- A pending repair takes effect at the downbeat (R163), or gives way to the escalation of a further error (R371);
rows that fail by an injection alone are recorded and use nothing (R373). -/
def State.repair (s : State) (e : Nat) (r : Repair) : State :=
  let rec1 := fun (cause : Nat) (d : List Nat) => mkRec cDegraded 10 cause uMacro r.macroId d
  let real := r.col.isSome || !r.rows.isEmpty
  let more := s.integ.further.filter (·.1 == r.macroId)
  let s : State := { s with memt := { s.memt with repairs := tput none s.memt.repairs e none } }
  let s := r.injected.foldl (fun (s : State) x => s.emit { rec1 0x0011 (d16 x) with injected := true }) s
  if !real then s.memtNext e
  else
    let s := s.endHandling uMacro r.macroId
    let s : State := { s with integ := { s.integ with further := s.integ.further.filter (·.1 != r.macroId) } }
    let s := if more.any (·.2) then s.emit { rec1 0x0014 (d16 (r.rows.headD 0)) with injected := true, escalated := true } else s
    if more.any (!·.2) then s.spareless e r.macroId (r.rows.headD 0) [] true
    else
      let s := (s.wr (MEMT_MACSTAT_ROWSLEFT r.macroId) (s.rd (MEMT_MACSTAT_ROWSLEFT r.macroId) - r.rows.length)).wr
        (MEMT_MACSTAT_COLUSED r.macroId) (if r.col.isSome then 1 else s.rd (MEMT_MACSTAT_COLUSED r.macroId))
      let s := match r.col with | some p => s.emit (rec1 0x0012 [p]) | none => s
      (r.rows.foldl (fun s row => s.emit (rec1 0x0011 (d16 row))) s).memtNext e

/-- Engine 16 has copied the retiring bank (R164). -/
def State.bankCopied (s : State) : State :=
  if s.rd MEMT_BANKMAP_COPY = 1 then s.wr MEMT_BANKMAP_COPY 2 else s

/-- The spare bank answers for the retired bank from the first downbeat after the copy; then the next retirement that
waits begins (R164, R165). -/
def State.bankSwitch (s : State) : State :=
  match s.memt.copy with
  | some (b, q) =>
    if s.rd MEMT_BANKMAP_COPY ≠ 2 then s
    else
      let s := s.endHandling uBank b
      let s := if q = 32 then s.wr MEMT_BANKMAP_SPARE32 b else s.wr MEMT_BANKMAP_SPARE33 b
      let s := { s with memt := { s.memt with copy := none } }.wr MEMT_BANKMAP_COPY 0
      let s := if s.memt.go = some b then { s with memt := { s.memt with go := none } }.wr MEMT_BRETIRE_GO 0 else s
      let s := s.emit { mkRec cDegraded 10 0x0013 uBank b [q] with escalated := s.memt.esc.contains b }
      let s : State := { s with memt := { s.memt with esc := s.memt.esc.filter (· ≠ b), uncorr := tput none s.memt.uncorr b none } }
      let s := if s.memt.waitBank = some b then { s with memt := { s.memt with waitBank := none } }.memtNext 16 else s
      match s.memt.queue with
      | [] => s
      | x :: t => { s with memt := { s.memt with queue := t } }.retireBank x
  | none => s

/-- Repairs and bank switches of a downbeat (R163, R164). -/
def State.memtDownbeat (s : State) : State :=
  let s := (List.range 19).foldl (fun s e => match tget none s.memt.repairs e with | some r => s.repair e r | none => s) s
  s.bankSwitch

/-- Engines that wait for a core's retirement go on once the downbeat has retired it (R163). -/
def State.memtCores (s : State) : State :=
  s.memt.waitCore.foldl (fun (s : State) q => match q.2 with
    | some k =>
      if (s.core k).retire.isSome then s
      else { s with memt := { s.memt with waitCore := tput none s.memt.waitCore q.1 none } }.memtNext q.1
    | none => s) s

/-- Writes of MEMT registers with rules of their own (R164, R172): a warden's BRETIRE.GO starts a retirement, and reads
1 until the bank written with it has switched. -/
def memtHook : OptHook := fun s _ r _ v t =>
  if r.addr = 0x0A030214 then
    if bit v 31 then
      some ({ t with memt := { t.memt with go := some (bits v 0 5) } }.retireBank ⟨bits v 0 5, none⟩)
    else some (t.wr MEMT_BRETIRE_GO (s.rd MEMT_BRETIRE_GO))
  else some t

/-! ## XBAR registers (R147, R149, R171) -/

/-- Writes of XBAR registers with rules of their own. -/
def xbarHook : OptHook := fun s _ r i v t =>
  if r.addr = 0x0A020048 then
    some (if bit v 0 then { s with flds := s.flds.filter fun q => q.1 ≠ (XBAR_CONFCNT_COUNT 0).no } else s)
  else if r.addr = 0x0A020100 then
    let p := bits v 0 11
    if p = s.rd (XBAR_CSPOOL_POOL i) then some t
    else if s.power i ≠ 0 ∨ s.rd (XBAR_CSPOOL_INUSE i) ≠ 0 ∨ p % 16 ≠ 0 ∨ 1024 < p then none
    else some { t with sram := { t.sram with
      remap := t.sram.remap.filter fun q => q.1 / 3072 ≠ i
      pool := tput none t.sram.pool i none } }
  else if r.addr = 0x0A020140 then some (if bit v 31 then s.wr (XBAR_CSHIGH_HIGH i) (s.rd (XBAR_CSPOOL_INUSE i)) else s)
  else some t

end Sys2Proof.Machine
end

