-- ==== Sys2Proof/Machine/Serial.lean ====
section
/-! DEFINITION. Time bases, the sample grid on the selected one, and the signals of serial ports and PDM lines
(R220 to R228, R231, R237, R241, R261). Time base x has index x − 1 here. -/
namespace Sys2Proof.Machine

/-- Clamps to ± m. -/
def clampAbs (m x : Int) : Int := max (-m) (min m x)

/-! ## Time bases (R261) -/

def State.tb (s : State) (x : Nat) : TbSt := tget TbSt.reset s.net.tbs x
def State.setTb (s : State) (x : Nat) (b : TbSt) : State := { s with net := { s.net with tbs := tput TbSt.reset s.net.tbs x b } }

/-- Time base `x` in 2^−40 ns at beat-counter time `bc` (R261); frozen while disabled (R267). -/
def State.tbFine (s : State) (x bc : Nat) : Int :=
  let b := s.tb x
  let d : Int := if s.on (TIME_TBCTRL_EN x) then (bc : Int) - b.anc else 0
  b.ofs * 2 ^ 24 + d * 2 ^ 40 + d * sx 32 (s.rd (TIME_TBRATE_RATE x))

/-- Time base number `t` (0 the beat counter) in ns at beat-counter time `bc` (R261). -/
def State.timeAt (s : State) (t bc : Nat) : Int := if t = 0 then bc else s.tbFine (t - 1) bc / 2 ^ 40

/-! ## The sample grid (R23, R220, R227) -/

/-- One sample period in the units of State.gridPos. -/
def gridOne : Nat := 10 ^ 6 * 2 ^ 40

/-- Where beat-counter time `T` lies on the grid of the selected time base, counted from D(0) (R23, R220, R261). -/
def State.gridPos (s : State) (T : Nat) : Int :=
  let x := s.rd REFS_TBSEL_SEL
  (3 * s.fs : Nat) * (if x = 0 then (T : Int) * 2 ^ 40 else s.tbFine (x - 1) T)

/-- tg(j) as a fraction of ns: the beat-counter time at which the selected time base reaches sample `j` (R220, R261). -/
def State.gridAt (s : State) (j : Int) : Int × Nat :=
  let x := s.rd REFS_TBSEL_SEL
  if x = 0 then (j * 10 ^ 6, 3 * s.fs)
  else
    let b := s.tb (x - 1)
    let speed : Nat := (2 ^ 40 + sx 32 (s.rd (TIME_TBRATE_RATE (x - 1)))).toNat
    (j * gridOne - (3 * s.fs : Nat) * b.ofs * 2 ^ 24 + (3 * s.fs : Nat) * b.anc * speed, 3 * s.fs * speed)

/-- tg(j), the beat-counter time of grid sample `j`, in whole ns (R220). -/
def State.gridTime (s : State) (j : Int) : Int := (s.gridAt j).1 / (s.gridAt j).2

/-- Time base number `t` at tg(j), floored to ns (R259, R261). -/
def State.timeOnGrid (s : State) (t : Nat) (j : Int) : Int :=
  let q := s.gridAt j
  if t = 0 then q.1 / q.2
  else
    let b := s.tb (t - 1)
    let d := if s.on (TIME_TBCTRL_EN (t - 1)) then q.1 - (b.anc : Int) * q.2 else 0
    (b.ofs * 2 ^ 24 * q.2 + d * (2 ^ 40 + sx 32 (s.rd (TIME_TBRATE_RATE (t - 1))))) / (q.2 * 2 ^ 40 : Nat)

/-- The first grid sample at or after beat-counter time `T`. -/
def State.nextGrid (s : State) (T : Nat) : Int := -(-(s.gridPos T) / gridOne)

/-- The grid index of a port frame whose edge falls at `T` (R227). -/
def State.gridIndex (s : State) (T : Nat) : Int := s.nextGrid T + 2

/-- The newest grid output sample due in a port frame whose edge falls at `T` (R227). -/
def State.outIndex (s : State) (T : Nat) : Int := s.gridPos T / gridOne - 3

/-- The grid sample nearest to `T`: a master's frame sync coincides with it (R227, R228). -/
def State.nearGrid (s : State) (T : Nat) : Int := (2 * s.gridPos T + gridOne) / (2 * gridOne : Nat)

/-! ## The sample grid on media clock 0

Amplifiers and DACs run from media clock 0, whose 65,536 periods part two downbeats (R273). -/

/-- The time of grid sample `j` counted from the last downbeat, in thirds of a nanosecond, in which it is exact (R23). -/
def State.gridTime3 (s : State) (j : Int) : Int :=
  3 * (s.io.dbAt : Int) + (s.frame % 3 : Nat) + (j - s.fs * s.frame) * 1000000 / (s.fs : Int)

/-- The time now, in thirds of a nanosecond: exact at a downbeat (R23), a whole nanosecond elsewhere. -/
def State.now3 (s : State) : Nat := 3 * s.bc + (if s.bc = s.io.dbAt then s.frame % 3 else 0)

/-- The number of sample periods from the last downbeat to time `T`, as a fraction over 10^6. -/
def State.periods (s : State) (T : Nat) : Int := (3 * ((T : Int) - s.io.dbAt) - (s.frame % 3 : Nat)) * s.fs

/-! ## Words and samples (R225) -/

/-- Bit clocks or bits of a width code: 16, 24, 32 (R244). -/
def widthOf (x : Nat) : Nat := if x = 0 then 16 else if x = 1 then 24 else 32

/-- The S32 sample of an input word of length `wl`. -/
def sampleOfWord (wl w : Nat) : Nat := w % 2 ^ wl * 2 ^ (32 - wl)

/-- The word of length `wl` of an S32 sample: nearest, ties to even, saturated. -/
def wordOfSample (wl x : Nat) : Nat :=
  if wl = 32 then x else ux wl (clampS wl (rne (sx 32 x) (32 - wl)))

/-! ## Formats (R223, R224): `fmt` is CFG.FMT, `n` the slot count, `W` the slot width, `wl` the word length -/

/-- The cycle of the most significant bit of slot `i`: one later in I²S and TDM_EARLY (R223). -/
def msbCycle (fmt W i : Nat) : Nat := (if fmt % 2 = 0 then 1 else 0) + i * W

/-- The frame-sync level in bit-clock cycle `c` (R223). -/
def fsLevel (fmt n W : Nat) (wide inv : Bool) (c : Nat) : Bool :=
  let c := c % (n * W)
  let up := if fmt = 0 then decide (W ≤ c) else if fmt = 1 then decide (c < W) else decide (c < if wide then W else 1)
  up != inv

/-- What cycle `k` of a slot carries: the word, most significant bit first, then zeros (R224). -/
def slotBit (wl w k : Nat) : Bool := decide (k < wl) && bit w (wl - 1 - k)

/-- The word of slot `i` among the data sampled in cycles 0, 1, …, of which cycle n × W opens the next frame (R224). -/
def lineWord (fmt W wl : Nat) (din : List Bool) (i : Nat) : Nat :=
  (List.range wl).foldl (fun w k => 2 * w + b2n (din.getD (msbCycle fmt W i + k) false)) 0

/-- What a transmitter drives in cycle `c` of the frame of words `ws` (none: high impedance), `carry` being what the frame
before leaves to cycle 0 in I²S and TDM_EARLY (R224). -/
def lineLevel (fmt W wl : Nat) (ws : List (Option Nat)) (carry : Option Bool) (c : Nat) : Option Bool :=
  let e := msbCycle fmt W 0
  if c < e then carry else (ws.getD ((c - e) / W) none).map fun w => slotBit wl w ((c - e) % W)

/-! ## A port's configuration and pins -/

def State.port (s : State) (p : Nat) : PortSt := tget PortSt.reset s.io.ports p
def State.setPort (s : State) (p : Nat) (x : PortSt) : State := { s with io := { s.io with ports := tput PortSt.reset s.io.ports p x } }

/-- Port states of STAT.STATE (R244). -/
def poOff : Nat := 0
def poStarting : Nat := 1
def poSeeking : Nat := 2
def poRun : Nat := 3
def poUnder : Nat := 4

def State.portState (s : State) (p : Nat) : Nat := s.rd (SPORT_STAT_STATE p)
def State.slots (s : State) (p : Nat) : Nat := s.rd (SPORT_CFG_SLOTS p) + 1
def State.slotWidth (s : State) (p : Nat) : Nat := widthOf (s.rd (SPORT_CFG_SLOTW p))
def State.wordLen (s : State) (p : Nat) : Nat := widthOf (s.rd (SPORT_CFG_WORDL p))

/-- The words of a received frame, by slot (R223, R224). -/
def State.lineWords (s : State) (p : Nat) (din : List Bool) : List Nat :=
  (List.range (s.slots p)).map (lineWord (s.rd (SPORT_CFG_FMT p)) (s.slotWidth p) (s.wordLen p) din)

/-- The port drives SP_BCLK and SP_FS; they are at high impedance otherwise (R237). -/
def State.drivesClocks (s : State) (p : Nat) : Bool := s.on (SPORT_CFG_MASTER p) && s.portState p == poRun

/-- SP_FS in bit-clock cycle `c` of a frame (R223). -/
def State.pinFs (s : State) (p c : Nat) : Option Bool :=
  if s.drivesClocks p then
    some (fsLevel (s.rd (SPORT_CFG_FMT p)) (s.slots p) (s.slotWidth p) (s.on (SPORT_CFG_FSWIDE p)) (s.on (SPORT_CFG_FSINV p)) c)
  else none

/-- SP_BCLK in the first or the second half of a cycle: data changes as the cycle begins, on the falling edge, and is
sampled at its middle, on the rising one; BCLKINV exchanges the edges (R224). -/
def State.pinBclk (s : State) (p : Nat) (second : Bool) : Option Bool :=
  if s.drivesClocks p then some (second != s.on (SPORT_CFG_BCLKINV p)) else none

/-- SP_DOUT in bit-clock cycle `c` of the frame now sent; between frames, masked, and with TXEN at 0 it is idle under TXZ, and
in reset at high impedance (R224, R233, R237, R406). -/
def State.pinDout (s : State) (p c : Nat) : Option Bool :=
  let x := s.port p
  if s.board.held then none
  else if !s.on (SPORT_CFG_TXEN p) ∨ s.portState p ≠ poRun ∨ x.dout.isEmpty then (if s.on (SPORT_CFG_TXZ p) then none else some false)
  else lineLevel (s.rd (SPORT_CFG_FMT p)) (s.slotWidth p) (s.wordLen p) x.dout x.carry c

/-! ## Dividers (R226, R231, R241) -/

/-- A clock edge of a fractional divider of `d` × 2^−24, `i` half periods after its phase began: the nearest point of the grid
of fm × 8, in those points (R226); half-way ones go up (log entry 51). -/
def halfEdge (d i : Nat) : Nat := (2 * (i * d) + 2 ^ 22) / 2 ^ 23

/-- The divisor of a master port in 2^−24: an integer in the shared group, else DIV (R226, R231). -/
def State.portDiv (s : State) (p : Nat) : Nat :=
  if s.on (SPORT_CFG_GRP p) then 65536 / (s.fs * s.slots p * s.slotWidth p) * 2 ^ 24
  else s.rd (SPORT_DIV_N p) * 2 ^ 24 + s.rd (SPORT_DIV_F p)

/-- Half-period edge `i` of a master's bit clock, in eighths of a media-clock period since the last downbeat, at which the
divider restarts; through an ASRC since the port started (R226). -/
def State.bclkEdge (s : State) (p i : Nat) : Nat := halfEdge (s.portDiv p) i

/-- The divisor of a PDM clock of rate code `r`, in 2^−24 of media clock 0 (R241). -/
def pdmDiv (r : Nat) : Nat :=
  if r = 0 then 96 * 2 ^ 24 else if r = 1 then 64 * 2 ^ 24 else if r = 2 then (2 ^ 32 + 3) / 6 else 32 * 2 ^ 24

/-- The divider of rate code `r` restarts from its ideal phase at D(n) (R241). -/
def pdmRestarts (r n : Nat) : Bool := r != 0 || n % 3 == 0

/-- The half-period edge at which microphone `m` is sampled in clock period `i`: rising for an even one, falling for an odd (R241). -/
def micEdge (r m i : Nat) : Nat := halfEdge (pdmDiv r) (2 * i + m % 2)

/-- The decimation ratio in thirds (R241). -/
def State.pdmRatio3 (s : State) (r : Nat) : Nat :=
  (if r = 0 then 128 else if r = 1 then 192 else if r = 2 then 288 else 384) / (if s.on SYS_RATE_ACT then 2 else 1)

/-- Clock periods that frame `n` holds up to the end of its sample `k` − 1 (R241). -/
def State.pdmBits (s : State) (r n k : Nat) : Nat :=
  let at_ := fun k => (s.fs * (n % 3) + k) * s.pdmRatio3 r / 3
  at_ k - at_ 0

end Sys2Proof.Machine
end

