-- ==== Sys2Proof/Machine/Ports.lean ====
section
/-! DEFINITION. Serial ports, capture buffers, side-tone paths, rate converters, PDM microphones (chapter 10, R215 to R218). -/
namespace Sys2Proof.Machine

/-! ## Limits of a configuration (R221, R222, R226, R231) -/

def State.rate (s : State) : Nat := if s.on SYS_RATE_ACT then 96000 else 48000

/-- The group a port is bound to, where one is enabled (R239). -/
def State.groupOf (s : State) (p : Nat) : Option Nat := (List.range 16).find? fun g => s.on (SPORT_ASRC_EN g) && s.rd (SPORT_ASRC_PORT g) == p

/-- A CFG value is within the limits of R222 and R231 that do not depend on DIV. -/
def State.cfgLegal (s : State) (p : Nat) : Bool :=
  let fmt := s.rd (SPORT_CFG_FMT p)
  let n := s.slots p
  let W := s.slotWidth p
  let asrc := (s.groupOf p).isSome
  let master := s.on (SPORT_CFG_MASTER p)
  s.rd (SPORT_CFG_SLOTW p) != 3 && s.rd (SPORT_CFG_WORDL p) != 3 && s.rd (SPORT_CFG_UPOL p) != 3 && decide (s.wordLen p ≤ W)
    && (if fmt < 2 then n == 2 else (!s.on SYS_RATE_ACT || asrc || decide (n ≤ 16)))
    && (asrc || decide (s.rate * n * W ≤ 49152000))
    && (asrc || !master || s.rd (SPORT_CFG_MCLK p) == 0)
    && (!s.on (SPORT_CFG_GRP p) || (master && !asrc && s.rd (SPORT_CFG_MCLK p) == 0 && 65536 % (s.fs * n * W) == 0))

/-- DIV fits a master outside the shared group: nearest to the exact divisor of the device rate, or, through an ASRC, a frame
rate of 32 kHz to 96 kHz ± 1 % with at most 16 slots above 48 kHz (R222, R226). The rates are judged when the port is
enabled, since DIV is a register of its own. -/
def State.divLegal (s : State) (p : Nat) : Bool :=
  let b := s.slots p * s.slotWidth p
  let d := s.rd (SPORT_DIV_N p) * 2 ^ 24 + s.rd (SPORT_DIV_F p)
  if !s.on (SPORT_CFG_MASTER p) || s.on (SPORT_CFG_GRP p) then true
  else if s.rd (SPORT_DIV_N p) < 4 then false
  else if (s.groupOf p).isSome then
    decide (31680 * (d * b) ≤ 196608000 * 2 ^ 24) && decide (196608000 * 2 ^ 24 ≤ 96960 * (d * b))
      && (decide (s.slots p ≤ 16) || decide (2 * 4096 * 2 ^ 24 ≤ (2 * d + 1) * b))
  else d == (2 * 65536 * 2 ^ 24 + s.fs * b) / (2 * (s.fs * b))

/-- Enabled members of the shared frame-clock group (R231). -/
def State.grpMembers (s : State) : List Nat := (List.range 64).filter fun p => s.on (SPORT_CFG_EN p) && s.on (SPORT_CFG_GRP p)

def State.countGrp (s : State) : State := s.wr SPORT_GRPSTAT_COUNT s.grpMembers.length

/-! ## Side-tone rules (R217, R218) -/

/-- The media clock of a port, none through an ASRC; a slave keeps to the selected time base, as media clock 0 does (R221). -/
def State.portClock (s : State) (p : Nat) : Option Nat :=
  if (s.groupOf p).isSome then none else if s.on (SPORT_CFG_MASTER p) then some (s.rd (SPORT_CFG_MCLK p)) else some 0

/-- The media clock of a side-tone input. -/
def State.inputClock (s : State) (e : Nat) : Option Nat := if e < 0x800 then s.portClock (e / 32) else some 0

/-- The rule of R217 holds for path `m`. -/
def State.sideOk (s : State) (m : Nat) : Bool :=
  match s.portClock (s.rd (ROUTE_STCFG_OUT m) / 32) with
  | none => false
  | some c => (List.range 8).all fun i =>
    !bit (s.rd (ROUTE_STCFG_INEN m)) i || s.inputClock (s.rd (ROUTE_STSRC_SRC (m * 8 + i))) == some c

/-- The OUT of path `m` is used by another enabled path. -/
def State.sideClash (s : State) (m : Nat) : Bool :=
  (List.range 16).any fun q => q != m && s.on (ROUTE_STCFG_EN q) && s.rd (ROUTE_STCFG_OUT q) == s.rd (ROUTE_STCFG_OUT m)

/-- Paths whose rule no longer holds stop (R218). -/
def State.sideCheck (s : State) : State :=
  (List.range 16).foldl (fun s m =>
    if s.on (ROUTE_STSTAT_ACTIVE m) && !s.sideOk m then (s.wr (ROUTE_STSTAT_ACTIVE m) 0).wr (ROUTE_STSTAT_ERR m) 1 else s) s

/-- A gain write of input `x` = path × 8 + input (R216). -/
def State.gainWrite (s : State) (x v : Nat) : State :=
  let m := x / 8
  let pend := s.rd (ROUTE_STSTAT_ZCPEND m)
  if s.on (ROUTE_STSRC_ZC x) then
    { s with io := { s.io with zc := tput none s.io.zc x (some v) } }.wr (ROUTE_STSTAT_ZCPEND m) (setBit pend (x % 8) true)
  else
    ({ s with io := { s.io with zc := tput none s.io.zc x none } }.wr (ROUTE_STSTAT_ZCPEND m) (setBit pend (x % 8) false)).wr
      (ROUTE_STGAIN_GAIN x) v

/-- A waiting gain applies, at a zero crossing or by timeout (R216). -/
def State.gainApply (s : State) (x : Nat) (late : Bool) : State :=
  match tget none s.io.zc x with
  | none => s
  | some v =>
    let m := x / 8
    let s := ({ s with io := { s.io with zc := tput none s.io.zc x none } }.wr (ROUTE_STSTAT_ZCPEND m)
      (setBit (s.rd (ROUTE_STSTAT_ZCPEND m)) (x % 8) false)).wr (ROUTE_STGAIN_GAIN x) v
    if late then s.wr (ROUTE_STSTAT_ZCTO m) 1 else s

/-- Writes of side-tone registers (R216, R217, R219), in full: a refused EN write sets ERR. -/
def sideHook : Hook := fun s _ r i v t =>
  if r.addr = 0x0A061000 then
    if bit v 0 && (!t.sideOk i || t.sideClash i) then (s.wr (ROUTE_STSTAT_ERR i) 1, false)
    else ((t.wr (ROUTE_STSTAT_ACTIVE i) (bits v 0 1)).sideCheck, true)
  else if r.addr = 0x0A061010 then
    if 0x83F < bits v 0 12 then (s, false) else (t.sideCheck, true)
  else if r.addr = 0x0A061014 then (s.gainWrite i (v % 2 ^ 32), true)
  else routeHook.full s imageWho r i v t

/-! ## Register writes of SPORT (R222, R231, R237, R239) -/

def State.portRefused (s : State) (p : Nat) : State × Bool := (s.wr (SPORT_STAT_REFUSED p) 1, false)

/-- A write of CFG; `t` is the state with the fields written. -/
def State.cfgWrite (s : State) (p : Nat) (t : State) : State × Bool :=
  let off := s.portState p == poOff
  let frozen := [SPORT_CFG_MASTER p, SPORT_CFG_FMT p, SPORT_CFG_SLOTS p, SPORT_CFG_SLOTW p, SPORT_CFG_WORDL p, SPORT_CFG_BCLKINV p,
    SPORT_CFG_FSINV p, SPORT_CFG_FSWIDE p, SPORT_CFG_GRP p, SPORT_CFG_MCLK p, SPORT_CFG_RXEN p, SPORT_CFG_TXEN p]
  let starts := t.on (SPORT_CFG_EN p) && !s.on (SPORT_CFG_EN p)
  if !off && frozen.any (fun f => s.rd f != t.rd f) then s.portRefused p
  else if !t.cfgLegal p then s.portRefused p
  else if t.on (SPORT_CFG_GRP p) && decide (8 ≤ (s.grpMembers.filter (· != p)).length) then s.portRefused p
  else if t.on (SPORT_CFG_EN p) && !t.divLegal p then s.portRefused p
  else
    let t := if starts && off then t.wr (SPORT_STAT_STATE p) poStarting else t
    (t.countGrp.sideCheck, true)

/-- Channels a group's CHIN and CHOUT take (R239). -/
def State.groupUse (s : State) (g : Nat) : Nat := s.rd (SPORT_ASRC_CHIN g) + s.rd (SPORT_ASRC_CHOUT g)

def State.mic (s : State) (m : Nat) : MicSt := tget MicSt.reset s.io.mics m
def State.setMic (s : State) (m : Nat) (x : MicSt) : State := { s with io := { s.io with mics := tput MicSt.reset s.io.mics m x } }

/-- Microphone `m`, or group `m` − 64, changes its state from the first grid sample at or after now (R240, R243). -/
def State.micFrom (s : State) (m st : Nat) : State :=
  let x := s.mic m
  s.setMic m { x with log := ((s.nextGrid s.bc).toNat, st) :: x.log }

/-- LOCK of group `g`: 0 OFF, 1 ACQUIRE, 2 LOCKED (R240, R244). -/
def State.setLock (s : State) (g v : Nat) : State :=
  let s := s.wr (SPORT_ASRCST_LOCK g) v
  if v = 0 then s.setMic (64 + g) MicSt.reset else s.micFrom (64 + g) (if v = 1 then 3 else 2)

/-- CFG.ASRC of a port reads 1 while an enabled group binds it (R244). -/
def State.markBound (s : State) (p : Nat) : State := s.wr (SPORT_CFG_ASRC p) (b2n (s.groupOf p).isSome)

/-- A write of ASRCg (R239, R244). -/
def State.asrcWrite (s : State) (g : Nat) (t : State) : State × Bool :=
  let was := s.on (SPORT_ASRC_EN g)
  let now := t.on (SPORT_ASRC_EN g)
  let p := t.rd (SPORT_ASRC_PORT g)
  let use := (List.range 16).foldl (fun n q => if t.on (SPORT_ASRC_EN q) then n + t.groupUse q else n) 0
  if was && s.rd (SPORT_ASRC_PORT g) != p then (s, false)
  else if now && (decide (128 < use) || decide (32 < t.rd (SPORT_ASRC_CHIN g)) || decide (32 < t.rd (SPORT_ASRC_CHOUT g))) then (s, false)
  else if now && !was && ((s.groupOf p).isSome || t.on (SPORT_CFG_GRP p) || t.portState p != poOff) then (s, false)
  else
    let t := (t.wr SPORT_ASRCUSE_USED use).markBound p
    let t := if now && !was then t.setLock g 1 else if !now && was then (t.setLock g 0).fence 5 else t
    (t.sideCheck, true)

/-- Writes of SPORT registers (R222, R237, R239, R244); one that changes nothing breaks no restriction (R440). -/
def sportHook : Hook := fun s _ r i v t =>
  let changes := s.changesRow r i v
  if r.addr = 0x0A070100 then s.cfgWrite i t
  else if r.addr = 0x0A070104 then
    if s.portState i ≠ poOff && changes then s.portRefused i else (t, true)
  else if r.addr = 0x0A070124 || r.addr = 0x0A070128 then
    if (s.portState i ≠ poOff || s.on (SPORT_CAPCTL_EN i)) && changes then s.portRefused i else (t, true)
  else if r.addr = 0x0A070120 then (if bits v 1 2 = 3 then s.portRefused i else (t, true))
  else if r.addr = 0x0A070040 then s.asrcWrite i t
  else (t, true)

/-! ## Underrun and substitutes (R230, R235, R236) -/

/-- A record of one slip, at most one per port per second (R230). -/
def State.slip (s : State) (p : Nat) : State :=
  ((s.incSat (SPORT_STAT_SLIPS p) 1).wr (SPORT_STAT_SLIP p) 1).emitRated 1000000000 (mkRec cLost 0 0x0029 uPort p [])

/-- A sample under a gain that stands `fall` of `N` steps below 1 (R235, R236). -/
def faded (N fall v : Nat) : Nat := if fall = 0 then v else ux 32 (gainMul (sx 32 v) (N - fall) N)

/-- A sample of the substitute at block sample `i` (R235). -/
def subSample (policy N fall : Nat) (good : List Nat) (hold i : Nat) : Nat :=
  if policy = 0 then faded N fall (good.getD i 0) else if policy = 1 then 0 else faded N fall hold

/-- The steps below 1 at which a substitute starts: none, or all for ZERO (R235). -/
def State.subStart (s : State) (policy : Nat) : Nat := if policy = 1 then s.fadeLen else 0

/-- A port enters underrun (R235); its group, if it has one, returns to ACQUIRE (R240). -/
def State.portUnderrun (s : State) (p : Nat) : State :=
  if s.portState p ≠ poRun || s.on (SPORT_CFG_MASTER p) then s
  else
    let s := (s.wr (SPORT_STAT_STATE p) poUnder).wr (SPORT_STAT_UNDER p) 1
    let x := s.port p
    let start := s.subStart (s.rd (SPORT_CFG_UPOL p))
    let s := s.setPort p { x with timely := 0, rising := false, fall := start, stamps := []
                                  outFall := if (s.groupOf p).isSome then start else x.outFall }
    let s := match s.groupOf p with
      | some g => s.setLock g 1
      | none => s
    s.emit (mkRec cLost 0 0x0028 uPort p [s.rd (SPORT_CFG_UPOL p)])

/-- The slot takes samples: unmasked, below the slot count, receiver on (R233). -/
def State.slotUsed (s : State) (p mask i : Nat) : Bool := bit mask i && decide (i < s.slots p) && s.on (SPORT_CFG_RXEN p)

/-- Puts a frame on the port's list and, where its block is being gathered, into the block (R28, R233). -/
def State.addFrame (s : State) (p : Nat) (f : PFrame) : State :=
  let x := s.port p
  let s := s.setPort p { x with frames := x.frames ++ [f], last := some f.j, prev := x.vals, vals := f.vals, valsAt := f.ts }
  if f.j / s.fs = s.frame && (s.groupOf p).isNone then
    (List.range 32).foldl (fun s i => s.setSmp (32 * p + i) s.frame (f.j % s.fs) (f.vals.getD i 0)) s
  else s

/-- The substitute for grid index `j` of a port in underrun (R235). -/
def State.subFrame (s : State) (p j : Nat) : State :=
  let x := s.port p
  let N := s.fadeLen
  let vals := (List.range 32).map fun i =>
    if s.slotUsed p x.rx i then subSample (s.rd (SPORT_CFG_UPOL p)) N x.fall (tget [] x.good i) (tget 0 x.hold i) (j % s.fs) else 0
  let s := s.setPort p { x with fall := min N (x.fall + 1) }
  s.addFrame p ⟨j, x.rx, vals.map (wordOfSample (s.wordLen p)), vals, true, (s.gridTime ((j : Int) - 2)).toNat⟩

/-- Substitutes for the indices from `j`, `n` of them. -/
def State.subFrames (s : State) (p j : Nat) : Nat → State
  | 0 => s
  | n + 1 => (s.subFrame p j).subFrames p (j + 1) n

/-- The substitutes of a port in underrun before grid index `j` (R235). -/
def State.subsTo (s : State) (p : Nat) (j : Int) : State :=
  let l := match (s.port p).last with | some l => l + 1 | none => s.fs * s.frame
  s.subFrames p l (j.toNat - l)

/-- A frame of received words at grid index `j` (R225, R233, R236). -/
def State.takeFrame (s : State) (p j T : Nat) (words : List Nat) : State :=
  let x := s.port p
  let N := s.fadeLen
  let wl := s.wordLen p
  let ws := (List.range 32).map fun i => if s.slotUsed p x.rx i then words.getD i 0 % 2 ^ wl else 0
  let raw := ws.map (sampleOfWord wl)
  let vals := raw.map (faded N x.fall)
  let hold := raw.zipIdx.foldl (fun t q => tput 0 t q.2 q.1) x.hold
  let s := s.setPort p { x with hold, fall := if x.rising then x.fall - 1 else x.fall, rising := x.rising && decide (1 < x.fall) }
  s.addFrame p ⟨j, x.rx, ws, vals, false, T⟩

/-! ## A port frame (R227 to R236) -/

/-- The edge falls within a quarter of a sample period of a multiple of the port's period after the last: the sample
period, or through an ASRC the interval at which the port ran (R236). -/
def State.timelyEdge (s : State) (asrc : Bool) (x : PortSt) (T : Nat) : Bool :=
  match x.edge with
  | none => true
  | some e =>
    let one := if asrc && x.per != 0 then x.per * 3 * s.fs else 1000000
    let r := (T - e) * 3 * s.fs % one
    decide (min r (one - r) ≤ 250000)

/-- The interval to this edge is within 0.1 % of the period: the sample period, or the last interval through an ASRC (R237). -/
def State.steadyEdge (s : State) (asrc : Bool) (x : PortSt) (T : Nat) : Bool :=
  match x.edge with
  | none => false
  | some e =>
    let gap := T - e
    if asrc then x.gap == 0 || decide (gap * 1000 ≤ x.gap * 1001) && decide (x.gap * 999 ≤ gap * 1000)
    else decide (gap * 3 * s.fs * 1000 ≤ 1000000 * 1001) && decide (1000000 * 999 ≤ gap * 3 * s.fs * 1000)

/-- The port is a master on the grid: its frames coincide with grid times, at which it sends them (R227, R228, R231). -/
def State.onGrid (s : State) (p : Nat) : Bool := s.on (SPORT_CFG_MASTER p) && (s.groupOf p).isNone

/-- Edge time, index of the samples received and index of the sample sent of the frame whose edge was given at `T`: on the
grid, the frame at tg(k) nearest to it; elsewhere by the two rules of R227. -/
def State.frameAt (s : State) (p T : Nat) : Nat × Int × Int :=
  if s.onGrid p then
    let k := s.nearGrid T
    ((s.gridTime k).toNat, k + 2, k - 3)
  else (T, s.gridIndex T, s.outIndex T)

/-- The frame at `T` is one that a master sends: from its first on, one at each grid time (R228). -/
def State.framePasses (s : State) (p T : Nat) : Bool := !s.onGrid p || decide ((s.port p).next ≤ s.nearGrid T)

/-- A received frame of a port in RUN at grid index `j` (R227, R230). -/
def State.runFrame (s : State) (p T : Nat) (j : Int) (words : List Nat) : State :=
  let x := s.port p
  let s := if s.on (SPORT_CFG_MASTER p) then s else s.wr (SPORT_PHASE_OFFS p) (s.gridTime (j - 2) - T).toNat
  if j < s.fs * s.frame then s
  else
    let j := j.toNat
    match x.last with
    | none => s.takeFrame p j T words
    | some l =>
      if (s.groupOf p).isSome || s.on (SPORT_CFG_MASTER p) then s.takeFrame p (max j l) T words
      else if j ≤ l then s.slip p
      else if j = l + 1 then s.takeFrame p j T words
      else if j = l + 2 then
        let prev := (List.range 32).map fun i => tget 0 x.hold i / 2 ^ (32 - s.wordLen p)
        ((s.takeFrame p (l + 1) (s.gridTime ((l : Int) - 1)).toNat prev).slip p).takeFrame p j T words
      else s.portUnderrun p

/-- A frame of a port in underrun: after 4 timely edges it rejoins (R236). -/
def State.underFrame (s : State) (p T : Nat) (j : Int) (words : List Nat) : State :=
  let x := s.port p
  let n := if s.timelyEdge (s.groupOf p).isSome x T then x.timely + 1 else 0
  if n < 4 then s.setPort p { x with timely := n }
  else
    let s := s.subsTo p j
    let s := (s.wr (SPORT_STAT_STATE p) poRun).wr (SPORT_PHASE_OFFS p) (s.gridTime (j - 2) - T).toNat
    let x := s.port p
    let s := s.setPort p { x with timely := 0, rising := decide (0 < x.fall), outFall := s.fadeLen }
    if decide (j < s.fs * s.frame) || (match x.last with | some l => decide (j ≤ l) | none => false) then s else s.takeFrame p j.toNat T words

/-- The ratio of a port's frame rate to the device rate, in 2^−40, over its last `n` frames (R239; over how many is not given:
log entry 51). -/
def State.measuredRatio (s : State) (x : PortSt) (n : Nat) : Option Nat :=
  let l := x.stamps.take (n + 1)
  match l, l.getLast? with
  | a :: _, some z =>
    let span := s.gridPos a - s.gridPos z
    if 0 < span then some (((l.length - 1 : Nat) * gridOne * 2 ^ 40 : Int) / span).toNat else none
  | _, _ => none

/-- The edge of a port through an ASRC: the ratio is measured, and followed at 100 ppm/s once locked (R239). -/
def State.asrcEdge (s : State) (p T : Nat) : State :=
  match s.groupOf p with
  | none => s
  | some g =>
    let x := s.port p
    let dt := match x.stamps with | a :: _ => T - a | [] => 0
    let x := { x with stamps := (T :: x.stamps).take 65 }
    let s := s.setPort p x
    match s.measuredRatio x 64 with
    | none => s
    | some m =>
      if s.rd (SPORT_ASRCST_LOCK g) = 2 then
        let r := ((x.ratio : Int) + clampAbs (x.ratio * dt / 10 ^ 13 : Nat) ((m : Int) - x.ratio)).toNat
        (s.setPort p { x with ratio := r }).wr (SPORT_ASRCST_RATIO g) (r / 2 ^ 20)
      else s

/-- Sum of a side-tone path (R215). -/
def sideSum (gx : List (Nat × Nat)) (routed : Option Nat) : Nat :=
  let acc := gx.foldl (fun (a : Int) q => a + sx 32 q.1 * sx 32 q.2) 0
  let acc := match routed with | some r => acc + sx 32 r * 2 ^ 28 | none => acc
  ux 32 (clampS 32 (rne acc 28))

/-- Slot `i` of a frame whose edge fell at `e` is complete by `T`, to the ns: its last bit has arrived (R46, R217, R223). -/
def State.slotDone (s : State) (p i e T : Nat) : Bool :=
  decide ((msbCycle (s.rd (SPORT_CFG_FMT p)) (s.slotWidth p) i + s.wordLen p) * 1000000 ≤ (T + 1 - e) * 3 * s.fs * (s.slots p * s.slotWidth p))

/-- The state of a microphone or group at grid sample `j`. -/
def MicSt.at_ (x : MicSt) (j : Nat) : Nat := match x.log.find? fun q => decide (q.1 ≤ j) with | some q => q.2 | none => x.cur

/-- The most recent complete sample of a side-tone input at `T` (R217, R218): of a port, the newest frame whose slot has
arrived, or the substitutes of underrun; of a microphone in RUN a free value (log entry 20). -/
def State.sideInput (s : State) (e T : Nat) : Nat × State :=
  if e < 0x800 then
    let p := e / 32
    let i := e % 32
    let st := s.portState p
    if st = poRun then
      let x := s.port p
      ((if s.slotDone p i x.valsAt T then x.vals else x.prev).getD i 0, s)
    else if st = poUnder then
      let s := s.subsTo p (s.gridIndex T)
      ((s.port p).vals.getD i 0, s)
    else (0, s)
  else
    let m := e - 0x800
    let x := s.mic m
    let j := (s.nextGrid T).toNat
    let st := x.at_ j
    if st = 2 then (s.free 32, s.used)
    else if st = 3 then
      let pol := s.rd (PDM_LCFG_UPOL (m / 2))
      let gone := if x.cur = 3 then x.fall + (j - s.fs * s.frame) else s.subStart pol + (j - ((x.log.head?.map (·.1)).getD j))
      (subSample pol s.fadeLen (min s.fadeLen gone) (tget [] x.good 0) (tget 0 x.hold 0) (j % s.fs), s)
    else (0, s)

/-- One output sample of path `m`, `r` being the routed sample of its slot (R215, R218, R362). -/
def State.sideOut (s : State) (m r T : Nat) : Nat × State :=
  let (xs, s) := (List.range 8).foldl (fun (q : List (Nat × Nat) × State) i =>
    if bit (s.rd (ROUTE_STCFG_INEN m)) i then
      let (v, s) := q.2.sideInput (s.rd (ROUTE_STSRC_SRC (m * 8 + i))) T
      (q.1 ++ [(v, s.rd (ROUTE_STGAIN_GAIN (m * 8 + i)))], s)
    else q) ([], s)
  let y := sideSum xs (if s.on (ROUTE_STCFG_MODE m) then some r else none)
  let h := tget HoldSt.reset s.io.side m
  let N := s.fadeLen
  let put := fun (s : State) (h : HoldSt) => { s with io := { s.io with side := tput HoldSt.reset s.io.side m h } }
  if s.injOn 13 uSide m then
    let s := (s.injDone).mismatch uSide m 7 true
    (faded N h.fall h.last, put s { h with fall := min N (h.fall + 1) })
  else (faded N h.fall y, put s ⟨y, h.fall - 1⟩)

/-- Sample `j` of the presentation of endpoint `e`. -/
def State.presAt (s : State) (e : Nat) (j : Int) : Nat :=
  let first : Int := s.fs * s.frame
  if first ≤ j then tget 0 (tget [] s.route.pres e) (j - first).toNat
  else tget 0 (tget [] s.route.presOld e) (j - first + s.fs).toNat

/-- A converted output sample of slot `i`, before the port's gain: a free value while LOCKED (log entry 20), in ACQUIRE the
substitute of the port's policy (R240). -/
def State.asrcOut (s : State) (p g i : Nat) : Nat × State :=
  let x := s.port p
  if s.rd (SPORT_ASRCST_LOCK g) = 2 then
    let v := s.free 32
    let l := tget [] x.sent i
    (faded s.fadeLen x.outFall v, s.used.setPort p { x with sent := tput [] x.sent i ((l ++ [v]).drop (l.length + 1 - s.fs)) })
  else
    let l := tget [] x.sent i
    (subSample (s.rd (SPORT_CFG_UPOL p)) s.fadeLen x.outFall l (l.getLastD 0) (x.outFall % s.fs), s)

/-- The gain of a port's output after a frame: it rises to 1, but falls while its group is in ACQUIRE (R236, R240). -/
def State.outFallNext (s : State) (p : Nat) : Nat :=
  let f := (s.port p).outFall
  match s.groupOf p with
  | some g => if s.rd (SPORT_ASRCST_LOCK g) = 2 then f - 1 else min s.fadeLen (f + 1)
  | none => f - 1

/-- The words a port sends in a frame whose edge falls at `T`, `j` being the grid sample due (R225, R227, R233, R237, R240). -/
def State.sendFrame (s : State) (p T : Nat) (j : Int) : State :=
  let x := s.port p
  let z := if s.on (SPORT_CFG_TXZ p) then none else some 0
  let (ws, s) := (List.range (s.slots p)).foldl (fun (q : List (Option Nat) × State) i =>
    let s := q.2
    let e := 32 * p + i
    if !s.on (SPORT_CFG_TXEN p) then (q.1 ++ [none], s)
    else if !bit x.tx i then (q.1 ++ [z], s)
    else
      let (r, s) := match s.groupOf p with
        | some g => if i < s.rd (SPORT_ASRC_CHOUT g) then s.asrcOut p g i else (0, s)
        | none => (faded s.fadeLen x.outFall (s.presAt e j), s)
      let (y, s) := match (List.range 16).find? (fun m => s.on (ROUTE_STCFG_EN m) && s.rd (ROUTE_STCFG_OUT m) == e) with
        | some m => if s.on (ROUTE_STSTAT_ACTIVE m) then s.sideOut m r T else (0, s)
        | none => (r, s)
      (q.1 ++ [some (wordOfSample (s.wordLen p) y)], s)) ([], s)
  let W := s.slotWidth p
  let carry := lineLevel (s.rd (SPORT_CFG_FMT p)) W (s.wordLen p) x.dout none (s.slots p * W)
  s.setPort p { s.port p with dout := ws, carry, outFall := s.outFallNext p }

/-- A port frame (R227 to R236): its edge at beat-counter time `T`, and the data line by cycle. What it receives is
complete only after its edge, so what it sends comes first (R217). -/
def State.portFrame (s : State) (p T : Nat) (din : List Bool) : State :=
  let st := s.portState p
  if st = poOff ∨ st = poStarting ∨ s.framePasses p T = false then s
  else
    let (T, ji, jo) := s.frameAt p T
    let words := s.lineWords p din
    let x := s.port p
    let x := { x with rx := s.rd (SPORT_RXMASK_MASK p), tx := s.rd (SPORT_TXMASK_MASK p), next := jo + 4 }
    let s := s.setPort p x
    let s :=
      if st = poSeeking then
        s.setPort p { x with timely := if s.steadyEdge (s.groupOf p).isSome x T then x.timely + 1 else 1 }
      else if st = poRun then ((s.sendFrame p T jo).runFrame p T ji words).asrcEdge p T
      else s.underFrame p T ji words
    let gap := match x.edge with | some e => T - e | none => 0
    let y := s.port p
    s.setPort p { y with edge := some T, gap, per := if s.portState p = poRun ∧ st ≠ poUnder then gap else y.per }

/-! ## Seals and starts at the downbeat (R28, R226, R229, R233, R234, R237) -/

/-- Bytes of one sample word in a capture record (R234). -/
def packWord (wl pack w : Nat) : List Byte :=
  if wl = 16 then leBytes w 2
  else if wl = 32 then leBytes w 4
  else if pack = 0 then leBytes w 3
  else if pack = 1 then leBytes (w * 256) 4
  else leBytes (ux 32 (sx 24 w)) 4

/-- Frames of one record: those that follow with the same mask. -/
def sameMask (m : Nat) : List PFrame → List PFrame × List PFrame
  | [] => ([], [])
  | f :: t => if f.mask = m then let (a, b) := sameMask m t; (f :: a, b) else ([], f :: t)

/-- Rounds a length up to a multiple of 32 with zeros. -/
def pad32 (l : List Byte) : List Byte := padTo ((l.length + 31) / 32 * 32) l

/-- One capture record (R234). -/
def State.captureBytes (s : State) (p : Nat) (fs : List PFrame) : List Byte :=
  match fs with
  | [] => []
  | f :: _ =>
    let wl := s.wordLen p
    let pack := s.rd (SPORT_CAPCTL_PACK24 p)
    let body := fs.flatMap fun g => (List.range (s.slots p)).flatMap fun i => if bit g.mask i then packWord wl pack (g.words.getD i 0) else []
    pad32 (leBytes f.ts 8 ++ leBytes f.j 4 ++ leBytes f.mask 4 ++ leBytes fs.length 2 ++ leBytes (b2n (fs.any (·.sub))) 1
      ++ List.replicate 13 0 ++ body)

/-- Writes 32-byte pieces modulo the buffer. -/
def State.capturePut (s : State) (p : Nat) : Nat → List Byte → State
  | 0, _ => s
  | n + 1, bs =>
    if bs.isEmpty then s
    else
      let size := s.rd (SPORT_CAPSIZE_SIZE p) * 256
      let pos := s.rd (SPORT_CAPPOS_POS p) % size
      let (s, _) := s.engineWrite 18 (s.rd (SPORT_CAPCTL_QOS p)) (s.rd (SPORT_CAPBASE_BASE p) * 256 + pos) (bs.take 32)
      (s.wr (SPORT_CAPPOS_POS p) ((pos + 32) % size)).capturePut p n (bs.drop 32)

/-- The capture records of a sealed block; each completed record fires its source (R129). -/
def State.capture (s : State) (p : Nat) : Nat → List PFrame → State
  | 0, _ => s
  | n + 1, fs =>
    match fs with
    | [] => s
    | f :: _ =>
      let (a, b) := sameMask f.mask fs
      let a' := a.take s.fs
      let bs := s.captureBytes p a'
      ((s.capturePut p (bs.length / 32) bs).fire (768 + p)).capture p n (a.drop s.fs ++ b)

/-- Writes a block of zeros for every slot of port `p`. -/
def State.silence (s : State) (p m : Nat) : State :=
  (List.range 32).foldl (fun s i => (List.range s.fs).foldl (fun s k => s.setSmp (32 * p + i) m k 0) s) s

/-- A microphone or group takes up state `st` (R235, R236, R243): RUN rises from 0, or from the gain a substitute has
reached; a substitute falls from 1, or stands at 0 where nothing was received before. -/
def MicSt.enter (x : MicSt) (N start st : Nat) : MicSt :=
  if st = x.cur then x
  else { x with cur := st, fall := if st = 2 then (if x.cur = 3 then x.fall else N) else if st = 3 then (if x.cur = 2 then start else N) else 0 }

/-- The samples at block sample `k` of the slots whose new ones are `raw` (R235, R236, R243). -/
def MicSt.sample (x : MicSt) (N pol k : Nat) (raw : List Nat) : List Nat × MicSt :=
  if x.cur = 2 then
    (raw.map (faded N x.fall), { x with fall := x.fall - 1, hold := raw.zipIdx.foldl (fun t q => tput 0 t q.2 q.1) x.hold })
  else if x.cur = 3 then
    (raw.zipIdx.map fun q => subSample pol N x.fall (tget [] x.good q.2) (tget 0 x.hold q.2) k, { x with fall := min N (x.fall + 1) })
  else (raw.map fun _ => 0, x)

/-- The block of frame `m` of microphone or group `u`, sample by sample: `raw` gives the new samples, by slot, at block sample
`k`. Answers the block's samples. -/
def State.convert (s : State) (u m pol : Nat) (raw : Nat → State → List Nat × State) : List (List Nat) × State :=
  let N := s.fadeLen
  let (rows, raws, s) := (List.range s.fs).foldl (fun (q : List (List Nat) × List (List Nat) × State) k =>
    let s := q.2.2
    let x := s.mic u
    let (r, s) := raw k (s.setMic u (x.enter N (s.subStart pol) (x.at_ (s.fs * m + k))))
    let (v, x) := (s.mic u).sample N pol k r
    (q.1 ++ [v], if x.cur = 2 then q.2.1 ++ [r] else q.2.1, s.setMic u x)) ([], [], s)
  let x := s.mic u
  let good := if raws.length = s.fs then
      (List.range (raws.headD []).length).foldl (fun t i => tput [] t i (raws.map (·.getD i 0))) x.good
    else x.good
  let x : MicSt := { x with good, log := x.log.filter fun q => decide (s.fs * (m + 1) ≤ q.1) }
  (rows, s.setMic u (if x.cur = 0 then { MicSt.reset with log := x.log } else x))

/-- `n` free values. -/
def State.frees (s : State) : Nat → List Nat × State
  | 0 => ([], s)
  | n + 1 => let (l, t) := s.used.frees n; (s.free 32 :: l, t)

/-- The converted block of a group, sealed for frame `m` (R240): free values while LOCKED (log entry 20). No word of it is
written before the seal, so until then a late read finds the old block (R29; log entry 51). -/
def State.asrcSeal (s : State) (p g m : Nat) : State :=
  let s := s.silence p m
  let (rows, s) := s.convert (64 + g) m (s.rd (SPORT_CFG_UPOL p)) fun _ s => s.frees (min (s.rd (SPORT_ASRC_CHIN g)) 32)
  let s := rows.zipIdx.foldl (fun (s : State) row => row.1.zipIdx.foldl (fun (s : State) v =>
    if s.slotUsed p (s.port p).rx v.2 then s.setSmp (32 * p + v.2) m row.2 v.1 else s) s) s
  let s := if s.io.asrcMis.contains g then { s with route := { s.route with badSeal := (32 * p) :: s.route.badSeal } } else s
  ({ s with io := { s.io with asrcMis := s.io.asrcMis.filter (· ≠ g) } } : State).fire (112 + g)

/-- The block of port `p` for frame `m` is sealed (R28, R229, R233 to R235). -/
def State.portSeal (s : State) (p m : Nat) : State :=
  let st := s.portState p
  if st ≠ poRun ∧ st ≠ poUnder then s
  else
    let F := s.fs
    let s := if st = poUnder then
        s.subsTo p (F * (m + 1) : Nat)
      else s
    let x := s.port p
    let here := x.frames.filter fun f => f.j / F ≤ m
    let whole := here.length == F && !(here.any (·.sub))
    let good := if whole then (List.range 32).foldl (fun t i => tput [] t i (here.map fun f => sampleOfWord (s.wordLen p) (f.words.getD i 0))) x.good
      else x.good
    let ts := if s.on (SPORT_CFG_MASTER p) then (s.gridTime ((F * m : Nat) - 2)).toNat
      else match here.head? with | some f => f.ts | none => (s.gridTime ((F * m : Nat) - 2)).toNat
    let s := s.setPort p { x with frames := x.frames.filter fun f => m < f.j / F, good }
    let s := (s.wr (SPORT_TSLO_TS p) ts).wr (SPORT_TSHI_TS p) (ts / 2 ^ 32)
    let s := if s.on (SPORT_CAPCTL_EN p) && s.rd (SPORT_CAPSIZE_SIZE p) != 0 then s.capture p here.length here else s
    match s.groupOf p with
    | some g => s.asrcSeal p g m
    | none => s.fire (16 + p)

/-- Early frames of the block that now opens enter it. -/
def State.portOpen (s : State) (p m : Nat) : State :=
  if (s.groupOf p).isSome then s
  else ((s.port p).frames.filter fun f => f.j / s.fs == m).foldl (fun s f =>
    (List.range 32).foldl (fun s i => s.setSmp (32 * p + i) m (f.j % s.fs) (f.vals.getD i 0)) s) s

/-- Starts and stops of port `p` at the downbeat that opens frame `m` (R237). -/
def State.portTurn (s : State) (p m : Nat) : State :=
  let st := s.portState p
  if !s.on (SPORT_CFG_EN p) then
    if st = poOff then s
    else
      let z := if s.on (SPORT_CFG_TXZ p) then none else some 0
      let s := (s.wr (SPORT_STAT_STATE p) poOff).setPort p { PortSt.reset with dout := List.replicate (s.slots p) z }
      let s := ((s.wr (SPORT_PHASE_OFFS p) 0).silence p m).fence 5
      match s.groupOf p with
      | some g => s.setLock g 1
      | none => s
  else if st = poStarting then
    let x := { PortSt.reset with fall := s.fadeLen, rising := true, outFall := s.fadeLen, next := s.fs * m }
    if s.on (SPORT_CFG_MASTER p) then ((s.wr (SPORT_STAT_STATE p) poRun).setPort p x).silence p m
    else (s.wr (SPORT_STAT_STATE p) poSeeking).setPort p x
  else if st = poSeeking ∧ 4 ≤ (s.port p).timely then
    ((s.wr (SPORT_STAT_STATE p) poRun).setPort p { s.port p with timely := 0, last := none, frames := [], per := (s.port p).gap }).silence p m
  else s

/-- The slot that opens for frame `m` on a port that is not running reads 0 (R233). -/
def State.portIdle (s : State) (p m : Nat) : State :=
  if s.portState p = poRun ∨ s.portState p = poUnder then s
  else if (List.range 32).any fun i => !(tget [] s.route.smp (32 * p + i)).isEmpty then s.silence p m else s

/-- Serial ports before the seals of D(n): blocks of frame n − 1. -/
def State.portsSeal (s : State) (n : Nat) : State := (List.range 64).foldl (fun s p => s.portSeal p (n - 1)) s

/-- Serial ports as D(n) opens frame n. -/
def State.portsOpen (s : State) (n : Nat) : State :=
  ((List.range 64).foldl (fun s p => ((s.portTurn p n).portOpen p n).portIdle p n) s).countGrp.sideCheck

/-! ## Rate converters (R240) -/

/-- A group in ACQUIRE whose port receives frame syncs reaches LOCKED at the ratio measured (R239, R240, R244): its outputs
rejoin from gain 0, its inputs from the gain of their substitute (R236). -/
def State.asrcLock (s : State) (g n : Nat) : State :=
  let p := s.rd (SPORT_ASRC_PORT g)
  if s.rd (SPORT_ASRCST_LOCK g) ≠ 1 || s.portState p ≠ poRun then s
  else match s.measuredRatio (s.port p) n with
    | none => s
    | some r => ((s.setPort p { s.port p with ratio := r, outFall := s.fadeLen }).setLock g 2).wr (SPORT_ASRCST_RATIO g) (r / 2 ^ 20)

/-! ## Microphones (R241 to R243) -/

/-- The state field of microphone `m`. -/
def micField (m : Nat) : Fld := if m % 2 = 0 then PDM_LSTAT_STATEA (m / 2) else PDM_LSTAT_STATEB (m / 2)

/-- The enable bit of microphone `m`. -/
def micEnable (m : Nat) : Fld := if m % 2 = 0 then PDM_LCFG_ENA (m / 2) else PDM_LCFG_ENB (m / 2)

/-- A microphone's state follows its enable bit and its clock (R243, R245). -/
def State.micTurn (s : State) (m : Nat) : State :=
  let live := s.on (micEnable m) && s.on (PDM_CLK_EN (m / 8))
  let st := s.rd (micField m)
  if !live then
    if st = 0 then s
    else
      let s := (s.wr (micField m) 0).micFrom m 0
      if s.rd (micField (m / 2 * 2 + (1 - m % 2))) = 0 then s.fence 5 else s
  else if st = 0 then (s.wr (micField m) 1).micFrom m 1 else s

/-- Writes of PDM registers (R241, R243, R245). -/
def pdmHook : OptHook := fun s _ r i v t =>
  if r.addr = 0x0A080000 then
    if s.on (PDM_CLK_EN i) && s.rd (PDM_CLK_RATE i) != bits v 1 2 then none
    else if bits v 1 2 = 0 && s.on SYS_RATE_ACT then none
    else some ((List.range 8).foldl (fun t k => t.micTurn (8 * i + k)) t)
  else if r.addr = 0x0A080100 then some ((t.micTurn (2 * i)).micTurn (2 * i + 1))
  else some t

/-- WAKE ends (R243). -/
def State.micWake (s : State) (m : Nat) : State :=
  if s.rd (micField m) ≠ 1 then s else (s.wr (micField m) 2).micFrom m 2

/-- Constant data for 2 ms: STUCK, with a LOST record (R235, R243). -/
def State.micStuck (s : State) (m : Nat) : State :=
  if s.rd (micField m) ≠ 2 then s
  else (((s.wr (micField m) 3).wr (PDM_LSTAT_STUCKEV (m / 2)) 1).micFrom m 3).emit (mkRec cLost 0 0x0028 uMic m [s.rd (PDM_LCFG_UPOL (m / 2))])

/-- 10 ms of changing data: back to RUN with a rising gain (R236, R243). -/
def State.micUnstuck (s : State) (m : Nat) : State := if s.rd (micField m) = 3 then (s.wr (micField m) 2).micFrom m 2 else s

/-- The decimator (R242): a ones-density d gives 2d − 1, saturated at 0x7FFF_FFFF, which the all-ones and all-zeros streams
fix; the response to other streams has no coefficients in the specification (log entry 20). -/
def State.decimated (s : State) (r : Nat) (bits : List Bool) : Int :=
  if bits.all id then 2 ^ 31 - 1 else if bits.all not then -(2 ^ 31) else clampS 32 (Config.decimate r (s.on SYS_RATE_ACT) bits)

/-- Sample `k` of microphone `m` in frame `f`, from the bits of this frame and the last (R241, R242). -/
def State.micSample (s : State) (m f k : Nat) (bits : List Bool) : Nat × State :=
  let r := s.rd (PDM_CLK_RATE (m / 8))
  let x := s.mic m
  let v := s.decimated r (x.bits ++ bits.take (s.pdmBits r f (k + 1)))
  if s.on (PDM_LCFG_HPF (m / 2)) then
    let y := clampS 32 (Config.highPass (s.on SYS_RATE_ACT) v x.hx x.hy)
    (ux 32 y, s.setMic m { x with hx := v, hy := y })
  else (ux 32 v, s.setMic m { x with hx := v, hy := v })

/-- The block of microphone `m` for frame `f` (R242, R243): the decimated bits of the frame, or free values where none are
given, in RUN; the substitute in STUCK; else 0. No word is written before the seal (R29; log entry 51). -/
def State.micSeal (s : State) (m f : Nat) (bits : Option (List Bool)) : State :=
  let e := 0x800 + m
  let x := s.mic m
  if x.cur = 0 ∧ x.log.isEmpty ∧ (tget [] s.route.smp e).isEmpty then s
  else
    let (rows, s) := s.convert m f (s.rd (PDM_LCFG_UPOL (m / 2))) fun k s =>
      match bits with
      | some l => let (v, s) := s.micSample m f k l; ([v], s)
      | none => s.frees 1
    let s := rows.zipIdx.foldl (fun (s : State) r => s.setSmp e f r.2 (r.1.headD 0)) s
    let s := if (s.mic m).cur = 0 then s else s.setMic m { s.mic m with bits := bits.getD [] }
    if s.rd (micField m) = 2 && s.injOn 13 uMic m then
      let s := (s.injDone).mismatch uMic m 2 true
      { s with route := { s.route with badSeal := e :: s.route.badSeal } }
    else s

/-- Microphones at the seals of D(n), with the bits of the frame by microphone; every line then fires its source (R243). -/
def State.micsSeal (s : State) (n : Nat) (pdm : List (Nat × List Bool)) : State :=
  let s := (List.range 64).foldl (fun (s : State) m => s.micSeal m (n - 1) (pdm.lookup m)) s
  (List.range 32).foldl (fun (s : State) l => s.fire (80 + l)) s

/-- Injected mismatches of converter groups at the seals (R362, R372). -/
def State.asrcInject (s : State) : State :=
  match s.integ.inj with
  | some j =>
    if j.check == 13 && j.utype == uAsrc && s.rd (SPORT_ASRCST_LOCK j.uinst) == 2 then
      let s := (s.injDone).mismatch uAsrc j.uinst 3 true
      { s with io := { s.io with asrcMis := j.uinst :: s.io.asrcMis } }
    else s
  | none => s

end Sys2Proof.Machine
end

