-- ==== Sys2Proof/Machine/Time.lean ====
section
/-! DEFINITION. Time bases TB0 to TB4 and their servos (R261 to R268, R270). Time base x has index x − 1 here. -/
namespace Sys2Proof.Machine

/-- Time base states (R267). -/
def tbDisabled : Nat := 0
def tbFreerun : Nat := 1
def tbLocking : Nat := 2
def tbLocked : Nat := 3
def tbHoldover : Nat := 4

/-- Anchors a time base now, before a change of its rate or offset (R261). -/
def State.tbAnchor (s : State) (x : Nat) : State :=
  s.setTb x { s.tb x with ofs := s.tbFine x s.bc / 2 ^ 24, anc := s.bc }

/-- Changes the rate of a time base (R261). -/
def State.tbSetRate (s : State) (x : Nat) (r : Int) : State := (s.tbAnchor x).wr (TIME_TBRATE_RATE x) (ux 32 r)

/-- Steps a time base by an amount in 2^−16 ns (R261). -/
def State.tbStep (s : State) (x : Nat) (d : Int) : State :=
  let s := s.tbAnchor x
  s.setTb x { s.tb x with ofs := (s.tb x).ofs + d }

/-- The time base is the one that D(n) follows (R23, R274). -/
def State.tbSelected (s : State) (x : Nat) : Bool := s.rd REFS_TBSEL_SEL == x + 1

/-- HOLDOVER: the rate is held, with its event (R267, R386). -/
def State.tbHold (s : State) (x : Nat) : State :=
  let st := s.rd (TIME_TBSTAT_STATE x)
  if st = tbLocking ∨ st = tbLocked then
    let s := ((s.wr (TIME_TBSTAT_STATE x) tbHoldover).wr (TIME_TBSTAT_HOLDEV x) 1)
    let s := s.setTb x { s.tb x with run := 0, stepped := false }
    s.event 0x0004 (s.partBlock 0x0D) (leBytes (x + 1) 1)
  else s

/-- One update of the servo with the offset `e` in 2^−16 ns (R266, R267): the PI law at every update; the selected time base slews
at FMAX beyond STEPTHR, any other is stepped once. -/
def State.servoUpdate (s : State) (x : Nat) (e : Int) : State :=
  let st0 := s.rd (TIME_TBSTAT_STATE x)
  let s := if st0 = tbFreerun ∨ st0 = tbHoldover then
      (s.wr (TIME_TBSTAT_STATE x) tbLocking).setTb x { s.tb x with run := 0, stepped := false }
    else s
  let s := s.wr (TIME_TBOFS_E x) (ux 32 (clampS 32 (e / 2 ^ 16)))
  let fmax : Int := (s.rd (TIME_TBLIM_FMAX x) * 1000 : Nat)
  let big := decide ((s.rd (TIME_TBLIM_STEPTHR x) * 2 ^ 16 : Nat) < e.natAbs)
  let b := s.tb x
  let toRate := fun (r : Int) => r * 2 ^ 40 / (10 ^ 9 * 2 ^ 32 : Nat)
  let lim := fmax * 2 ^ 32
  let i := clampAbs lim (b.integ + s.rd (TIME_TBGAIN_KI x) * e)
  let r := clampAbs lim (i + s.rd (TIME_TBGAIN_KP x) * e * 2 ^ 8)
  let slews := big && s.tbSelected x
  let s := (s.setTb x { b with integ := i }).tbSetRate x (toRate (if slews then (if 0 < e then lim else -lim) else r))
  let s :=
    if slews then s.wr (TIME_TBSTAT_STEPREQ x) 1
    else if big && !b.stepped && s.rd (TIME_TBSTAT_STATE x) == tbLocking then
      let s := (s.tbStep x (-e)).wr (TIME_TBSTAT_STEPPED x) 1
      s.setTb x { s.tb x with stepped := true }
    else s
  let low := decide (e.natAbs < s.rd (TIME_TBLOCK_LOCKTHR x) * 2 ^ 16)
  let b := s.tb x
  let run : Int := if low then (if 0 < b.run then b.run + 1 else 1) else (if b.run < 0 then b.run - 1 else -1)
  let s := s.setTb x { b with run }
  let st := s.rd (TIME_TBSTAT_STATE x)
  let s :=
    if st = tbLocking ∧ 8 ≤ run then (s.wr (TIME_TBSTAT_STATE x) tbLocked).wr (TIME_TBSTAT_LOCKEV x) 1
    else if st = tbLocked ∧ run ≤ -8 then (s.wr (TIME_TBSTAT_STATE x) tbLocking).setTb x { s.tb x with run := 0, stepped := false }
    else s
  s.fire (840 + x)

/-! ## PTP messages (R248, R264 to R268; the message layout is IEEE 1588's, log entry 21) -/

/-- The number that big-endian bytes hold. -/
def beNat (l : List Byte) : Nat := l.foldl (fun n b => 256 * n + b.toNat) 0

/-- Bytes `lo` to `lo + n − 1` of a list, big-endian. -/
def beAt (l : List Byte) (lo n : Nat) : Nat := beNat ((l.drop lo).take n)

/-- Big-endian bytes of a number. -/
def beBytes (v n : Nat) : List Byte := (leBytes v n).reverse

/-- A PTP timestamp in ns. -/
def ptpTime (m : List Byte) (lo : Nat) : Int := (beAt m lo 6 * 10 ^ 9 + beAt m (lo + 6) 4 : Nat)

/-- The correctionField in 2^−16 ns. -/
def ptpCorr (m : List Byte) : Int := sx 64 (beAt m 8 8)

/-- The portIdentity at a byte. -/
def ptpIdent (m : List Byte) (lo : Nat) : Nat := beAt m lo 10

/-- The named master's portIdentity. -/
def State.tbMaster (s : State) (x : Nat) : Nat :=
  beNat (leBytes (s.rd (TIME_TBMID0_CLKID x)) 4 ++ leBytes (s.rd (TIME_TBMID1_CLKID x)) 4) * 2 ^ 16 + s.rd (TIME_TBMID2_PORTNUM x)

/-- The message belongs to time base `x` on MAC `m` (R248, R266). -/
def State.ptpFor (s : State) (x mac : Nat) (m : List Byte) : Bool :=
  s.on (TIME_TBCTRL_EN x) && s.rd (TIME_TBCTRL_PORT x) == mac && s.rd (TIME_TBCTRL_DOMAIN x) == beAt m 4 1
    && s.rd (TIME_TBCTRL_MAJSDO x) == beAt m 0 1 / 16 && s.rd (TIME_TBCTRL_MINSDO x) == beAt m 5 1

/-- The filtered delay takes in a new one, in 2^−16 ns (R266). -/
def State.tbDelay (s : State) (x : Nat) (d : Int) : State :=
  let b := s.tb x
  let dm := match b.dm with | some q => q + (d - q) / 16 | none => d
  (s.setTb x { b with dm := some dm }).wr (TIME_TBDLY_DM x) (ux 32 (dm / 2 ^ 16))

/-- A Sync has its t1: the offset and the update (R266). Times in 2^−16 ns. -/
def State.tbSync (s : State) (x rx : Nat) (t1 cs : Int) : State :=
  let t2 := s.tbFine x rx / 2 ^ 24
  let dm := (s.tb x).dm.getD 0
  s.servoUpdate x (t2 - t1 * 2 ^ 16 - cs - dm - sx 32 (s.rd (TIME_TBASYM_ASYM x)) * 2 ^ 16)

/-- A completed Delay exchange (R266): t1 + cs of the last Sync and its t2 are held; here t3 and t4 of the own Delay_Req. Both
ingress and egress are converted to the time base now, when they are used (R262). -/
def State.tbE2e (s : State) (x : Nat) (q : PtpReq) (t4 cd : Int) : State :=
  match (s.tb x).last with
  | some (t1, rx) =>
    let t2 := s.tbFine x rx / 2 ^ 24
    let t3 := s.tbFine x q.tx / 2 ^ 24
    s.tbDelay x ((t2 - t1 + (t4 * 2 ^ 16 - t3 - cd)) / 2)
  | none => s

/-- The neighbour's rate ratio in 2^−40 from the t3 of successive Pdelay_Resp_Follow_Up over their arrival in the time base
(R266); it stays without two of them. -/
def State.tbRatio (s : State) (x : Nat) (t3 : Int) (t4 : Nat) : State :=
  let b := s.tb x
  let s := match b.last with
    | some (p3, p4) =>
      let own := s.tbFine x t4 - s.tbFine x p4
      if 0 < own then s.wr (TIME_TBNRR_NRR x) (ux 32 (clampS 32 ((t3 - p3) * 2 ^ 80 / own - 2 ^ 40))) else s
    | none => s
  s.setTb x { b with last := some (t3, t4) }

/-- A completed Pdelay exchange (R266). -/
def State.tbP2p (s : State) (x : Nat) (q : PtpReq) (t2 t3 : Int) (t4 : Nat) (c : Int) : State :=
  let nrr := 2 ^ 40 + sx 32 (s.rd (TIME_TBNRR_NRR x))
  let own := (s.tbFine x t4 - s.tbFine x q.tx) / 2 ^ 24
  s.tbDelay x ((own * nrr / 2 ^ 40 - (t3 - t2) * 2 ^ 16 - c) / 2)

/-- A PTP message received at beat-counter time `rx` (R266 to R268). -/
def State.ptpMessage (s : State) (x rx : Nat) (udp : Bool) (m : List Byte) : State :=
  let p2p := s.on (TIME_TBCTRL_MODE x)
  if !s.on (TIME_TBCTRL_SVEN x) || udp == p2p || ptpIdent m 20 != s.tbMaster x then s
  else
    let ty := beAt m 0 1 % 16
    let seq := beAt m 30 2
    let two := bit (beAt m 6 1) 1
    let b := s.tb x
    let forward := fun (s : State) (rx : Nat) (t1 cs : Int) =>
      let s := if p2p then s else
        s.setTb x { s.tb x with last := some (t1 * 2 ^ 16 + cs, rx) }
      s.tbSync x rx t1 cs
    if ty = 0 then
      if two then s.setTb x { b with sync := some (seq, rx, ptpCorr m) }
      else forward (s.setTb x { b with sync := none }) rx (ptpTime m 34) (ptpCorr m)
    else if ty = 8 then
      match b.sync with
      | some (q, r, c) =>
        if q = seq then forward (s.setTb x { b with sync := none }) r (ptpTime m 34) (c + ptpCorr m) else s
      | none => s
    else if ty = 9 then
      match b.req with
      | some q =>
        if !p2p && q.seq == seq && q.ident == ptpIdent m 44 then (s.setTb x { b with req := none }).tbE2e x q (ptpTime m 34) (ptpCorr m) else s
      | none => s
    else if ty = 3 then
      match b.req with
      | some q =>
        if p2p && q.seq == seq && q.ident == ptpIdent m 44 then
          if two then s.setTb x { b with presp := some (seq, ptpTime m 34, rx, ptpCorr m) }
          else (s.setTb x { b with req := none, presp := none }).tbP2p x q (ptpTime m 34) (ptpTime m 34) rx (ptpCorr m)
        else s
      | none => s
    else if ty = 10 then
      match b.req, b.presp with
      | some q, some (n, t2, t4, c) =>
        if p2p && n == seq && q.ident == ptpIdent m 44 then
          ((s.setTb x { b with req := none, presp := none }).tbRatio x (ptpTime m 34) t4).tbP2p x q t2 (ptpTime m 34) t4 (c + ptpCorr m)
        else s
      | _, _ => s
    else s

/-- The egress of an own request marked SERVO (R264). -/
def State.ptpSent (s : State) (x tx : Nat) (m : List Byte) : State :=
  s.setTb x { s.tb x with req := some ⟨beAt m 30 2, ptpIdent m 20, tx⟩, presp := none }

/-! ## Registers (R262, R267, R268, R270) -/

/-- A capture of the beat counter and the time bases (R262). -/
def State.timeSnap (s : State) : State :=
  let s := (s.wr TIME_BCSNAPL_BC s.bc).wr TIME_BCSNAPH_BC (s.bc / 2 ^ 32)
  ((List.range 4).foldl (fun s x =>
    let t := ux 64 (s.timeAt (x + 1) s.bc)
    (s.wr (TIME_TBSNAPL_TB x) t).wr (TIME_TBSNAPH_TB x) (t / 2 ^ 32)) s).fire 844

/-- A write of TBCTRLx; `t` is the state with the fields written, and NRR at 0 in E2E. -/
def State.tbCtrl (s : State) (x : Nat) (t : State) : Option State :=
  let was := s.on (TIME_TBCTRL_EN x)
  let now := t.on (TIME_TBCTRL_EN x)
  let fixed := [TIME_TBCTRL_MODE x, TIME_TBCTRL_PORT x, TIME_TBCTRL_DOMAIN x, TIME_TBCTRL_MAJSDO x, TIME_TBCTRL_MINSDO x]
  if was && fixed.any (fun f => s.rd f != t.rd f) then none
  else if was && !now && s.tbSelected x then none
  else if !was && now then
    some ((t.setTb x { TbSt.reset with ofs := (s.tb x).ofs, anc := s.bc }).wr (TIME_TBSTAT_STATE x) tbFreerun)
  else if was && !now then
    some ((t.setTb x { s.tb x with ofs := s.tbFine x s.bc / 2 ^ 24, anc := s.bc }).wr (TIME_TBSTAT_STATE x) tbDisabled)
  else some (if now && !t.on (TIME_TBCTRL_SVEN x) then t.wr (TIME_TBSTAT_STATE x) tbFreerun else t)

/-- Writes of TIME registers (R261, R262, R267, R268, R270). -/
def timeHook : OptHook := fun s _ r i v t =>
  let o := r.addr - 0x0A0D0000
  if o = 0 then some (if bit v 0 then s.timeSnap else s)
  else if o = 0x100 then s.tbCtrl i (if bit v 1 then t else t.wr (TIME_TBNRR_NRR i) 0)
  else if o = 0x108 ∨ o = 0x10C ∨ o = 0x110 then
    some ((t.tbHold i).setTb i { (t.tbHold i).tb i with sync := none, req := none, presp := none, last := none })
  else if o = 0x114 ∨ o = 0x118 ∨ o = 0x11C then
    if s.on (TIME_TBCTRL_EN i) && s.changesRow r i v then none
    else if o = 0x118 ∧ (bits v 0 8 = 0 ∨ 100 < bits v 0 8) then none
    else some t
  else if o = 0x128 then (if s.on (TIME_TBCTRL_SVEN i) then (if s.changesRow r i v then none else some s) else some (s.tbSetRate i (sx 32 v)))
  else if o = 0x138 then (if s.tbSelected i then none else some (s.tbStep i (sx 32 v * 2 ^ 16)))
  else some t

/-- No update for SYNCTO (R267). -/
def State.syncTimeout (s : State) (x : Nat) : State := s.tbHold x

/-- The differences of the time bases from the selected one at a downbeat (R253). -/
def State.timeDownbeat (s : State) : State :=
  let sel := s.timeAt (s.rd REFS_TBSEL_SEL) s.io.dbAt
  { s with net := { s.net with delta := (List.range 5).foldl (fun t x => tput 0 t x (s.timeAt x s.io.dbAt - sel)) s.net.delta } }

end Sys2Proof.Machine
end

