-- ==== Sys2Proof/Machine/Network.lean ====
section
/-! DEFINITION. Ethernet MACs, frame classification, receive and transmit streams, host frames (R247 to R260, R263, R264, R269). -/
namespace Sys2Proof.Machine

/-! ## Frames (layouts of Ethernet, 802.1Q, IPv4, UDP, RTP and IEEE 1722: log entry 21) -/

/-- An Ethernet frame without FCS: addresses, number of tags, VID of the tag, EtherType, payload. -/
structure Eth where
  dst : Nat
  tags : Nat
  vid : Option Nat
  ety : Nat
  body : List Byte

def parseEth (b : List Byte) : Eth :=
  let e := beAt b 12 2
  if e = 0x8100 then
    let e2 := beAt b 16 2
    ⟨beAt b 0 6, if e2 = 0x8100 then 2 else 1, some (beAt b 14 2 % 4096), e2, b.drop 18⟩
  else ⟨beAt b 0 6, 0, none, e, b.drop 14⟩

/-- A UDP datagram in an IPv4 packet without options and not a fragment (R247). -/
structure Udp where
  src : Nat
  dst : Nat
  sport : Nat
  dport : Nat
  csum : Nat
  dgram : List Byte

def parseUdp (e : Eth) : Option Udp :=
  let b := e.body
  let len := beAt b 2 2
  if e.ety = 0x0800 ∧ beAt b 0 1 = 0x45 ∧ beAt b 6 2 % 2 ^ 14 = 0 ∧ beAt b 9 1 = 17 ∧ 28 ≤ len ∧ len ≤ b.length then
    let d := (b.take len).drop 20
    let ul := beAt d 4 2
    if 8 ≤ ul ∧ ul ≤ d.length then some ⟨beAt b 12 4, beAt b 16 4, beAt d 0 2, beAt d 2 2, beAt d 6 2, d.take ul⟩ else none
  else none

/-- Sum of 16-bit words, the last byte padded. -/
def sum16 : List Byte → Nat
  | a :: b :: t => 256 * a.toNat + b.toNat + sum16 t
  | [a] => 256 * a.toNat
  | [] => 0

/-- Ones' complement of a sum folded to 16 bits. -/
def fold16 (x : Nat) : Nat :=
  let y := x % 65536 + x / 65536
  let y := y % 65536 + y / 65536
  65535 - (y % 65536 + y / 65536)

/-- The UDP checksum of a datagram whose checksum field is taken as 0. -/
def udpSum (src dst : Nat) (d : List Byte) : Nat :=
  let x := fold16 (sum16 (beBytes src 4 ++ beBytes dst 4) + 17 + d.length + sum16 (d.take 6 ++ [0, 0] ++ d.drop 8))
  if x = 0 then 65535 else x

/-- The PTP message of a frame and whether it came over UDP (R248). -/
def ptpOf (e : Eth) : Option (Bool × List Byte) :=
  if e.ety = 0x88F7 then some (false, e.body)
  else match parseUdp e with
    | some u => if u.dport = 319 ∨ u.dport = 320 then some (true, u.dgram.drop 8) else none
    | none => none

/-! ## Stream descriptors (R249 to R252) -/

def State.rsWord (s : State) (i w : Nat) : Nat := s.rd (NET_RSDATA_WORD (i * 16 + w))
def State.tsWord (s : State) (i w : Nat) : Nat := s.rd (NET_TSDATA_WORD (i * 16 + w))

/-- S of a packet time (R251). -/
def State.ptimeS (s : State) (p : Nat) : Nat := (if p = 0 then 6 else if p = 1 then 12 else if p = 2 then 16 else 48) * (s.fs / 16)
/-- Packets per second. -/
def ptimeRate (p : Nat) : Nat := if p = 0 then 8000 else if p = 1 then 4000 else if p = 2 then 3000 else 1000

/-- Word-0 fields shared by both directions. -/
def dAvtp (w : Nat) : Bool := bit w 1
def dPorts (w : Nat) : Nat := bits w 2 4
def dBytes (w : Nat) : Nat := bits w 6 2 + 2
def dCh (w : Nat) : Nat := bits w 10 6 + 1
def dTb (w : Nat) : Nat := bits w 18 3

def State.payload (s : State) (w : Nat) : Nat := s.ptimeS (bits w 8 2) * dCh w * dBytes w

/-- One MAC or one pair (R247, R249). -/
def portsOk (p : Nat) : Bool := p == 1 || p == 2 || p == 4 || p == 8 || p == 3 || p == 12
def isPair (p : Nat) : Bool := p == 3 || p == 12

/-- Stream bandwidth in bits per second (R252). -/
def State.bandwidth (s : State) (w : Nat) : Nat :=
  ptimeRate (bits w 8 2) * 8 * (s.payload w + (if dAvtp w then 62 else 82) + (if bit w 30 then 4 else 0))

/-- Bandwidth of the enabled transmit streams on MAC `m`. -/
def State.macLoad (s : State) (m : Nat) : Nat :=
  (List.range 1024).foldl (fun n i => let w := s.tsWord i 0; if bit w 0 && bit (dPorts w) m then n + s.bandwidth w else n) 0

/-- Channels `[a, a + n)` overlap those of another enabled stream of a direction. -/
def overlaps (ws : List (Nat × Nat)) (a n : Nat) : Bool := ws.any fun q => decide (q.1 < a + n) && decide (a < q.1 + q.2)

def State.tbNamed (s : State) (t : Nat) : Bool := t == 0 || (decide (t ≤ 4) && s.on (TIME_TBCTRL_EN (t - 1)))

/-- Jitter depth in samples (R254, R269). -/
def State.jd (s : State) : Nat := 256 * 2 ^ s.rd NET_JCFG_JD

/-- The ERR code of a receive descriptor, 0 where it may be enabled (R252). -/
def State.rsErr (s : State) (i : Nat) : Nat :=
  let w := s.rsWord i
  let first := bits (w 1) 0 12
  let others := ((List.range 1024).filter fun q => q ≠ i && bit (s.rsWord q 0) 0).map fun q => (bits (s.rsWord q 1) 0 12, dCh (s.rsWord q 0))
  let avtp := dAvtp (w 0)
  if !portsOk (dPorts (w 0)) then 1
  else if overlaps others first (dCh (w 0)) || decide (4096 < first + dCh (w 0)) then 2
  else if 1440 < s.payload (w 0) then 3
  else if !s.tbNamed (dTb (w 0)) then 5
  else if bits (w 0) 6 2 == 3 || bits (w 0) 16 2 == 3 || bits (w 0) 22 10 != 0 || bits (w 1) 12 4 != 0 || bits (w 1) 25 7 != 0
      || bits (w 2) 11 5 != 0 || bits (w 2) 29 3 != 0 || (!avtp && bits (w 4) 25 7 != 0) || bits (w 7) 7 25 != 0
      || (List.range 8).any (fun q => w (8 + q) != 0) then 6
  else if s.jd < bits (w 2) 0 11 + s.fs then 7
  else 0

/-- The ERR code of a transmit descriptor (R252). -/
def State.tsErr (s : State) (i : Nat) : Nat :=
  let w := s.tsWord i
  let first := bits (w 1) 0 12
  let others := ((List.range 1024).filter fun q => q ≠ i && bit (s.tsWord q 0) 0).map fun q => (bits (s.tsWord q 1) 0 12, dCh (s.tsWord q 0))
  let full := fun m => bit (dPorts (w 0)) m && decide ((if s.on (NET_CTRL_SPEED m) then 20000000000 else 8000000000) < s.macLoad m)
  if !portsOk (dPorts (w 0)) then 1
  else if overlaps others first (dCh (w 0)) || decide (4096 < first + dCh (w 0)) then 2
  else if 1440 < s.payload (w 0) then 3
  else if (List.range 4).any full then 4
  else if !s.tbNamed (dTb (w 0)) then 5
  else if bits (w 0) 6 2 == 3 || bits (w 0) 16 2 != 0 || bit (w 0) 31 || bits (w 1) 12 4 != 0 || bits (w 1) 28 4 != 0
      || bits (w 3) 16 16 != 0 || bits (w 5) 16 16 != 0 || bit (w 11) 7 || bits (w 11) 16 16 != 0
      || (List.range 4).any (fun q => w (12 + q) != 0) then 6
  else 0

/-- CHUSE and STBW from the enabled streams (R269). -/
def State.countStreams (s : State) : State :=
  let sum := fun (f : Nat → Nat) => (List.range 1024).foldl (fun n i => let w := f i; if bit w 0 then n + dCh w else n) 0
  let s := (s.wr NET_CHUSE_RX (sum fun i => s.rsWord i 0)).wr NET_CHUSE_TX (sum fun i => s.tsWord i 0)
  (List.range 4).foldl (fun s m => s.wr (NET_STBW_MBPS m) (s.macLoad m / 1000000)) s

/-- Some receive stream is enabled. -/
def State.anyRx (s : State) : Bool := (List.range 1024).any fun i => bit (s.rsWord i 0) 0 || s.rd (NET_RSSTAT_STATE i) != 0
/-- Some stream is enabled. -/
def State.anyStream (s : State) : Bool := s.anyRx || (List.range 1024).any fun i => bit (s.tsWord i 0) 0 || s.on (NET_TSSTAT_RUN i)

/-- A write of descriptor word `x` = stream × 16 + word; a refused EN write leaves its ERR code (R252). One that changes nothing
passes (R440). -/
def State.descWrite (s : State) (rx : Bool) (x v : Nat) (t : State) : State × Bool :=
  let i := x / 16
  let old := if rx then s.rsWord i (x % 16) else s.tsWord i (x % 16)
  let off := if rx then s.rd (NET_RSSTAT_STATE i) == 0 else !s.on (NET_TSSTAT_RUN i)
  let en := bit (if rx then t.rsWord i 0 else t.tsWord i 0) 0
  let stop := x % 16 == 0 && bit old 0 && v % 2 ^ 32 + 1 == old
  if stop || (!off && v % 2 ^ 32 == old) then (t.countStreams, true)
  else if !off then (s, false)
  else
    let err := if !en then 0 else if rx then t.rsErr i else t.tsErr i
    if err ≠ 0 then (if rx then s.wr (NET_RSSTAT_ERR i) err else s.wr (NET_TSSTAT_ERR i) err, false)
    else (t.countStreams, true)

/-! ## Writes of NET registers (R252, R269) -/

/-- A MAC is stopped or loses its lock: its link goes and its crossing is fenced (R269, R415). -/
def State.macDown (s : State) (m : Nat) : State :=
  let s := s.fence 2
  if s.on (NET_STAT_LINK m) then (s.wr (NET_STAT_LINK m) 0).wr (NET_STAT_LINKCHG m) 1 else s

def netHook : Hook := fun s _ r i v t =>
  let o := r.addr - 0x0A090000
  if o = 0 then
    let was := s.on (NET_CTRL_EN i)
    if was && s.rd (NET_CTRL_SPEED i) != bits v 1 1 then (s, false)
    else if bits v 2 2 = 3 || (bits v 2 2 = 2 && bits v 1 1 = 0) then (s, false)
    else (if was && !bit v 0 then t.macDown i else t, true)
  else if o = 0x1040 then s.descWrite true i v t
  else if o = 0x1140 then s.descWrite false i v t
  else if o = 0x1200 ∨ o = 0x1204 ∨ o = 0x1208 then
    if (s.anyRx && s.changesRow r i v) || (o == 0x1208 && decide (0xE8 < bits v 0 8)) then (s, false) else (t, true)
  else (t, true)

/-- The PCS gains or loses lock (R269). -/
def State.linkChange (s : State) (m : Nat) (up : Bool) : State :=
  if !s.on (NET_CTRL_EN m) || s.on (NET_STAT_LINK m) == up then s
  else if up then (s.wr (NET_STAT_LINK m) 1).wr (NET_STAT_LINKCHG m) 1
  else s.macDown m

/-! ## Frames to the host (R248, R381, R387) -/

/-- Writes a buffer and its entry on a device-produced ring. -/
def State.bufPush (s : State) (r : Nat) (entry payload : List Byte) : State :=
  let s := s.ringPut r (s.ringBuf r + s.rd (HOST_RPI_INDEX r) % s.ringSize r * 2048) payload
  s.ringPush r (padTo 64 entry)

/-- A frame to the receive ring of MAC `m`, dropped and counted where there is none or it is full (R248; log entry 22). -/
def State.toHost (s : State) (m t : Nat) (servo : Bool) (b : List Byte) : State :=
  match s.ringFor (s.partBlock (0x09 + m)) ringNetrx with
  | none => s.inc (NET_RXDROP_COUNT m) 1
  | some r =>
    if s.ringFull r then s.inc (NET_RXDROP_COUNT m) 1
    else s.bufPush r (leBytes t 8 ++ leBytes b.length 2 ++ leBytes m 1 ++ leBytes (b2n servo) 1) b

/-- The destination is the station's, broadcast or in the filter (R248). -/
def State.accepts (s : State) (m dst : Nat) : Bool :=
  dst == s.rd (NET_MACL_ADDR m) + 2 ^ 32 * s.rd (NET_MACH_ADDR m) || dst == 2 ^ 48 - 1
    || (List.range 64).any fun i =>
        s.on (NET_MFDATAH_VALID (m * 64 + i)) && dst == s.rd (NET_MFDATAL_ADDR (m * 64 + i)) + 2 ^ 32 * s.rd (NET_MFDATAH_ADDR (m * 64 + i))

/-! ## Receive streams (R253 to R258) -/

def State.rxs (s : State) (i : Nat) : RxSt := tget RxSt.reset s.net.rx i
def State.setRxs (s : State) (i : Nat) (x : RxSt) : State := { s with net := { s.net with rx := tput RxSt.reset s.net.rx i x } }

/-- The frame matches stream `i` on MAC `m` (R253). -/
def State.rsMatch (s : State) (i m : Nat) (e : Eth) : Bool :=
  let w := s.rsWord i
  let vlan := if bit (w 2) 28 then e.vid == some (bits (w 2) 16 12) else true
  s.rd (NET_RSSTAT_STATE i) != 0 && bit (dPorts (w 0)) m && vlan &&
  if dAvtp (w 0) then e.ety == 0x22F0 && beAt e.body 0 1 == 2 && beAt e.body 4 8 == w 3 + 2 ^ 32 * w 4
  else match parseUdp e with
    | some u => u.dst == w 3 && u.dport == bits (w 4) 0 16
        && (!bit (w 4) 23 || beAt u.dgram 9 1 % 128 == bits (w 4) 16 7) && (!bit (w 4) 24 || beAt u.dgram 16 4 == w 5)
    | none => false

/-- A packet that passes the checks of R253: sequence number, timestamp, payload. -/
structure Packet where
  seq : Nat
  ts : Nat
  data : List Byte

def State.rsCheck (s : State) (i : Nat) (e : Eth) : Option Packet :=
  let w0 := s.rsWord i 0
  let pay := s.payload w0
  if dAvtp w0 then
    let b := e.body
    let b1 := beAt b 1 1
    let fmt := if dBytes w0 = 2 then 4 else if dBytes w0 = 3 then 3 else 2
    if bit b1 7 && bits b1 4 3 == 0 && bit b1 0 && !bit (beAt b 22 1) 4 && beAt b 16 1 == fmt && beAt b 19 1 == 8 * dBytes w0
        && beAt b 17 1 / 16 == (if s.on SYS_RATE_ACT then 7 else 5) && beAt b 17 2 % 1024 == dCh w0 && beAt b 20 2 == pay
        && decide (24 + pay ≤ b.length) then
      some ⟨beAt b 2 1, beAt b 12 4, (b.drop 24).take pay⟩
    else none
  else match parseUdp e with
    | none => none
    | some u =>
      let r := u.dgram.drop 8
      let b0 := beAt r 0 1
      let h := 12 + 4 * (b0 % 16)
      let h := if bit b0 4 then h + 4 + 4 * beAt r (h + 2) 2 else h
      if b0 / 64 == 2 && !bit b0 5 && (u.csum == 0 || u.csum == udpSum u.src u.dst u.dgram) && r.length == h + pay then
        some ⟨beAt r 2 2, beAt r 4 4, r.drop h⟩
      else none

/-- The value congruent to `u` mod 2^b nearest to `c`. -/
def nearest (b u : Nat) (c : Int) : Int := c + sx b (ux b (u - c))

/-- Rounds a quotient to the nearest integer, halves up. -/
def roundDiv (x : Int) (d : Nat) : Int := (2 * x + d) / (2 * d : Nat)

/-- The grid index of a packet's first sample (R253). -/
def State.packetIndex (s : State) (i t ts : Nat) : Int :=
  let w := s.rsWord i
  let tb := dTb (w 0)
  let delta := tget 0 s.net.delta tb
  let lat := bits (w 2) 0 11
  if dAvtp (w 0) then
    let p := nearest 32 ts (s.timeAt tb t)
    (lat : Int) - (-((p - delta) * s.rate) / 1000000000)
  else
    let u := ux 32 ((ts : Int) - w 6)
    let rd := roundDiv (delta * s.rate) 1000000000
    let jnow := s.gridPos t / gridOne
    nearest 32 u (jnow + rd) - rd + lat

/-- Samples of a packet as S32, one list of channels per sample (R225, R253). -/
def sampleRows (ch by_ : Nat) : Nat → List Byte → List (List Nat)
  | 0, _ => []
  | n + 1, b => ((List.range ch).map fun c => sampleOfWord (8 * by_) (beAt b (c * by_) by_)) :: sampleRows ch by_ n (b.drop (ch * by_))

/-- The payload to the stream DMA ring (R257, R381, R387). -/
def State.toSdma (s : State) (i t seq : Nat) (j : Int) (data : List Byte) : State :=
  let r := bits (s.rsWord i 7) 0 7
  let g := 128 + r
  if !s.ringIs g ringSdma || s.ringFull g then s.incSat (HOST_RSTAT_DROP g) 1
  else
    (s.bufPush g (leBytes t 8 ++ leBytes data.length 2 ++ leBytes i 1 ++ leBytes (i / 256) 1 ++ leBytes seq 4 ++ leBytes (ux 64 j) 8) data).fire (640 + r)

/-- Where sample `j` of receive channel `c` waits in the jitter store, 4,096 × JD words from NET0.JBASE (R254, R269; the order
is DEDUCED, log entry 48). -/
def State.jitterAddr (s : State) (c j : Nat) : Nat := s.rd NET_JBASE_BASE * 0x10000 + (c * s.jd + j % s.jd) * 4

def State.jitterPut (s : State) (c j v : Nat) : State := (s.engineWrite 17 0 (s.jitterAddr c j) (leBytes v 4)).1

/-- Moves a waiting sample into the generation that is gathered (R254). -/
def State.jitterMove (s : State) (c j : Nat) : State :=
  let (s, bs) := s.engineRead 17 0 (s.jitterAddr c j) 4
  s.setSmp (0x1000 + c) (j / s.fs) (j % s.fs) (leNat bs)

/-- An accepted packet is placed (R253, R254, R258). -/
def State.placePacket (s : State) (i t seq : Nat) (p : Packet) : State :=
  let w := s.rsWord i
  let F := s.fs
  let jg := F * s.frame
  let j0 := s.packetIndex i t p.ts
  let rows := (sampleRows (dCh (w 0)) (dBytes (w 0)) (s.ptimeS (bits (w 0) 8 2)) p.data).zipIdx
  let late := rows.any fun q => decide (j0 + q.2 < jg)
  let early := rows.any fun q => decide (((jg + s.jd : Nat) : Int) ≤ j0 + q.2)
  let s := if late then s.incSat (NET_RSCNT0_LATE i) 1 else s
  let s := if early then s.incSat (NET_RSCNT0_EARLY i) 1 else s
  let x := s.rxs i
  let fit := rows.filterMap fun q =>
    let j := j0 + q.2
    if j < jg ∨ ((jg + s.jd : Nat) : Int) ≤ j ∨ x.got.contains j.toNat then none else some (j.toNat, q.1)
  let s := s.setRxs i { x with got := x.got ++ fit.map (·.1), whole := x.whole || (!late && !early) }
  let first := bits (w 1) 0 12
  let s := fit.foldl (fun s q => q.2.zipIdx.foldl (fun s v =>
    if q.1 / F = s.frame then s.setSmp (0x1000 + first + v.2) s.frame (q.1 % F) v.1 else s.jitterPut (first + v.2) q.1 v.1) s) s
  let s := if s.rd (NET_RSSTAT_STATE i) = 1 ∧ !fit.isEmpty then s.wr (NET_RSSTAT_STATE i) 2 else s
  if bit (w 0) 21 then s.toSdma i t seq j0 p.data else s

/-- A frame of stream `i` (R253, R256). -/
def State.streamFrame (s : State) (i t : Nat) (e : Eth) : State :=
  match s.rsCheck i e with
  | none => s.incSat (NET_RSCNT1_BADFMT i) 1
  | some p =>
    let w0 := s.rsWord i 0
    let b := if dAvtp w0 then 8 else 16
    let x := s.rxs i
    let ext := match x.seqs.head? with
      | some q => ux 32 (nearest b p.seq q)
      | none => p.seq
    if isPair (dPorts w0) && x.seqs.contains ext then s.incSat (NET_RSCNT1_DUP i) 1
    else
      let s := s.setRxs i { x with seqs := (ext :: x.seqs).take (if b = 8 then 128 else 1024) }
      s.placePacket i t ext p

/-- A received frame without its FCS (R247, R248, R263), `t` being the beat counter at its start. -/
def State.frameReceived (s : State) (m t : Nat) (fcsOk : Bool) (b : List Byte) : State :=
  if !s.on (NET_CTRL_EN m) || !s.on (NET_STAT_LINK m) then s
  else if !fcsOk || decide (1518 < b.length) then s.inc (NET_RXFCS_COUNT m) 1
  else
    let e := parseEth b
    if decide (b.length < 60) || e.tags == 2 then s.inc (NET_RXDROP_COUNT m) 1
    else
      let s := s.inc (NET_RXOK_COUNT m) 1
      let t := t - s.rd (NET_LATRX_NS m)
      let tb := match ptpOf e with
        | some (udp, p) => ((List.range 4).find? fun x => s.ptpFor x m p).map fun x => (x, udp, p)
        | none => none
      match tb with
      | some (x, udp, p) => (s.ptpMessage x t udp p).toHost m t true b
      | none =>
        match (List.range 1024).find? fun i => s.rsMatch i m e with
        | some i => s.streamFrame i t e
        | none => if s.accepts m e.dst then s.toHost m t false b else s.inc (NET_RXDROP_COUNT m) 1

/-! ## Stream seals (R254, R255, R258) -/

/-- Gains of a block, sample by sample: whether the index was received, and N − fall; the fall after it. -/
def sealGains (pol N : Nat) : Nat → List Bool → List Nat × Nat
  | fall, [] => ([], fall)
  | fall, true :: t => let (l, f) := sealGains pol N (fall - 1) t; ((N - fall) :: l, f)
  | fall, false :: t =>
    let (l, f) := sealGains pol N (if pol = 1 then N else min N (fall + 1)) t
    ((if pol = 1 then 0 else N - fall) :: l, f)

/-- One channel of a sealed block (R235, R255): the received samples under their gains, each missing one by the policy, RAMP
holding the last sample received before it. -/
def sealChannel (pol N : Nat) (good : List Nat) : (hold k : Nat) → List (Option Nat × Nat) → List Nat
  | _, _, [] => []
  | _, k, (some v, g) :: t => faded N (N - g) v :: sealChannel pol N good v (k + 1) t
  | hold, k, (none, g) :: t =>
    subSample pol N (N - g) good hold k :: sealChannel pol N good hold (k + 1) t

/-- The block of receive stream `i` for frame `m` is sealed; `pol` its policy. -/
def State.sealBlock (s : State) (i m pol : Nat) : State :=
  let w := s.rsWord i
  let F := s.fs
  let N := s.fadeLen
  let x := s.rxs i
  let here := (List.range F).map fun k => x.got.contains (F * m + k)
  let (gs, fall) := sealGains pol N (min N x.fall) here
  let first := 0x1000 + bits (w 1) 0 12
  let (good, hold, s) := (List.range (dCh (w 0))).foldl (fun (q : Tab (List Nat) × Tab Nat × State) c =>
    let s := q.2.2
    let got := here.zipIdx.map fun h => if h.1 then some (s.smpAt (first + c) m h.2) else none
    let blk := sealChannel pol N (tget [] x.good c) (tget 0 x.hold c) 0 (got.zip gs)
    let rows := got.filterMap id
    (if rows.length = F then tput [] q.1 c rows else q.1, match rows.getLast? with | some v => tput 0 q.2.1 c v | none => q.2.1,
      blk.zipIdx.foldl (fun s v => s.setSmp (first + c) m v.2 v.1) s)) (x.good, x.hold, s)
  s.setRxs i { x with got := x.got.filter fun j => decide (F * (m + 1) ≤ j), whole := false, fall, good, hold }

/-- Receive stream `i` at the seals of D(n) (R255). -/
def State.streamSeal (s : State) (i m : Nat) : State :=
  let st := s.rd (NET_RSSTAT_STATE i)
  let w0 := s.rsWord i 0
  let pol := bits w0 16 2
  let x := s.rxs i
  let F := s.fs
  if st = 0 then
    if !x.fading then s
    else
      let k := x.fall
      let s := { s with net := { s.net with rx := tput RxSt.reset s.net.rx i { x with got := [] } } }.sealBlock i m 2
      if 2 * s.fadeLen ≤ k + F then s.setRxs i RxSt.reset else s.setRxs i { s.rxs i with fall := k + F }
  else if st = 1 then
    s.sealBlock i m 1
  else
    let missing := (List.range F).any fun k => !x.got.contains (F * m + k)
    let s := if st = 2 && missing then
        (((s.wr (NET_RSSTAT_STATE i) 3).wr (NET_RSSTAT_UNDEREV i) 1).incSat (NET_RSCNT2_UNDER i) 1).emit (mkRec cLost 0 0x0028 uStream i [pol])
      else if st = 3 && x.whole then s.wr (NET_RSSTAT_STATE i) 2
      else s
    s.sealBlock i m pol

/-- Receive streams that are enabled or fading. -/
def State.rxLive (s : State) : List Nat :=
  (List.range 1024).filter fun i => s.rd (NET_RSSTAT_STATE i) != 0 || (s.rxs i).fading

/-- Receive streams at the seals of D(n); every group with a stream fires (R254). -/
def State.streamsSeal (s : State) (n : Nat) : State :=
  let live := s.rxLive
  let groups := ((live.filter fun i => s.rd (NET_RSSTAT_STATE i) != 0).map fun i => bits (s.rsWord i 1) 16 9).eraseDups
  (sortNat groups).foldl (fun s g => s.fire (128 + g)) (live.foldl (fun s i => s.streamSeal i (n - 1)) s)

/-- EN changes take effect at D(n), and waiting samples of the frame that opens move in (R252, R254, R258). -/
def State.streamsOpen (s : State) (n : Nat) : State :=
  let s := (List.range 1024).foldl (fun (s : State) i =>
    let en := bit (s.rsWord i 0) 0
    let st := s.rd (NET_RSSTAT_STATE i)
    let s := if en && st == 0 then (s.wr (NET_RSSTAT_STATE i) 1).setRxs i { RxSt.reset with fall := s.fadeLen }
      else if !en && st != 0 then (s.wr (NET_RSSTAT_STATE i) 0).setRxs i { s.rxs i with fading := true, got := [], seqs := [] }
      else s
    let ten := bit (s.tsWord i 0) 0
    let run := s.on (NET_TSSTAT_RUN i)
    if ten && !run then
      let S := s.ptimeS (bits (s.tsWord i 0) 8 2)
      { s.wr (NET_TSSTAT_RUN i) 1 with net := { s.net with tx := tins (tdel s.net.tx i) i ((s.fs * n + S - 1) / S * S) } }
    else if !ten && run then { s.wr (NET_TSSTAT_RUN i) 0 with net := { s.net with tx := tdel s.net.tx i } }
    else s) s
  (s.rxLive.filter fun i => s.rd (NET_RSSTAT_STATE i) != 0).foldl (fun s i =>
    ((s.rxs i).got.filter fun j => j / s.fs == n).foldl (fun s j =>
      (List.range (dCh (s.rsWord i 0))).foldl (fun s c => s.jitterMove (bits (s.rsWord i 1) 0 12 + c) j) s) s) s

/-! ## Transmitting (R259, R260) -/

/-- Sample `j` of network transmit endpoint `e`, as presented or copied for presentation (R203). -/
def State.txAt (s : State) (e j : Nat) : Nat :=
  let F := s.fs
  let f := s.frame
  if j < F * f then tget 0 (tget [] s.route.presOld e) (j + F - F * f)
  else if j < F * (f + 1) then tget 0 (tget [] s.route.pres e) (j - F * f)
  else tget 0 (tget [] s.route.next e) (j - F * (f + 1))

/-- The packet of stream `i` that starts at grid index `j`, for MAC `m`, the higher of its pair or not (R250, R259, R260). -/
def State.txPacket (s : State) (i j m : Nat) (high : Bool) : TxPacket :=
  let w := s.tsWord i
  let avtp := dAvtp (w 0)
  let S := s.ptimeS (bits (w 0) 8 2)
  let tb := dTb (w 0)
  let first := 0x2000 + bits (w 1) 0 12
  let mac := if high then w 4 + 2 ^ 32 * bits (w 5) 0 16 else w 2 + 2 ^ 32 * bits (w 3) 0 16
  { mac := m, avtp, dmac := mac, smac := s.rd (NET_MACL_ADDR m) + 2 ^ 32 * s.rd (NET_MACH_ADDR m)
    tag := if bit (w 0) 30 then some (bits (w 1) 16 12, bits (w 0) 21 3) else none
    dip := if avtp then 0 else if high then w 7 else w 6
    sip := if avtp then 0 else s.rd (NET_IPADDR_ADDR m)
    dscp := if avtp then 0 else bits (w 0) 24 6, ttl := if avtp then 0 else bits (w 11) 8 8
    sport := if avtp then 0 else bits (w 8) 0 16, dport := if avtp then 0 else bits (w 8) 16 16
    pt := if avtp then 0 else bits (w 11) 0 7
    seq := if avtp then j / S % 256 else j / S % 65536
    stamp := if avtp then ux 32 (s.timeOnGrid tb j + w 10)
      else ux 32 (j + roundDiv (tget 0 s.net.delta tb * s.rate) 1000000000 + w 10)
    ident := if avtp then w 6 + 2 ^ 32 * w 7 else w 9
    marker := false, version := if avtp then 0 else 2, sv := avtp, tv := avtp, sp := false
    format := if avtp then (if dBytes (w 0) = 2 then 4 else if dBytes (w 0) = 3 then 3 else 2) else 0
    bitDepth := if avtp then 8 * dBytes (w 0) else 0, nsr := if avtp then (if s.on SYS_RATE_ACT then 7 else 5) else 0
    channels := if avtp then dCh (w 0) else 0, dataLen := if avtp then s.payload (w 0) else 0
    words := (List.range S).flatMap fun k => (List.range (dCh (w 0))).map fun c => wordOfSample (8 * dBytes (w 0)) (s.txAt (first + c) (j + k))
    badFcs := false }

/-- Sends a stream packet on MAC `m`, or discards it where the MAC has no link (R260, R269, R372). -/
def State.sendPacket (s : State) (i j m : Nat) (high : Bool) : State :=
  if !s.on (NET_CTRL_EN m) || !s.on (NET_STAT_LINK m) then s.inc (NET_TXDISC_COUNT m) 1
  else
    let bad := s.injOn 6 uMac m
    let p := { s.txPacket i j m high with badFcs := bad }
    let s := if bad then s.injDone else s
    ({ s with net := { s.net with packets := s.net.packets ++ [p] } }.inc (NET_TXOK_COUNT m) 1).inc (NET_TSCNT_PKTS i) 1

/-- The next packet of transmit stream `i` and the frame whose copy makes it eligible (R260). -/
def State.txNext (s : State) (i : Nat) : Option (Nat × Nat) :=
  (s.net.tx.lookup i).map fun j => (j, (j + s.ptimeS (bits (s.tsWord i 0) 8 2) - 1) / s.fs)

/-- The block of that frame has been copied. -/
def State.txEligible (s : State) (f : Nat) : Bool := decide (f < s.frame + 1 + b2n s.window)

/-- Another stream's packet leaves a MAC of stream `i` before one that frame `f` made eligible: an earlier copy's, or of the same
copy that of a stream before it in the table (R260). -/
def State.txBehind (s : State) (i f : Nat) : Bool :=
  s.net.tx.any fun q => match s.txNext q.1 with
    | some (_, g) => q.1 != i && (List.range 4).any (fun m => bit (dPorts (s.tsWord i 0)) m && bit (dPorts (s.tsWord q.1 0)) m)
        && (decide (g < f) || (g == f && decide (q.1 < i)))
    | none => false

/-- The next packet of transmit stream `i` leaves, once the block of its last sample has been copied and it is first on its
MACs; before that the command finds nothing to send (R259, R260). -/
def State.streamTransmit (s : State) (i : Nat) : State :=
  match s.txNext i with
  | none => s
  | some (j, f) =>
    if !s.txEligible f || s.txBehind i f then s
    else
      let w0 := s.tsWord i 0
      let s := { s with net := { s.net with packets := [] } }
      let ms := (List.range 4).filter fun m => bit (dPorts w0) m
      -- a heel in RESYNC sends none while TXMUTE is 1 (R347)
      let mute := s.role == roHeel && s.rd PAIR_DIGSTAT_RESYNC != 0 && s.on PAIR_CTRL_TXMUTE
      let s := if mute then s else ms.zipIdx.foldl (fun s q => s.sendPacket i j q.1 (q.2 == 1)) s
      { s with net := { s.net with tx := tins (tdel s.net.tx i) i (j + s.ptimeS (bits w0 8 2)) } }

/-! ## Host frames (R264, R342, R387) -/

/-- Replaces bytes of a list. -/
def patch (l : List Byte) (lo : Nat) (v : List Byte) : List Byte := l.take lo ++ v ++ l.drop (lo + v.length)

/-- Where the PTP message begins in a frame, and where its UDP header does. -/
def ptpStart (b : List Byte) : Option (Nat × Option Nat) :=
  let e := parseEth b
  let h := if e.vid.isSome then 18 else 14
  if e.ety = 0x88F7 then some (h, none)
  else match parseUdp e with
    | some u => if u.dport = 319 ∨ u.dport = 320 then some (h + 28, some (h + 20)) else none
    | none => none

/-- Rewrites a UDP checksum that is not 0 (R264). -/
def fixUdp (b : List Byte) (u : Nat) : List Byte :=
  if beAt b (u + 6) 2 = 0 then b
  else
    let d := (b.drop u).take (beAt b (u + 4) 2)
    patch b (u + 6) (beBytes (udpSum (beAt b (u - 8) 4) (beAt b (u - 4) 4) d) 2)

/-- The frame as it leaves, with its insertion (R264). -/
def State.insertPtp (s : State) (mark tb stamp t : Nat) (b : List Byte) : List Byte :=
  match ptpStart b with
  | none => b
  | some (p, u) =>
    let c :=
      if mark = 1 then
        let ns := (s.timeAt tb t).toNat
        patch b (p + 34) (beBytes (ns / 10 ^ 9) 6 ++ beBytes (ns % 10 ^ 9) 4)
      else if mark = 2 then patch b (p + 8) (beBytes (ux 64 (sx 64 (beAt b (p + 8) 8) + ((t : Int) - stamp) * 65536)) 8)
      else b
    match u with
    | some q => if mark = 1 ∨ mark = 2 then fixUdp c q else c
    | none => c

/-- The frame at RCI of NETTX ring `r` is sent, leaving at beat-counter time `t` (R264, R342, R381, R387). -/
def State.hostFrame (s : State) (r t : Nat) : State :=
  let peer := s.peerOf r
  if !s.ringIs r ringNettx || s.ringUsed r == 0 || (s.ringIs peer ringCpl && s.ringFull peer) then s
  else
    let (s, e) := s.ringFetch r
    let len := entN e 8 2
    let m := entN e 10 1
    let mark := entN e 11 1 % 8
    let tb := entN e 11 1 / 8 % 8
    let buf := s.ringBuf r + s.rd (HOST_RCI_INDEX r) % s.ringSize r * 2048
    let s := s.inc (HOST_RCI_INDEX r) 1
    let fin := fun (s : State) (st res : Nat) => s.completion peer 0x80 st r 0 0 res false
    if len < 60 ∨ 1518 < len ∨ 3 < m ∨ 4 < mark ∨ 4 < tb then fin s stMALFORMED 0
    else if bit (entN e 11 1) 6 && !s.authority then fin (s.incSat PAIR_CTLDISC_COUNT 1) stOK 0
    else if !s.on (NET_CTRL_EN m) || !s.on (NET_STAT_LINK m) then fin (s.inc (NET_TXDISC_COUNT m) 1) stOK 0
    else
      let t := t + s.rd (NET_LATTX_NS m)
      let (s, b) := s.ringGet r buf len
      let bad := s.injOn 6 uMac m
      let out := s.insertPtp mark tb (entN e 0 8) t b
      let s := if bad then s.injDone else s
      let s := { s with net := { s.net with frame := some (m, out, bad) } }.inc (NET_TXOK_COUNT m) 1
      let s := if mark = 4 ∧ tb ≠ 0 then
          (match ptpStart b with
           | some (p, _) => s.ptpSent (tb - 1) t (b.drop p)
           | none => s)
        else s
      fin s stOK (if mark = 3 ∨ mark = 4 then t else 0)

end Sys2Proof.Machine
end

