-- ==== Sys2Proof/Machine/Refs.lean ====
section
/-! DEFINITION. Reference candidates, media DPLLs, holdover, FRAME_OUT pins, the selected time base (chapter 12). -/
namespace Sys2Proof.Machine

def State.cand (s : State) (c : Nat) : CandSt := tget CandSt.reset s.refs.cands c
def State.setCand (s : State) (c : Nat) (x : CandSt) : State := { s with refs := { s.refs with cands := tput CandSt.reset s.refs.cands c x } }
def State.pll (s : State) (x : Nat) : PllSt := tget PllSt.reset s.refs.plls x
def State.setPll (s : State) (x : Nat) (p : PllSt) : State := { s with refs := { s.refs with plls := tput PllSt.reset s.refs.plls x p } }

/-- Candidate states (R290). -/
def caOff : Nat := 0
def caDisq : Nat := 1
def caQualifying : Nat := 2
def caQualified : Nat := 3

/-- DPLL states of DSTAT.STATE (R290). -/
def plFreerun : Nat := 0
def plAcquire : Nat := 1
def plLocked : Nat := 2
def plSwitching : Nat := 3
def plHoldover : Nat := 4
def plOpen : Nat := 5

/-- Control modes of DCTRL.MODE (R286). -/
def moAuto : Nat := 0
def moForce : Nat := 1
def moHoldover : Nat := 2
def moOpen : Nat := 3
def moFreerun : Nat := 4

def State.pllState (s : State) (x : Nat) : Nat := s.rd (REFS_DSTAT_STATE x)
def State.qualified (s : State) (c : Nat) : Bool := s.rd (REFS_CSTAT_STATE c) == caQualified
def State.prio (s : State) (x c : Nat) : Nat := s.rd (REFS_DPRIO_PRI (x * 12 + c))

/-! ## Selection (R280, R282) -/

/-- The candidate of least rank among those that `p` accepts. -/
def State.bestBy (s : State) (x : Nat) (p : Nat → Bool) : Option Nat :=
  (List.range 12).foldl (fun (b : Option Nat) c =>
    if !p c then b
    else match b with
      | some q => if s.prio x c < s.prio x q then some c else b
      | none => some c) none

/-- The candidate that AUTO would select. -/
def State.autoBest (s : State) (x : Nat) : Option Nat := s.bestBy x fun c => s.qualified c && decide (s.prio x c < 15)

/-- The candidate a selection takes, under the mode (R280, R286). -/
def State.pick (s : State) (x : Nat) : Option Nat :=
  if s.rd (REFS_DCTRL_MODE x) = moForce then
    let c := s.rd (REFS_DCTRL_FORCE x)
    if s.qualified c then some c else none
  else s.autoBest x

/-- The DPLL is in a mode that selects. -/
def State.selects (s : State) (x : Nat) : Bool := s.rd (REFS_DCTRL_MODE x) == moAuto || s.rd (REFS_DCTRL_MODE x) == moForce

/-! ## Output frequency and phase (R272, R273, R276, R285 to R287) -/

/-- How far a stretch has moved from its start at time `t`: towards its target at the slew limit (R272). -/
def PllSeg.moved (q : PllSeg) (t : Nat) : Int := clampAbs (q.slew * 2 ^ 36 * (t - q.t0) / 10 ^ 17 : Nat) (q.target - q.f0)

/-- The stretch in which time `t` lies. -/
def State.pllSeg (s : State) (x t : Nat) : PllSeg :=
  let l := (s.pll x).segs
  (l.find? fun q => decide (q.t0 ≤ t)).getD (l.getLastD ⟨0, 0, 0, 0⟩)

/-- The output frequency at time `t` (R272). -/
def State.pllFreq (s : State) (x t : Nat) : Int := let q := s.pllSeg x t; q.f0 + q.moved t

/-- The phase that media clock `x` has gained on the beat counter at a time not before its newest stretch, in 2^−36 ns: the
integral of its frequency offset (R272). -/
def State.pllDev (s : State) (x t : Nat) : Int :=
  let q := s.pllSeg x t
  let gap : Int := q.target - q.f0
  let d : Nat := t - q.t0
  let ramp := min d (if q.slew = 0 then d else gap.natAbs * 10 ^ 17 / (q.slew * 2 ^ 36))
  let half : Nat := q.slew * 2 ^ 36 * ramp * ramp / (2 * 10 ^ 17)
  (s.pll x).dev + q.f0 * d + (if gap < 0 then -(half : Int) else half) + q.moved t * (d - ramp : Nat)

/-- Media clock `x` in thirds of 2^−36 ns of its own periods. -/
def State.clkPos (s : State) (x t : Nat) : Int := 3 * ((t : Int) * 2 ^ 36 + s.pllDev x t)

/-- The phase of candidate `c` is aligned on DPLL `x` (R276). -/
def State.aligned (s : State) (x c : Nat) : Bool :=
  x == 0 && (c == 10 || (s.rd REFS_TBSEL_SEL != 0 && c == s.rd REFS_TBSEL_SEL + 1))

/-- The loop bandwidth on candidate `c`, in hundredths of a Hz (R276). -/
def State.loopBandwidth (s : State) (x c : Nat) : Nat :=
  if c = 11 then 0
  else if c = 10 then 10000
  else if 2 ≤ c ∧ c ≤ 5 then (if s.aligned x c && s.pllState x == plAcquire then 100 else 5)
  else 1000

/-- The nominal event period of candidate `c`, in thirds of a ns (R275); of a port, a frame of the device rate. -/
def State.candPeriod (s : State) (c : Nat) : Nat :=
  if c < 2 then (let r := s.rd (REFS_CCFG_RATE c); if r = 0 then 62500 else if r = 1 then 31250 else 1000000)
  else if 6 ≤ c ∧ c ≤ 9 then 1000000 / s.fs
  else 1000000

/-- A value modulo `u`, between −u/2 and u/2. -/
def centred (u : Nat) (x : Int) : Int := let r := x % u; if 2 * r < u then r else r - u

/-- How far media clock `x` stands ahead of candidate `c`'s events at `t`, an instant of an event, in thirds of 2^−36 ns. -/
def State.refOffset (s : State) (x c t : Nat) : Int :=
  let ref : Int := if 2 ≤ c ∧ c ≤ 5 then 3 * s.tbFine (c - 2) t / 16 else 0
  centred (s.candPeriod c * 2 ^ 36) (s.clkPos x t - ref)

/-- The frequency that a DPLL's state aims at (R281, R285 to R287): on a reference, its frequency, with the term that pulls the
phase error toward 0. -/
def State.pllAim (s : State) (x : Nat) : Int :=
  let st := s.pllState x
  let steer := sx 32 (s.rd (REFS_DSTEER_STEER x))
  let c := s.rd (REFS_DSTAT_ACTIVE x)
  if st = plFreerun then steer
  else if st = plHoldover then (s.pll x).hold + steer
  else if st = plOpen then sx 32 (s.rd (REFS_DFW_WORD x))
  else if st = plSwitching then s.pllFreq x s.bc
  else sx 32 (s.rd (REFS_CFREQ_OFFS c)) + (s.pll x).pull + (if s.aligned x c then 0 else steer)

/-- Begins a stretch of output frequency; those of the last second stay (R285). -/
def State.pllTurn (s : State) (x : Nat) (aim : Int) : State :=
  let p := s.pll x
  let old := (p.segs.takeWhile fun q => decide (s.bc < q.t0 + 1000000000)) ++ (p.segs.dropWhile fun q => decide (s.bc < q.t0 + 1000000000)).take 1
  s.setPll x { p with segs := ⟨s.pllFreq x s.bc, s.bc, aim, s.rd (REFS_DTIME_SLEW x)⟩ :: old, dev := s.pllDev x s.bc }

/-- Sets a DPLL's target anew from its state; DSTEER is ignored on an aligned reference (R287), and DRIFT is that of the active
reference (R279). -/
def State.retarget (s : State) (x : Nat) : State :=
  let s := s.pllTurn x (s.pllAim x)
  let st := s.pllState x
  let c := s.rd (REFS_DSTAT_ACTIVE x)
  let follows := st == plAcquire || st == plLocked
  let on := follows && s.aligned x c
  let s := s.wr (REFS_DSTAT_STEERIGN x) (b2n on)
  let s := s.wr (REFS_DSTAT_DRIFT x) (if follows then s.rd (REFS_CSTAT_DRIFT c) else 0)
  if st = plLocked && on then s else s.wr (REFS_DSTAT_ALIGNED x) 0

/-- A phase error of `e` ns against the active reference, positive where the output is late: DPHERR shows it, and the loop pulls
it toward 0. The size of the term is a free value within the loop's bandwidth: the loop's coefficients are not given (R273,
R276, R281; log entry 23). -/
def State.phaseSeen (s : State) (x : Nat) (e : Int) : State :=
  let s := s.wr (REFS_DPHERR_NS x) (ux 32 (clampS 32 e))
  let most := 8 * s.loopBandwidth x (s.rd (REFS_DSTAT_ACTIVE x)) * e.natAbs * 2 ^ 36 / 10 ^ 11
  let m : Int := if most = 0 then 0 else (s.free 64 % most + 1 : Nat)
  (s.used.setPll x { s.pll x with pull := if e < 0 then -m else m }).retarget x

/-- The phase error of a DPLL on a built-out reference whose event is at `t` (R276). -/
def State.builtSeen (s : State) (x c t : Nat) : State :=
  let e := centred (s.candPeriod c * 2 ^ 36) (s.refOffset x c t - (s.pll x).built)
  s.phaseSeen x (-e / (3 * 2 ^ 36 : Nat))

/-- DPLL `x` runs on candidate `c`. -/
def State.runsOn (s : State) (x c : Nat) : Bool :=
  (s.pllState x == plAcquire || s.pllState x == plLocked) && s.rd (REFS_DSTAT_ACTIVE x) == c

/-- The averages that the holdover frequency takes: 60 before the last complete second (R285). -/
def PllSt.holdAvgs (p : PllSt) : List Int := (p.avgs.drop 1).take 60

/-- The holdover frequency that would apply now (R285); without averages, the output of one second before. -/
def State.holdFreq (s : State) (x : Nat) : Int :=
  let l := (s.pll x).holdAvgs
  if l.isEmpty then s.pllFreq x (s.bc - 1000000000) else l.foldl (· + ·) 0 / (l.length : Nat)

/-- Enters HOLDOVER (R285). -/
def State.enterHoldover (s : State) (x : Nat) : State :=
  let h := s.holdFreq x
  let n := (s.pll x).holdAvgs.length
  let s := s.setPll x { s.pll x with hold := h, fresh := false }
  let s := (((s.wr (REFS_DSTAT_STATE x) plHoldover).wr (REFS_DSTAT_ACTIVE x) 15).wr (REFS_DSTAT_HOEV x) 1).wr (REFS_DSTAT_HOQ x) n
  (s.wr (REFS_DHOF_OFFS x) (ux 32 h)).retarget x

/-- The end of a switch on its qualified target (R276, R283): ACQUIRE on an aligned reference; LOCKED on another, the offset
between its events and the output being recorded and held from now on. -/
def State.takeRef (s : State) (x : Nat) : State :=
  let c := s.rd (REFS_DSTAT_ACTIVE x)
  let on := s.aligned x c
  let s := (s.wr (REFS_DSTAT_STATE x) (if on then plAcquire else plLocked)).wr (REFS_DSTAT_SWEV x) 1
  let t := if 2 ≤ c ∧ c ≤ 5 then s.bc else (s.cand c).times.headD s.bc
  let s := s.setPll x { s.pll x with built := s.refOffset x c t, pull := 0 }
  (if on then s else s.wr (REFS_DPHERR_NS x) 0).retarget x

/-- A selection (R282, R283): SWITCHING to the highest-ranked eligible candidate, HOLDOVER without one; a
switch to the local oscillator takes no time. -/
def State.select (s : State) (x : Nat) : State :=
  match s.pick x with
  | none => if s.pllState x = plHoldover then s else s.enterHoldover x
  | some c =>
    let s := s.setPll x { s.pll x with fresh := false }
    let s := ((s.wr (REFS_DSTAT_STATE x) plSwitching).wr (REFS_DSTAT_ACTIVE x) c).retarget x
    if c = 11 then s.takeRef x else s

/-- A selection is due (R282), the end of WTR apart. -/
def State.selectDue (s : State) (x : Nat) : Bool :=
  let st := s.pllState x
  s.selects x &&
  ((st == plFreerun && (s.pll x).fresh) ||
   ((st == plAcquire || st == plLocked) && !s.qualified (s.rd (REFS_DSTAT_ACTIVE x))) ||
   ((st == plAcquire || st == plLocked) && s.rd (REFS_DCTRL_MODE x) == moForce && s.rd (REFS_DSTAT_ACTIVE x) != s.rd (REFS_DCTRL_FORCE x)) ||
   (st == plHoldover && (s.pick x).isSome))

/-- BEST, and every selection that is due (R280, R282, R286). -/
def State.pllsSettle (s : State) : State :=
  (List.range 4).foldl (fun s x =>
    let s := s.wr (REFS_DSTAT_BEST x) ((s.autoBest x).getD 15)
    if s.selectDue x then s.select x else s) s

/-! ## Qualification (R277 to R279) -/

/-- The source of a candidate is not usable (R277, SOURCE). -/
def State.sourceBad (s : State) (c : Nat) : Bool :=
  if 2 ≤ c ∧ c ≤ 5 then s.rd (TIME_TBSTAT_STATE (c - 2)) != tbLocked
  else if 6 ≤ c ∧ c ≤ 9 then
    let p := s.rd (REFS_CCFG_PORT c)
    s.on (SPORT_CFG_MASTER p) || s.portState p != poRun
  else if c = 10 then !s.on PAIR_STAT_LINK
  else false

/-- The candidate needs events: pins, slave ports, the link. -/
def needsEvents (c : Nat) : Bool := c < 2 || (decide (6 ≤ c) && decide (c ≤ 10))

/-- None of the conditions of R277 holds. -/
def State.candClear (s : State) (c : Nat) : Bool :=
  let x := s.cand c
  !s.sourceBad c && (!needsEvents c || x.alive) && decide (x.out < 50)

/-- FRAME_OUT pins that align to candidate `c` lose it (R288, R289). -/
def State.alignLost (s : State) (c : Nat) : State :=
  (List.range 4).foldl (fun s k => if s.on (REFS_FOCFG_EN k) && s.rd (REFS_FOCFG_ALIGN k) == c then s.wr (REFS_FOSTAT_ALIGNLOST k) 1 else s) s

/-- Disqualifies a candidate (R277, R278). -/
def State.disqualify (s : State) (c cause : Nat) : State :=
  let st := s.rd (REFS_CSTAT_STATE c)
  let s := s.setCand c (if cause = 1 then { s.cand c with alive := false, times := [], inside := 0 } else { s.cand c with inside := 0 })
  if st ≠ caQualifying ∧ st ≠ caQualified then s
  else
    ((((s.wr (REFS_CSTAT_STATE c) caDisq).wr (REFS_CSTAT_CAUSE c) cause).wr (REFS_CSTAT_DQEV c) 1).wr (REFS_CSTAT_DRIFT c) 0).alignLost c

/-- Candidates follow their sources, then the DPLLs select (R277, R278, R282). -/
def State.refsSettle (s : State) : State :=
  ((List.range 11).foldl (fun (s : State) c =>
    let st := s.rd (REFS_CSTAT_STATE c)
    if st = caOff then s
    else if st ≠ caDisq then (if s.sourceBad c then s.disqualify c 3 else s)
    else if s.candClear c then (s.wr (REFS_CSTAT_STATE c) caQualifying).setCand c { s.cand c with inside := 0 } else s) s).pllsSettle

/-- A monitored candidate is disqualified for a cause: 1 LOS, 2 PJUMP, 3 SOURCE, 4 FREQ (R277). -/
def State.candDisqualified (s : State) (c cause : Nat) : State :=
  if s.rd (REFS_CSTAT_STATE c) = caOff ∨ c = 11 then s
  else
    let s := if cause = 4 then s.setCand c { s.cand c with out := 50 } else s
    (s.disqualify c cause).pllsSettle

/-- QUALT has passed without a condition (R278): the measurements of every 10 ms in it have all lain inside the window. One
outside restarts the time, so that QUALT has then not passed. -/
def State.candQualified (s : State) (c : Nat) : State :=
  if s.rd (REFS_CSTAT_STATE c) ≠ caQualifying ∨ (s.cand c).inside + 1 < 10 * s.rd (REFS_CQUAL_QUALT c) then s
  else
    (((s.wr (REFS_CSTAT_STATE c) caQualified).wr (REFS_CSTAT_QEV c) 1).setCand c { s.cand c with qAt := s.bc }).pllsSettle

/-- The event at time `t` lies more than PJTHR from its prediction by the mean period (R277). -/
def jumps (thr : Nat) (times : List Nat) (t : Nat) : Bool :=
  match times, times.getLast? with
  | a :: _ :: _, some z =>
    let k := times.length - 1
    decide ((thr * k : Nat) < ((((t : Int) - a) * k) - ((a : Int) - z)).natAbs)
  | _, _ => false

/-! ## FRAME_OUT pins (R288, R289) -/

def State.fo (s : State) (k : Nat) : FoSt := tget FoSt.reset s.refs.fo k
def State.setFo (s : State) (k : Nat) (x : FoSt) : State := { s with refs := { s.refs with fo := tput FoSt.reset s.refs.fo k x } }

/-- The media clock of pin `k` at `t`, on the grid for media clock 0, in thirds of 2^−36 ns. -/
def State.foPos (s : State) (k t : Nat) : Int :=
  let m := s.rd (REFS_FOCFG_MCLK k)
  s.clkPos m t - (if m = 0 then s.refs.base else 0)

/-- The distance of two pulses in the units of State.foPos. -/
def State.foPeriod (s : State) (k : Nat) : Nat :=
  (if s.on (REFS_FOCFG_TYPE k) then 1000000 else if s.on (REFS_FOCFG_WRATE k) then 31250 else 62500) * 2 ^ 36

/-- The phase that pulse `i` of pin `k` follows: no change exceeds 1 ns per pulse (R288, R289). -/
def State.foPhase (s : State) (k : Nat) (i : Int) : Int :=
  if s.rd (REFS_FOCFG_ALIGN k) = 15 then 0
  else
    let x := s.fo k
    let pulses : Nat := (i - s.foPos k x.at_ / s.foPeriod k).toNat
    x.from_ + clampAbs (pulses * 3 * 2 ^ 36 : Nat) (x.aim - x.from_)

/-- The offset of pulse `i`: the newest whose write lies 1 µs or more before the pulse that it gives, 0 before the first; the last
64 writes are kept (R289). -/
def State.foOffset (s : State) (k : Nat) (i : Int) : Int :=
  let at_ := fun (v : Int) => i * s.foPeriod k + s.foPhase k i + v * (3 * 2 ^ 36)
  match (s.fo k).offs.find? fun q => decide (s.foPos k (q.2 + 1000) ≤ at_ q.1) with
  | some q => q.1
  | none => (((s.fo k).offs.drop 63).head?.map (·.1)).getD 0

/-- The start of pulse `i` on the grid of 8 × the media clock, in its points, half-way ones upward (R288). -/
def State.foEdge (s : State) (k : Nat) (i : Int) : Int :=
  let p := i * s.foPeriod k + s.foPhase k i + s.foOffset k i * (3 * 2 ^ 36)
  (2 * p + 15625 * 2 ^ 23) / (2 * 15625 * 2 ^ 23 : Nat)

/-- The width of a pulse in the same points, to the nearest. -/
def State.foWidth (s : State) (k : Nat) : Nat :=
  let w := s.rd (REFS_FOCFG_WIDTH k)
  let p := if w ≠ 0 then w * 3 * 2 ^ 36 else if s.on (REFS_FOCFG_TYPE k) then 3000 * 2 ^ 36 else s.foPeriod k / 2
  (2 * p + 15625 * 2 ^ 23) / (2 * 15625 * 2 ^ 23)

/-- The level of FRAME_OUT[k] at beat-counter time `t`, low while EN is 0 (R288). -/
def State.pinFrameOut (s : State) (k t : Nat) : Bool :=
  let p := s.foPos k t / (15625 * 2 ^ 23 : Nat)
  let i0 := s.foPos k t / s.foPeriod k
  s.on (REFS_FOCFG_EN k) && [-2, -1, 0, 1, 2].any fun (d : Int) =>
    let e := s.foEdge k (i0 + d)
    decide (e ≤ p) && decide (p < e + s.foWidth k)

/-- An event of candidate `c` at `t` measures the phase of the pins that align to it, as an average over 1 s, which the pulses
then follow; not while the candidate is not QUALIFIED (R288, R289). -/
def State.foMeasure (s : State) (c t : Nat) : State :=
  (List.range 4).foldl (fun (s : State) k =>
    if !s.on (REFS_FOCFG_EN k) || s.rd (REFS_FOCFG_ALIGN k) != c || !s.qualified c then s
    else
      let x := s.fo k
      let u := if s.on (REFS_FOCFG_TYPE k) then min (s.foPeriod k) (s.candPeriod c * 2 ^ 36) else s.foPeriod k
      let ph := centred u (s.foPos k t)
      if x.cnt = 0 then s.setFo k { x with since := t, first := ph, sum := 0, cnt := 1 }
      else
        let x := { x with sum := x.sum + centred u (ph - x.first), cnt := x.cnt + 1 }
        if t < x.since + 1000000000 then s.setFo k x
        else
          s.setFo k { x with aim := x.first + x.sum / (x.cnt : Nat), from_ := s.foPhase k (s.foPos k t / s.foPeriod k), at_ := t, cnt := 0 }) s

/-! ## Events of candidates -/

/-- A timing event of candidate `c` at time `t`: its monitor, the pins and the DPLLs that follow it (R276 to R278, R288). -/
def State.candNote (s : State) (c t : Nat) : State :=
  if s.rd (REFS_CSTAT_STATE c) = caOff then s
  else
    let x := s.cand c
    if jumps (s.rd (REFS_CQUAL_PJTHR c)) x.times t then (s.setCand c { x with times := [t], alive := true }).disqualify c 2
    else
      let s := (s.setCand c { x with times := (t :: x.times).take 65, alive := true }).foMeasure c t
      (List.range 4).foldl (fun (s : State) y => if s.runsOn y c && !s.aligned y c then s.builtSeen y c t else s) s

/-- A timing event of candidate `c` at time `t`, and what follows from it at once (R277, R278, R282). -/
def State.candEvent (s : State) (c t : Nat) : State :=
  if s.rd (REFS_CSTAT_STATE c) = caOff then s else (s.candNote c t).refsSettle

/-- The frame-sync edge of a slave port is an event of the candidates that name it, judged before what the frame does to the
port: a phase jump precedes the loss of the source (R275, R277). `s` is the state before the frame. -/
def State.portEvent (s t : State) (p time : Nat) : State :=
  [6, 7, 8, 9].foldl (fun (t : State) c =>
    if t.rd (REFS_CCFG_PORT c) = p ∧ !t.on (SPORT_CFG_MASTER p) ∧ (s.portState p = poRun ∨ t.portState p = poRun) then t.candNote c time else t) t

/-- The step of time base index `x` from state `s` to `t`, in 2^−16 ns. -/
def State.tbMoved (s t : State) (x : Nat) : Int := ((t.tbAnchor x).tb x).ofs - ((s.tbAnchor x).tb x).ofs

/-- Between `s` and `t` time base index `x` has stepped by more than PJTHR (R277). -/
def State.tbJumped (s t : State) (x : Nat) : Bool :=
  decide ((s.rd (REFS_CQUAL_PJTHR (x + 2)) * 2 ^ 16 : Nat) < (s.tbMoved t x).natAbs)

/-- What a change of their sources brings about at once for the candidates, `s` being the state before: a time base that
has stepped by more than PJTHR is a phase jump, and sources are lost and gained (R277, R278, R284). -/
def State.refsFollow (s t : State) : State :=
  let js := [0, 1, 2, 3].filter fun x => s.tbJumped t x
  if js.isEmpty && (List.range 11).all fun c => s.sourceBad c == t.sourceBad c then t
  else (js.foldl (fun (u : State) x => u.disqualify (x + 2) 2) t).refsSettle

/-- A port frame with what follows at the candidates that name the port (R275, R277). -/
def State.portFrameAll (s : State) (p T : Nat) (din : List Bool) : State :=
  let t := s.portFrame p T din
  let u := s.portEvent t p T
  if u.refs == t.refs then s.refsFollow u else (s.refsFollow u).refsSettle

/-- The lowest slew limit of the DPLLs, in units of 2^−36 per second (R279; log entry 23). -/
def State.slewUnit (s : State) : Nat :=
  (List.range 4).foldl (fun m x => min m (s.rd (REFS_DTIME_SLEW x))) 65535 * 2 ^ 36 / 10 ^ 8

/-- One candidate's frequency measurement (R277, R279). -/
def State.measure (s : State) (c : Nat) (offs : Int) : State :=
  if s.rd (REFS_CSTAT_STATE c) = caOff then s
  else
    let v := if 2 ≤ c ∧ c ≤ 5 then sx 32 (s.rd (TIME_TBRATE_RATE (c - 2))) / 16 else if c = 11 then 0 else offs
    let x := s.cand c
    let outside := decide (s.rd (REFS_CCFG_WINDOW c) * 2 ^ 36 < v.natAbs * 10 ^ 6)
    let out := if outside then min 50 (x.out + 1) else 0
    let drift := !outside && x.offs.any fun q => decide (s.slewUnit < (v - q).natAbs)
    let inside := if outside then 0 else x.inside + 1
    let s := (s.setCand c { x with out, inside, offs := (v :: x.offs).take 100 }).wr (REFS_CFREQ_OFFS c) (ux 32 v)
    let s := s.wr (REFS_CSTAT_DRIFT c) (b2n drift)
    if out = 50 then s.disqualify c 4 else s

/-- The measurements of every 10 ms, of candidates 0 to 11 (R277 to R279). -/
def State.measureAll (s : State) (offs : List Int) : State :=
  let s := (List.range 12).foldl (fun s c => s.measure c (offs.getD c 0)) s
  let s := (List.range 4).foldl (fun (s : State) x =>
    let st := s.pllState x
    if st = plAcquire ∨ st = plLocked then s.retarget x else s) s
  s.refsSettle

/-! ## The DPLLs' own events (R281 to R285) -/

/-- The fields of a DPLL register that waits out a switch: 0 DCTRL, 1 DPRIO_L, 2 DPRIO_H, 3 DTIME (R284, R290). -/
def State.pllFields (s : State) (x kind v : Nat) : State :=
  if kind = 0 then ((s.wr (REFS_DCTRL_MODE x) (bits v 0 3)).wr (REFS_DCTRL_FORCE x) (bits v 4 4)).wr (REFS_DCTRL_REVERT x) (bits v 8 1)
  else if kind = 1 then (List.range 8).foldl (fun s c => s.wr (REFS_DPRIO_PRI (x * 12 + c)) (bits v (4 * c) 4)) s
  else if kind = 2 then (List.range 4).foldl (fun s c => s.wr (REFS_DPRIO_PRI (x * 12 + 8 + c)) (bits v (4 * c) 4)) s
  else ((s.wr (REFS_DTIME_WTR x) (bits v 0 16)).wr (REFS_DTIME_SLEW x) (bits v 16 16)).pllTurn x (s.pllSeg x s.bc).target

/-- A DPLL enters its control mode HOLDOVER, OPENLOOP or FREERUN (R281, R286). -/
def State.pllMode (s : State) (x : Nat) : State :=
  let m := s.rd (REFS_DCTRL_MODE x)
  if m = moHoldover then s.enterHoldover x
  else if m = moOpen then ((s.wr (REFS_DFW_WORD x) (ux 32 (s.pllFreq x s.bc))).wr (REFS_DSTAT_STATE x) plOpen).retarget x
  else if m = moFreerun then ((s.wr (REFS_DSTAT_STATE x) plFreerun).wr (REFS_DSTAT_ACTIVE x) 15).retarget x
  else s

/-- Writes a DPLL register outside a switch; a change of the control mode acts at once (R286). -/
def State.pllPut (s : State) (x kind v : Nat) : State :=
  let old := s.rd (REFS_DCTRL_MODE x)
  let s := s.pllFields x kind v
  let new := s.rd (REFS_DCTRL_MODE x)
  if new = old then s
  else if s.selects x then (if old = moAuto ∨ old = moForce then s else s.select x)
  else s.pllMode x

/-- A switch ends after 16 event periods (R283, R284): the writes that waited apply; then the DPLL enters the control mode they
brought, or takes the target, or makes a new selection. -/
def State.switchComplete (s : State) (x : Nat) : State :=
  if s.pllState x ≠ plSwitching then s
  else
    let s := (s.pll x).late.foldl (fun s q => s.pllFields x q.1 q.2) (s.setPll x { s.pll x with late := [] })
    let s := s.wr (REFS_DSTAT_SWEV x) 1
    (if !s.selects x then s.pllMode x else if s.qualified (s.rd (REFS_DSTAT_ACTIVE x)) then s.takeRef x else s.select x).pllsSettle

/-- |phase error| ≤ 1 µs has held for 4 s (R281). -/
def State.acquireLocked (s : State) (x : Nat) : State :=
  if s.pllState x = plAcquire then (s.wr (REFS_DSTAT_STATE x) plLocked).retarget x else s

/-- Wait-to-restore of a candidate that ranks above the active reference ends (R282). -/
def State.wtrExpiry (s : State) (x : Nat) : State :=
  let st := s.pllState x
  let a := s.rd (REFS_DSTAT_ACTIVE x)
  match s.autoBest x with
  | none => s
  | some c =>
    let above := decide (s.prio x c < s.prio x a) || (s.prio x c == s.prio x a && decide (c < a))
    if s.rd (REFS_DCTRL_MODE x) = moAuto && s.on (REFS_DCTRL_REVERT x) && (st == plAcquire || st == plLocked) && above then s.select x else s

/-- Seconds of WTR left (R290). -/
def State.wtrLeft (s : State) (x : Nat) : Nat :=
  match s.autoBest x with
  | some c =>
    if c ≠ s.rd (REFS_DSTAT_ACTIVE x) && s.on (REFS_DCTRL_REVERT x) && (s.pllState x == plAcquire || s.pllState x == plLocked) then
      min 255 (s.rd (REFS_DTIME_WTR x) - (s.bc - (s.cand c).qAt) / 1000000000)
    else 0
  | none => 0

/-- The average output frequency of a whole second in ACQUIRE or LOCKED (R285). -/
def State.holdAverage (s : State) (x : Nat) (avg : Int) : State :=
  let st := s.pllState x
  if st = plAcquire ∨ st = plLocked then s.setPll x { s.pll x with avgs := (avg :: (s.pll x).avgs).take 61 } else s

/-- The system DPLL loses lock (R271): a FATAL record, and candidate 11 is no longer qualified (R277). -/
def State.sysLoss (s : State) : State :=
  if !s.on REFS_SYSSTAT_LOCK then s
  else
    let s := (s.wr REFS_SYSSTAT_LOCK 0).wr REFS_SYSSTAT_LOSSEV 1
    ((s.wr (REFS_CSTAT_STATE 11) caDisq).emit (mkRec cFatal 0 0x0030 uDevice 0 [])).pllsSettle

/-- Release from reset: candidate 11 is QUALIFIED and every DPLL makes its first selection (R277, R282). -/
def State.refsStart (s : State) : State := (s.wr (REFS_CSTAT_STATE 11) caQualified).pllsSettle

/-- The phase error of DPLL 0 on an aligned reference (R273). -/
def State.alignedSeen (s : State) (e : Int) : State :=
  let s := s.phaseSeen 0 e
  s.wr (REFS_DSTAT_ALIGNED 0) (b2n (s.pllState 0 == plLocked && decide (e.natAbs ≤ 20)))

/-- At D(n): DNERR, the phase error of DPLL 0 on the selected time base, and those of the DPLLs on a time base built out (R273,
R276). -/
def State.refsDownbeat (s : State) (n : Nat) : State :=
  let e := clampS 32 (s.timeAt (s.rd REFS_TBSEL_SEL) s.io.dbAt - (n * 1000000 / 3 : Nat))
  let s := s.wr REFS_DNERR_NS (ux 32 e)
  let s := if (List.range 4).any (fun i => s.runsOn 0 (i + 2) && s.aligned 0 (i + 2)) then s.alignedSeen e else s
  (List.range 16).foldl (fun (s : State) q =>
    let x := q / 4
    let c := q % 4 + 2
    if s.runsOn x c && !s.aligned x c then s.builtSeen x c s.bc else s) s

/-- A downbeat marker of the pair's lead, received at `t` (R276, R340): an event of candidate 10. -/
def State.markerEvent (s : State) (t : Nat) : State :=
  let s := s.candEvent 10 t
  if s.runsOn 0 10 then s.alignedSeen (clampS 32 ((s.io.dbAt : Int) - t)) else s

/-! ## The downbeat generator (R273, R274) -/

/-- When D(n) falls, n being the next: at the instant of R23 where media clock 0 is to be realigned, else 65,536 of its periods
after D(n − 1), that is, where it has run n × 10^6/3 ns from where it stood at D(0). -/
def State.downbeatTime (s : State) : Nat :=
  if s.refs.align then (s.gridTime (s.fs * s.n : Nat)).toNat
  else
    let reach := fun (g : Nat) => ((g : Int) + (s.refs.base + s.n * 10 ^ 6 * 2 ^ 36 - s.clkPos 0 g) / (3 * 2 ^ 36 : Nat)).toNat
    reach (reach (s.io.dbAt + 333333))

/-- Where media clock 0 stood at D(0), counted back from D(n) at `t` (R274). -/
def State.realigned (s : State) (t : Nat) : State :=
  if s.refs.align then
    let q := s.gridAt (s.fs * s.n : Nat)
    { s with refs := { s.refs with align := false, base := 3 * (q.1 * 2 ^ 36 / q.2 + s.pllDev 0 t) - s.n * 10 ^ 6 * 2 ^ 36 } }
  else s

/-! ## Registers -/

/-- No port, clock, stream or group is enabled (R25, R274). -/
def State.audioIdle (s : State) : Bool :=
  !((List.range 64).any fun p => s.on (SPORT_CFG_EN p)) && !((List.range 8).any fun c => s.on (PDM_CLK_EN c))
    && !((List.range 1024).any fun i => bit (s.rsWord i 0) 0 || bit (s.tsWord i 0) 0) && !((List.range 16).any fun g => s.on (SPORT_ASRC_EN g))

/-- The number of the first downbeat of time base `t` at least 1 ms from now (R25, R274). -/
def State.firstDownbeat (s : State) (t : Nat) : Nat := ((s.timeAt t s.bc).toNat * 3 + 3000000 + 999999) / 1000000

/-- The device realigns (R25, R274): the next downbeat is the first of the selected time base at least 1 ms ahead, and DPLL 0
begins its selection again from FREERUN; the writes that waited for the end of its switch apply. -/
def State.realign (s : State) : State :=
  let s : State := { s with n := s.firstDownbeat (s.rd REFS_TBSEL_SEL), refs := { s.refs with align := true } }
  let s := (s.pll 0).late.foldl (fun s q => s.pllFields 0 q.1 q.2) s
  let s := (s.wr (REFS_DSTAT_STATE 0) plFreerun).wr (REFS_DSTAT_ACTIVE 0) 15
  ((s.setPll 0 { s.pll 0 with fresh := true, late := [] }).retarget 0).pllsSettle

/-- A write of TBSEL (R274); one that changes nothing is not refused, and realigns only where the conditions hold (R440). -/
def State.tbSelect (s : State) (v : Nat) : Option State :=
  let t := bits v 0 3
  if 4 < t || s.on DISP_CTRL_EN || s.on ROUTE_CTRL_ENACT || !s.audioIdle || !s.tbNamed t then
    (if t = s.rd REFS_TBSEL_SEL then some s else none)
  else some (s.wr REFS_TBSEL_SEL t).realign

/-- A write of CCFG (R290); `t` is the state with the fields written. -/
def State.candCfg (s : State) (c v : Nat) (t : State) : Option State :=
  let was := s.on (REFS_CCFG_EN c)
  let fixed := [REFS_CCFG_RATE c, REFS_CCFG_EDGE c, REFS_CCFG_PORT c, REFS_CCFG_WINDOW c]
  if (was && fixed.any (fun f => s.rd f != t.rd f)) || bits v 1 2 = 3 then none
  else if c = 11 then some (t.wr (REFS_CCFG_EN 11) 1)
  else if !was && t.on (REFS_CCFG_EN c) then some ((t.setCand c CandSt.reset).wr (REFS_CSTAT_STATE c) caDisq).refsSettle
  else if was && !t.on (REFS_CCFG_EN c) then
    some (((t.setCand c CandSt.reset).wr (REFS_CSTAT_STATE c) caOff).wr (REFS_CSTAT_DRIFT c) 0 |>.alignLost c).pllsSettle
  else some t

/-- A steering value within ± 100 ppm (R286). -/
def steerOk (v : Nat) : Bool := decide ((sx 32 v).natAbs ≤ 6871948)

/-- Alignment inputs of FRAME_OUT (R288). -/
def alignOk (a : Nat) : Bool := a == 15 || a < 2 || (decide (6 ≤ a) && decide (a ≤ 10))

/-- Writes of REFS registers (R274, R284, R286 to R290). -/
def refsHook : OptHook := fun s _ r i v t =>
  let o := r.addr - 0x0A0E0000
  if o = 0 then s.tbSelect v
  else if o = 0x100 then s.candCfg i v t
  else if o = 0x400 ∨ o = 0x404 ∨ o = 0x408 ∨ o = 0x40C then
    let kind := (o - 0x400) / 4
    if o = 0x400 ∧ (4 < bits v 0 3 ∨ 11 < bits v 4 4) then none
    else if o = 0x40C ∧ (bits v 16 16 = 0 ∨ 10000 < bits v 16 16) then none
    else if s.pllState i = plSwitching then some (s.setPll i { s.pll i with late := (s.pll i).late ++ [(kind, v % 2 ^ 32)] })
    else some (s.pllPut i kind v).pllsSettle
  else if o = 0x418 then (if steerOk v then some (t.retarget i) else none)
  else if o = 0x41C then (if steerOk v then some (t.retarget i) else none)
  else if o = 0x600 then
    if !alignOk (bits v 8 4) || (bit v 1 && bits v 3 2 != 0) then none
    else
      let t := t.wr (REFS_FOSTAT_ACTIVE i) (bits v 0 1)
      let t := t.setFo i { FoSt.reset with offs := (s.fo i).offs }
      some (if bit v 0 && bits v 8 4 != 15 && !s.qualified (bits v 8 4) then t.wr (REFS_FOSTAT_ALIGNLOST i) 1 else t)
  else if o = 0x604 then
    if 333333 < (sx 32 v).natAbs then none
    else some (t.setFo i { s.fo i with offs := ((sx 32 v, s.bc) :: (s.fo i).offs).take 64 })
  else some t

end Sys2Proof.Machine
end

