-- ==== Sys2Proof/Machine/Amps.lean ====
section
/-! DEFINITION. Amplifier channels, loudspeaker protection, line supervision and spare modulators (chapter 13). -/
namespace Sys2Proof.Machine

def State.amp (s : State) (k : Nat) : AmpSt := tget AmpSt.reset s.amps k
def State.setAmp (s : State) (k : Nat) (x : AmpSt) : State := { s with amps := tput AmpSt.reset s.amps k x }
def State.modAmp (s : State) (k : Nat) (f : AmpSt → AmpSt) : State := s.setAmp k (f (s.amp k))

/-! ## States (R306) -/

def amOff : Nat := 0
def amDiag : Nat := 1
def amStarting : Nat := 2
def amRun : Nat := 3
def amStopping : Nat := 4
def amFault : Nat := 5
def amProbe : Nat := 6
def amRecover : Nat := 7
def amLatched : Nat := 8
def amModfail : Nat := 9

def State.ampState (s : State) (k : Nat) : Nat := s.rd (AMP_STAT_STATE k)

/-- gr, in 2^−32, `dt` thirds of a nanosecond after a state was entered with gr at `g0` (R306). -/
def rampGain (st g0 dt : Nat) : Nat :=
  if st = amRun then 2 ^ 32
  else if st = amStarting then min (2 ^ 32) ((dt - 15000000) * 2 ^ 32 / 30000000)
  else if st = amStopping then g0 - dt * 2 ^ 32 / 30000000
  else if st = amRecover then min (2 ^ 32) (dt * 2 ^ 32 / 600000000)
  else 0

/-- gr of channel `k` at time `t`, in thirds of a nanosecond. -/
def State.gr (s : State) (k t : Nat) : Nat :=
  match (s.amp k).hist.find? fun h => h.1 ≤ t with
  | some h => rampGain h.2.1 h.2.2 (t - h.1)
  | none => 0

/-! ## Pins and the carrier (R291 to R294) -/

/-- The sense clock, and stagger group, of channel `k` (R291). -/
def senseClock (k : Nat) : Nat := k / 8

/-- The spare group of channel `k`, and the spare modulator that serves it (R291). -/
def spareGroup (k : Nat) : Nat := k / 16

/-- The first carrier-period boundary at or after now, in thirds of a nanosecond: a frame of 1,000,000 of them holds 256
carrier periods (R292, R306). -/
def State.carrierStart (s : State) : Nat :=
  let d := 3 * s.io.dbAt + s.frame % 3
  d + (((s.now3 - d) * 4 + 15624) / 15625 * 15625 + 3) / 4

/-- MMAX in 16,000ths: the greatest difference of the two pulse widths in steps (R293). -/
def State.mmax (s : State) : Nat := 16000 - 2 * s.rd AMP_CFG_MINP

/-- The centre of channel `k`'s pulses in the carrier periods of this frame, in steps (R294): a write of OFFS waits for
the next downbeat. -/
def State.pulseCentre (s : State) (k : Nat) : Nat := (s.amp k).offs.getD (s.rd (AMP_PHASE_OFFS k))

/-- The widths of AMP_PWMA and AMP_PWMB, in steps, for a modulation of `d` steps of difference, clamped at ±MMAX (R293,
R314). -/
def State.pulseWidths (s : State) (d : Int) : Int × Int :=
  let d := max (-(s.mmax : Int)) (min s.mmax d)
  (8000 + d / 2, 8000 - d / 2)

/-- The steps at which a pulse of `w` steps rises and falls about the channel's centre, from the start of the carrier
period; an odd width cannot lie centred, and which way it leans is open (R293, log entry 24). -/
def State.pulseEdges (s : State) (k : Nat) (w : Int) : Int × Int :=
  let up := (s.pulseCentre k : Int) - (w + (if w % 2 = 0 then 0 else s.free 1 : Nat)) / 2
  (up, up + w)

/-- Protection goes off, and the gains of both models with it (R298). -/
def State.unprotect (s : State) (k : Nat) : State :=
  ((((s.wr (GUARD_PCTL_PVALID k) 0).wr (GUARD_PCTL_SRC k) 0).wr (GUARD_GSTAT_GX k) 0).wr (GUARD_GSTAT_GT k) 0).modAmp k
    fun x => { x with dropValid := false, chain := { x.chain with coef := none, gx := 2 ^ 32, gt := 2 ^ 32 } }

/-- The channel enters a state, STARTING at a carrier-period boundary; its event source fires on a change (R129, R306).
PVALID that a failed descriptor clears falls in OFF and DIAG (R413). -/
def State.ampEnter (s : State) (k st : Nat) : State :=
  let old := s.ampState k
  let at_ := if st = amStarting then s.carrierStart else s.now3
  let s := s.modAmp k fun x => { x with hist := (at_, st, s.gr k s.now3) :: x.hist }
  let s := s.wr (AMP_STAT_STATE k) st
  let s := if (s.amp k).dropValid && (st == amOff || st == amDiag) then s.unprotect k else s
  if old = st then s else s.fire (848 + k / 8)

/-- What drives the two half-bridges (R303, R306, R308). -/
inductive Drive where
  | low | high | zero | diagm | chain
  deriving DecidableEq, Repr

/-- The bridge commands of a channel at time `t`, in thirds of a nanosecond. -/
def State.drive (s : State) (k t : Nat) : Drive :=
  let st := s.ampState k
  let dt := match (s.amp k).hist.head? with | some h => t - h.1 | none => 0
  if st = amDiag then (match (s.amp k).test with | 2 => .high | 3 => .diagm | _ => .low)
  else if st = amStarting then (if dt < 15000000 then .zero else .chain)
  else if st = amRun ∨ st = amRecover then .chain
  else if st = amStopping then (if s.gr k t = 0 then .zero else .chain)
  else if st = amProbe then (if dt < 3000000 then .zero else .diagm)
  else .low

/-- AMP_EN_N is asserted (R306, R308). -/
def State.ampEn (s : State) (k : Nat) : Bool :=
  let st := s.ampState k
  st == amStarting || st == amRun || st == amStopping || st == amProbe || st == amRecover || (st == amDiag && (s.amp k).test != 0)

/-- No sense scaling (R297). -/
def State.noScale (s : State) (k : Nat) : Bool := s.rd (AMP_SCALE_VFS k) == 0 || s.rd (AMP_SCALE_IFS k) == 0

/-- Protection is on (R298). -/
def State.ampParams (s : State) (k : Nat) : Bool := s.on (GUARD_PCTL_PVALID k) && !s.noScale k

/-! ## Impedances -/

/-- Impedance of magnitudes `v` mV and `i` µA in 10 mΩ units, saturating at 65,535; where it is no whole number, its
floor or the number above (the spec gives no rounding, log entry 24). -/
def State.setZ (s : State) (k v i : Nat) : State :=
  if i = 0 then s.wr (AMP_DIAGRES_Z k) 65535
  else
    let z := v * 100000 / i
    if v * 100000 % i = 0 then s.wr (AMP_DIAGRES_Z k) (min 65535 z)
    else (s.wr (AMP_DIAGRES_Z k) (min 65535 (z + s.free 1))).used

/-- Z is below ZSHORT (R303, R308). -/
def State.zShort (s : State) (k v i : Nat) : Bool := decide (v * 100000 < s.rd (AMP_DIAG_ZSHORT k) * i)

/-! ## Test sequence (R307, R308) -/

/-- Results of DIAGRES.RESULT. -/
def tePass : Nat := 1
def teShortSupply : Nat := 2
def teShortGround : Nat := 3
def teShortedLoad : Nat := 4
def teOpenLoad : Nat := 5
def teNoScale : Nat := 6

/-- The test sequence ends with a result: STARTING on PASS where a RUN waits, else DIAG, a waiting RUN being refused. -/
def State.testEnd (s : State) (k res : Nat) : State :=
  let run := (s.amp k).runAfter
  let s := (s.modAmp k fun x => { x with test := 0, runAfter := false }).wr (AMP_DIAGRES_RESULT k) res
  if run && res == tePass then s.ampEnter k amStarting
  else (if run then s.wr (AMP_STAT_REFUSED k) 1 else s)

/-- The test sequence starts; without scaling its result is NOSCALE at once. -/
def State.testStart (s : State) (k : Nat) (run : Bool) : State :=
  let s := (s.modAmp k fun x => { x with test := 1, runAfter := run }).wr (AMP_DIAGRES_RESULT k) 0
  let s := s.ampEnter k amDiag
  if s.noScale k then s.testEnd k teNoScale else s

/-- A 20 ms step ends with the magnitudes of the means, `v` in mV and `i` in µA (R308). -/
def State.testStep (s : State) (k v i : Nat) : State :=
  let ifs := s.rd (AMP_SCALE_IFS k)
  match (s.amp k).test with
  | 1 => if ifs * 500 < i then s.testEnd k teShortSupply else s.modAmp k fun x => { x with test := 2 }
  | 2 => if ifs * 500 < i then s.testEnd k teShortGround else s.modAmp k fun x => { x with test := 3 }
  | 3 =>
    let s := s.setZ k v i
    if i ≠ 0 && s.zShort k v i then s.testEnd k teShortedLoad
    else if i < ifs * 10 || s.rd (AMP_DIAG_ZOPEN k) * i < v * 1000 then s.testEnd k teOpenLoad
    else s.testEnd k tePass
  | _ => s

/-! ## The trip and its retries (R302 to R305) -/

/-- Returns to FAULT_SHORT after a failed probe, without a further record or changeover (R303; log entry 35). -/
def State.ampReturn (s : State) (k : Nat) : State :=
  (s.ampEnter k amFault).modAmp k fun x => { x with recovered := false }

/-- Enters FAULT_SHORT; the changeover is due at the next downbeat (R302, R304). -/
def State.ampFault (s : State) (k : Nat) : State := (s.ampReturn k).modAmp k fun x => { x with abDue := true }

/-- Ones among the 16 bits of `w` from bit `i` on. -/
def onesAt (w : BitVec 17) (i : Nat) : Nat := (List.range 16).countP fun j => w.getLsbD (i + j)

/-- The fast current of a count of ones reaches ITRIP (R302): |2s − 16| / 16 × IFS against ITRIP, both in 10 mA. -/
def State.overCurrent (s : State) (k ones : Nat) : Bool :=
  decide (16 * s.rd (GUARD_RATING_ITRIP k) ≤ (2 * (ones : Int) - 16).natAbs * s.rd (AMP_SCALE_IFS k))

/-- The trip of channel `k` sees its condition in 2 consecutive sense-clock periods, `cur` being the last 17 current bits,
the newest in bit 0 (R302). -/
def State.tripSeen (s : State) (k : Nat) (cur : BitVec 17) : Bool :=
  s.overCurrent k (onesAt cur 1) && s.overCurrent k (onesAt cur 0)

/-- The trip fires (R302, R303, R308). -/
def State.trip (s : State) (k : Nat) (inj : Bool) : State :=
  let st := s.ampState k
  let note := fun (s : State) => (s.wr (AMP_STAT_TRIPEV k) 1).incSat (AMP_STAT_TRIPS k) 1
  if s.noScale k then s
  else if st = amDiag && (s.amp k).test == 3 then (note s).testEnd k teShortedLoad
  else if st = amStarting ∨ st = amRun ∨ st = amRecover then
    ((note s).ampFault k).emit { mkRec cLost 0 0x002A uAmp k [] with injected := inj }
  else if st = amProbe then (note s).ampReturn k
  else s

/-- A sense-clock period's current bits reach the trip (R302). -/
def State.tripIn (s : State) (k : Nat) (cur : BitVec 17) : State := if s.tripSeen k cur then s.trip k false else s

/-- Probes started in the 60 s before now (R303). -/
def State.recentProbes (s : State) (k : Nat) : List Nat := (s.amp k).probes.filter fun t => s.bc < t + 60000000000

/-- A probe is due 250 ms after entry into FAULT_SHORT (R303). -/
def State.probeDue (s : State) (k : Nat) : State :=
  if s.ampState k ≠ amFault then s
  else
    let l := s.recentProbes k
    if 3 ≤ l.length && !s.on (AMP_STAT_ALARM k) then
      ((s.wr (AMP_STAT_LATCHEV k) 1).ampEnter k amLatched).emit (mkRec cLost 0 0x002B uAmp k [])
    else (s.modAmp k fun x => { x with probes := s.bc :: l }).ampEnter k amProbe

/-- A probe ends with its means (R303). -/
def State.probeEnd (s : State) (k v i : Nat) : State :=
  if s.ampState k ≠ amProbe then s
  else
    let s := s.setZ k v i
    if i ≠ 0 && s.zShort k v i then s.ampReturn k else s.ampEnter k amRecover

/-- The recovery ramp completes (R303). -/
def State.recoverDone (s : State) (k : Nat) : State :=
  if s.ampState k ≠ amRecover then s else (s.ampEnter k amRun).modAmp k fun x => { x with recovered := true }

def State.startingDone (s : State) (k : Nat) : State := if s.ampState k ≠ amStarting then s else s.ampEnter k amRun
def State.stoppingDone (s : State) (k : Nat) : State := if s.ampState k ≠ amStopping then s else s.ampEnter k amOff

/-- ZONE_DARK of channel `k` for the plan that overrides it (R326, R329). -/
def State.zoneDark (s : State) (k : Nat) : State :=
  match tget none s.bell.planOf k with
  | none => s
  | some p =>
    ((s.event 0x0007 0 (leBytes k 1 ++ leBytes p 1)).emit (mkRec cLost 0 0x002D uAmp k [p])).wr OVR_STAT_DARK 1
      |>.incSat (OVR_PSTAT_DARK p) 1

/-- The channel's ALARM bit follows the override; a LATCHED channel whose zone becomes active probes again (R305). -/
def State.setAlarm (s : State) (k : Nat) (on : Bool) : State :=
  let s := s.wr (AMP_STAT_ALARM k) (b2n on)
  if on && s.ampState k == amLatched then s.ampFault k else s

/-! ## Commands at a downbeat (R307) -/

/-- One command takes effect: REQ and whether it comes from the override path. -/
def State.ampCommand (s : State) (k req : Nat) (wake : Bool) : State :=
  let st := s.ampState k
  if st = amModfail then (if req = 2 then (s.wr (AMP_STAT_REFUSED k) 1).wr (AMP_STAT_WAKE k) (b2n wake) else s)
  else if req = 2 then
    let s := s.wr (AMP_STAT_WAKE k) (b2n wake)
    if !s.ampParams k then
      let s := s.wr (AMP_STAT_NOPARAM k) 1
      if wake then s.zoneDark k else s
    else
      if st = amDiag && (s.amp k).test != 0 then s.modAmp k fun x => { x with runAfter := true }
      else if st = amDiag && s.rd (AMP_DIAGRES_RESULT k) == tePass then s.ampEnter k amStarting
      else if st = amOff ∨ st = amLatched ∨ st = amDiag then s.testStart k true
      else if st = amStopping then s.ampEnter k amStarting
      else s
  else if req = 1 then s.testStart k false
  else
    let s := if st = amFault ∨ st = amProbe ∨ st = amRecover ∨ st = amLatched then s.modAmp k fun x => { x with probes := [] } else s
    let s := if s.rd (AMP_DIAGRES_RESULT k) = tePass then s.wr (AMP_DIAGRES_RESULT k) 0 else s
    let s := s.modAmp k fun x => { x with test := 0, runAfter := false }
    if st = amStarting ∨ st = amRun ∨ st = amRecover then s.ampEnter k amStopping
    else if st = amOff then s else s.ampEnter k amOff

/-! ## A/B changeover (R304, R305) -/

/-- The input of a channel: its own (itself), moved audio, or none. -/
def State.ampSource (s : State) (k : Nat) : Option Nat :=
  match (s.amp k).carries with
  | some j => some j
  | none => if (s.amp k).moved.isSome then none else some k

/-- The channel's input changes source, crossfaded over the frame that opens. -/
def State.resource (s : State) (k : Nat) (f : AmpSt → AmpSt) : State :=
  let old := s.ampSource k
  let s := s.modAmp k f
  if s.ampSource k = old then s
  else s.modAmp k fun x => match x.was with | some _ => x | none => { x with was := some old }

/-- Event AB_NOTICE. -/
def State.abNotice (s : State) (k alt kind : Nat) : State :=
  s.event 0x0009 (s.partBlock 0x0F) (leBytes k 1 ++ leBytes alt 1 ++ leBytes kind 1)

/-- The changeover of channel `k`, where it is due (R304, R305). -/
def State.abMove (s : State) (k : Nat) : State :=
  if !(s.amp k).abDue then s
  else
    let s := s.modAmp k fun x => { x with abDue := false }
    let alt := s.rd (AMP_CMD_ALT k)
    if !s.on (AMP_CMD_ALTEN k) || (s.amp k).moved.isSome || (s.amp k).carries.isSome then s
    else if (s.amp alt).carries.isSome then s.abNotice k alt 0
    else
      let st := s.ampState alt
      let s := s.resource alt fun x => { x with carries := some k }
      let s := (s.resource k fun x => { x with moved := some alt }).wr (AMP_STAT_AB k) 1
      if st = amStarting ∨ st = amRun ∨ st = amRecover then s else s.abNotice k alt 1

/-- The audio of channel `k` returns, where it is due (R304). -/
def State.abBack (s : State) (k : Nat) : State :=
  let x := s.amp k
  let back := x.abret || (x.recovered && s.on (AMP_CMD_ABAUTO k))
  let s := s.modAmp k fun x => { x with abret := false }
  match x.moved with
  | none => s
  | some alt =>
    if back then
      (s.resource alt fun x => { x with carries := none }).resource k (fun x => { x with moved := none })
        |>.wr (AMP_STAT_AB k) 0
    else s

/-! ## Modulators (R312, R313) -/

/-- The group's spare can take over (R312, R394). -/
def State.spareFree (s : State) (g : Nat) : Bool := !s.on (AMP_SPARE_USED g) && !s.on (AMP_SPARE_FAILED g)

/-- The channel can carry override audio (R394). -/
def State.canCarry (s : State) (k : Nat) : Bool :=
  !(s.amp k).gone || s.on (AMP_STAT_SPARE k) || s.spareFree (k / 16)

/-- MODFAIL (R313). -/
def State.modFail (s : State) (k chk : Nat) : State :=
  let s := (s.modAmp k fun x => { x with gone := true, test := 0, runAfter := false, recovered := false, abDue := true }).ampEnter k amModfail
  let s := ((s.wr (AMP_STAT_MODFAIL k) 1).wr (AMP_STAT_SPARE k) 0).fence 6
  (s.emit (mkRec cDegraded chk 0x0016 uAmp k [spareGroup k, 0])).emit (mkRec cLost chk 0x002C uAmp k [])

/-- Retires the modulator of a channel, `chk` being the check that fired: the spare takes over, or MODFAIL (R312, R313). -/
def State.retireMod (chk : Nat) (s : State) (k : Nat) : State :=
  let g := spareGroup k
  if (s.amp k).gone then s
  else if s.spareFree g then
    let s := s.modAmp k fun x => { x with gone := true }
    let s := (((s.wr (AMP_SPARE_CH g) (k % 16)).wr (AMP_SPARE_USED g) 1).wr (AMP_STAT_SPARE k) 1).fence 6
    s.emit (mkRec cDegraded chk 0x0016 uAmp k [g, 1])
  else s.modFail k chk

/-- A spare failed a frame (R312, R313). -/
def State.failSpare (s : State) (g : Nat) : State :=
  if s.on (AMP_SPARE_FAILED g) then s
  else
    let used := s.on (AMP_SPARE_USED g)
    let k := 16 * g + s.rd (AMP_SPARE_CH g)
    let s := (s.wr (AMP_SPARE_FAILED g) 1).wr (AMP_SPARE_USED g) 0
    if used then s.modFail k 8 else s

/-- Channels with anything to do or to keep. -/
def State.liveAmps (s : State) : List Nat := s.amps.map Prod.fst

/-- Mismatches of an edge monitor: each edge's distance from its commanded step, none for a missing edge (R312). -/
def State.mismatches (s : State) (l : List (Option Nat)) : Nat :=
  l.countP fun d => match d with | some d => decide (s.rd AMP_CFG_MONTOL < d) | none => true

/-- The modulators that fail the frame, more than 8 of their monitor's edges being mismatches (R312). -/
def State.failedOf (s : State) (n : Nat) (l : List (Nat × List (Option Nat))) : List Nat :=
  sortNat ((l.filter fun q => decide (q.1 < n) && decide (8 < s.mismatches q.2)).map Prod.fst)

/-- Modulators at a downbeat: those that failed a frame, the injected failures of the frame that ends and of the one that
opens (R372, R373), and the warden's request. -/
def State.modsDownbeat (s : State) (mods spares : List (Nat × List (Option Nat))) : State :=
  let s := (s.liveAmps.filter fun k => (s.amp k).injected).foldl (fun (s : State) k =>
    (s.modAmp k fun x => { x with injected := false }).emit
      { mkRec cDegraded 8 0x0016 uAmp k [k / 16, 1] with injected := true }) s
  let s := match s.integ.inj with
    | some j => if j.check == 8 && j.utype == uAmp then s.injDone.modAmp j.uinst fun x => { x with injected := true } else s
    | none => s
  let failed := (s.failedOf 8 spares, s.failedOf 128 mods)
  let s := failed.1.foldl State.failSpare s
  let s := failed.2.foldl (State.retireMod 8) s
  if s.on AMP_MODCMD_GO then (s.retireMod 0 (s.rd AMP_MODCMD_CH)).wr AMP_MODCMD_GO 0 else s

/-! ## Fixed-point mathematics of the models -/

/-- The unit of the fixed-point numbers below. -/
def one96 : Int := (2 ^ 96 : Nat)

/-- ln 10 in units of 2^−96. -/
def ln10Fix : Int := 0x24d763776aaa2b05ba95b58ae

/-- Terms of the exponential series from the `i`-th. -/
def expTerms (x : Int) : Nat → Nat → Int → Int
  | 0, _, t => t
  | n + 1, i, t => t + expTerms x n (i + 1) (t * x / one96 / (i : Int))

/-- e^x for x in units of 2^−96, in the same units. -/
def expFix (x : Int) : Int := expTerms x 60 1 one96

/-- 10^(−n/d) in units of 2^−32. -/
def tenth (n d : Nat) : Nat := (expFix (-(ln10Fix * n / (d : Int))) / (2 ^ 64 : Nat)).toNat

/-- The greatest n with `g ≤ 10^(−n/200)`, for a gain in 2^−32, by its bits (GSTAT, −0.1 dB units). -/
def dbOf (g : Nat) : Nat → Nat → Nat
  | 0, n => n
  | b + 1, n => if g ≤ tenth (n + 2 ^ b) 200 then dbOf g b (n + 2 ^ b) else dbOf g b n

/-- Attenuation of a gain in −0.1 dB units: the number below or, where the gain lies between two, the one above (log entry 24). -/
def State.setDb (s : State) (f : Fld) (g : Nat) : State :=
  let n := dbOf g 10 0
  if 2 ^ 32 ≤ g then s.wr f 0 else (s.wr f (min 1023 (n + s.free 1))).used

/-! ## Excursion model (R299) -/

/-- The look-ahead in samples (R296). -/
def State.lookAhead (s : State) : Nat := s.rate / 2000

/-- Model coefficients b, a0, a1, a2 of channel `k`: with k c² + r ω c + k and so on, c the cotangent of ω0 / 2 fs (R299);
excursions in µm per volt. -/
def State.coefficients (s : State) (k : Nat) : Int × Int × Int × Int :=
  let re : Int := s.rd (GUARD_RE_RE k)
  let bl : Int := s.rd (GUARD_BL_BL k)
  let kms := s.rd (GUARD_KMS_KMS k)
  let mms := s.rd (GUARD_BL_MMS k)
  let w : Int := isqrtBits (kms * 100000 * 2 ^ 128 / mms) 96 0
  let th := w * (2 ^ 32 : Nat) / (2 * s.rate : Nat)
  let c := sinFix ((piFix : Int) / 2 - th) * one96 / (sinFix th)
  let kk : Int := (kms : Int) * re * 100000
  let r : Int := (s.rd (GUARD_KMS_RMS k) : Int) * re * 1000 + bl * bl * 100
  let kc := kk * (c * c / one96)
  let rc := r * (w * (2 ^ 32 : Nat) * c / one96)
  (bl * 100000000000, kc + rc + kk * one96, 2 * kk * one96 - 2 * kc, kc - rc + kk * one96)

/-- The model coefficients are ready (R298). -/
def State.computeCoef (s : State) (k : Nat) : State :=
  if s.on (GUARD_PCTL_PVALID k) && s.rd (GUARD_BL_MMS k) != 0 && s.rd (GUARD_KMS_KMS k) != 0 then
    s.modAmp k fun x => { x with chain := { x.chain with coef := some (s.coefficients k) } }
  else s

/-- |xp| of the next input sample (Q1.31), in 2^−32 µm, and the model after it. -/
def Chain.excursion (c : Chain) (vr : Nat) (u : Int) : Nat × Chain :=
  match c.coef with
  | none => (0, c)
  | some (b, a0, a1, a2) =>
    let v := b * vr * (u + 2 * c.u1 + c.u2) * 2 * one96 / 10
    let x := if a0 = 0 then 0 else (v - a1 * c.x1 - a2 * c.x2) / a0
    (x.natAbs, { c with u1 := u, u2 := c.u1, x1 := x, x2 := c.x1 })

/-- ga(j) from r(j), …, r(j + L) (R299). -/
def limiterGain (L : Nat) (rs : List Nat) : Nat :=
  rs.zipIdx.foldl (fun g q => min g (q.1 + (2 ^ 32 - q.1) * q.2 / (L + 1))) (2 ^ 32)

/-- One input sample `u` enters the chain, and with a full look-ahead one leaves it under gx and gt (R295, R299). -/
def State.chainStep (s : State) (k : Nat) (vr xl up : Nat) (q : Chain × Nat × State) (u : Int) : Chain × Nat × State :=
  let (c, peak, t) := q
  let L := s.lookAhead
  let (r, c, peak, t) : Nat × Chain × Nat × State :=
    if !s.ampParams k then (2 ^ 32, c, peak, t)
    else if c.coef.isNone then (t.free 32, c, peak, t.used)
    else
      let (x, c) := c.excursion vr u
      (if x = 0 then 2 ^ 32 else min (2 ^ 32) (xl * 2 ^ 32 / x), c, max peak x, t)
  let ahead := c.ahead ++ [(u, r)]
  if ahead.length ≤ L then ({ c with ahead }, peak, t)
  else
    let gx := if s.ampParams k then min (limiterGain L (ahead.map Prod.snd)) (c.gx * up / 2 ^ 32) else 2 ^ 32
    match ahead with
    | h :: rest => ({ c with ahead := rest, gx, tail := c.tail ++ [(h.1, gx * c.gt / 2 ^ 32)] }, peak, t)
    | [] => (c, peak, t)

/-- The greatest magnitude that steps 1 to 3 let through while the pilot is enabled (R295). -/
def State.pilotLimit (s : State) (k : Nat) : Nat :=
  let lvl := ((s.amp k).pilot.getD (0, s.rd (LINE_PCFG_LVL k))).2
  if s.on (LINE_PCFG_EN k) then (2 ^ 32 - tenth lvl 40) / 2 else 2 ^ 31

/-- The frame that has ended passes through the chain of channel `k`, given its input block (R295 to R299); the samples
that reach the bridge in the frame stand in `out`, under gr at their bridge time. -/
def State.chainFrame (s : State) (k : Nat) (us : List Int) : State :=
  let c := (s.amp k).chain
  let pv := s.on (GUARD_PCTL_PVALID k)
  if !pv && us.all (· == 0) && (c.ahead.all (·.1 == 0)) && (c.tail.all (·.1 == 0)) then
    if c.ahead.isEmpty && c.out.isEmpty then s
    else s.modAmp k fun x => { x with chain := { Chain.reset with dt1 := c.dt1, dt2 := c.dt2 } }
  else
    let vr := s.rd (GUARD_RATING_VRATED k)
    let xl := s.rd (GUARD_XMAX_XMAX k) * s.rd (GUARD_XMAX_XLIM k) * 2 ^ 32 / 100
    let up := (expFix (ln10Fix * s.rd (GUARD_XMAX_RREL k) / (20 * s.rate : Nat)) / (2 ^ 64 : Nat)).toNat
    let (c, peak, s) := us.foldl (s.chainStep k vr xl up) (c, 0, s)
    let G := s.lookAhead / 12
    let cnt := c.tail.length - G
    let lim : Int := s.pilotLimit k
    let j0 : Int := s.fs * s.frame - s.lookAhead - G
    let out := (c.tail.take cnt).zipIdx.map fun q =>
      let t := (s.gridTime3 (j0 + q.2)).toNat + 1625000
      max (-lim) (min lim (gainMul q.1.1 (q.1.2 * s.gr k t) (2 ^ 64)))
    let s := s.modAmp k fun x => { x with chain := { c with tail := c.tail.drop cnt, out } }
    let s := if pv then s.setDb (GUARD_GSTAT_GX k) c.gx else s
    let s := if pv && c.coef.isSome then
        let p := peak / 2 ^ 32
        if peak % 2 ^ 32 = 0 then s.wr (GUARD_XPEAK_XP k) (min 65535 p) else (s.wr (GUARD_XPEAK_XP k) (min 65535 (p + s.free 1))).used
      else s
    -- the periods clamped at MMAX: the interpolation that decides them is not given (log entry 24)
    if out.all (· == 0) then s else (s.inc (AMP_CLIP_COUNT k) (s.free 16 % 257)).used

/-! ## Thermal model (R300, R301) -/

/-- 1 − exp(−Δ/τ) in units of 2^−96 for Δ/τ = 1 / d; 1 for a time constant of 0. -/
def settle (d : Nat) : Int := if d = 0 then one96 else one96 - expFix (-(one96 / (d : Int)))

/-- tc in 2^−32 °C. -/
def State.tc (s : State) (k : Nat) : Int :=
  sx 8 (s.rd (GUARD_TEMP_TAMB k)) * (2 ^ 32 : Nat) + (s.amp k).chain.dt1 + (s.amp k).chain.dt2

/-- The target of the thermal gain in 2^−32 (R301). -/
def State.thermTarget (s : State) (k : Nat) : Nat :=
  let tmax : Int := (s.rd (GUARD_TEMP_TMAX k) : Int) * (2 ^ 32 : Nat)
  let marg : Nat := s.rd (GUARD_TEMP_TMARG k) * 2 ^ 32
  let left := (tmax - s.tc k).toNat
  if s.tc k ≤ tmax - marg then 2 ^ 32
  else max (tenth (s.rd (GUARD_TEMP_GTMIN k)) 40) (if marg = 0 then 0 else min (2 ^ 32) (isqrtBits (left * 2 ^ 64 / marg) 34 0))

/-- The thermal model of channel `k` at a downbeat, given the mean of i² over the frame in 2^−32 A² (R300, R301). -/
def State.thermal (s : State) (k i2 : Nat) : State :=
  if !s.on (GUARD_PCTL_PVALID k) then s
  else
    let c := (s.amp k).chain
    let hot : Int := (s.rd (GUARD_RE_RE k) : Int) * (100000 * (2 ^ 32 : Nat) + 393 * (s.tc k - 20 * (2 ^ 32 : Nat)))
    -- p in 2^−32 W
    let p := (i2 : Int) * hot / (100000000 * (2 ^ 32 : Nat) : Nat)
    let dt1 := c.dt1 + (p * s.rd (GUARD_RTH_RTH1 k) / 100 - c.dt1) * settle (300 * s.rd (GUARD_TAU_TAU1 k)) / one96
    let dt2 := c.dt2 + (p * s.rd (GUARD_RTH_RTH2 k) / 100 - c.dt2) * settle (3000 * s.rd (GUARD_TAU_TAU2 k)) / one96
    let s := s.modAmp k fun x => { x with chain := { x.chain with dt1, dt2 } }
    let aim := s.thermTarget k
    let down := c.gt * tenth 1 200 / 2 ^ 32
    let up := c.gt * 2 ^ 32 / tenth 1 200
    let gt := if aim < c.gt then max aim down else min aim up
    let s := (s.modAmp k fun x => { x with chain := { x.chain with gt } }).setDb (GUARD_GSTAT_GT k) gt
    let t := s.tc k
    if t < 0 then (s.wr (GUARD_GSTAT_TC k) (s.free 10)).used
    else if t % (2 ^ 32 : Nat) = 0 then s.wr (GUARD_GSTAT_TC k) (min 1023 (t / (2 ^ 32 : Nat)).toNat)
    else (s.wr (GUARD_GSTAT_TC k) (min 1023 ((t / (2 ^ 32 : Nat)).toNat + s.free 1))).used

/-- PVALID becomes 1: the temperature rises start at 0, and the coefficients are to be computed (R298, R300). -/
def State.protect (s : State) (k src : Nat) (fresh : Bool) : State :=
  let s := (s.wr (GUARD_PCTL_PVALID k) 1).wr (GUARD_PCTL_SRC k) src
  s.modAmp k fun x => { x with dropValid := false, chain := { x.chain with coef := none
                                                                           dt1 := if fresh then 0 else x.chain.dt1
                                                                           dt2 := if fresh then 0 else x.chain.dt2 } }

/-! ## Line supervision (R309 to R311) -/

/-- Frequency in Hz and level in 0.5 dB of the pilot in effect (R309, R316). -/
def State.pilotSet (s : State) (k : Nat) : Nat × Nat := (s.amp k).pilot.getD (s.rd (LINE_PCFG_FREQ k), s.rd (LINE_PCFG_LVL k))

/-- The phase of the pilot in the `i`-th carrier period of the frame, in 768,000ths of a cycle; where it starts is open
(R309, log entry 24). -/
def State.pilotPhase (s : State) (k i : Nat) : Nat :=
  ((Config.freeValue k).toNat + (s.amp k).phase + (s.pilotSet k).1 * i) % 768000

/-- The pilot in the `i`-th carrier period, in 2^−32 of MMAX (R295, R309). -/
def State.pilotSample (s : State) (k i : Nat) : Int :=
  tenth (s.pilotSet k).2 40 * sinFix ((piFix : Int) * 2 * s.pilotPhase k i / 768000) / one96

/-- The pilot's phase moves on by a frame of 256 carrier periods (R309). -/
def State.pilotFrame (s : State) (k : Nat) : State :=
  s.modAmp k fun x => { x with phase := (x.phase + 256 * (s.pilotSet k).1) % 768000 }

/-- A capture of the baseline ends within 1 s (R311). -/
def State.captureEnd (s : State) (k : Nat) : State :=
  match (s.amp k).capture with
  | some (t, _) =>
    if t + 1000000000 ≤ s.bc then (s.wr (LINE_LSTAT_CAPBUSY k) 0).modAmp k fun x => { x with capture := none } else s
  | none => s

/-- The pilot is present (R309). -/
def State.pilotOn (s : State) (k : Nat) : Bool := s.on (LINE_PCFG_EN k) && (s.ampState k == amRun || s.ampState k == amRecover)

/-- LSTAT enters a state (R310). -/
def State.lineEnter (s : State) (k st z : Nat) : State :=
  if s.rd (LINE_LSTAT_STATE k) = st then s
  else
    let s := s.wr (LINE_LSTAT_STATE k) st
    if st = 3 ∨ st = 4 then
      ((s.wr (LINE_LSTAT_FAULTEV k) 1).incSat (LINE_LSTAT_FAULTS k) 1).event 0x0005 (s.partBlock 0x11)
        (leBytes k 1 ++ leBytes st 1 ++ leBytes 0 2 ++ leBytes z 4)
    else s

/-- Which consecutive count a measurement feeds: 1 low, 2 high, 3 within the tolerance (R310). -/
def State.lineKind (s : State) (k z : Nat) : Nat :=
  let zb := s.rd (LINE_ZBASE_ZBASE k)
  let tol := s.rd (LINE_PCFG_TOL k)
  if z * 100 < zb * (100 - tol) then 1 else if zb * (100 + tol) < z * 100 then 2 else 3

/-- One measurement of |Z| in mΩ, none for NOSIG (R310, R311). -/
def State.lineMeasure (s : State) (k : Nat) (z : Option Nat) : State :=
  let s := s.captureEnd k
  if !s.pilotOn k then s
  else
    let s := s.wr (LINE_ZMEAS_Z k) (z.getD 0)
    match (s.amp k).capture with
    | some (t, l) =>
      let l := l ++ z.toList
      if l.length = 10 then
        let sum := l.foldl (· + ·) 0
        let s := if sum % 10 = 0 then s.wr (LINE_ZBASE_ZBASE k) (sum / 10) else (s.wr (LINE_ZBASE_ZBASE k) (sum / 10 + s.free 1)).used
        (s.wr (LINE_LSTAT_CAPBUSY k) 0).modAmp k fun x => { x with capture := none, kind := 0, count := 0, nosig := 0 }
      else s.modAmp k fun x => { x with capture := some (t, l) }
    | none =>
      let kd := match z with | some z => s.lineKind k z | none => 0
      let s := s.modAmp k fun x =>
        { x with kind := kd, count := if kd = 0 then 0 else if x.kind = kd then min 3 (x.count + 1) else 1
                 nosig := if kd = 0 then min 3 (x.nosig + 1) else 0 }
      let x := s.amp k
      if 3 ≤ x.nosig then s.lineEnter k 4 0
      else if x.count < 3 then s
      else if x.kind = 1 then s.lineEnter k 3 (z.getD 0)
      else if x.kind = 2 then s.lineEnter k 4 (z.getD 0)
      else s.lineEnter k 2 0

/-! ## Everything of a channel at a downbeat -/

/-- Channels at D(n): changeovers and returns, commands, modulators, phases and pilots in effect, thermal models (R294,
R300, R304, R307, R312, R316). `sense` lists the means of i² that are not 0. -/
def State.ampsDownbeat (s : State) (mods spares : List (Nat × List (Option Nat))) (sense : List (Nat × Nat)) : State :=
  let s := s.liveAmps.foldl (fun (s : State) k => s.modAmp k fun x =>
    { x with was := none, hist := (x.hist.takeWhile fun h => s.now3 < h.1 + 6000000) ++ (x.hist.dropWhile fun h => s.now3 < h.1 + 6000000).take 1 }) s
  let s := s.liveAmps.foldl (fun (s : State) k => (s.pilotFrame k).captureEnd k) s
  let s := s.liveAmps.foldl State.abBack s
  let s := s.liveAmps.foldl State.abMove s
  let s := s.liveAmps.foldl (fun (s : State) k =>
    let cs := (s.amp k).cmds
    cs.foldl (fun (s : State) (c : Nat × Bool) => s.ampCommand k c.1 c.2) (s.modAmp k fun x => { x with cmds := [] })) s
  let s := s.modsDownbeat mods spares
  let s := s.liveAmps.foldl (fun (s : State) k =>
    s.modAmp k fun x => { x with offs := none, pilot := none }) s
  (List.range 128).foldl (fun (s : State) k => s.thermal k ((sense.lookup k).getD 0)) s

/-! ## Registers (R298, R314 to R316, R440) -/

/-- A zone claimed by a plan with VALID 1 (R394). -/
def State.zoneClaimed (s : State) (z : Nat) : Bool :=
  (List.range 16).any fun p => s.on (OVR_PCFG_VALID p) &&
    bit (if z < 32 then s.rd (OVR_ZMASKL_ZONES p) else s.rd (OVR_ZMASKH_ZONES p)) (z % 32)

/-- Channel `k` belongs to zone `z` (R324). -/
def State.inZone (s : State) (z k : Nat) : Bool := bit (s.rd (OVR_ZONE_CH (4 * z + k / 32))) (k % 32)

/-- The zone has a path (R394). -/
def State.zonePath (s : State) (z : Nat) (carry : Nat → Bool) : Bool := (List.range 128).any fun k => s.inZone z k && carry k

/-- The life-safety rule of R394: the change from `s`, where a channel can carry as `c`, to `t`, where as `d`, breaks it. -/
def lifeSafetyBroken (s t : State) (c d : Nat → Bool) : Bool :=
  (List.range 64).any fun z => t.zoneClaimed z && !t.zonePath z d && (s.zonePath z c || !s.zoneClaimed z)

/-- A channel can carry after the retirement of the modulator of channel `m`. -/
def State.carryWithout (s : State) (m k : Nat) : Bool :=
  if (s.amp m).gone then s.canCarry k
  else
    let took := s.spareFree (m / 16)
    if k = m then took
    else if took && k / 16 == m / 16 && (s.amp k).gone && !s.on (AMP_STAT_SPARE k) then false
    else s.canCarry k

/-- A command stands in AMP.CMD.REQ, a wake-set channel's RUN too, and waits for the next downbeat (R307). -/
def State.ampQueue (s : State) (k req : Nat) (wake : Bool) : State :=
  (s.wr (AMP_CMD_REQ k) req).modAmp k fun x => { x with cmds := x.cmds ++ [(req, wake)] }

/-- Some field of the register that is not `free` would change. -/
def State.changesOther (s : State) (r : RegRow) (i v : Nat) (free : List Nat) : Bool :=
  (r.flds i).any fun q => (q.2.2 == .rw || q.2.2 == .rww) && !free.contains q.2.1.no && bits v q.1 q.2.1.w != s.rd q.2.1

/-- Writes of AMP registers (R294, R304, R307, R314, R394). -/
def ampHook : Hook := fun s w r i v t =>
  let closed := s.ampState i != amOff && s.ampState i != amDiag
  if r.addr = 0x0A0F0000 then
    if bits v 0 10 ≠ s.rd AMP_CFG_MINP && (List.range 128).any (fun k => s.ampState k != amOff) then (s, false) else (t, true)
  else if r.addr = 0x0A0F0040 then
    if bit v 31 && lifeSafetyBroken s s s.canCarry (s.carryWithout (bits v 0 7)) then (s.wr WARD_STAT_LSREF 1, false)
    else (if s.on AMP_MODCMD_GO then t.wr AMP_MODCMD_GO 1 else t, true)
  else if r.addr = 0x0A0F0400 then
    let req := bits v 0 2
    if req = 3 || (bit v 15 && bits v 8 7 == i) then (s, false)
    else if w.q ≠ warden && req != 2 && s.on (AMP_STAT_ALARM i) then (s.wr WARD_STAT_LSREF 1, false)
    else
      let t := t.ampQueue i req false
      (if bit v 17 then t.modAmp i fun x => { x with abret := true } else t, true)
  else if r.addr = 0x0A0F0408 then
    if 15999 < bits v 0 14 then (s, false)
    else (t.modAmp i fun x => { x with offs := x.offs.orElse fun _ => some (s.rd (AMP_PHASE_OFFS i)) }, true)
  else if r.addr = 0x0A0F0410 || r.addr = 0x0A0F0418 then
    if closed && s.changesOther r i v [] then (s, false) else (t, true)
  else (t, true)

/-- The channel's parameters needed by PVALID are all there (R315). -/
def State.guardReady (s : State) (k : Nat) : Bool :=
  [GUARD_RE_RE k, GUARD_BL_BL k, GUARD_BL_MMS k, GUARD_KMS_KMS k, GUARD_XMAX_XMAX k, GUARD_RATING_VRATED k, GUARD_RATING_ITRIP k].all
    fun f => s.rd f != 0

/-- Writes of GUARD registers (R298, R315). -/
def guardHook : OptHook := fun s _ r i v t =>
  if r.addr = 0x0A100400 then
    if bit v 0 then
      if !s.guardReady i then none
      else if s.on (GUARD_PCTL_PVALID i) then some t
      else some (t.protect i 2 true)
    else some (if s.on (GUARD_PCTL_PVALID i) then t.unprotect i else t)
  else
    let shut := (s.ampState i != amOff && s.ampState i != amDiag) || s.on (GUARD_PCTL_PVALID i)
    if shut && s.changesOther r i v [] then none else some t

/-- Writes of LINE registers (R309 to R311, R316). -/
def lineHook : OptHook := fun s _ r i v t =>
  let fresh := fun (t : State) => t.modAmp i fun x => { x with kind := 0, count := 0, nosig := 0 }
  if r.addr = 0x0A110400 then
    let freq := bits v 1 15
    if freq < 18000 || 30000 < freq || bits v 16 8 < 0x24 then none
    else
      let t := t.modAmp i fun x => { x with pilot := x.pilot.orElse fun _ => some (s.rd (LINE_PCFG_FREQ i), s.rd (LINE_PCFG_LVL i)) }
      let t := if bits v 24 7 ≠ s.rd (LINE_PCFG_TOL i) then fresh t else t
      some (if bit v 0 && t.rd (LINE_LSTAT_STATE i) == 0 then t.wr (LINE_LSTAT_STATE i) 1 else t)
  else if r.addr = 0x0A110404 then
    let t := fresh t
    some (if bit v 31 then (t.wr (LINE_LSTAT_CAPBUSY i) 1).modAmp i fun x => { x with capture := some (s.bc, []) } else t)
  else some t

end Sys2Proof.Machine
end

