-- ==== Sys2Proof/Machine/Bell.lean ====
section
/-! DEFINITION. Waveforms and players, the alarm override path, and Bell DAC channels (chapter 14). -/
namespace Sys2Proof.Machine

def State.player (s : State) (p : Nat) : Player := tget Player.reset s.bell.players p
def State.setPlayer (s : State) (p : Nat) (x : Player) : State := { s with bell := { s.bell with players := tput Player.reset s.bell.players p x } }
def State.dac (s : State) (d : Nat) : DacSt := tget DacSt.reset s.bell.dacs d
def State.setDac (s : State) (d : Nat) (x : DacSt) : State := { s with bell := { s.bell with dacs := tput DacSt.reset s.bell.dacs d x } }
def State.modDac (s : State) (d : Nat) (f : DacSt → DacSt) : State := s.setDac d (f (s.dac d))
def State.mixer (s : State) (c : Nat) : Mixer := tget Mixer.reset s.bell.mix c
def State.setMixer (s : State) (c : Nat) (x : Mixer) : State := { s with bell := { s.bell with mix := tput Mixer.reset s.bell.mix c x } }

/-- The first device-rate sample boundary after now (R322, R325). -/
def State.nextSample (s : State) : Nat := (s.fs * s.frame + s.periods s.bc / 1000000 + 1).toNat
/-- The first device-rate sample boundary at or after now. -/
def State.thisSample (s : State) : Nat := (s.fs * s.frame - -(s.periods s.bc) / 1000000).toNat

/-! ## Waveforms (R317, R318) -/

/-- Bytes per sample of FMT. -/
def waveBytes (fmt : Nat) : Nat := if fmt = 0 then 2 else if fmt = 1 then 3 else 1
/-- Samples per second of RATE. -/
def waveRate (r : Nat) : Nat := if r = 0 then 16000 else if r = 1 then 48000 else 96000

/-- Waveform `w`, where it is playable (R318). -/
def State.wave (s : State) (w : Nat) : Option Wave :=
  let a := 0x09000000 + 16 * w
  let o := s.devLd a 4
  let w1 := s.devLd (a + 4) 4
  let w2 := s.devLd (a + 8) 4
  let w3 := s.devLd (a + 12) 4
  let fmt := bits w3 0 2
  let rate := bits w3 2 2
  let len := bits w1 0 24
  let lst := bits w2 0 24
  if bit w3 31 && bits w1 24 8 == 0 && bits w2 24 8 == 0 && bits w3 5 26 == 0 && fmt != 3 && rate != 3
      && decide (1 ≤ len) && decide (lst < len) && o % 64 == 0 && decide (0x1000 ≤ o)
      && decide (o + len * waveBytes fmt ≤ 4194304) && !(rate == 2 && s.rate == 48000) then
    some ⟨o, len, lst, fmt, rate, bit w3 4⟩
  else none

/-- The 14-bit linear value of a μ-law byte of ITU-T G.711 (R317; PRESUMED from the standard, log entry 25). -/
def ulaw (b : Nat) : Int :=
  let u := 255 - b
  let t : Int := (((u % 16) * 8 + 0x84) * 2 ^ (u / 16 % 8) : Nat)
  let x : Int := (t - 0x84) / 4
  if 128 ≤ u then -x else x

/-- Q1.31 of the raw bytes of a sample (R317). -/
def waveValue (fmt raw : Nat) : Int :=
  if fmt = 0 then sx 16 raw * 65536 else if fmt = 1 then sx 24 raw * 256 else ulaw raw * 262144

/-- Device samples per waveform sample. -/
def State.waveStep (s : State) (w : Wave) : Nat := s.rate / waveRate w.rate

/-- The waveform sample that device sample `off` of a waveform rests on; none after its end (R318). -/
def State.waveIndex (s : State) (w : Wave) (off : Nat) (loop : Bool) : Option Nat :=
  let i := off / s.waveStep w
  if i < w.len then some i
  else if loop && w.loop then some (w.loopst + (i - w.len) % (w.len - w.loopst))
  else none

/-- The fallback tone at its sample `i` (R319): 1,000 Hz, peak 2^30, 0.5 s on and 0.5 s off. -/
def State.tone (s : State) (i : Nat) : Int :=
  if s.rate / 2 ≤ i % s.rate then 0
  else
    let per := s.rate / 1000
    let x := i % per
    let h := min (x % (per / 2)) (per / 2 - x % (per / 2))
    let v := rne (2 ^ 30 * sinFix ((piFix : Int) * 2 * h / per)) 96
    if per / 2 ≤ x then -v else v

/-! ## Players (R318, R319, R322) -/

/-- The level gain of a plan (R322): min(2^31 − 1, round(2^31 × 10^(−level/40))). -/
def levelGain (level : Nat) : Nat :=
  min (2 ^ 31 - 1) (rne (2 ^ 31 * expFix (-(ln10Fix * level / 40))) 96).toNat

/-- The fallback tone takes the place of waveform `w` on player `p`: flags and record (R319). -/
def State.fallback (s : State) (p w chk : Nat) (inj : Bool) : State :=
  let s := if p < 16 then (if bit (s.rd OVR_ASTAT_ACTIVE) p then s.wr (OVR_PSTAT_PHASE p) 3 else s) else (s.wr (BELL_STAT_WAVEERR (p - 16)) 1).wr (BELL_STAT_PLAYING (p - 16)) 0
  s.emit { mkRec cLost chk 0x002E uPlayer p [w] with injected := inj }

/-- Starts an activation. -/
def State.startAct (s : State) (p : Nat) (a : Act) : State :=
  let x := s.player p
  s.setPlayer p { x with acts := a :: x.acts }

/-- Alarm player `p` starts at the first sample boundary after now (R322). -/
def State.startPlan (s : State) (p : Nat) : State :=
  let preen := s.on (OVR_PCFG_PREEN p)
  let pw := s.rd (OVR_PCFG_PRE p)
  let mw := s.rd (OVR_PCFG_MAIN p)
  let pre := if preen then s.wave pw else none
  let main := s.wave mw
  let bad := if preen then pre.isNone else main.isNone
  let fb := if bad then some 0
    else match preen, pre, main with | true, some w, none => some (w.len * s.waveStep w) | _, _, _ => none
  let s := s.startAct p ⟨s.nextSample, pre, main, pw, mw, some (levelGain (s.rd (OVR_PLEVEL_LEVEL p))), none, fb⟩
  if bad then s.fallback p (if preen then pw else mw) 0 false
  else s.wr (OVR_PSTAT_PHASE p) (if preen then 1 else 2)

/-- Bell player `d` starts waveform `w` (R334, GO). -/
def State.startBell (s : State) (d w : Nat) : State :=
  let main := s.wave w
  let s := (s.startAct (16 + d) ⟨s.thisSample, none, main, w, w, none, none, if main.isNone then some 0 else none⟩).wr (BELL_STAT_PLAYING d) 1
  if main.isNone then s.fallback (16 + d) w 0 false else s

/-- The newest activation outputs 0 from grid index `j` on. -/
def State.stopAct (s : State) (p j : Nat) : State :=
  let x := s.player p
  match x.acts with
  | a :: t => s.setPlayer p { x with acts := { a with stop := some j } :: t }
  | [] => s

/-- The waveform, its number and the sample of it that an activation is at, `off` device samples after its start. -/
def State.actAt (s : State) (a : Act) (off : Nat) : Option (Wave × Nat × Nat) :=
  let plen := match a.pre with | some w => w.len * s.waveStep w | none => 0
  match a.pre, a.main with
  | some w, m =>
    if off < plen then (s.waveIndex w off false).map fun i => (w, a.preNo, i)
    else m.bind fun w => (s.waveIndex w (off - plen) true).map fun i => (w, a.mainNo, i)
  | none, some w => (s.waveIndex w off true).map fun i => (w, a.mainNo, i)
  | none, none => none

/-- Sample `j` of player `p` before its level gain, and the state after the read. -/
def State.playSample (s : State) (p j : Nat) : Int × State :=
  let x := s.player p
  match x.acts.find? fun a => a.j0 ≤ j with
  | none => (0, s)
  | some a =>
    let off := j - a.j0
    if (match a.stop with | some e => decide (e ≤ j) | none => false) then (0, s)
    else match a.fb with
    | some f => if f ≤ off then (s.tone (off - f), s) else
      match s.actAt a off with
      | none => (0, s)
      | some (w, _, i) => if s.waveStep w = 1 then (waveValue w.fmt (s.devLd (0x09000000 + w.offset + i * waveBytes w.fmt) (waveBytes w.fmt)), s)
                          else (sx 32 (s.free 32), s.used)
    | none =>
      match s.actAt a off with
      | none => (0, s)
      | some (w, no, i) =>
        let nb := waveBytes w.fmt
        let ad := 0x09000000 + w.offset + i * nb
        let inj := s.integ.flips.any fun f => decide (f.1 * 8 < ad + nb) && decide (ad < f.1 * 8 + 8)
        let (s, bad) := s.eccRead ad nb 19 0
        if bad then
          let y := s.player p
          let s := s.setPlayer p { y with acts := y.acts.map fun b => if b.j0 = a.j0 then { b with fb := some off } else b }
          (s.tone 0, s.fallback p no 1 inj)
        else if s.waveStep w = 1 then (waveValue w.fmt (s.devLd ad nb), s)
        else (sx 32 (s.free 32), s.used)

/-- Output sample of a player (R322). -/
def leveled (g : Option Nat) (x : Int) : Nat :=
  match g with
  | some g => ux 32 (clampS 32 (rne (x * g) 31))
  | none => ux 32 x

/-- The block of player `p` for the frame that has ended; `mis` says that a lockstep comparison failed in it (R318, R322, R362). -/
def State.playFrame (s : State) (p m : Nat) (mis : Bool) : State :=
  let x := s.player p
  if x.acts.isEmpty && x.out.all (· == 0) then s
  else
    let (blk, s) := (List.range s.fs).foldl (fun (q : List Nat × State) i =>
      let j := s.fs * m + i
      let g := match x.acts.find? fun a => a.j0 ≤ j with | some a => a.gain | none => none
      let (v, t) := q.2.playSample p j
      (q.1 ++ [leveled g v], t)) ([], s)
    let i13 := s.injOn 13 uPlayer p
    let s := if i13 then (s.injDone).mismatch uPlayer p 1 true else s
    let bad := mis || i13
    let s := if mis then s.mismatch uPlayer p 1 false else s
    let key := 0x10000 + p
    let g := tget GoodBlk.reset s.route.good key
    let (blk, g) := if bad && p < 16 then s.substitute g else if p < 16 then s.passed g blk else (blk, g)
    let s := { s with route := { s.route with good := tput GoodBlk.reset s.route.good key g } }
    let y := s.player p
    let last := s.fs * (m + 1)
    -- only the activation in effect at the frame's end is kept, and none that has stopped
    let keep := (y.acts.takeWhile fun a => last ≤ a.j0) ++
      ((y.acts.dropWhile fun a => last ≤ a.j0).take 1).filter fun a => match a.stop with | some e => decide (last < e) | none => true
    let s := s.setPlayer p { acts := keep, out := blk }
    if p < 16 then s
    else
      let s := blk.zipIdx.foldl (fun s q => s.setSmp (0x840 + (p - 16)) m q.2 q.1) s
      if bad then { s with route := { s.route with badSeal := (0x840 + (p - 16)) :: s.route.badSeal } } else s

/-- A player reaches the end of its waveform (R318, R322, R129). -/
def State.playerEnd (s : State) (p : Nat) : State :=
  match (s.player p).acts with
  | [] => s
  | a :: _ =>
    if a.stop.isSome then s
    else if p < 16 then
      if s.rd (OVR_PSTAT_PHASE p) = 1 then
        if a.main.isNone then s.fallback p a.mainNo 0 false else s.wr (OVR_PSTAT_PHASE p) 2
      else s
    else if s.on (BELL_STAT_PLAYING (p - 16)) then
      let s := s.fire (832 + (p - 16))
      match a.main with
      | some w => if w.loop then s else s.wr (BELL_STAT_PLAYING (p - 16)) 0
      | none => s
    else s

/-! ## What feeds chains and DACs (R324, R325) -/

/-- Sample `i` of the frame of alarm player `p`'s block. -/
def State.planSample (s : State) (p i : Nat) : Int := sx 32 ((s.player p).out.getD i 0)

/-- One fade of a mixer: linear, its rounding not given (log entry 12). -/
def fadeSample (old new : Int) (d len : Nat) : Int := if len ≤ d then new else gainMul (old * (len - d : Nat) + new * d) 1 len

/-- Sample `i` of frame `m` at channel `c` of the override path, given the program's sample (R325). -/
def State.mixSample (s : State) (c m i : Nat) (prog : Int) : Int :=
  let src := fun (o : Option Nat) => match o with | none => prog | some p => s.planSample p i
  let x := s.mixer c
  let j := s.fs * m + i
  x.fades.foldl (fun v f => if j < f.2.1 then v else fadeSample v (src f.1) (j - f.2.1) f.2.2) (src x.base)

/-- Fades that are complete at the end of frame `m` are folded away. -/
def State.mixPrune (s : State) (m : Nat) : State :=
  { s with bell := { s.bell with mix := s.bell.mix.filterMap fun q =>
    match q.2.fades.getLast? with
    | some f => if f.2.1 + f.2.2 ≤ s.fs * (m + 1) then (match f.1 with | none => none | some p => some (q.1, ⟨some p, []⟩)) else some q
    | none => some q } }

/-- The program's or override's input block of channel `k` in frame `m`, without changeover (R19, R295). -/
def State.ownInput (s : State) (k m : Nat) : List Int :=
  let pres := tget [] s.route.pres (0x900 + k)
  (List.range s.fs).map fun i => s.mixSample k m i (sx 32 (tget 0 pres i))

/-- The chain input of channel `k` in frame `m` (R295, R304). -/
def State.chainInput (s : State) (k m : Nat) : List Int :=
  let blk := fun (o : Option Nat) => match o with | some j => s.ownInput j m | none => List.replicate s.fs 0
  let new := blk (s.ampSource k)
  match (s.amp k).was with
  | none => new
  | some o => ((blk o).zip new).zipIdx.map fun q => fadeSample q.1.1 q.1.2 q.2 s.fs

/-! ## DAC channels (R330 to R333) -/

def daDump : Nat := 0
def daUp : Nat := 1
def daRun : Nat := 2
def daDown : Nat := 3
def daSwitch : Nat := 4

/-- The ramp gain in 2^−32, `dt` thirds of a nanosecond after a state was entered with it at `g0` (R331, R332). -/
def dacRamp (st g0 dt : Nat) : Nat :=
  if st = daUp then min (2 ^ 32) (g0 + dt * 2 ^ 32 / 15000000)
  else if st = daRun then 2 ^ 32
  else if st = daDown then g0 - dt * 2 ^ 32 / 15000000
  else 0

/-- The ramp gain of DAC channel `d` at time `t`, in thirds of a nanosecond. -/
def State.dacGain (s : State) (d t : Nat) : Nat :=
  match (s.dac d).hist.find? fun h => h.1 ≤ t with
  | some h => dacRamp h.2.1 h.2.2 (t - h.1)
  | none => 0

def State.dacEnter (s : State) (d st : Nat) : State :=
  (s.modDac d fun x => { x with hist := (s.now3, st, s.dacGain d s.now3) :: x.hist }).wr (BELL_STAT_STATE d) st

/-- The code of a sample (R330). -/
def dacCode (x : Int) : Int := clampS 14 (rne (x * 8192) 31)
/-- The leg currents of a code, in units of IFS / 16,384 (R330). -/
def legCurrents (c : Int) : Int × Int := (8192 + c, 8192 - c)
/-- IFS in mA of the range in effect (R330, R332). -/
def State.dacScale (s : State) (d : Nat) : Nat := if s.on (BELL_STAT_RANGE d) then 20 else 2
/-- BELL_OUTP and BELL_OUTN of channel `d` for a code, in units of IFS / 16,384; no current while both legs are steered to
the internal dump (R330 to R332). -/
def State.dacLegs (s : State) (d : Nat) (c : Int) : Int × Int :=
  if s.rd (BELL_STAT_STATE d) = daDump ∨ s.rd (BELL_STAT_STATE d) = daSwitch then (0, 0) else legCurrents c

/-- Frame `m` of DAC channel `d`: the input under GAIN and the ramp gain (R330). -/
def State.dacFrame (s : State) (d m : Nat) : State :=
  let x := s.dac d
  if x.hist.isEmpty then s
  else
    let pres := tget [] s.route.pres (0x840 + d)
    let own := (s.player (16 + d)).out
    let out := (List.range s.fs).map fun i =>
      let t := (s.gridTime3 (s.fs * m + i : Nat)).toNat
      let (g, src) : Nat × Bool := match x.eff.find? fun e => e.1 ≤ t with | some e => e.2 | none => (0x10000000, false)
      let prog := sx 32 (if src then own.getD i 0 else tget 0 pres i)
      clampS 32 (gainMul (s.mixSample (128 + d) m i prog) (sx 32 g).natAbs (2 ^ 28) * (if sx 32 g < 0 then -1 else 1))
        |> fun v => gainMul v (s.dacGain d t) (2 ^ 32)
    let old := fun {α : Type} (l : List (Nat × α)) => (l.takeWhile fun h => s.now3 < h.1) ++ (l.dropWhile fun h => s.now3 < h.1).take 1
    s.setDac d { x with out, hist := old x.hist, eff := old x.eff }

/-- A channel goes to the dump at once; a range change under way is over, its range in effect (R331). -/
def State.dacDumped (s : State) (d : Nat) : State :=
  let s := match (s.dac d).range with | some r => s.wr (BELL_STAT_RANGE d) r | none => s
  let s := s.modDac d fun x => { x with range := none }
  if s.rd (BELL_STAT_STATE d) = daDump then s else s.dacEnter d daDump

/-- The channel may leave the dump: the DAC section has power, and the channel is not retired without a spare (R331, R333). -/
def State.dacLive (s : State) (d : Nat) : Bool := s.on BELL_PWR_STATE && (!(s.dac d).gone || s.on (BELL_STAT_SPARE d))

/-- DAC analogue power and EN in effect give the channel's state (R331). -/
def State.dacPower (s : State) (d : Nat) : State :=
  if !s.dacLive d then s.dacDumped d
  else if (s.dac d).en && s.rd (BELL_STAT_STATE d) == daDump then s.dacEnter d daUp
  else s

/-- A CFG write takes effect at a strobe (R331, R332). -/
def State.dacCfg (s : State) (d : Nat) : State :=
  let x := s.dac d
  let en := s.on (BELL_CFG_EN d)
  let rg := s.rd (BELL_CFG_RANGE d)
  let st := s.rd (BELL_STAT_STATE d)
  let eff : Nat := match x.eff.head? with | some e => e.2.1 | none => s.rd (BELL_GAIN_GAIN d)
  let busy := x.range.isSome
  let wait := en && x.en && busy
  let s := s.modDac d fun x => { x with en, eff := (s.now3, eff, s.on (BELL_CFG_SRC d)) :: x.eff, cfg := wait }
  if !en then
    let s := s.modDac d fun x => { x with range := none }
    if st = daUp ∨ st = daRun ∨ st = daDown then (if x.en then s.dacEnter d daDown else s)
    else (s.dacEnter d daDump).wr (BELL_STAT_RANGE d) rg
  else if !x.en then
    if st = daDump then
      let s := s.wr (BELL_STAT_RANGE d) rg
      if s.dacLive d then s.dacEnter d daUp else s
    -- still falling: a new RANGE goes the way of R332 from the gain reached
    else if rg ≠ s.rd (BELL_STAT_RANGE d) then (s.modDac d fun x => { x with range := some rg }).dacEnter d daDown
    else s.dacEnter d daUp
  else if rg ≠ s.rd (BELL_STAT_RANGE d) && !busy then
    if st = daDump then s.wr (BELL_STAT_RANGE d) rg
    else (s.modDac d fun x => { x with range := some rg }).dacEnter d daDown
  else s

/-- The load strobe of a group: pending CFG, GAIN and PLAY writes of its four channels take effect together (R331). -/
def State.loadStrobe (s : State) (g : Nat) : State :=
  (List.range 4).foldl (fun (s : State) i =>
    let d := 4 * g + i
    let x := s.dac d
    let s := match x.gain with
      | some v =>
        let src := match x.eff.head? with | some e => e.2.2 | none => false
        (s.wr (BELL_GAIN_GAIN d) v).modDac d fun x => { x with gain := none, eff := (s.now3, v, src) :: x.eff }
      | none => s
    let s := if x.stop then (s.stopAct (16 + d) s.thisSample).wr (BELL_STAT_PLAYING d) 0 else s
    let s := match x.go with | some w => s.startBell d w | none => s
    let s := s.modDac d fun x => { x with go := none, stop := false }
    if x.cfg then s.dacCfg d else s) s

/-- A 5 ms enable or disable ramp completes (R331). -/
def State.dacRampEnd (s : State) (d : Nat) : State :=
  let st := s.rd (BELL_STAT_STATE d)
  if (s.dac d).range.isSome then s
  else if st = daUp then s.dacEnter d daRun
  else if st = daDown && !(s.dac d).en then (s.dacEnter d daDump).wr (BELL_STAT_RANGE d) (s.rd (BELL_CFG_RANGE d))
  else s

/-- A range change passes to its next stage (R332). -/
def State.dacRangeNext (s : State) (d : Nat) : State :=
  match (s.dac d).range with
  | none => s
  | some r =>
    let st := s.rd (BELL_STAT_STATE d)
    if st = daDown then s.dacEnter d daSwitch
    else if st = daSwitch then (s.wr (BELL_STAT_RANGE d) r).dacEnter d daUp
    else if st = daUp then (s.modDac d fun x => { x with range := none }).dacEnter d daRun
    else s

/-- A replica measurement of an enabled channel; `dev` says that it deviates by more than 2 % (R333, R372). -/
def State.dacMeasure (s : State) (d : Nat) (dev : Bool) : State :=
  if !(s.dac d).en || !s.on BELL_PWR_STATE then s
  else
    let s := if (s.dac d).inj = 0 && s.injOn 9 uDac d then (s.injDone).modDac d fun x => { x with inj := 16 } else s
    let x := s.dac d
    let dv := dev || x.inj != 0
    let n := if dv then x.devs + 1 else 0
    let injected := x.inj != 0
    s.modDac d fun x => { x with devs := if 16 ≤ n then 0 else n, inj := x.inj - 1
                                 fail := if 16 ≤ n then some injected else x.fail }

/-- A DAC channel is retired: the spare takes over, or the channel goes to the dump (R333). -/
def State.retireDac (s : State) (d chk : Nat) : State :=
  let x := s.dac d
  let dump := fun (s : State) =>
    let s := (s.wr (BELL_STAT_FAULT d) 1).modDac d fun x => { x with gone := true, range := none }
    let s := (s.dacEnter d daDump).fence 6
    -- the spec names no cause of this record (log entry 26)
    s.used.emit (mkRec cLost chk (s.free 16) uDac d [])
  if s.on (BELL_STAT_SPARE d) then dump (((s.wr BELL_SPARE_FAILED 1).wr BELL_SPARE_USED 0).wr (BELL_STAT_SPARE d) 0)
  else if x.gone then s
  else if !s.on BELL_SPARE_USED && !s.on BELL_SPARE_FAILED then
    let s := s.modDac d fun x => { x with gone := true }
    ((((s.wr BELL_SPARE_USED 1).wr BELL_SPARE_CH d).wr (BELL_STAT_SPARE d) 1).fence 6).emit (mkRec cDegraded chk 0x0017 uDac d [])
  else dump s

/-- DAC channels at a downbeat: the strobe of the groups whose source is DOWNBEAT (R331), failures of the frame and the
warden's request (R333). -/
def State.dacsDownbeat (s : State) : State :=
  let s := (List.range 2).foldl (fun (s : State) g => if s.rd (BELL_STRB_SRC g) = 0 then s.loadStrobe g else s) s
  let s := (List.range 8).foldl (fun (s : State) d =>
    match (s.dac d).fail with
    | none => s
    | some inj =>
      let s := s.modDac d fun x => { x with fail := none }
      if inj then s.emit { mkRec cDegraded 9 0x0017 uDac d [] with injected := true } else s.retireDac d 9) s
  if s.on BELL_SPCMD_GO then
    let d := s.rd BELL_SPCMD_CH
    (if (s.dac d).gone then s else s.retireDac d 0).wr BELL_SPCMD_GO 0
  else s

/-! ## The frame that has ended -/

/-- A lockstep mismatch of an amplifier channel (R362): of a gain the lower result is used, of the sense decimator the
larger current, of the trip count the trip fires, and a mismatch of the chain leaves the last good samples falling. -/
def State.ampMismatch (s : State) (k stage : Nat) (inj : Bool) : State :=
  let s := s.mismatch uAmp k stage inj
  if stage = 5 then s.trip k inj
  else if stage = 8 then
    let key := 0x10200 + k
    let (b, g) := s.substitute (tget GoodBlk.reset s.route.good key)
    let s := { s with route := { s.route with good := tput GoodBlk.reset s.route.good key g } }
    s.modAmp k fun x => { x with chain := { x.chain with out := b.map (sx 32) } }
  else s

/-- The samples of a chain or a DAC channel that had no mismatch, under the rising gain where one had (R43, R362). -/
def State.outPassed (s : State) (key : Nat) (out : List Int) : List Int × State :=
  let g := tget GoodBlk.reset s.route.good key
  if g.fall = 0 && out.all (· == 0) then (out, s)
  else
    let (b, g) := s.passed g (out.map (ux 32))
    (b.map (sx 32), { s with route := { s.route with good := tput GoodBlk.reset s.route.good key g } })

/-- Mismatches of amplifier channels and DAC channels in the frame, with the injected one (R362, R372); the stage of an
injection on an amplifier channel is not given (log entry 28). -/
def State.outMismatches (s : State) (mis : List (Nat × Nat × Nat)) : State :=
  let hit := mis.filter fun q => (q.1 == uAmp && decide (q.2.1 < 128)) || (q.1 == uDac && decide (q.2.1 < 8))
  let (inj, s) : List (Nat × Nat × Nat) × State := match s.integ.inj with
    | some j =>
      if j.check == 13 && (j.utype == uAmp || (j.utype == uDac && decide (j.uinst < 8))) then
        let st := if j.utype = uDac then 9 else [4, 5, 6, 8].getD (s.free 2) 8
        ([(j.utype, j.uinst, st)], s.used.injDone)
      else ([], s)
    | none => ([], s)
  let bad := fun ty u => (hit ++ inj).any fun q => q.1 == ty && q.2.1 == u && (q.2.2 == 8 || q.2.2 == 9)
  let s := (List.range 128).foldl (fun (s : State) k =>
    if bad uAmp k || (s.amp k).chain.out.isEmpty then s
    else
      let (o, s) := s.outPassed (0x10200 + k) (s.amp k).chain.out
      s.modAmp k fun x => { x with chain := { x.chain with out := o } }) s
  let s := (List.range 8).foldl (fun (s : State) d =>
    if (s.dac d).out.isEmpty then s
    else if bad uDac d then
      let key := 0x10300 + d
      let (b, g) := s.substitute (tget GoodBlk.reset s.route.good key)
      let s := { s with route := { s.route with good := tput GoodBlk.reset s.route.good key g } }
      s.modDac d fun x => { x with out := b.map (sx 32) }
    else
      let (o, s) := s.outPassed (0x10300 + d) (s.dac d).out
      s.modDac d fun x => { x with out := o }) s
  let go := fun (inj : Bool) (s : State) (q : Nat × Nat × Nat) =>
    if q.1 = uAmp then s.ampMismatch q.2.1 q.2.2 inj else s.mismatch uDac q.2.1 9 inj
  inj.foldl (go true) (hit.foldl (go false) s)

/-- Players, chains and DACs over the frame that ends at a downbeat (R295, R318, R330). `mis` lists lockstep mismatches
in it: unit type, instance, stage. -/
def State.renderFrame (s : State) (mis : List (Nat × Nat × Nat)) : State :=
  let m := s.frame
  let s := (List.range 24).foldl (fun s p => s.playFrame p m (mis.any fun q => q.1 == uPlayer && q.2.1 == p)) s
  let s := (List.range 128).foldl (fun (s : State) k =>
    if (s.amp k).chain = Chain.reset && !s.on (GUARD_PCTL_PVALID k) && (tget [] s.route.pres (0x900 + k)).isEmpty
        && s.mixer k = Mixer.reset && (s.amp k).carries.isNone && (s.amp k).was.isNone then s
    else s.chainFrame k (s.chainInput k m)) s
  let s := (List.range 8).foldl (fun s d => s.dacFrame d m) s
  (s.outMismatches mis).mixPrune m

/-! ## Alarm inputs and plans (R320 to R323) -/

/-- Debounced input `i` is asserted (R320). -/
def State.asserted (s : State) (i : Nat) : Bool := s.on (OVR_INCFG_EN i) && bit s.bell.deb i != s.on (OVR_INCFG_POL i)

def State.planActive (s : State) (p : Nat) : Bool := bit (s.rd OVR_ASTAT_ACTIVE) p
def State.anyPlan (s : State) : Bool := s.rd OVR_ASTAT_ACTIVE != 0

/-- Zones that plan `p` claims contain channel `k` (R324). -/
def State.planClaims (s : State) (p k : Nat) : Bool :=
  (List.range 64).any fun z => bit (if z < 32 then s.rd (OVR_ZMASKL_ZONES p) else s.rd (OVR_ZMASKH_ZONES p)) (z % 32) && s.inZone z k

/-- The plan that overrides channel `c` (DAC channels from 128), as the active plans stand (R324). -/
def State.planFor (s : State) (c : Nat) : Option Nat :=
  if !s.anyPlan then none
  else (List.range 16).find? fun p => s.planActive p && (if c < 128 then s.planClaims p c else bit (s.rd (OVR_PCFG_DACMASK p)) (c - 128))

/-- A channel becomes overridden: ALARM, and the wake set or ZONE_DARK (R324, R326). -/
def State.overStart (s : State) (k : Nat) : State :=
  let s := s.setAlarm k true
  let st := s.ampState k
  if st = amOff ∨ st = amDiag then
    if bit (s.rd (OVR_WAKE_SET (k / 32))) (k % 32) then s.ampQueue k 2 true else s.zoneDark k
  else s

/-- Channels follow the active plans (R324, R325). -/
def State.rezone (s : State) : State :=
  let mask := fun (f : Nat → Fld) => (List.range 16).foldl (fun a p => if s.planActive p then a ||| s.rd (f p) else a) 0
  let s := (s.wr (OVR_ZACT_ZONES 0) (mask OVR_ZMASKL_ZONES)).wr (OVR_ZACT_ZONES 1) (mask OVR_ZMASKH_ZONES)
  let j := s.nextSample
  (List.range 136).foldl (fun (s : State) c =>
    let old := tget none s.bell.planOf c
    let new := s.planFor c
    if new = old then s
    else
      let rel := match old, new with | some _, none => true | some p, some q => decide (p < q) | _, _ => false
      let len := s.rd (if rel then OVR_CTRL_RELRAMP else OVR_CTRL_ENGRAMP) * (s.rate / 1000)
      let x := s.mixer c
      let s := s.setMixer c { x with fades := x.fades ++ [(new, j, len)] }
      let s := { s with bell := { s.bell with planOf := tput none s.bell.planOf c new } }
      if 128 ≤ c then s.wr (BELL_STAT_OVR (c - 128)) (b2n new.isSome)
      else match old, new with
        | none, some _ => s.overStart c
        | some _, none => s.setAlarm c false
        | _, _ => s) s

/-- Plan `p` changes: its player, ASTAT, event and source (R322, R323, R129). -/
def State.planChange (s : State) (p : Nat) (act : Bool) (cause : Nat) : State :=
  let s := s.wr OVR_ASTAT_ACTIVE (setBit (s.rd OVR_ASTAT_ACTIVE) p act)
  let s := if act then s.startPlan p
    else
      -- the player sounds on through the release crossfade (log entry 27)
      (s.stopAct p (s.nextSample + s.rd OVR_CTRL_RELRAMP * (s.rate / 1000))).wr (OVR_PSTAT_PHASE p) 0
  (s.event 0x0006 0 (leBytes p 1 ++ leBytes cause 1 ++ leBytes (b2n act) 1)).fire (864 + p)

/-- The plans follow inputs, SWACT and latches (R321, R327). `cause`: 0 an input, 1 SWACT, 2 RELEASE; none where another
register's write decides. -/
def State.evaluateBody (cause : Option Nat) (s : State) : State :=
  let armed := s.on OVR_STAT_ARMED
  let sw := s.rd OVR_SWACT_ACT
  let s := (List.range 16).foldl (fun (s : State) p =>
    let a := s.asserted p
    let ok := armed && s.on (OVR_PCFG_VALID p)
    let latch := s.on (OVR_INCFG_LATCH p)
    let held := ok && latch && (s.on (OVR_PSTAT_LATCHED p) || (a && !bit s.bell.seen p))
    let s := (s.wr (OVR_PSTAT_LATCHED p) (b2n held)).wr OVR_ASTAT_INPUT (setBit (s.rd OVR_ASTAT_INPUT) p a)
    let s := { s with bell := { s.bell with seen := setBit s.bell.seen p (armed && a) } }
    let act := ok && (held || bit sw p || (a && !latch))
    if act = s.planActive p then s
    else s.planChange p act (cause.getD (if act && !a && !held then 1 else 0))) s
  s.rezone

/-- The plans are evaluated: one step, whose records are ordered (R321, R368). -/
def State.evaluate (s : State) (cause : Option Nat) : State := State.batched (State.evaluateBody cause) s

/-- A write of RELEASE (R321, R329). -/
def State.releasePlans (s : State) (v : Nat) : State :=
  let s := (List.range 16).foldl (fun (s : State) p =>
    if bit v p && !s.asserted p && !bit (s.rd OVR_SWACT_ACT) p then s.wr (OVR_PSTAT_LATCHED p) 0 else s) s
  s.evaluate (some 2)

/-- A pin changes (R320). -/
def State.alarmPin (s : State) (i : Nat) (lvl : Bool) : State := { s with bell := { s.bell with pins := setBit s.bell.pins i lvl } }

/-- A pin has held its level for DEB ms (R320). -/
def State.alarmDebounced (s : State) (i : Nat) : State :=
  if bit s.bell.pins i = bit s.bell.deb i then s
  else { s with bell := { s.bell with deb := setBit s.bell.deb i (bit s.bell.pins i) } }.evaluate (some 0)

/-- Arms or disarms the path (R327, R328): SRC 1 FLASH, 2 HOST. -/
def State.setArmed (s : State) (on : Bool) (src : Nat) : State :=
  (((s.wr OVR_STAT_ARMED (b2n on)).wr OVR_STAT_SRC (if on then src else 0)).wr OVR_CTRL_ARM (b2n on)).evaluate none

/-- The RUN command is issued again for a wake-set channel still off (R326). -/
def State.wakeRetry (s : State) (k : Nat) : State :=
  let st := s.ampState k
  if (tget none s.bell.planOf k).isSome && (st == amOff || st == amDiag) && bit (s.rd (OVR_WAKE_SET (k / 32))) (k % 32) then
    s.ampQueue k 2 true
  else s

/-- A crossfade of channel `c` completes: nothing but its newest target feeds the channel (R325). -/
def State.overRampEnd (s : State) (c : Nat) : State :=
  let x := s.mixer c
  match x.fades.getLast? with
  | some f => if f.2.1 + f.2.2 ≤ s.fs * s.frame then s.setMixer c ⟨f.1, []⟩ else s
  | none => s

/-! ## Registers (R328, R329, R331, R334, R335, R394) -/

/-- Writes of OVR registers. -/
def ovrHook : Hook := fun s w r i v t =>
  let a := r.addr
  let ls := fun (t : State) => if lifeSafetyBroken s t s.canCarry s.canCarry then (s.wr WARD_STAT_LSREF 1, false) else (t.evaluate none, true)
  if w.code ≠ 2 && !s.on OVR_STAT_IMGDONE then (s, false)
  else if a = 0x0A130000 then
    if bits v 8 8 = 0 || bits v 16 8 = 0 then (s, false)
    else if bit v 0 = s.on OVR_CTRL_ARM then (t, true)
    else if bit v 0 then (t.setArmed true (if w.code = 2 then 1 else 2), true)
    else if s.anyPlan then (s, false)
    else (t.setArmed false 0, true)
  else if a = 0x0A13000C then (t.evaluate (some 1), true)
  else if a = 0x0A130010 then (t.releasePlans v, true)
  else if a = 0x0A130020 then
    if (List.range 32).any fun b => bit v b && !bit (s.rd (OVR_WAKE_SET i)) b && !s.canCarry (32 * i + b) then
      (s.wr WARD_STAT_LSREF 1, false)
    else (t, true)
  else if a = 0x0A130040 then (if bits v 8 8 = 0 then (s, false) else (t.evaluate none, true))
  else if 0x0A130100 ≤ a && a < 0x0A130110 then
    if s.planActive i && s.changesOther r i v [] then (s, false) else ls t
  else if 0x0A130400 ≤ a then
    let z := i / 4
    if (bit (s.rd (OVR_ZACT_ZONES (z / 32))) (z % 32)) && s.changesOther r i v [] then (s, false) else ls t
  else (t, true)

/-- BELL.PWR.REQ (R331, R334). -/
def State.bellPower (s : State) : State :=
  let s := s.wr BELL_PWR_STATE (s.rd BELL_PWR_REQ)
  (List.range 8).foldl State.dacPower s

/-- Writes of BELL registers. -/
def bellHook : OptHook := fun s w r i v t =>
  let a := r.addr
  if w.code ≠ 2 && !s.on OVR_STAT_IMGDONE then none
  else if a = 0x0A120000 then some t.bellPower
  else if a = 0x0A120010 then (if bits v 0 2 = 3 || bits v 16 12 = 0 then none else some t)
  else if a = 0x0A120024 then some (if s.on BELL_SPCMD_GO then t.wr BELL_SPCMD_GO 1 else t)
  else if a = 0x0A120100 then some (t.modDac i fun x => { x with cfg := true })
  else if a = 0x0A120104 then
    some (t.modDac i fun x =>
      { x with go := if bit v 16 then some (bits v 0 8) else if bit v 17 then none else x.go
               stop := bit v 17 || (x.stop && !bit v 16) })
  else if a = 0x0A120108 then some ((t.wr (BELL_GAIN_GAIN i) (s.rd (BELL_GAIN_GAIN i))).modDac i fun x => { x with gain := some v })
  else some t

end Sys2Proof.Machine
end

