-- ==== Sys2Proof/Machine/Pair.lean ====
section
/-! DEFINITION. Pairing: the Tadom link, roles, mirroring, digests, joining, the leash (chapter 15). -/
namespace Sys2Proof.Machine

/-! ## Roles (R341, R349) -/

def hsNone : Nat := 0
def hsLink : Nat := 1
def hsCheck : Nat := 2
def hsCopy : Nat := 3
def hsSyncing : Nat := 4
def hsSynced : Nat := 5
def hsResync : Nat := 6
def State.hstate (s : State) : Nat := s.rd PAIR_STAT_HSTATE
def State.setRole (s : State) (r : Nat) : State := s.wr PAIR_STAT_ROLE r
def State.modPair (s : State) (f : PairSt → PairSt) : State := { s with pair := f s.pair }

/-- PAIR_HB runs (R349). -/
def State.heartbeat (s : State) : Bool := s.on PAIR_CTRL_HBEN && s.role != roFenced && !s.integ.fatal && !s.board.held

/-- The level of PAIR_HB in the `i`-th carrier period of a frame: it toggles at each boundary, 256 a frame; which level comes
first is open (R349, log entry 24). -/
def State.heartbeatPin (s : State) (i : Nat) : Bool := s.heartbeat && (i + (Config.freeValue 0).toNat) % 2 == 1

/-- Mirrored sources that wait are fired with the device's own blocks (R353). -/
def State.fireWaiting (s : State) : State :=
  let l := s.pair.wait
  let s := s.modPair fun x => { x with wait := [], joined := none, mir := [] }
  l.foldl State.fire s

/-- Pending page copies are abandoned. -/
def State.dropCopies (s : State) : State :=
  (((s.modPair fun x => { x with resync := [], got := [], items := [], copied := false, agree := 0, early := none, asked := [] }).wr PAIR_DIGSTAT_RESYNC 0).wr
    PAIR_COPYPEND_PAGES 0).wr PAIR_DIGSTAT_MISMATCH 0

/-- Leaves the role for another: nothing of the former pairing is kept. -/
def State.leaveRole (s : State) (r : Nat) : State :=
  let s := ((s.dropCopies.setRole r).wr PAIR_STAT_HSTATE hsNone).modPair fun x => { x with expiry := none, renewed := none }
  ((s.wr PAIR_LEASH_STATE 0).wr PAIR_LEASH_LEFT 0).fireWaiting

/-- The join fails or is lost: DETACHED, with JOINERR (R348). -/
def State.joinFails (s : State) (err : Nat) : State := (s.leaveRole roDetached).wr PAIR_STAT_JOINERR err

/-- PAIR.CMD (R348, R352, R355). -/
def State.pairCmd (s : State) (op : Nat) : State :=
  let r := s.role
  if op = 1 then (if r = roDetached ∨ r = roSolo then (s.leaveRole roLead).modPair fun x => { x with active := true } else s)
  else if op = 2 then
    if r = roDetached ∨ r = roFenced then
      (((s.leaveRole roHeel).wr PAIR_STAT_HSTATE hsLink).wr PAIR_STAT_JOINERR 0).modPair fun x => { x with active := true }
    else s
  else if op = 3 then s.leaveRole roDetached
  else if op = 4 then s.leaveRole roSolo
  else s

/-! ## The link (R338 to R340) -/

/-- The type of the flits that carry a message (R338): 1 control, 2 mirror, 3 copy, 4 echo. -/
def PairMsg.kind : PairMsg → Nat
  | .seal _ _ | .samples _ _ _ _ => 2
  | .crcList _ _ | .want _ _ | .page _ _ _ => 3
  | .echo | .echoBack => 4
  | _ => 1

/-- A flit: type, sequence number and payload of 64 bytes under their CRC-32 (R338). -/
def flit (ty seq : Nat) (payload : List Nat) : List Nat :=
  let b := [ty, 0, seq % 256, seq / 256 % 256] ++ payload
  b ++ (leBytes (crc32 b) 4).map (·.toNat)

/-- The CRC of a flit of 72 bytes holds (R338). -/
def flitOk (b : List Nat) : Bool := b.length == 72 && (leBytes (crc32 (b.take 68)) 4).map (·.toNat) == b.drop 68

def laOff : Nat := 0
def laIn : Nat := 1
def laSpare : Nat := 2
def laRetired : Nat := 3

/-- Lanes in service. -/
def State.lanesIn (s : State) : List Nat := (List.range 5).filter fun l => s.rd (PAIR_LANE_STATE l) == laIn

/-- INSVC and SPAREUSED follow the lanes. -/
def State.countLanes (s : State) : State :=
  (s.wr PAIR_LINKSTAT_INSVC (s.lanesIn.foldl (fun a l => a + 2 ^ l) 0)).wr PAIR_LINKSTAT_SPAREUSED (b2n (s.rd (PAIR_LANE_STATE 4) == laIn))

/-- The lane of block `b` of the stream: the in-service lane of rank b mod lanes in service (R338). -/
def State.blockLane (s : State) (b : Nat) : Nat := s.lanesIn.getD (b % s.lanesIn.length) 0

/-- The link goes DOWN (R339, R415). -/
def State.linkDown (s : State) : State :=
  if !s.on PAIR_STAT_LINK then s
  else
    let s := (List.range 5).foldl (fun (s : State) l => if s.rd (PAIR_LANE_STATE l) = laRetired then s else s.wr (PAIR_LANE_STATE l) laOff) s
    let s := ((s.countLanes.wr PAIR_STAT_LINK 0).wr PAIR_STAT_LINKEV 1).fence 3
    if s.role = roHeel ∧ s.hstate < hsSynced then s.joinFails 5 else s

/-- The link trains; `good` is the mask of lanes that train (R339). Which lanes then carry it with one of lanes 0 to 3 missing is
not given: those of them that trained, two at least, and from the next downbeat lane 4 (R13; log entry 19). -/
def State.linkUp (s : State) (good : Nat) : State :=
  if !s.pair.active || s.on PAIR_STAT_LINK then s
  else
    let ok := fun l => bit good l && s.rd (PAIR_LANE_STATE l) != laRetired
    let own := (List.range 4).filter ok
    let t := own.foldl (fun s l => s.wr (PAIR_LANE_STATE l) laIn) s
    let t := if ok 4 then t.wr (PAIR_LANE_STATE 4) (if s.pair.spared then laIn else laSpare) else t
    let t := t.countLanes
    if 2 ≤ t.lanesIn.length then t.wr PAIR_STAT_LINK 1 else s

/-- A lane is to be retired at the first downbeat at least 100 µs after the decision (R339): now where this end decides and
tells the peer, one link delay ago where the peer has. -/
def State.laneDecide (s : State) (l : Nat) (own : Bool) : State :=
  if 5 ≤ l || s.rd (PAIR_LANE_STATE l) == laRetired || (s.pair.lanes.any fun q => q.1 == l) then s
  else
    let at_ := if own then s.bc else s.bc - s.rd PAIR_LINKSTAT_DELAY
    let s := s.modPair fun x => { x with lanes := x.lanes ++ [(l, at_)] }
    if own then s.tell (.lane l) else s

/-- A lane shows `hdrs` more invalid sync headers, or loses block lock (none): it is retired on that, or on more than 64
such headers in 1 s (R339, R355). -/
def State.laneRetire (s : State) (l : Nat) (hdrs : Option Nat) : State :=
  let lost := hdrs.isNone
  let hdrs := hdrs.getD 0
  let s := (s.incSat (PAIR_LANE_BLKERR l) hdrs).modPair fun x =>
    { x with hdrs := (l, s.bc, hdrs) :: x.hdrs.filter fun q => decide (s.bc < q.2.1 + 1000000000) }
  let n : Nat := (s.pair.hdrs.filter fun q => q.1 == l).foldl (fun a q => a + q.2.2) 0
  if lost || decide (64 < n) then s.laneDecide l true else s

/-- The lane sets change at a downbeat: retirements, and the spare for a lane that is not in service (R13, R336, R339). -/
def State.laneTurn (s : State) : State :=
  let due := s.pair.lanes.filter fun q => q.2 + 100000 ≤ s.bc
  let s := s.modPair fun x => { x with lanes := x.lanes.filter fun q => s.bc < q.2 + 100000 }
  let s := due.foldl (fun (s : State) q =>
    let was := s.rd (PAIR_LANE_STATE q.1)
    let s := s.wr (PAIR_LANE_STATE q.1) laRetired
    let spare := was == laIn && s.rd (PAIR_LANE_STATE 4) == laSpare
    let s := if spare then (s.wr (PAIR_LANE_STATE 4) laIn).modPair fun x => { x with spared := true } else s
    let s := if s.on PAIR_LANECMD_GO && s.rd PAIR_LANECMD_LANE == q.1 then s.wr PAIR_LANECMD_GO 0 else s
    s.countLanes.emit (mkRec cDegraded 0 0x0015 uLane q.1 [if spare then 4 else 0xFF])) s
  let missing := (List.range 4).find? fun l => s.rd (PAIR_LANE_STATE l) != laIn
  let s := match missing with
    | some l =>
      if s.on PAIR_STAT_LINK && s.rd (PAIR_LANE_STATE 4) == laSpare then
        ((s.wr (PAIR_LANE_STATE 4) laIn).countLanes).emit (mkRec cDegraded 0 0x0015 uLane l [4])
      else s
    | none => s
  if !due.isEmpty && s.on PAIR_STAT_LINK && s.lanesIn.length < 2 then s.linkDown else s

/-- An echo flit: the peer's is returned, the own one's round trip, less the turnaround, updates DELAY (R340). -/
def State.echo (s : State) (rtt : Option Nat) : State :=
  if !s.on PAIR_STAT_LINK then s
  else match rtt with
  | none => s.tell .echoBack
  | some t =>
    let l := (t :: s.pair.rtts).take 64
    let sum := l.foldl (· + ·) 0
    let s := s.modPair fun x => { x with rtts := l }
    -- half the mean, to the number below or above (log entry 24)
    if sum % (2 * l.length) = 0 then s.wr PAIR_LINKSTAT_DELAY (min 65535 (sum / (2 * l.length)))
    else (s.wr PAIR_LINKSTAT_DELAY (min 65535 (sum / (2 * l.length) + s.free 1))).used

/-- A flit fails its CRC: it is discarded, and the peer asked for replay (R338). -/
def State.flitReplay (s : State) : State := if s.on PAIR_STAT_LINK then (s.inc PAIR_FLITERR_COUNT 1).tell .replay else s

/-! ## Mirrored inputs (R344) -/

/-- Endpoints of an input source. -/
def State.sourceEnds (s : State) (src : Nat) : List Nat :=
  if src < 16 then []
  else if src < 80 then (List.range 32).map fun i => 32 * (src - 16) + i
  else if src < 112 then [0x800 + 2 * (src - 80), 0x801 + 2 * (src - 80)]
  else if src < 128 then (List.range 32).map fun i => 32 * s.rd (SPORT_ASRC_PORT (src - 112)) + i
  else ((s.rxLive.filter fun i => bits (s.rsWord i 1) 16 9 == src - 128).flatMap fun i =>
    (List.range (dCh (s.rsWord i 0))).map fun c => 0x1000 + bits (s.rsWord i 1) 0 12 + c)

/-- At its seals a lead forwards the mirrored sources that have fired: samples and seal markers (R344). -/
def State.mirrorSeals (s : State) (m : Nat) : State :=
  if s.role ≠ roLead then s
  else (s.disp.fired.filter s.mirrored).foldl (fun (s : State) src =>
    ((s.sourceEnds src).foldl (fun (s : State) e => s.tell (.samples src e m (s.edgeBlock e m))) s).tell (.seal src m)) s

/-- Mirrored samples arrive (R344). -/
def State.mirrorSamples (s : State) (src e m : Nat) (vals : List Nat) : State :=
  if s.role = roHeel ∧ s.pair.joined.isSome then s.modPair fun x => { x with mir := x.mir ++ [⟨src, e, m, vals⟩] } else s

/-- A seal marker arrives: the mirrored samples replace the heel's own, and the source fires (R344). -/
def State.sealMarker (s : State) (src m : Nat) : State :=
  if s.role ≠ roHeel ∨ !s.pair.wait.contains src then s
  else
    let l := s.pair.mir.filter fun b => b.src == src && b.m == m
    let s := l.foldl (fun (s : State) b => b.vals.zipIdx.foldl (fun (s : State) q => s.setSmp b.e m q.2 q.1) s) s
    let s := s.modPair fun x => { x with wait := x.wait.erase src, mir := x.mir.filter fun b => b.src != src }
    { s with disp := { s.disp with fired := s.disp.fired ++ [src] } }

/-- Without a seal marker by MIRTO the heel uses its own block (R344). -/
def State.mirrorTimeout (s : State) (src : Nat) : State :=
  if s.role ≠ roHeel ∨ !s.pair.wait.contains src then s
  else
    let s := s.modPair fun x => { x with wait := x.wait.erase src, mir := x.mir.filter fun b => b.src != src }
    let s : State := { s with disp := { s.disp with fired := s.disp.fired ++ [src] } }
    (s.incSat PAIR_MIRSTAT_LATE 1).emitRated 1000000000 (mkRec cCorrected 0 0x0007 uSource src [])

/-! ## Digests (R345) -/

/-- The remainders of the CRC-64 of R345 for four bits. -/
def crc64Tab : List Nat :=
  [0x0, 0x42f0e1eba9ea3693, 0x85e1c3d753d46d26, 0xc711223cfa3e5bb5, 0x493366450e42ecdf, 0x0bc387aea7a8da4c, 0xccd2a5925d9681f9,
   0x8e224479f47cb76a, 0x9266cc8a1c85d9be, 0xd0962d61b56fef2d, 0x17870f5d4f51b498, 0x5577eeb6e6bb820b, 0xdb55aacf12c73561,
   0x99a54b24bb2d03f2, 0x5eb4691841135847, 0x1c4488f3e8f96ed4]

def crc64Nib (c n : Nat) : Nat := (c * 16 % 2 ^ 64) ^^^ crc64Tab.getD ((c / 2 ^ 60) ^^^ n) 0
/-- CRC-64 of R345, one more byte. -/
def crc64Byte (c b : Nat) : Nat := crc64Nib (crc64Nib c (b / 16)) (b % 16)
/-- CRC-64 of R345. -/
def crc64 (l : List Nat) : Nat := l.foldl crc64Byte 0

/-- Device address of page `p` of cluster `c`. -/
def pageAddr (c p : Nat) : Nat := 0x01000000 + c * 0x180000 + p * 512
/-- The committed bytes of a page. -/
def State.pageBytes (s : State) (c p : Nat) : List Byte := s.devGet (pageAddr c p) 512

/-- The device address of word `w` of the memory, where it lies in one of some pages of clusters. -/
def State.setWord (s : State) (ps : List (Nat × Nat)) (w : Nat) : Option Nat :=
  (ps.find? fun q => frameAddr q.1 (s.frameOf q.1 q.2) / 512 == w / 64).map fun q => pageAddr q.1 q.2 + w % 64 * 8

/-- The digest set of cluster `c` in frame `n` (R345). -/
def State.digestSet (s : State) (c n : Nat) : List Nat :=
  let L := s.sramPages c
  let ch := (s.sram.dirty.filter fun k => k / 3072 == c && decide (k % 3072 < L)).map (· % 3072)
  let sw := if L = 0 then [] else (List.range (s.rd PAIR_CTRL_SWEEP)).map fun i => (n * s.rd PAIR_CTRL_SWEEP + i) % L
  sortNat (ch ++ sw).eraseDups

/-- The digest of cluster `c` over a set of pages (R345). -/
def State.digest (s : State) (c n : Nat) (set : List Nat) : Nat :=
  set.foldl (fun r p => (s.pageBytes c p).foldl (fun r b => crc64Byte r b.toNat) (crc64Byte (crc64Byte r (p % 256)) (p / 256)))
    (crc64 ((leBytes n 8).map (·.toNat)))

/-- Digests at the commit point of frame `n`, sent to the peer; the mirror engine, crossbar master 20, reads the pages (R152, R345). -/
def State.formDigests (s : State) (n : Nat) : State :=
  let sets := (List.range 16).map fun c => s.digestSet c n
  let s := s.readErrors (s.setWord (sets.zipIdx.flatMap fun q => q.1.map fun p => (q.2, p))) 20 0
  let crcs := sets.zipIdx.map fun q => s.digest q.2 n q.1
  let s := crcs.zipIdx.foldl (fun (s : State) q =>
    (((s.wr (PAIR_DIGOWNL_CRC q.2) q.1).wr (PAIR_DIGOWNH_CRC q.2) (q.1 / 2 ^ 32)).wr (PAIR_DIGPEERL_CRC q.2) 0).wr (PAIR_DIGPEERH_CRC q.2) 0) s
  let s := s.modPair fun x => { x with sets := sets.zipIdx.map fun q => (q.2, q.1), setsN := n }
  let s := { s with sram := { s.sram with dirty := [] } }
  if s.on PAIR_STAT_LINK && (s.role = roLead ∨ s.role = roHeel) then s.tell (.digests n crcs) else s

def State.digOwn (s : State) (c : Nat) : Nat := s.rd (PAIR_DIGOWNL_CRC c) + 2 ^ 32 * s.rd (PAIR_DIGOWNH_CRC c)

/-- DIGSTAT.RESYNC, COPYPEND and HSTATE follow the clusters in RESYNC (R346). -/
def State.countResync (s : State) : State :=
  let s := s.wr PAIR_DIGSTAT_RESYNC (s.pair.resync.foldl (fun a q => a + 2 ^ q.1) 0)
  let s := s.wr PAIR_COPYPEND_PAGES (s.pair.resync.foldl (fun a q => a + q.2.2.length) 0)
  if s.hstate = hsSynced ∧ !s.pair.resync.isEmpty then s.wr PAIR_STAT_HSTATE hsResync
  else if s.hstate = hsResync ∧ s.pair.resync.isEmpty then s.wr PAIR_STAT_HSTATE hsSynced
  else s

/-- Frames of a sweep pass over the largest cluster (R346). -/
def State.sweepPass (s : State) : Nat :=
  let w := s.rd PAIR_CTRL_SWEEP
  (List.range 16).foldl (fun a c => max a ((s.sramPages c + w - 1) / w)) 0

/-- Samples of the longest delay line in a route state (R348). -/
def State.longestLine (s : State) : Nat :=
  s.route.dests.foldl (fun a q => match q.2.new with | some r => if r.dly = 0 then a else max a (min r.len (s.maxDelay r.size)) | none => a) 0

/-- Both digests of each cluster for frame `n` are there: they are compared (R346, R348). -/
def State.compareDigests (s : State) (n : Nat) (crcs : List Nat) : State :=
  if !s.on PAIR_STAT_LINK || n != s.pair.setsN then s
  else
    let s := crcs.zipIdx.foldl (fun (s : State) q => (s.wr (PAIR_DIGPEERL_CRC q.2) q.1).wr (PAIR_DIGPEERH_CRC q.2) (q.1 / 2 ^ 32)) s
    let bad := (List.range 16).filter fun c => crcs.getD c 0 != s.digOwn c
    if s.role = roLead then
      bad.foldl (fun (s : State) c =>
        s.tell (.crcList c ((tget [] s.pair.sets c).map fun p => (p, crc32 ((s.pageBytes c p).map (·.toNat)))))) s
    else if s.role = roHeel ∧ s.pair.joined.isSome then
      let s := s.wr PAIR_DIGSTAT_MISMATCH (bad.foldl (fun a c => a + 2 ^ c) 0)
      let s := s.inc PAIR_DIGCNT_COUNT bad.length
      let s := if bad.isEmpty then s else s.wr PAIR_STAT_MISEV 1
      -- clusters that agree and have no copy pending leave RESYNC; the others age
      let keep := s.pair.resync.filter fun q => bad.contains q.1 || !q.2.2.isEmpty
      let s := s.modPair fun x => { x with resync := keep.map fun q => (q.1, q.2.1 + 1, q.2.2), agree := if bad.isEmpty then x.agree + 1 else 0 }
      let s := (s.pair.resync.filter fun q => q.2.1 == 3000).foldl (fun (s : State) q => s.emit (mkRec cDegraded 0 0x0018 uCluster q.1 [])) s
      let s := (bad.filter fun c => !(s.pair.resync.any fun q => q.1 == c)).foldl (fun (s : State) c =>
        (s.modPair fun x => { x with resync := x.resync ++ [(c, 0, [])] }).emit (mkRec cCorrected 0 0x0008 uCluster c [])) s
      let since := match s.pair.joined with | some e => n + 1 - e | none => 0
      let s := if s.hstate = hsSyncing ∧ s.sweepPass ≤ s.pair.agree ∧ s.longestLine ≤ since * s.fs then s.wr PAIR_STAT_HSTATE hsSynced else s
      s.countResync
    else s

/-- The peer's digests for frame `n` arrive; those that come before the own ones are formed wait for them (R346). -/
def State.peerDigests (s : State) (n : Nat) (crcs : List Nat) : State :=
  if s.on PAIR_STAT_LINK && decide (s.pair.setsN < n) then s.modPair fun x => { x with early := some (n, crcs) }
  else s.compareDigests n crcs

/-- Digests that have waited are compared once the own ones stand (R346). -/
def State.earlyDigests (s : State) : State :=
  match s.pair.early with
  | some (n, crcs) => if n ≤ s.pair.setsN then (s.modPair fun x => { x with early := none }).compareDigests n crcs else s
  | none => s

/-- The lead's CRC-32 values of a cluster's digest set arrive; the pages that differ are listed (R346). -/
def State.pageCrcs (s : State) (c : Nat) (l : List (Nat × Nat)) : State :=
  if s.role ≠ roHeel ∨ !(s.pair.resync.any fun q => q.1 == c) then s
  else
    let diff := (l.filter fun q => decide (q.1 < s.sramPages c) && crc32 ((s.pageBytes c q.1).map (·.toNat)) != q.2).map Prod.fst
    let s := s.modPair fun x => { x with resync := x.resync.map fun q => if q.1 = c then (c, q.2.1, sortNat (q.2.2 ++ diff).eraseDups) else q }
    (if diff.isEmpty then s else s.tell (.want c diff)).countResync

/-- A page of cluster SRAM arrives (R346, R347). -/
def State.pageCopy (s : State) (c p : Nat) (bytes : List Byte) : State :=
  if (s.role = roHeel ∨ s.role = roLead) ∧ c < 16 ∧ p < s.sramPages c then
    (s.modPair fun x => { x with got := x.got ++ [(c, p, padTo 512 bytes)] }).inc PAIR_COPYCNT_COUNT 1
  else s

/-- Pages received are installed by remap exchange in the downbeat's dispatcher step (R346). -/
def State.installCopies (s : State) : State :=
  let l := s.pair.got
  let s := s.modPair fun x => { x with got := [] }
  (l.foldl (fun (s : State) q =>
    match s.newShadow q.1 q.2.1 clOutput with
    | none => s.modPair fun x => { x with got := x.got ++ [q] }
    | some (f, s) =>
      let s := (List.range 64).foldl (fun (s : State) i => s.touchWord (frameAddr q.1 f / 8 + i)) s
      let s := { s with mem := putBytes s.mem (frameAddr q.1 f) q.2.2 }
      let s := (s.installFrame (pageKey q.1 q.2.1) f).setMark (pageKey q.1 q.2.1) none
      s.modPair fun x => { x with resync := x.resync.map fun r => if r.1 = q.1 then (r.1, r.2.1, r.2.2.filter (· ≠ q.2.1)) else r }) s).countResync

/-- Pages by increasing page number, each once. -/
def pageOrder (l : List (Nat × Nat)) : List (Nat × Nat) :=
  (sortNat (l.map fun q => q.2 * 16 + q.1)).eraseDups.map fun k => (k % 16, k / 16)

/-- In the commit window the pages that the peer has listed are sent as they stand, by increasing page number and as many as
the lanes carry; the others wait for later windows (R346, R347). -/
def State.sendPages (s : State) (asked : List (Nat × Nat)) : State :=
  let cap := match s.lanesIn.length with | 2 => 128 | 3 => 256 | 0 => 0 | 1 => 0 | _ => 384
  if !s.on PAIR_STAT_LINK then s.modPair fun x => { x with asked := [] }
  else
    let l := pageOrder (s.pair.asked ++ asked.filter fun q => decide (q.1 < 16) && decide (q.2 < s.sramPages q.1))
    (l.take cap).foldl (fun (s : State) q =>
      let (s, bs) := s.memGet 20 0 (pageAddr q.1 q.2) 512
      (s.tell (.page q.1 q.2 bs)).inc PAIR_COPYCNT_COUNT 1) (s.modPair fun x => { x with asked := l.drop cap })

/-! ## Joining (R348) -/

/-- The words of a register table, as bytes. -/
def State.tableBytes (s : State) (f : Nat → Fld) (n : Nat) : List Nat :=
  (List.range n).flatMap fun i => (leBytes (s.rd (f i)) 4).map (·.toNat)

/-- A register's word, its fields as they stand. -/
def State.rowWord (s : State) (r : RegRow) (i : Nat) : Nat := (r.flds i).foldl (fun a q => a + s.rd q.2.1 * 2 ^ q.1) 0

/-- The CRC-64 values of the configuration check (R348): the active instruction memory of logical core 0 of cluster 0, the
4,095 context records, the map, completion and subscription tables, and ROUTE.COMAP, each as little-endian words. -/
def State.confCrcs (s : State) : List Nat :=
  let k := s.physOf 0 0
  [ crc64 ((s.devGet (0x04020000 + k * 0x40000 + s.rd CORECTL_IMSEL_SEL * 0x4000) 0x4000).map (·.toNat)),
    crc64 (s.tableBytes (fun i => DISP_CTXDATA_WORD (16 + i)) (4095 * 16)),
    crc64 (s.tableBytes DISP_MAPDATA_WORD 8192),
    crc64 (s.tableBytes DISP_CMPDATA_ENTRY 8192),
    crc64 (s.tableBytes DISP_SUBDATA_ENTRY 8192),
    crc64 ((List.range 2048).flatMap fun i => (leBytes (s.rowWord row_ROUTE_COMAP i) 4).map (·.toNat)) ]

/-- One check of the joining heel: of the link in LINK; in CHECK of the marker's n and its distance in ns, the peer's
role, and the configuration, `conf` being the peer's CRC-64 values. -/
def State.joinCheck (s : State) (n skew : Nat) (lead : Bool) (conf : List Nat) : State :=
  if s.role ≠ roHeel then s
  else if s.hstate = hsLink then
    if s.on PAIR_STAT_LINK && decide (4 ≤ s.lanesIn.length) && decide (s.rd PAIR_LINKSTAT_DELAY ≤ 5000) then s.wr PAIR_STAT_HSTATE hsCheck
    else s.joinFails 1
  else if s.hstate = hsCheck then
    if n ≠ s.frame ∨ 1000 < skew then s.joinFails 2
    else if !lead then s.joinFails 4
    else if conf ≠ s.confCrcs then s.joinFails 3
    else s.wr PAIR_STAT_HSTATE hsCopy
  else s

/-- Content of the copy arrives; none marks that nothing is left to resend. -/
def State.joinItem (s : State) (x : Option JoinItem) : State :=
  if s.role ≠ roHeel ∨ s.hstate ≠ hsCopy then s
  else match x with
  | some i => s.modPair fun x => { x with items := x.items ++ [i] }
  | none => s.modPair fun x => { x with copied := true }

/-- Installs one piece of the copy. -/
def State.installItem (s : State) : JoinItem → State
  | .page p chg j0 kk epoch pool stage target active =>
    let s := if pool = 1 then (if s.on (EPOCH_PGSTAT_POOL p) then s else (s.takePool p 0 []).1) else s.dropPool p
    let s := ((s.devPut (targetAddr p) (padTo 1024 target)).devPut (activeAddr p) (padTo 1024 active)).devPut (stageAddr p) (padTo 1024 stage)
    ((s.wr (EPOCH_PGSTAT_CHG p) chg).wr (EPOCH_PGEPOCH_EPOCH p) epoch).setPage p { s.page p with j0, kk }
  | .engine hi free acc pend =>
    { (s.wr EPOCH_HIGH_EPOCH hi).wr EPOCH_POOL_FREE free with epoch := { s.epoch with accepted := acc, pend } }
  | .bus b x => { s with route := { s.route with buses := tput Bus.reset s.route.buses b x } }
  | .dest d x => s.setDest d x

/-- D(e): the heel installs the copy, and grants and mirrored inputs begin (R348). -/
def State.joinInstall (s : State) (n : Nat) : State :=
  if s.role = roHeel ∧ s.hstate = hsCopy ∧ s.pair.copied then
    let l := s.pair.items
    let s := s.modPair fun x => { x with items := [], copied := false, joined := some n, agree := 0 }
    l.foldl State.installItem (s.wr PAIR_STAT_HSTATE hsSyncing)
  else s

/-! ## The leash (R351 to R354) -/

/-- LEASH(k) arrives (R351, R354). -/
def State.leash (s : State) (k : Nat) : State :=
  if s.role = roHeel then
    let s := s.modPair fun x => { x with expiry := some (k + 3) }
    (((s.wr PAIR_LEASH_STATE 2).wr PAIR_LEASH_LEFT (min 3 (k + 3 - s.frame))).wr PAIR_LEASH_LASTN k).tell (.leashAck k)
  else if s.role = roLead then
    (((s.setRole roFenced).wr PAIR_STAT_FENCEEV 1).wr PAIR_LEASH_STATE 3).emit (mkRec cDegraded 0 0x001A uDevice 0 [])
  else s

/-- The heel's acknowledgement of LEASH(k) arrives; it renews the lease by D(k) + 50 µs (R351). -/
def State.leashAck (s : State) (k : Nat) : State :=
  if s.role = roLead ∧ k = s.frame ∧ s.bc ≤ s.io.dbAt + 50000 then
    (((s.modPair fun x => { x with renewed := some k }).wr PAIR_LEASH_STATE 1).wr PAIR_LEASH_LEFT 3).wr PAIR_LEASH_LASTN k
  else s

/-- The lead's judgement at the commit point of frame `n` (R352). -/
def State.leadFence (s : State) (n : Nat) : State :=
  match s.pair.renewed with
  | none => s
  | some m =>
    if s.role ≠ roLead ∨ n < m + 2 then s
    else if s.on PAIR_STAT_PEERHB then
      (((s.setRole roFenced).wr PAIR_STAT_FENCEEV 1).wr PAIR_LEASH_STATE 3).incSat PAIR_CNT_FENCES 1
    else s.leaveRole roSolo

/-- The heel at D(n): it takes authority, or is lost, when its lease has expired (R353). -/
def State.heelTakeover (s : State) (n : Nat) : State :=
  match s.pair.expiry with
  | none => s
  | some e =>
    if s.role ≠ roHeel ∨ n < e then s
    else if s.hstate = hsSynced ∨ s.hstate = hsResync then
      if !s.on PAIR_STAT_PEERHB && s.heartbeat then
        let pages := s.rd PAIR_COPYPEND_PAGES
        let s := ((s.leaveRole roSolo).wr PAIR_STAT_TAKEEV 1).incSat PAIR_CNT_TAKEOVERS 1
        (s.event 0x0008 warden (leBytes pages 2)).emit (mkRec cDegraded 0 0x0019 uDevice 0 (d16 pages))
      else s.wr PAIR_LEASH_STATE 3
    else s.joinFails 5

/-- LEFT at D(n) (R355). -/
def State.leashLeft (s : State) (n : Nat) : State :=
  match (if s.role = roHeel then s.pair.expiry else if s.role = roLead then s.pair.renewed.map (· + 3) else none) with
  | none => s
  | some e => (s.wr PAIR_LEASH_LEFT (min 3 (e - n))).wr PAIR_LEASH_STATE (if e ≤ n then 3 else if s.role = roLead then 1 else 2)

/-- Pairing at D(n), before its dispatcher step (R339, R340, R348, R351, R353). -/
def State.pairDownbeat (s : State) (n : Nat) : State :=
  let s := s.modPair fun x => { x with out := [] }
  let s := ((s.laneTurn.heelTakeover n).joinInstall n).leashLeft n
  if !s.on PAIR_STAT_LINK then s
  else
    let s := s.tell .echo
    let s := match s.integ.inj with
      | some j => if j.check == 7 && j.utype == uLane then s.injDone else s
      | none => s
    if s.role = roLead then (s.tell (.leash n)).tell (.marker n) else s

/-- Pairing at the commit point of frame `n` (R345, R346, R352). -/
def State.pairCommit (s : State) (n : Nat) (asked : List (Nat × Nat)) : State :=
  ((s.formDigests n).earlyDigests.sendPages asked).leadFence n

/-! ## Registers (R355) -/

/-- Writes of PAIR registers. A write of CMD that leaves the RWW field OP as it is passes for any accessor (R440); that it is no
command then is read from R348, which has the warden write it (log entry 51). -/
def pairHook : OptHook := fun s w r _ v t =>
  if r.addr = 0x0A140000 then
    if bits v 4 4 = 0 || bits v 8 8 = 0 then none
    else if s.role ≠ roDetached && (bits v 4 4 != s.rd PAIR_CTRL_SWEEP || bits v 8 8 != s.rd PAIR_CTRL_MIRTO) then none
    else some t
  else if r.addr = 0x0A140004 then some (if w.q = warden then t.pairCmd (bits v 0 3) else t)
  else if r.addr = 0x0A140034 then
    if bit v 31 then
      let l := bits v 0 3
      let u := t.laneDecide l true
      some (if u.pair.lanes.any fun q => q.1 == l then u else u.wr PAIR_LANECMD_GO 0)
    else some (if s.on PAIR_LANECMD_GO then t.wr PAIR_LANECMD_GO 1 else t)
  else if r.addr = 0x0A140068 then (if s.role ≠ roDetached && bits v 0 4 != s.rd PAIR_MIRCFG_CLASSES then none else some t)
  else some t

end Sys2Proof.Machine
end

