-- ==== Sys2Proof/Machine/Integrity.lean ====
section
/-! DEFINITION. Fault injection and the FATAL latch (R370, R372, R373, R375). -/
namespace Sys2Proof.Machine

/-- Unit types that an injection of a check may name (R372). -/
def injTypes (check : Nat) : List Nat :=
  if check = 1 then [uMacro, uDram]
  else if check = 3 then [uMaster]
  else if check = 4 then [uCore]
  else if check = 5 then [uEndpoint]
  else if check = 6 then [uMac]
  else if check = 7 then [uLane]
  else if check = 8 then [uAmp]
  else if check = 9 then [uDac]
  else if check = 10 then [uMacro]
  else if check = 13 then [uEndpoint, uSide, uMic, uAsrc, uPlayer, uAmp, uDac]
  else []

/-- Instances of a unit type (R365, R172, R152). -/
def unitCount (ty : Nat) : Nat :=
  if ty = uCore then 256 else if ty = uMacro then 1584 else if ty = uDram then 2 else if ty = uMaster then 24
  else if ty = uEndpoint then 0x4000 else if ty = uAmp then 128 else if ty = uDac then 9 else if ty = uPlayer then 24
  else if ty = uLane then 5 else if ty = uMic then 64 else if ty = uAsrc then 16 else if ty = uMac then 4
  else if ty = uSide then 16 else 0

/-- The device address of an offset of DRAM controller `d` (R167). -/
def State.dramByte (s : State) (d off : Nat) : Option Nat :=
  if !s.dramPop d || s.dramU d ≤ off then none
  else if s.dramPop 0 && s.dramPop 1 then some (2 ^ 32 + off / 256 * 512 + d * 256 + off % 256)
  else some (2 ^ 32 + off)

/-- A macro is out of service: its cluster is OFF, or its global bank is retired (R164, R373, R408). -/
def State.macroAway (s : State) (u : Nat) : Bool :=
  if u < 1152 then s.power (if u < 256 then clusterOf u else if u < 768 then clusterOf ((u - 256) / 2) else (u - 768) / 24) == 0
  else
    let b := (u - 1152) / 8
    decide (b < 32) && s.servingBank b != b

/-- The target of an injection is retired, OFF or not in service (R373). -/
def State.injAway (s : State) (check ty u off : Nat) : Bool :=
  if ty = uCore then s.rd (CORECTL_CSTAT_STATE u) == stRetired || s.rd (CORECTL_CSTAT_STATE u) == stOff || s.rd (CORECTL_CSTAT_STATE u) == stSpare
  else if ty = uMacro then s.macroAway u || (check == 1 && (s.macroByte u off).isNone)
  else if ty = uDram then s.rd (DRAMC_STAT_STATE u) != 2 || (s.dramByte u off).isNone
  else if ty = uAmp then s.ampState u == amOff || ((s.amp u).gone && !s.on (AMP_STAT_SPARE u))
  else if ty = uDac then u == 8 || !(s.dac u).en || ((s.dac u).gone && !s.on (BELL_STAT_SPARE u))
  else if ty = uLane then s.rd (PAIR_LANE_STATE u) != laIn
  else if ty = uMac then !s.on (NET_CTRL_EN u)
  else if ty = uMic then s.rd (micField u) == 0
  else if ty = uAsrc then !s.on (SPORT_ASRC_EN u)
  else if ty = uSide then !s.on (ROUTE_STSTAT_ACTIVE u)
  else false

/-- Bits of the raw word that an injection of check 1 inverts (R372): those of its two numbers that are bits of the
72-bit word, none where both are the same. -/
def injBits (arg : Nat) : Nat :=
  let a := bits arg 0 7
  let b := bits arg 8 7
  if bit arg 15 then (if a = b then 0 else b2n (decide (a < 72)) + b2n (decide (b < 72))) else b2n (decide (a < 72))

/-- An injection ends at once with a result. -/
def State.injEnd (s : State) (res done : Nat) : State :=
  ((s.wr INTG_INJCTRL_BUSY 0).wr INTG_INJSTAT_RESULT res).wr INTG_INJSTAT_DONE done

/-- The warden arms an injection (R372, R373). -/
def State.injGo (s : State) : State :=
  let check := s.rd INTG_INJCTRL_CHECK
  let ty := s.rd INTG_INJTGT_UTYPE
  let u := s.rd INTG_INJTGT_UINST
  let arg := s.rd INTG_INJARG_ARG
  let off := s.rd INTG_INJADDR_OFFS
  let cnt := s.rd INTG_INJCTRL_COUNT
  let s := (s.wr INTG_INJSTAT_DONE 0).wr INTG_INJSTAT_RESULT 0
  if !(injTypes check).contains ty || unitCount ty ≤ u then s.injEnd 2 0
  else if s.anyPlan && s.unitPart ty u == 0 then s.injEnd 2 0
  else if s.injAway check ty u off then s.injEnd 3 0
  else
    let s : State := { s with integ := { s.integ with inj := some ⟨check, ty, u, arg, off, cnt⟩ } }
    let s := s.wr INTG_INJCTRL_BUSY 1
    if check = 1 then
      let p := if ty = uDram then s.dramByte u off else s.macroByte u off
      match p, injBits arg with
      | some p, k + 1 => { s with integ := { s.integ with flips := (p / 8, k + 1) :: s.integ.flips.filter fun f => f.1 ≠ p / 8 } }
      | _, _ => { s with integ := { s.integ with inj := none } }.injEnd 1 cnt
    else s

/-- FATCLR (R370, R375). -/
def State.fatClr (s : State) : State :=
  (List.range 8).foldl (fun (s : State) w => s.wr (INTG_FATREC_WORD w) 0) { s with integ := { s.integ with latched := false } }

/-- Writes of INTG registers (R375); one that changes an injection register while BUSY is refused (R440). -/
def intgHook : OptHook := fun s w r _ v t =>
  if r.addr = 0x0A1500A0 then some (if bit v 0 then t.fatClr else t)
  else if 0x0A150100 ≤ r.addr && r.addr ≤ 0x0A15010C then
    if s.on INTG_INJCTRL_BUSY then
      (if (r.flds 0).any (fun q => q.2.2 != .ro && bits v q.1 q.2.1.w != s.rd q.2.1) then none else some t)
    else if r.addr = 0x0A150100 then
      if bits v 8 8 = 0 then none else some (if bit v 0 && w.q == warden then t.injGo else t)
    else some t
  else some t

end Sys2Proof.Machine
end

