-- ==== Sys2Proof/Machine/Board.lean ====
section
/-! DEFINITION. Cluster power states, junction temperature, module descriptors, the UART, the device rate, and the
registers of blocks SYS, PWR and MODID (R25, R407 to R413, R417 to R421). -/
namespace Sys2Proof.Machine

def State.modBoard (s : State) (f : BoardSt → BoardSt) : State := { s with board := f s.board }

/-! ## The UART (R417) -/

/-- A host write of UARTDATA: the byte is queued, or discarded where the transmit FIFO is full. -/
def State.uartWrite (s : State) (x : Nat) : State :=
  if 64 ≤ (s.board.uart.filter fun e => !e.1).length then s.wr SYS_UARTSTAT_TXOVF 1 else s.uartQueue false [x % 256]

/-- A read of UARTDATA: the oldest received byte and whether there is one. -/
def State.uartRead (s : State) : State × Nat :=
  match s.board.uartRx with
  | [] => (s, 0)
  | x :: l => ((s.modBoard fun q => { q with uartRx := l }).wr SYS_UARTSTAT_RXCOUNT l.length, x + 256)

/-- A byte is received on UART_RXD. -/
def State.uartByte (s : State) (x : Nat) : State :=
  if 64 ≤ s.board.uartRx.length then s.wr SYS_UARTSTAT_RXOVF 1
  else
    let l := s.board.uartRx ++ [x % 256]
    (s.modBoard fun q => { q with uartRx := l }).wr SYS_UARTSTAT_RXCOUNT l.length

/-- The byte at the head has been sent: a device line and host bytes follow in the order in which they came,
never within each other. -/
def State.uartSent (s : State) : State := (s.modBoard fun q => { q with uart := q.uart.drop 1 }).uartQueue false []

/-- The line at the end of boot phase `n`. -/
def State.phaseLine (s : State) (n : Nat) : State :=
  s.uartLine [71, 76, 66] ([48 + n, 32] ++ hexText (s.rowVal row_SYS_BOOTSTAT 0) 8)

/-! ## Junction temperature (R409, R420) -/

/-- A reading of Tj in 0.25 °C: the registers, THERM_TRIP_N, and the THERM_WARN events. -/
def State.junction (s : State) (tj : BitVec 10) : State :=
  let x := tj.toInt
  let s := s.wr PWR_TEMP_TJ tj.toNat
  let s := if sx 10 (s.rd PWR_TEMP_TJHIGH) < x then s.wr PWR_TEMP_TJHIGH tj.toNat else s
  let tell := fun (s : State) (kind : Nat) => s.event 0x000B warden (leBytes (tj.signExtend 16).toNat 2 ++ leBytes kind 1)
  let s := s.wr PWR_THERM_WARN (b2n (472 ≤ x))
  let s : State :=
    if 472 ≤ x && !s.board.warned then tell ((s.modBoard fun q => { q with warned := true }).wr PWR_THERM_WARNEV 1) 0
    else if x < 460 then s.modBoard fun q => { q with warned := false }
    else s
  if 500 ≤ x && !s.on PWR_THERM_TRIP then tell ((s.wr PWR_THERM_TRIP 1).wr PWR_THERM_TRIPEV 1) 1
  else if x < 480 && s.on PWR_THERM_TRIP then tell (s.wr PWR_THERM_TRIP 0) 2
  else s

/-- Mean rail currents of the frame that ends: measurements, free values (R420). -/
def State.railCurrents (s : State) : State :=
  (List.range 8).foldl (fun (s : State) r =>
    let i := s.free 16
    let s := s.used.wr (PWR_IRAIL_I r) i
    if s.rd (PWR_IRAIL_MAX r) < i then s.wr (PWR_IRAIL_MAX r) i else s) s

/-! ## Cluster power (R408) -/

/-- Memory from `a` on takes `n` bytes of unspecified content, each a free value. -/
def State.scramble (s : State) (a n : Nat) : State :=
  let mid := (List.range n).filterMap fun i =>
    let v : Byte := (Config.freeValue (s.fresh + i)).setWidth 8
    if v = 0 then none else some (a + i, v)
  { s with mem := (s.mem.filter fun q => q.1 < a) ++ mid ++ s.mem.filter fun q => a + n ≤ q.1
           fresh := s.fresh + n
           poison := s.poison.filter fun w => !(a ≤ w * 8 && w * 8 < a + n)
           integ := { s.integ with flips := s.integ.flips.filter fun q => !(a ≤ q.1 * 8 && q.1 * 8 < a + n)
                                   worn := s.integ.worn.filter fun w => !(a ≤ w * 8 && w * 8 < a + n) } }

/-- The memories of a cluster lose their content (R149, R408). -/
def State.clusterLost (s : State) (c : Nat) : State :=
  let s := s.scramble (0x01000000 + c * 0x180000) 0x180000
  let s := (List.range 16).foldl (fun (s : State) i =>
    let a := 0x04000000 + (c * 16 + i) * 0x40000
    (s.scramble a 0x10000).scramble (a + 0x20000) 0x8000) s
  { s with sram := { s.sram with marks := s.sram.marks.filter fun q => q.1 / 3072 ≠ c } }

/-- The frames of a cluster that runs in progress hold (R148). -/
def State.heldFrames (s : State) (c : Nat) : List Nat :=
  let ofRun := fun (r : Run) => r.shadows.filterMap fun q => if q.1 / 3072 = c then some q.2 else none
  (List.range 256).flatMap fun k =>
    let x := s.core k
    (match x.run with | some r => ofRun r | none => []) ++ (match x.aside with | some a => ofRun a.run | none => [])

/-- After OFF the remap of a cluster that enters RUN is the identity and its content undefined (R149, R408). -/
def State.clusterFresh (s : State) (c : Nat) : State :=
  let held := s.heldFrames c
  let s := s.clusterLost c
  let s : State := { s with sram := { s.sram with remap := s.sram.remap.filter fun q => q.1 / 3072 ≠ c } }
  s.setPool c (((List.range (s.rd (XBAR_CSPOOL_POOL c))).map (· + s.sramPages c)).filter fun f => !held.contains f)

/-- A cluster enters RUN: its in-service cores perform FETCH, its spares are SPARE, retired cores stay (R408). -/
def State.clusterRun (s : State) (c : Nat) : State :=
  let s := if s.board.lost.contains c then
    (s.modBoard fun q => { q with lost := q.lost.filter (· ≠ c) }).clusterFresh c else s
  (List.range 16).foldl (fun (s : State) i =>
    let k := c * 16 + i
    if (s.core k).retired then s
    else if (s.logicalOf c i).isSome then s.coreToFetch k
    else s.wr (CORECTL_CSTAT_STATE k) stSpare) s

/-- A cluster leaves RUN: its in-service cores are OFF (R78), tests of it are abandoned (R165). -/
def State.clusterStop (s : State) (c : Nat) : State :=
  let s := s.memtAbandon c
  (List.range 16).foldl (fun (s : State) i =>
    let k := c * 16 + i
    if (s.core k).retired || (s.logicalOf c i).isNone then s
    else
      (s.wr (CORECTL_CSTAT_STATE k) stOff).unfetch k) s

/-- The power state of a cluster takes effect. -/
def State.setPower (s : State) (c x : Nat) : State :=
  let old := s.power c
  let s : State := { s with pwr := { s.pwr with act := tput 1 s.pwr.act c x, reqAt := tdel s.pwr.reqAt c } }
  let s := s.wr (PWR_CSTAT_STATE c) x
  let s := if old = 2 && x ≠ 2 then s.clusterStop c else s
  let s := if old ≠ 0 && x = 0 then
    ((s.fence 0).modBoard fun q => { q with lost := c :: q.lost.filter (· ≠ c) }).clusterLost c else s
  if old ≠ 2 && x = 2 then s.clusterRun c else s

/-- Some run is in progress on the cluster's cores. -/
def State.clusterBusy (s : State) (c : Nat) : Bool :=
  (List.range 16).any fun i => let x := s.core (c * 16 + i); x.run.isSome || x.aside.isSome

/-- Power requests at a downbeat (R408). -/
def State.powerDownbeat (s : State) : State :=
  (List.range 16).foldl (fun (s : State) c =>
    let x := s.rd (PWR_CREQ_REQ c)
    if s.rd (PWR_CSTAT_STATE c) ≠ 3 || s.clusterBusy c then s
    else if s.power c = 0 && x == 2 && decide (s.bc < tget 0 s.pwr.reqAt c + 2000000) then s
    else s.setPower c x) s

/-- A write of CREQ (R408): each changed request waits for its downbeat; one for the state in effect cancels. -/
def State.powerRequest (s : State) (v : Nat) : Option State :=
  if (List.range 16).any fun c => bits v (2 * c) 2 == 3 then none
  else some ((List.range 16).foldl (fun (s : State) c =>
    let x := bits v (2 * c) 2
    if x = s.rd (PWR_CREQ_REQ c) then s
    else
      let s := s.wr (PWR_CREQ_REQ c) x
      if x = s.power c then { s with pwr := { s.pwr with reqAt := tdel s.pwr.reqAt c } }.wr (PWR_CSTAT_STATE c) x
      else { s with pwr := { s.pwr with reqAt := tput 0 s.pwr.reqAt c s.bc } }.wr (PWR_CSTAT_STATE c) 3) s)

/-- PWR registers (R408, R420). -/
def pwrHook : OptHook := fun s _ r _ v t =>
  if r.addr = 0x0A180000 then s.powerRequest v
  else if r.addr = 0x0A180010 then some (if bit v 31 then s.wr PWR_TEMP_TJHIGH (s.rd PWR_TEMP_TJ) else s)
  else if r.addr = 0x0A180040 then
    some (if bit v 0 then (List.range 8).foldl (fun (s : State) q => s.wr (PWR_IRAIL_MAX q) (s.rd (PWR_IRAIL_I q))) s else s)
  else some t

/-! ## Module descriptors (R410 to R413) -/

def slAbsent : Nat := 0
def slDebounce : Nat := 1
def slReading : Nat := 2
def slValid : Nat := 3
def slCrcErr : Nat := 4
def slNoAck : Nat := 5
def slBadFmt : Nat := 6

/-- A slot takes a state: CHGEV and the event MOD_CHANGE (R413). -/
def State.slotState (s : State) (x st : Nat) : State :=
  if s.rd (MODID_SSTAT_STATE x) = st then s
  else ((s.wr (MODID_SSTAT_STATE x) st).wr (MODID_SSTAT_CHGEV x) 1).event 0x000C (s.partBlock 0x19) (leBytes x 1 ++ leBytes st 1)

/-- The stored descriptor of a slot. -/
def State.descr (s : State) (x : Nat) : List Nat := tget [] s.board.store x

/-- Bytes `lo` to `lo + n − 1` of a descriptor, little-endian. -/
def ofBytes (l : List Nat) (lo n : Nat) : Nat := ((l.drop lo).take n).foldr (fun x v => x + 256 * v) 0

/-- The records of a descriptor, type and value; `fuel` bounds their number. -/
def descRecords : Nat → List Nat → List (Nat × List Nat)
  | 0, _ => []
  | _, [] => []
  | _, [_] => []
  | fuel + 1, ty :: n :: rest => if rest.length < n then [] else (ty, rest.take n) :: descRecords fuel (rest.drop n)

/-- The records between the header and the CRC. -/
def recordsOf (l : List Nat) : List (Nat × List Nat) := descRecords l.length ((l.take (l.length - 4)).drop 16)

/-- First amplifier channel and count of an AMPLIFIER descriptor. -/
def chanMap (l : List Nat) : Option (Nat × Nat) :=
  if l.getD 6 0 ≠ 1 then none
  else ((recordsOf l).find? fun r => r.1 == 1 && r.2.length == 2).map fun r => (r.2.getD 0 0, r.2.getD 1 0)

/-- Slot `x` holds a valid descriptor that maps channel `k`. -/
def State.slotMaps (s : State) (x k : Nat) : Bool :=
  s.rd (MODID_SSTAT_STATE x) == slValid &&
  match chanMap (s.descr x) with | some (f, n) => decide (f ≤ k) && decide (k < f + n) | none => false

/-- CONFLICT: a lower slot maps one of the slot's channels (R413). -/
def State.conflicts (s : State) : State :=
  (List.range 32).foldl (fun (s : State) x =>
    s.wr (MODID_SSTAT_CONFLICT x) (b2n ((List.range x).any fun y => (List.range 128).any fun k => s.slotMaps x k && s.slotMaps y k))) s

/-- The record of a type for a module-relative channel: its own, else that of 0xFF (R412). -/
def chanRec (l : List Nat) (ty len i : Nat) : Option (List Nat) :=
  let rs := (recordsOf l).filter fun r => r.1 == ty && r.2.length == len
  ((rs.find? fun r => r.2.getD 0 0 == i).orElse fun _ => rs.find? fun r => r.2.getD 0 0 == 0xFF).map (·.2)

/-- A scale corrected by CAL: round(x × (1 + corr / 10,000)), halves up. -/
def calibrated (x : Nat) (corr : Int) : Nat := ((2 * (x * (10000 + corr)) + 10000) / 20000).toNat

/-- Channel `k` takes its parameters from the descriptor of slot `x` (R298, R412); `fresh` starts its thermal state
at 0. -/
def State.loadChannel (s : State) (x k : Nat) (fresh : Bool) : State :=
  let l := s.descr x
  match chanMap l with
  | none => s
  | some (f, _) =>
    let i := k - f
    let one := fun ty => ((recordsOf l).find? fun r => r.1 == ty && r.2.length == 4).map (·.2)
    let sense := one 2
    let rating := one 3
    let spk := chanRec l 4 25 i
    let cal := ((chanRec l 5 5 i).map fun v => (sx 16 (ofBytes v 1 2), sx 16 (ofBytes v 3 2))).getD (0, 0)
    let s := match sense with
      | some v => (s.wr (AMP_SCALE_VFS k) (calibrated (ofBytes v 0 2) cal.1)).wr (AMP_SCALE_IFS k) (calibrated (ofBytes v 2 2) cal.2)
      | none => s
    let s := match rating with
      | some v => (s.wr (GUARD_RATING_VRATED k) (ofBytes v 0 2)).wr (GUARD_RATING_ITRIP k) (ofBytes v 2 2)
      | none => s
    let s := match spk with
      | some v =>
        let w := fun j => ofBytes v (1 + 2 * j) 2
        [(GUARD_RE_RE k, w 0), (GUARD_RE_LE k, w 1), (GUARD_BL_BL k, w 2), (GUARD_BL_MMS k, w 3), (GUARD_KMS_KMS k, w 4),
          (GUARD_KMS_RMS k, w 5), (GUARD_XMAX_XMAX k, w 6), (GUARD_RTH_RTH1 k, w 7), (GUARD_RTH_RTH2 k, w 8),
          (GUARD_TAU_TAU1 k, w 9), (GUARD_TAU_TAU2 k, w 10), (GUARD_TEMP_TMAX k, w 11)].foldl
          (fun (s : State) (q : Fld × Nat) => s.wr q.1 q.2) s
      | none => s
    let s := [(GUARD_XMAX_XLIM k, 100), (GUARD_XMAX_RREL k, 20), (GUARD_TEMP_TMARG k, 10), (GUARD_TEMP_GTMIN k, 40),
      (GUARD_TEMP_TAMB k, 40)].foldl (fun (s : State) (q : Fld × Nat) => s.wr q.1 q.2) s
    if sense.isSome && rating.isSome && spk.isSome then s.protect k 1 fresh else s.unprotect k

/-- Channels of slot `x` for which no lower slot has the say. -/
def State.slotChannels (s : State) (x : Nat) : List Nat :=
  (List.range 128).filter fun k => s.slotMaps x k && !(List.range x).any fun y => s.slotMaps y k

/-- A valid descriptor applies to its channels: at once in OFF and DIAG, else at the next downbeat (R413). -/
def State.applySlot (s : State) (x : Nat) : State :=
  (s.slotChannels x).foldl (fun (s : State) k =>
    let st := s.ampState k
    if st = amOff ∨ st = amDiag then s.loadChannel x k true
    else s.modBoard fun q => { q with due := (q.due.filter fun e => e.1 ≠ k) ++ [(k, x)] }) s

/-- Descriptor loads that are due at a downbeat keep the thermal state (R413). -/
def State.modulesDownbeat (s : State) : State :=
  let l := s.board.due
  l.foldl (fun (s : State) e => s.loadChannel e.2 e.1 false) (s.modBoard fun q => { q with due := [] })

/-- A slot's presence: MOD_PRES_N is asserted (DEBOUNCE), or has been for DEB ms and its descriptor is read. -/
def State.presence (s : State) (x : Nat) (held : Bool) : State :=
  let s := s.wr (MODID_SSTAT_PRES x) 1
  let s := if s.rd (MODID_SSTAT_STATE x) = slAbsent then s.slotState x slDebounce else s
  if held && s.rd (MODID_SSTAT_STATE x) == slDebounce then s.slotState x slReading else s

/-- A slot's presence is released: nothing but the slot's state changes (R413). -/
def State.removed (s : State) (x : Nat) : State := ((s.wr (MODID_SSTAT_PRES x) 0).slotState x slAbsent).conflicts

/-- The end of a descriptor read: `rom` is what the EEPROM holds, none where it does not acknowledge (R411 to R413). -/
def State.descriptorRead (s : State) (x : Nat) (rom : Option (List Nat)) : State :=
  if s.rd (MODID_SSTAT_STATE x) ≠ slReading then s
  else match rom with
  | none => (s.slotState x slNoAck).conflicts
  | some l =>
    let n := ofBytes l 4 2
    if l.take 4 ≠ [0x47, 0x4D, 0x44, 0x31] ∨ n < 20 ∨ 4096 < n then (s.slotState x slBadFmt).conflicts
    else
      let d := padNat n (l.take n)
      if crc32 (d.take (n - 4)) ≠ ofBytes d (n - 4) 4 then
        let ks := match chanMap (s.descr x) with | some (f, m) => (List.range m).map (f + ·) | none => []
        let s := ks.foldl (fun (s : State) k =>
          if 128 ≤ k || !s.on (GUARD_PCTL_PVALID k) then s
          else if s.ampState k = amOff ∨ s.ampState k = amDiag then s.unprotect k
          else s.modAmp k fun a => { a with dropValid := true }) s
        (s.slotState x slCrcErr).conflicts
      else
        let s := s.modBoard fun q => { q with store := tput [] q.store x d }
        let m := (chanMap d).getD (0, 0)
        let s := (((s.wr (MODID_SLEN_L x) n).wr (MODID_SSTAT_CLASS x) (d.getD 6 0)).wr (MODID_SSTAT_FIRSTCH x) m.1).wr (MODID_SSTAT_COUNT x) m.2
        (s.slotState x slValid).conflicts.applySlot x
where
  /-- Pads to a length with bytes of an erased EEPROM. -/
  padNat (n : Nat) (l : List Nat) : List Nat := l ++ List.replicate (n - l.length) 0xFF

/-- RESCAN (R411): the named slots that hold a module are read again. -/
def State.rescan (s : State) (v : Nat) : State :=
  (List.range 32).foldl (fun (s : State) x =>
    let st := s.rd (MODID_SSTAT_STATE x)
    if bit v x && st != slAbsent && st != slDebounce then s.slotState x slReading else s) s

/-- MODID registers (R410, R411, R421). -/
def modidHook : OptHook := fun s _ r _ v t =>
  if r.addr = 0x0A190000 then (if bits v 8 8 = 0 then none else some t)
  else if r.addr = 0x0A190004 then some (s.rescan v)
  else some t

/-- DDATA: bytes OFFS to OFFS + 3 of the stored descriptor of the selected slot. -/
def State.ddata (s : State) : Nat := ofBytes (s.descr (s.rd MODID_DSEL_SLOT)) (s.rd MODID_DSEL_OFFS) 4

/-! ## The device rate (R25) -/

/-- A write of RATE.FS: accepted only while nothing runs, or where it changes nothing (R440); accepted while nothing runs, it
takes effect as a TBSEL write does. -/
def State.rateWrite (s : State) (fs : Nat) : Option State :=
  if s.on DISP_CTRL_EN || s.on ROUTE_CTRL_ENACT || !s.audioIdle || ((List.range 128).any fun k => s.ampState k != amOff)
      || ((List.range 8).any fun d => s.on (BELL_CFG_EN d)) || s.anyPlan then
    (if fs = s.rd SYS_RATE_FS then some s else none)
  else some ((s.wr SYS_RATE_FS fs).modBoard fun q => { q with rate := true }).realign

/-! ## Resets (R399, R400) -/

/-- A whole-device reset, with its bit in RSTCAUSE: what stands outside the device stays, the queue of
commands, host memory, the levels of the alarm pins, as do the die's identifier and, until release, the straps. -/
def State.wholeReset (s : State) (cause : Nat) : State :=
  let old := if s.board.held then s.rd SYS_RSTCAUSE_CAUSE else 0
  let t : State := { State.reset with pending := s.pending, hostMem := s.hostMem, fresh := s.fresh
                                      bell := { State.reset.bell with pins := s.bell.pins } }
  [(SYS_RSTCAUSE_CAUSE, setBit old cause true), (SYS_UIDL_UID, s.rd SYS_UIDL_UID), (SYS_UIDH_UID, s.rd SYS_UIDH_UID),
    (SYS_STRAP_BOOT, s.rd SYS_STRAP_BOOT), (SYS_STRAP_WARDSEL, s.rd SYS_STRAP_WARDSEL), (SYS_STRAP_SDOZ, s.rd SYS_STRAP_SDOZ)].foldl
    (fun (t : State) (q : Fld × Nat) => t.wr q.1 q.2) t

/-- Release from reset (R399 to R401): the straps are latched unless the reset was a soft one alone; the beat counter
starts, the reference clocks make their first selection, and physical indices 14 and 15 of each cluster are SPARE, the
others in service (R142). -/
def State.releaseReset (s : State) (boot : Nat) (wardsel sdoz : Bool) : State :=
  if !s.board.held then s
  else
    let s := s.modBoard fun q => { q with held := false }
    let s := (List.range 256).foldl (fun (s : State) k =>
      if k % 16 < 14 then s.inService k true else s.wr (CORECTL_CSTAT_STATE k) stSpare) s
    let s := if s.rd SYS_RSTCAUSE_CAUSE = 4 then s
      else ((s.wr SYS_STRAP_BOOT boot).wr SYS_STRAP_WARDSEL (b2n wardsel)).wr SYS_STRAP_SDOZ (b2n sdoz)
    let s := if s.on SYS_STRAP_SDOZ then (List.range 64).foldl (fun (s : State) p => s.wr (SPORT_CFG_TXZ p) 1) s else s
    { s with bc := 0 }.refsStart

/-- SYS registers (R25, R417, R419); the soft reset follows once the write of RSTCTL is complete (Bus.lean). -/
def sysHook : OptHook := fun s _ r _ v t =>
  if r.addr = 0x0A000018 then some s
  else if r.addr = 0x0A000028 then s.rateWrite (bits v 0 1)
  else if r.addr = 0x0A000030 then (if bits v 0 16 < 96 ∨ 30000 < bits v 0 16 then none else some t)
  else if r.addr = 0x0A000034 then some (s.uartWrite v)
  else some t

end Sys2Proof.Machine
end

