-- ==== Sys2Proof/Machine/Bus.lean ====
section
/-! DEFINITION. Registers by device address, computed reads, and the path of an access of a host port or a core through
the crossbar (R3, R4, R57, R60, R77, R78, R144, R153, R156, R170, R175, R179, R328, R342, R357, R376 to R378, R389,
R390, R405). -/
namespace Sys2Proof.Machine

/-! ## Registers of DISP and CORECTL -/

/-- Bit `lo` and the bits to its end name a range that holds entry `e`: first and count of word `w` of a record. -/
def State.inList (s : State) (t w wd e : Nat) : Bool :=
  let x := s.ctxWord t w
  decide (bits x 0 wd ≤ e) && decide (e < bits x 0 wd + bits x 16 5)

/-- A write of an entry that contexts name is allowed: none of another partition, none that is armed (R127, R390). -/
def State.entryOpen (s : State) (q w wd e : Nat) : Bool :=
  !(List.range 4096).any fun t => s.inList t w wd e && ((q != warden && s.partCtx t != q) || s.ctxState t != cxDisarmed)

/-- CORECMD (R141, R144): RETIRE stops grants at once; RESTORE waits for the downbeat. -/
def State.coreCmd (s : State) (k op : Nat) : State :=
  let pend := fun (s : State) (b : Bool) => s.wr DISP_CORECMD_PEND (b2n b)
  if op = 1 ∧ !(s.core k).retired then
    pend (s.modCore k fun c => { c with retire := match c.retire with | some x => some (if 0x200 ≤ x then 0 else x) | none => some 0 }) true
  else if op = 2 ∧ (s.core k).retired then
    pend { s with disp := { s.disp with restores := s.disp.restores.filter (· ≠ k) ++ [k] } } true
  else pend s false

/-- DISP registers (R126, R127, R141, R144, R390). -/
def dispHook : OptHook := fun s w r i v t =>
  if r.addr = 0x0A010008 then s.writeCmd w.q (bits v 0 4) (bits v 4 5) (bits v 16 12) (bit v 31)
  else if r.addr = 0x0A010040 then
    if w.q ≠ warden && s.partCtx (i / 16) != w.q then none
    else if s.ctxState (i / 16) ≠ cxDisarmed ∧ v ≠ s.rd (DISP_CTXDATA_WORD i) then none
    else some t
  else if r.addr = 0x0A010104 then some (if bit v 31 then s.wr DISP_SLACKMAX_MAX 0 else s)
  else if r.addr = 0x0A010300 then some (t.coreCmd (bits v 0 8) (bits v 8 2))
  else if r.addr = 0x0A010424 then
    if v ≠ s.rd (DISP_CMPDATA_ENTRY i) && !s.entryOpen w.q 10 13 i then none else some t
  else if r.addr = 0x0A010440 then
    if v ≠ s.rd (DISP_MAPDATA_WORD i) && !s.entryOpen w.q 9 11 (i / 4) then none else some t
  else if r.addr = 0x0A010500 then some (s.fire (896 + bits v 0 7))
  else some t

/-- The bundle that a core would execute next, as its instruction memory holds it. -/
def State.nextWord (s : State) (k : Nat) : DWord := BitVec.ofNat 64 (s.ld ((s.core k).bundleAddr k) 8)

/-- STEP of a held core (R78): one bundle, read from its instruction memory. -/
def State.stepCore (s : State) (k : Nat) : State :=
  if s.rd (CORECTL_CSTAT_STATE k) ≠ stHeld || !s.on CORECTL_DBG_EN then s
  else
    let t := s.modCore k fun c => { c with stepping := true }
    if !t.canRun k then s
    else if reservedWord (s.core k).pc (s.nextWord k) then t.runReserved k
    else match decodeBundle (s.nextWord k) with
    | some b => t.runBundle k b false
    | none => s

/-- CORECTL registers (R77, R78). -/
def corectlHook : OptHook := fun s _ r i v t =>
  if r.addr = 0x0A1A0008 then
    some (if s.on CORECTL_DBG_EN && !bit v 0 then (List.range 256).foldl State.releaseHold t else t)
  else if r.addr = 0x0A1A8008 then
    let t := if s.on (CORECTL_CCTRL_HOLD i) && !bit v 0 then t.releaseHold i else t
    some (if bit v 1 then t.stepCore i else t)
  else some t

/-! ## All registers -/

/-- The effect of a register, after which the reference candidates follow their sources (R277). -/
def Hook.follow (h : Hook) : Hook := fun s w r i v t =>
  match h s w r i v t with
  | (u, true) => (s.refsFollow u, true)
  | (u, false) => (u, false)

/-- The hook of a register's block. -/
def regHooks : Hook := fun s w r i v t =>
  match blockOf r.addr with
  | 0x00 => sysHook.full s w r i v t
  | 0x01 => dispHook.full s w r i v t
  | 0x02 => xbarHook.full s w r i v t
  | 0x03 => memtHook.full s w r i v t
  | 0x04 => dramHook.full s w r i v t
  | 0x05 => epochHook.full s w r i v t
  | 0x06 => sideHook s w r i v t
  | 0x07 => sportHook.follow s w r i v t
  | 0x08 => pdmHook.full s w r i v t
  | 0x09 => netHook s w r i v t
  | 0x0D => timeHook.full.follow s w r i v t
  | 0x0E => refsHook.full s w r i v t
  | 0x0F => ampHook s w r i v t
  | 0x10 => guardHook.full s w r i v t
  | 0x11 => lineHook.full s w r i v t
  | 0x12 => bellHook.full s w r i v t
  | 0x13 => ovrHook s w r i v t
  | 0x14 => pairHook.full s w r i v t
  | 0x15 => intgHook.full s w r i v t
  | 0x16 => wardHook.full s w r i v t
  | 0x17 => hostHook.full s w r i v t
  | 0x18 => pwrHook.full s w r i v t
  | 0x19 => modidHook.full s w r i v t
  | 0x1A => corectlHook.full s w r i v t
  | _ => (t, true)

/-- Every register. -/
def allRows : List RegRow := regsARows ++ regsBRows ++ regsCRows ++ regsDRows

/-- The register at an address, with its instance: 2-level instances count `n2` to each of the first level. -/
def findRow (a : Nat) : Option (RegRow × Nat) :=
  allRows.findSome? fun r =>
    if a < r.addr then none
    else
      let d := a - r.addr
      let j := d / r.s1
      let k := d % r.s1 / r.s2
      if r.n2 = 1 then (if j < r.n1 ∧ d % r.s1 = 0 then some (r, j) else none)
      else if j < r.n1 ∧ k < r.n2 ∧ d % r.s1 % r.s2 = 0 then some (r, j * r.n2 + k) else none

/-- The index that a register shows at instance `j`: through its selector where it is a window; none where the
window shows nothing (R144 context 0, R171, R172). -/
def State.windowIx (s : State) (r : RegRow) (j : Nat) : Option Nat :=
  let ctx := s.rd DISP_CTXSEL_TID
  match r.win with
  | .direct => some j
  | .ctx16 => if ctx = 0 then none else some (ctx * 16 + j)
  | .ctx => if ctx = 0 then none else some ctx
  | .ctx8 => if ctx = 0 then none else some (ctx * 8 + j)
  | .src => some (s.rd DISP_SRCSEL_SRC)
  | .sub => some (s.rd DISP_SUBSEL_INDEX)
  | .cmp => some (s.rd DISP_CMPSEL_INDEX)
  | .map4 => some (s.rd DISP_MAPSEL_INDEX * 4 + j)
  | .conf => if 21 < s.rd XBAR_CONFSEL_TARGET then none else some (s.rd XBAR_CONFSEL_MASTER * 22 + s.rd XBAR_CONFSEL_TARGET)
  | .memMacro => if 1583 < s.rd MEMT_MACSEL_MACRO then none else some (s.rd MEMT_MACSEL_MACRO)
  | .page => some (s.rd EPOCH_PDSEL_PAGE)
  | .group => some (s.rd EPOCH_GSEL_GROUP * 64 + s.rd EPOCH_GSEL_WORD)
  | .mf => some (j * 64 + s.rd (NET_MFSEL_INDEX j))
  | .rs16 => some (s.rd NET_RSSEL_INDEX * 16 + j)
  | .rs => some (s.rd NET_RSSEL_INDEX)
  | .ts16 => some (s.rd NET_TSSEL_INDEX * 16 + j)
  | .ts => some (s.rd NET_TSSEL_INDEX)
  | .dig => some (s.rd PAIR_DIGSEL_CLUSTER)
  | .cfg => some (s.rd WARD_CFGSEL_INDEX)
  | .jour => some (s.rd WARD_JCI_INDEX % 256 * 8 + j)

/-! ## Reads of registers -/

/-- The register as read, with the fields `l` (low bit, field) at computed values. -/
def State.rowWith (s : State) (r : RegRow) (i : Nat) (l : List (Nat × Fld × Nat)) : Nat :=
  l.foldl (fun v q => setBits v q.1 q.2.1.w q.2.2) (s.rowVal r i)

/-- The core shows its registers: TRAP, HELD or STOPPED (R78). -/
def State.coreShown (s : State) (k : Nat) : Bool :=
  let st := s.rd (CORECTL_CSTAT_STATE k)
  st == stTrap || st == stHeld || st == stStopped

/-- CDDATA of core `k`: the selected register, 0 where VALID is 0 (R78). -/
def State.coreData (s : State) (k part : Nat) : Nat :=
  let r := s.rd (CORECTL_CDSEL_INDEX k)
  if s.coreShown k && decide (r < 68) then bits ((s.core k).seeN r) (32 * part) 32 else 0

/-- What a read of a register returns. Most fields read as they stand; the others are computed here from the
state they show. -/
def State.readRow (s : State) (r : RegRow) (i : Nat) : State × Nat :=
  let plain := (s, s.rowVal r i)
  let with_ := fun l => (s, s.rowWith r i l)
  match r.addr with
  | 0x0A000034 => s.uartRead
  | 0x0A010080 => with_ [(8, DISP_CTXSTAT_SLOTF i, s.slotsFilled i)]
  | 0x0A010084 => (s, s.flagWord i)
  | 0x0A010088 => (s, (List.range 4).foldl (fun v j =>
      let f := i % 8 * 4 + j
      v + (if s.counting (i / 8) f then tget 0 (s.ctx (i / 8)).counts f else 0) * 2 ^ (8 * j)) 0)
  | 0x0A010200 => (List.range 8).foldl (fun (q : State × Nat) j =>
      if s.vacant i j then (q.1.used, setBits q.2 (4 * j) 4 (q.1.free 4)) else q) plain
  | 0x0A010204 => (List.range 6).foldl (fun (q : State × Nat) j =>
      if s.vacant i (j + 8) then (q.1.used, setBits q.2 (4 * j) 4 (q.1.free 4)) else q) plain
  | 0x0A050000 => with_ [(0, EPOCH_STATUS_PENDING, (s.epoch.pend.filter fun c => !c.imm).length)]
  | 0x0A050024 =>
    if 1792 ≤ i then (s, b2n (s.pageValid i) + s.pageOwner i % 8 * 2 ^ 4) else plain
  | 0x0A050028 => with_ [(1, EPOCH_PGSTAT_HELD i, b2n (s.pageHeld i)),
      (3, EPOCH_PGSTAT_PEND i, b2n (s.epoch.pend.any fun c => c.pages.contains i))]
  | 0x0A0E0410 =>
    let q := [(16, REFS_DSTAT_WTRLEFT i, s.wtrLeft i)]
    with_ (if s.pllState i = plHoldover then q else (24, REFS_DSTAT_HOQ i, (s.pll i).holdAvgs.length) :: q)
  | 0x0A0E0414 => (s, ux 32 (s.pllFreq i s.bc))
  | 0x0A0E0424 => if s.pllState i = plHoldover then plain else (s, ux 32 (s.holdFreq i))
  | 0x0A0F0404 => with_ [(4, AMP_STAT_PROBES i, min 7 (s.recentProbes i).length)]
  | 0x0A160018 => (s, s.cfgWord i)
  | 0x0A160040 => if s.rd WARD_JCI_INDEX = s.rd WARD_JPI_INDEX then (s, 0) else plain
  | 0x0A17000C => with_ [(8, HOST_FNSTAT_WARDSEL, b2n s.spiWarden)]
  | 0x0A171010 => with_ [(28, HOST_RCFG_PART i, s.partRing i)]
  | 0x0A190014 => (s, s.ddata)
  | 0x0A1A0000 => plain
  | 0x0A1A0004 => with_ [(1, CORECTL_IMSTAT_PEND, b2n (s.rdStaged CORECTL_IMSEL_SEL != s.rd CORECTL_IMSTAT_ACT)),
      (2, CORECTL_IMSTAT_OLDBUSY, b2n (s.runsFrom (s.rd CORECTL_IMSTAT_ACT == 0)))]
  | 0x0A1A8004 => if s.coreShown i then (s, (s.core i).pc) else (s.used, s.free 11)
  | 0x0A1A8008 => (s, s.rwwNow (CORECTL_CCTRL_HOLD i))
  | 0x0A1A801C => with_ [(31, CORECTL_CDSEL_VALID i, b2n (s.coreShown i && decide (s.rd (CORECTL_CDSEL_INDEX i) < 68)))]
  | 0x0A1A8020 => (s, s.coreData (i / 3) (i % 3))
  | _ =>
    -- write-only fields read 0 (R9)
    (s, (r.flds i).foldl (fun v q => if q.2.2 = .wo then v else v + s.rd q.2.1 * 2 ^ q.1) 0)

/-- A 32-bit read of the register space: an offset that no table lists reads 0 (R4). -/
def State.readReg (s : State) (a : Nat) : State × Nat :=
  if 0x0A058000 ≤ a ∧ a < 0x0A05C000 then (s, s.ld a 4)
  else match findRow a with
  | none => (s, 0)
  | some (r, j) =>
    match s.windowIx r j with
    | none => (s, 0)
    | some i => s.readRow r i

/-! ## Writes of registers -/

/-- The accessor is a host port: not the image, not a core. -/
def Who.host (w : Who) : Bool := w.code < 2

/-- The write would change an RWE field: give it another value than a read returns, the value in effect (R9, R440). -/
def State.changesRwe (s : State) (r : RegRow) (i v : Nat) : Bool :=
  (r.flds i).any fun q => q.2.2 == .rwe && bits v q.1 q.2.1.w != s.rd q.2.1

/-- A write of register `r` at index `i`: before BOOTSTAT.DONE no host port reaches it (R405), a device without
authority refuses RWE fields and DISP.CMD (R342), a lead forwards RWE writes (R343), and RSTCTL with its key
resets the device once the write is complete (R399). -/
def State.regWrite (s : State) (w : Who) (r : RegRow) (i v : Nat) : State × Bool :=
  if w.host && !s.on SYS_BOOTSTAT_DONE then (s, false)
  else if w.host && !s.authority && (s.changesRwe r i v || r.addr == 0x0A010008) then (s, false)
  else
    let (t, ok) := s.writeRow regHooks w r i v
    if !ok then (t, false)
    else
      let t := if w.host && s.role == roLead && (r.flds i).any (fun q => q.2.2 == .rwe) then t.tell (.write (r.at_ i) v) else t
      if r.addr = 0x0A000018 ∧ bits v 0 16 = 0x7680 ∧ bit v 31 then (t.wholeReset 2, true) else (t, true)

/-- A write of a register by a host port, answered (R376, R377). -/
def State.hostReg (s : State) (p : Port) (r : RegRow) (i v : Nat) : State :=
  let (t, ok) := s.regWrite (s.whoOf p) r i v
  let t := if p = .spi && !ok then t.wr HOST_SPISTAT_ERR 1 else t
  t.answerW ok

/-- A 32-bit write in the register space by address: an offset that no table lists discards it (R4). The broadcast
window of CORECTL writes the inactive instruction memory of every core whose cluster is not OFF (R60). -/
def State.writeReg (s : State) (w : Who) (a v : Nat) : State × Bool :=
  if 0x0A1A4000 ≤ a ∧ a < 0x0A1A8000 then
    let b := s.rd CORECTL_IMSTAT_ACT == 0
    if w.host && !s.on SYS_BOOTSTAT_DONE then (s, false)
    else if !s.mayReach w (blockOf a) true then (s.refusedRec w a, false)
    else if s.instrShut b then (s.wr CORECTL_IMSTAT_WREFUSED 1, false)
    else
      ((List.range 256).foldl (fun (s : State) k =>
        if s.power (clusterOf k) = 0 then s
        else s.st (0x04000000 + k * 0x40000 + 0x20000 + b2n b * 0x4000 + (a - 0x0A1A4000)) 4 v) s, true)
  else
    let none_ := if w.host && !s.on SYS_BOOTSTAT_DONE then (s, false)
      else if s.mayReach w (blockOf a) true then (s, true) else (s.refusedRec w a, false)
    match findRow a with
    | none => none_
    | some (r, j) =>
      match s.windowIx r j with
      | none => none_
      | some i => s.regWrite w r i v

/-! ## Accesses through the crossbar -/

/-- Some enabled window of partition `q` covers the access with the permission (R389, R391). -/
def State.windowed (s : State) (q a n : Nat) (write : Bool) : Bool :=
  (List.range 32).any fun i =>
    let w := fun j => s.cfgWord (0x400 + 128 * q + 4 * i + j)
    bit (w 1) 31 && bit (w 1) (if write then 17 else 16)
    && decide (w 0 + 2 ^ 32 * bits (w 1) 0 16 ≤ a) && decide (a + n ≤ w 2 + 2 ^ 32 * bits (w 3) 0 16)

/-- An access that the crossbar can issue: 4 or 8 bytes naturally aligned, or a burst of 16-byte beats within 256
bytes (R153). -/
def issuable (a n : Nat) : Bool :=
  ((n == 4 || n == 8) && a % n == 0) || (n % 16 == 0 && 16 ≤ n && n ≤ 256 && a / 256 == (a + n - 1) / 256)

/-- One bit of the crossbar's CRC-8 (R357). -/
def crc8Bit (c : Nat) : Nat := if 128 ≤ c then (c * 2 % 256) ^^^ 0x07 else c * 2

/-- The crossbar's CRC-8 (R357). -/
def crc8 (l : List Nat) : Nat :=
  l.foldl (fun c b => crc8Bit (crc8Bit (crc8Bit (crc8Bit (crc8Bit (crc8Bit (crc8Bit (crc8Bit (c ^^^ b))))))))) 0

/-- The check that a beat of a transaction at `a` carries: CRC-8 over the 6 address bytes and the payload, and the even parity
of the 48 address bits (R356, R357). -/
def beatCheck (a : Nat) (payload : List Nat) : Nat × Bool :=
  (crc8 ((leBytes a 6).map (·.toNat) ++ payload), ((List.range 48).countP fun i => bit a i) % 2 == 1)

/-- The hops of a transaction: `fails` of them fail in a row, by a fault of the hardware or by an injection (R357,
R372). Answers whether it passes. -/
def State.hops (s : State) (w : Who) (a fails : Nat) : State × Bool :=
  let inj := s.injOn 3 uMaster w.master
  let fails := if inj then (if bit s.injArg 0 then 2 else max 1 fails) else fails
  let s := if inj then s.injDone else s
  if fails = 0 then (s, true)
  else if fails = 1 then
    ((s.incSat INTG_XBERR_RETRIED 1).emit { mkRec cCorrected 3 0x0002 uMaster w.master (detA a w.master w.qos) with injected := inj }, true)
  else ((s.incSat INTG_XBERR_FAILED 1).errored 3 inj, false)

/-- The page of the STAGE view at an address (R175). -/
def stagePage (a : Nat) : Option Nat := if 0x08000000 ≤ a ∧ a < 0x081C0000 then some ((a - 0x08000000) / 0x400) else none

/-- The checks before the target: form, hops, boot, windows (R153, R357, R389, R405). -/
def State.passChecks (s : State) (w : Who) (a n fails : Nat) (write : Bool) : State × Bool :=
  let a := a % 2 ^ 48
  if !issuable a n then (s, false)
  else
    let (s, ok) := s.hops w a fails
    if !ok then (s, false)
    else if w.host && !s.on SYS_BOOTSTAT_DONE && (write || !(0x0A000000 ≤ a && a < 0x0A010000)) then (s, false)
    else if 0x0A000000 ≤ a ∧ a < 0x0A1B0000 then
      if s.mayReach w (blockOf a) write then (s, true) else (s.refusedRec w a, false)
    else if w.q = warden then (s, true)
    else if !s.windowed w.q a n write then (s.refusedRec w a, false)
    else match stagePage a with
    | some p => if w.host && write && s.pageOwner p != w.q then (s.refusedRec w a, false) else (s, true)
    | none => (s, true)

/-- A read of memory after its ECC checks (R363). -/
def State.memRead (s : State) (w : Who) (a n : Nat) : State × Option (List Byte) :=
  let (s, bad) := s.eccRead a n w.master w.qos
  if bad then (s, none) else (s, some (s.devGet a n))

/-- A read of `n` bytes at a device address; none where it ends in an error response. -/
def State.busRead (s : State) (w : Who) (a n fails : Nat) : State × Option (List Byte) :=
  let a := a % 2 ^ 48
  let (s, ok) := s.passChecks w a n fails false
  if !ok then (s, none)
  else match s.target a with
  | .none => (s.defaultTarget a w.master w.qos false, none)
  | .regs => if n = 4 then (let (s, v) := s.readReg a; (s, some (leBytes v 4))) else (s, none)
  | .dram d => if s.dramActive d then s.memRead w a n else (s.dramRefuse d a w.master w.qos, none)
  | .param =>
    match stagePage a with
    | none => s.memRead w a n
    | some p =>
      match s.stageReady p with
      | none => (s.wr EPOCH_STATUS_STGHELD 1, none)
      | some s => s.memRead w a n
  | .gsram => s.memRead w a n
  | .csram _ => s.memRead w a n
  | .operand _ => s.memRead w a n
  | .instr _ _ => s.memRead w a n
  | .wave => s.memRead w a n

/-- A write to the STAGE view of page `p` (R175, R179, R342, R343). -/
def State.stageWrite (s : State) (w : Who) (p a : Nat) (bs : List Byte) : State × Bool :=
  if w.host && !s.authority then (s, false)
  else match s.stageReady p with
  | none => (s.wr EPOCH_STATUS_STGHELD 1, false)
  | some s =>
    let s := s.devPut a bs
    if w.host && s.role == roLead then
      ((List.range (bs.length / 4)).foldl (fun (s : State) j => s.tell (.write (a + 4 * j) (leNat ((bs.drop (4 * j)).take 4)))) s, true)
    else (s, true)

/-- A write of bytes at a device address; false where it ends in an error response. -/
def State.busWrite (s : State) (w : Who) (a : Nat) (bs : List Byte) (fails : Nat) : State × Bool :=
  let a := a % 2 ^ 48
  let n := bs.length
  let (s, ok) := s.passChecks w a n fails true
  if !ok then (s, false)
  else match s.target a with
  | .none => (s.defaultTarget a w.master w.qos true, false)
  | .regs => if n = 4 then s.writeReg w a (leNat bs) else (s, false)
  | .dram d => if s.dramActive d then (s.memPut w.master w.qos a bs, true) else (s.dramRefuse d a w.master w.qos, false)
  | .param =>
    match stagePage a with
    | none => (s, false)
    | some p => s.stageWrite w p a bs
  | .gsram => (s.devPut a bs, true)
  | .csram _ => (s.devPut a bs, true)
  | .operand k =>
    let st := s.rd (CORECTL_CSTAT_STATE k)
    if st = stRun ∨ st = stTrap ∨ st = stStopped then (s, false) else (s.devPut a bs, true)
  | .instr _ b => if s.instrShut b then (s.wr CORECTL_IMSTAT_WREFUSED 1, false) else (s.devPut a bs, true)
  | .wave => if w.host && !s.on OVR_STAT_IMGDONE then (s, false) else (s.devPut a bs, true)

/-- A mirrored write applies on the heel as on the lead (R343). -/
def State.mirrorWrite (s : State) (a v : Nat) : State :=
  match stagePage a with
  | some p => (match s.stageReady p with | some t => t.devPut a (leBytes v 4) | none => s)
  | none => (s.writeReg imageWho a v).1

/-! ## Host interfaces (R376, R377) -/

/-- HOST_IRQ_N is asserted (R377): the rings are those of the accessor that the SPI port acts for (R378). -/
def State.hostIrq (s : State) : Bool :=
  (List.range 256).any fun r => s.partRing r == s.portPart .spi && s.on (HOST_RCFG_IRQ r) && s.ringUsed r != 0

/-- The words of a list of bytes. -/
def wordList : List Byte → List Word
  | a :: b :: c :: d :: l => BitVec.ofNat 32 (leNat [a, b, c, d]) :: wordList l
  | _ => []

/-- The device address that a BAR and an offset name (R376). -/
def barAddr (bar2 : Bool) (off : Nat) : Option Nat :=
  if bar2 then (if off < 0x400000000 then some (0x100000000 + off) else none)
  else if off < 0x10000000 then some off else none

/-- A transaction that the checks before target `n` let pass had to wait there: its conflict counter goes up (R159). -/
def State.waited (s : State) (w : Who) (a bytes fails n : Nat) (write : Bool) : State :=
  if n < 22 ∧ (s.passChecks w a bytes fails write).2 = true then s.incSat (XBAR_CONFCNT_COUNT (w.master * 22 + n)) 1 else s

/-- A BAR access that had to wait at its target where `waits` is set (R159). -/
def State.barWaits (s : State) (p : Port) (bar2 : Bool) (off : Nat) (op : BarOp) (fails : Nat) (waits : Bool) : State :=
  match waits, barAddr bar2 off with
  | true, some a =>
    match op with
    | .write bs => s.waited (s.whoOf p) a bs.length fails (s.target a).num true
    | .read n => s.waited (s.whoOf p) a n fails (s.target a).num false
  | _, _ => s

/-- A BAR write of function `fn`; one that receives an error response is discarded (R376). -/
def State.barWrite (s : State) (p : Port) (bar2 : Bool) (off : Nat) (bs : List Byte) (fails : Nat) : State :=
  match barAddr bar2 off with
  | none => s.answerW false
  | some a => let (s, ok) := s.busWrite (s.whoOf p) a bs fails; s.answerW ok

/-- A BAR read; one that receives an error response completes with Completer Abort (R376). -/
def State.barRead (s : State) (p : Port) (bar2 : Bool) (off n fails : Nat) : State :=
  match barAddr bar2 off with
  | none => s.answer .error
  | some a =>
    match s.busRead (s.whoOf p) a n fails with
    | (s, some bs) => s.answer (.ok (wordList bs))
    | (s, none) => s.answer .error

/-- An SPI WRITE of words at successive addresses (R377). -/
def State.spiWrite (s : State) (a : Nat) (ws : List Word) (fails : Nat) : State :=
  let s := ws.zipIdx.foldl (fun (q : State × Bool) x =>
    let (t, ok) := q.1.busWrite (q.1.whoOf .spi) (a + 4 * x.2) (leBytes x.1.toNat 4) fails
    (if ok then t else t.wr HOST_SPISTAT_ERR 1, q.2 && ok)) (s, true)
  s.1.answerW s.2

/-- An SPI READ of `late.length` words; a word that has not arrived by its first bit reads 0 and sets LATE, one
that receives an error response reads 0 and sets ERR (R377). -/
def State.spiRead (s : State) (a : Nat) (late : List Bool) (fails : Nat) : State :=
  let q := late.zipIdx.foldl (fun (q : State × List Word) x =>
    match q.1.busRead (q.1.whoOf .spi) (a + 4 * x.2) 4 fails with
    | (t, some bs) =>
      if x.1 then (t.wr HOST_SPISTAT_LATE 1, q.2 ++ [0]) else (t, q.2 ++ [BitVec.ofNat 32 (leNat bs)])
    | (t, none) => (t.wr HOST_SPISTAT_ERR 1, q.2 ++ [0])) (s, [])
  q.1.answer (.ok q.2)

/-- An SPI STATUS transaction: ERR, LATE and IRQ; reading clears the first two (R377). -/
def State.spiStatus (s : State) : State :=
  let v := s.rd HOST_SPISTAT_ERR + 2 * s.rd HOST_SPISTAT_LATE + 4 * b2n s.hostIrq
  ((s.wr HOST_SPISTAT_ERR 0).wr HOST_SPISTAT_LATE 0).answer (.ok [BitVec.ofNat 32 v])

end Sys2Proof.Machine
end

