-- ==== Sys2Proof/Machine/Boot.lean ====
section
/-! DEFINITION. Boot: the flash directory, image containers and their authentication, the safety image, the configuration
image, the phases (R327, R328, R400 to R405). SHA-256 and ECDSA over P-256, which R403 names, are those of FIPS
180-4 and FIPS 186-4 (PRESUMED, log entry 30). -/
namespace Sys2Proof.Machine

/-! ## SHA-256 -/

/-- The primes up to `n`. -/
def primesTo (n : Nat) : List Nat :=
  (List.range (n + 1)).filter fun p => decide (2 ≤ p) && (List.range p).all fun d => decide (d < 2) || p % d != 0

/-- The greatest number of 40 bits whose `k`-th power is at most `x`, found bit by bit. -/
def rootOf (k x : Nat) : Nat := (List.range 40).foldl (fun r i => let c := r + 2 ^ (39 - i); if c ^ k ≤ x then c else r) 0

/-- The first 32 bits of the fraction of the `k`-th root of a prime. -/
def rootBits (k p : Nat) : Nat := rootOf k (p * 2 ^ (32 * k)) % 2 ^ 32

/-- The 64 round constants, of the cube roots of the primes to 311. -/
def shaK : List Nat := (primesTo 311).map (rootBits 3)

/-- The initial hash value, of the square roots of the primes to 19. -/
def shaInit : List Nat := (primesTo 19).map (rootBits 2)

/-- The exclusive or of a 32-bit word turned right by each of `l`, and of it shifted right by `sh` where that is not 0. -/
def turns (l : List Nat) (sh : Nat) (x : Nat) : Nat :=
  l.foldl (fun y r => y ^^^ (x / 2 ^ r + x * 2 ^ (32 - r) % 2 ^ 32)) (if sh = 0 then 0 else x / 2 ^ sh)

/-- Word `i` of the message schedule, from the words before it. -/
def shaWord (w : List Nat) (i : Nat) : Nat :=
  let at_ := fun k => w.getD (i - k) 0
  (turns [17, 19] 10 (at_ 2) + at_ 7 + turns [7, 18] 3 (at_ 15) + at_ 16) % 2 ^ 32

/-- The eight working variables. -/
structure ShaVars where
  a : Nat
  b : Nat
  c : Nat
  d : Nat
  e : Nat
  f : Nat
  g : Nat
  h : Nat
  deriving DecidableEq, Repr

/-- One round, with the sum of its constant and its schedule word. -/
def shaRound (v : ShaVars) (x : Nat) : ShaVars :=
  let choose := (v.e &&& v.f) + ((2 ^ 32 - 1 - v.e) &&& v.g)
  let major := (v.a &&& (v.b ||| v.c)) ||| (v.b &&& v.c)
  let u := v.h + turns [6, 11, 25] 0 v.e + choose + x
  { a := (u + turns [2, 13, 22] 0 v.a + major) % 2 ^ 32, b := v.a, c := v.b, d := v.c
    e := (v.d + u) % 2 ^ 32, f := v.e, g := v.f, h := v.g }

/-- A number from bytes, the first most significant. -/
def beNum (l : List Nat) : Nat := l.foldl (fun v x => v * 256 + x % 256) 0

/-- One block of 64 bytes. -/
def shaBlock (h : List Nat) (blk : List Nat) : List Nat :=
  let first := (List.range 16).map fun i => beNum ((blk.drop (4 * i)).take 4)
  let w := (List.range 48).foldl (fun w i => w ++ [shaWord w (16 + i)]) first
  let x := fun i => h.getD i 0
  let v := (w.zip shaK).foldl (fun v q => shaRound v (q.1 + q.2)) ⟨x 0, x 1, x 2, x 3, x 4, x 5, x 6, x 7⟩
  (h.zip [v.a, v.b, v.c, v.d, v.e, v.f, v.g, v.h]).map fun q => (q.1 + q.2) % 2 ^ 32

/-- The blocks of a padded message; `n` bounds their number. -/
def shaBlocks : Nat → List Nat → List Nat → List Nat
  | 0, h, _ => h
  | n + 1, h, l => shaBlocks n (shaBlock h (l.take 64)) (l.drop 64)

/-- SHA-256 of a list of bytes, as a number. -/
def sha256 (l : List Nat) : Nat :=
  let n := l.length
  let zeros := (119 - n % 64) % 64
  let tail := (List.range 8).map fun i => 8 * n / 256 ^ (7 - i) % 256
  let m := l ++ [0x80] ++ List.replicate zeros 0 ++ tail
  (shaBlocks (m.length / 64) shaInit m).foldl (fun v w => v * 2 ^ 32 + w) 0

/-! ## ECDSA over P-256 -/

/-- The field prime, the order of the base point, the coefficient b, and the base point. -/
def pField : Nat := 0xffffffff00000001000000000000000000000000ffffffffffffffffffffffff
def pOrder : Nat := 0xffffffff00000000ffffffffffffffffbce6faada7179e84f3b9cac2fc632551
def pB : Nat := 0x5ac635d8aa3a93e7b3ebbd55769886bc651d06b0cc53b0f63bce3c3e27d2604b
def pBase : Nat × Nat :=
  (0x6b17d1f2e12c4247f8bce6e563a440f277037d812deb33a0f4a13945d898c296,
    0x4fe342e2fe1a7f9b8ee7eb4a7c0f9e162bce33576b315ececbb6406837bf51f5)

/-- `b^e mod m` over `n` bits of the exponent. -/
def powMod (m : Nat) : Nat → Nat → Nat → Nat
  | 0, _, _ => 1
  | n + 1, b, e => (if e % 2 = 1 then b else 1) * powMod m n (b * b % m) (e / 2) % m

/-- The inverse modulo a prime. -/
def invMod (m x : Nat) : Nat := powMod m 256 (x % m) (m - 2)

/-- The sum of two points of the curve; none is the point at infinity. -/
def ecAdd : Option (Nat × Nat) → Option (Nat × Nat) → Option (Nat × Nat)
  | none, q => q
  | p, none => p
  | some (x1, y1), some (x2, y2) =>
    let sub := fun a b => (a + pField - b % pField) % pField
    if x1 = x2 ∧ (y1 + y2) % pField = 0 then none
    else
      let l := if x1 = x2 then sub (3 * x1 * x1) 3 * invMod pField (2 * y1) % pField
        else sub y2 y1 * invMod pField (sub x2 x1) % pField
      let x := sub (sub (l * l) x1) x2
      some (x, sub (l * sub x1 x) y1)

/-- A multiple of a point, over `n` bits. -/
def ecMul : Nat → Nat → Option (Nat × Nat) → Option (Nat × Nat)
  | 0, _, _ => none
  | n + 1, k, p => ecAdd (if k % 2 = 1 then p else none) (ecMul n (k / 2) (ecAdd p p))

/-- The signature (r, s) by key Q over the hash `e` verifies. -/
def ecdsaOk (e r s qx qy : Nat) : Bool :=
  if r = 0 ∨ pOrder ≤ r ∨ s = 0 ∨ pOrder ≤ s ∨ pField ≤ qx ∨ pField ≤ qy
      ∨ qy * qy % pField ≠ (qx * qx * qx + (pField - 3) * qx + pB) % pField then false
  else
    let w := invMod pOrder s
    match ecAdd (ecMul 256 (e * w % pOrder) (some pBase)) (ecMul 256 (r * w % pOrder) (some (qx, qy))) with
    | none => false
    | some (x, _) => x % pOrder == r

/-! ## Flash, directory and containers (R402, R403) -/

/-- `n` bytes of flash from an offset; a byte that no piece holds reads as erased. -/
def flashGet (f : List (Nat × List Nat)) (a n : Nat) : List Nat :=
  (List.range n).map fun i =>
    match f.find? fun q => q.1 ≤ a + i && a + i < q.1 + q.2.length with
    | some q => q.2.getD (a + i - q.1) 0xFF
    | none => 0xFF

/-- The directory at an offset is good: magic and CRC (R402). -/
def dirGood (f : List (Nat × List Nat)) (a : Nat) : Bool :=
  let d := flashGet f a 64
  d.take 4 == [0x47, 0x44, 0x49, 0x52] && crc32 (d.take 60) == ofBytes d 60 4

/-- The directory that is used, and whether it is the second. -/
def dirOf (f : List (Nat × List Nat)) : Option (List Nat × Bool) :=
  if dirGood f 0 then some (flashGet f 0 64, false)
  else if dirGood f 0x10000 then some (flashGet f 0x10000 64, true)
  else none

/-- Result codes of BOOTSTAT.SAFETY and CONFIG (R419). -/
def imAbsent : Nat := 0
def imApplied : Nat := 1
def imHeader : Nat := 2
def imKey : Nat := 3
def imSign : Nat := 4
def imFlash : Nat := 5
def imStrap : Nat := 6

/-- Judges the container of directory entry `x` against a TYPE (R403): its code, its record count and its payload. -/
def judgeImage (f : List (Nat × List Nat)) (key dir : List Nat) (x ty : Nat) : Nat × Nat × List Nat :=
  let off := ofBytes dir (4 + 8 * x) 4
  if ofBytes dir (8 + 8 * x) 4 = 0 then (imAbsent, 0, [])
  else
    let h := flashGet f off 144
    let body := flashGet f (off + 144) (ofBytes h 8 4)
    let at_ := fun lo => beNum ((h.drop lo).take 32)
    if h.take 4 ≠ [0x47, 0x4C, 0x49, 0x4D] ∨ h.getD 4 0 ≠ ty then (imHeader, 0, [])
    else if sha256 ((h.drop 16).take 64) ≠ beNum key ∨ key.all (· == 0) then (imKey, 0, [])
    else if !ecdsaOk (sha256 (h.take 16 ++ body)) (at_ 80) (at_ 112) (at_ 16) (at_ 48) then (imSign, 0, [])
    else (imApplied, ofBytes h 12 4, body)

/-- The image of a kind, 0 SAFETY and 1 CONFIG: copy A, else copy B (R402). The code, the copy that gave it, the
record count and the payload. Where neither is accepted, the code is that of the last copy present. -/
def chooseImage (f : List (Nat × List Nat)) (key dir : List Nat) (kind : Nat) : Nat × Nat × Nat × List Nat :=
  let a := judgeImage f key dir (2 * kind) (kind + 1)
  if a.1 = imApplied then (imApplied, 0, a.2)
  else
    let b := judgeImage f key dir (2 * kind + 1) (kind + 1)
    if b.1 = imAbsent then (a.1, 0, a.2) else (b.1, 1, b.2)

/-- The words of a payload (R404): record number, device address, word. `n` bounds the records. -/
def imageWords : Nat → Nat → List Nat → List (Nat × Nat × Nat)
  | 0, _, _ => []
  | n + 1, i, l =>
    let cnt := ofBytes l 6 2
    let len := (8 + 4 * cnt + 7) / 8 * 8
    if cnt = 0 ∨ l.length < 8 + 4 * cnt then []
    else ((List.range cnt).map fun j => (i, ofBytes l 0 6 + 4 * j, ofBytes l (8 + 4 * j) 4)) ++ imageWords n (i + 1) (l.drop len)

/-! ## The images applied (R327, R404) -/

/-- A word of the safety image outside the waveform memory, BELL, OVR, AMP.CMDk and SYS.RATE is skipped; into AMP.CMDk
only ALT, ALTEN and ABAUTO are written. -/
def State.safetyWord (s : State) (a v : Nat) : State × Bool :=
  if (0x09000000 ≤ a ∧ a < 0x09400000) ∨ (0x0A120000 ≤ a ∧ a < 0x0A140000) ∨ a = 0x0A000028 then
    s.busWrite imageWho a (leBytes v 4) 0
  else if 0x0A0F0400 ≤ a ∧ a < 0x0A0F4400 ∧ a % 0x80 = 0 then
    let k := (a - 0x0A0F0400) / 0x80
    if bit v 15 && bits v 8 7 == k then (s, false)
    else (((s.wr (AMP_CMD_ALT k) (bits v 8 7)).wr (AMP_CMD_ALTEN k) (bits v 15 1)).wr (AMP_CMD_ABAUTO k) (bits v 16 1), true)
  else (s, false)

/-- The safety image is applied; a skipped word sets IMGERR with a record that names its entry. -/
def State.applySafety (s : State) (ws : List (Nat × Nat × Nat)) : State :=
  let s := ws.foldl (fun (s : State) q =>
    let (t, ok) := s.safetyWord q.2.1 q.2.2
    if ok then t else (t.wr OVR_STAT_IMGERR 1).emit (mkRec cLost 0 0x002F uOvr 0 (d16 (q.1 % 2 ^ 16)))) s
  (s.wr OVR_STAT_IMGDONE 1).setArmed true 1

/-- The parameter page that a word of the configuration image stages: a STAGE page, or the register page of an
RWE field. -/
def stagedPage (a : Nat) : Option Nat :=
  match stagePage a with
  | some p => some p
  | none => match findRow a with
    | some (r, j) => if (r.flds j).any (fun q => q.2.2 == .rwe) then some (1792 + blockOf r.addr) else none
    | none => none

/-- The configuration image is applied with the warden's rights; refused words are counted, and one COMMIT of epoch 1
names what was staged (R404, R190). -/
def State.applyConfig (s : State) (ws : List (Nat × Nat × Nat)) : State :=
  let (s, ps) := ws.foldl (fun (q : State × List Nat) x =>
    let (t, ok) := q.1.busWrite imageWho x.2.1 (leBytes x.2.2 4) 0
    if ok then (t, match stagedPage x.2.1 with | some p => if q.2.contains p then q.2 else q.2 ++ [p] | none => q.2)
    else (t.incSat SYS_BOOTSTAT_CFGSKIP 1, q.2)) (s, [])
  if !s.authority || (ps.any fun p => !s.pageValid p) || s.epoch.accepted.contains 1 || s.rd EPOCH_HIGH_EPOCH != 0 then s
  else s.acceptCommit { epoch := 1, n := s.firstOpen false, late := false, glide := 0, imm := false, pages := ps, part := warden }

/-! ## Phases (R400, R401) -/

/-- What the device reads in a phase: the key hash in fuses, 32 bytes, and the flash by pieces, offset and bytes. -/
def State.bootPhase (s : State) (key : List Nat) (flash : List (Nat × List Nat)) : State :=
  let straps := s.rd SYS_STRAP_BOOT
  let dir := dirOf flash
  let next := fun (s : State) => (s.modBoard fun q => { q with phase := q.phase + 1 }).phaseLine (s.board.phase + 1)
  let dirB := fun (s : State) => match dir with | some (_, true) => s.wr SYS_BOOTSTAT_DIRB 1 | _ => s
  if s.board.held then s
  else match s.board.phase with
  | 0 =>
    let k := (key ++ List.replicate 32 0).take 32
    next ((s.modBoard fun q => { q with key := k }).wr SYS_BOOTSTAT_NOKEY (b2n (k.all (· == 0))))
  | 1 => next { s with mem := [], poison := [] }
  | 2 => if (List.range 32).any fun x => s.rd (MODID_SSTAT_STATE x) == slReading then s else next s
  | 3 =>
    if 2 ≤ straps then next (s.wr SYS_BOOTSTAT_SAFETY imStrap)
    else match dir with
    | none => next (s.wr SYS_BOOTSTAT_SAFETY imFlash)
    | some (d, _) =>
      let (code, slot, n, l) := chooseImage flash s.board.key d 0
      let s := ((dirB s).wr SYS_BOOTSTAT_SAFETY code).wr SYS_BOOTSTAT_SSLOT slot
      next (if code = imApplied then s.applySafety (imageWords n 0 l) else s)
  | 4 =>
    if straps ≠ 0 then next (s.wr SYS_BOOTSTAT_CONFIG imStrap)
    else match dir with
    | none => next (s.wr SYS_BOOTSTAT_CONFIG imFlash)
    | some (d, _) =>
      let (code, slot, n, l) := chooseImage flash s.board.key d 1
      let s := ((dirB s).wr SYS_BOOTSTAT_CONFIG code).wr SYS_BOOTSTAT_CSLOT slot
      next (if code = imApplied then s.applyConfig (imageWords n 0 l) else s)
  | 5 => next ((s.wr OVR_STAT_IMGDONE 1).wr SYS_BOOTSTAT_DONE 1)
  | _ => s

/-! ## PCIE_PERST_N (R399, R415, R416) -/

/-- PCIE_PERST_N: rings in host memory are disabled and the crossings of the port fenced. -/
def State.perst (s : State) : State :=
  ((List.range 256).foldl (fun (s : State) r => if s.on (HOST_RCFG_LOC r) then s.wr (HOST_RCFG_EN r) 0 else s) s).fence 4

end Sys2Proof.Machine
end

