-- ==== Sys2Proof/Machine/Far.lean ====
section
/-! DEFINITION. Far accesses of the cores: data that returns, stores that complete, error responses (R30, R34, R40, R53,
R89, R154, R181, R198, R363, R389). -/
namespace Sys2Proof.Machine

/-- The accessor that a run of task `tid` on core `k` is (R54, R152, R378, R389): its task's partition, its cluster's port, its QoS. -/
def State.coreWho (s : State) (k tid : Nat) : Who := ⟨s.partCtx tid, 3, clusterOf k, s.ctxF tid 27 4⟩

/-- What a far read brings: data, an error response, or a poisoned word of a committed page (R40), injected or not. -/
inductive FarRes where
  | data (v : Nat)
  | error
  | poisoned (inj : Bool)
  deriving DecidableEq, Repr

/-- Stores that the run issued before the load and that have not completed stand in what the load reads (R53). -/
def overlay (stores : List FarStore) (a n v : Nat) : Nat :=
  let bs := (List.range n).map fun i =>
    match (stores.filter fun (x : FarStore) => x.addr ≤ a + i && a + i < x.addr + x.bytes).getLast? with
    | some x => BitVec.ofNat 8 (x.val / 256 ^ (a + i - x.addr))
    | none => BitVec.ofNat 8 (v / 256 ^ i)
  leNat bs

/-- A far load of `n` bytes of class `cls` at device address `a`, issued as `seq` with the map of task `tid` by run `r`
of core `k`. -/
def State.farMem (s : State) (k : Nat) (r : Run) (tid seq cls a n fails : Nat) : State × FarRes :=
  let w := s.coreWho k tid
  let own := overlay ((s.core k).stores.filter (·.seq < seq)) a n
  if cls = clInput then
    let (s, ok) := s.hops w a fails
    if !ok then (s, .error)
    else match s.inputAt (s.ctx r.tid).frame a with
    | some d =>
      let (s, bad) := s.eccRead d n w.master w.qos
      (s, if bad then .error else .data (s.inputLoad (s.ctx r.tid).frame a n))
    | none => (s, .data (s.inputLoad (s.ctx r.tid).frame a n))
  else if cls = clDirect then
    match s.busRead w a n fails with
    | (s, some bs) => (s, .data (own (leNat bs)))
    | (s, none) => (s, .error)
  else
    let (s, ok) := s.passChecks w a n fails false
    if !ok then (s, .error)
    else if cls = clParam then
      let (s, bad) := s.eccRead a n w.master w.qos
      (s, if bad then .error else .data (s.paramLoad r.tid a n))
    else match s.sramPage a with
    | none => (s, .error)
    | some (c, p) =>
      match r.shadows.lookup (pageKey c p) with
      | some f =>
        let x := frameAddr c f + a % 512
        let (s, bad) := s.pageEcc x a n w.master w.qos
        let s := match bad with | some inj => s.errored 1 inj | none => s
        (s, if bad.isSome then .error else .data (own (s.ld x n)))
      | none =>
        match s.pageEcc (s.phys a) a n w.master w.qos with
        | (s, some inj) => (s.poisonPage c p, .poisoned inj)
        | (s, none) => (s, .data (own (s.pageRead c p (a % 512) n)))

/-- What a far read brings (R53, R89). A GLD or XFADE whose address is no multiple of 4 reads the bytes from that
address on and raises no ALIGN: R89 names the ACCESS fault alone (DESIGN CHOICE, log entry 13). -/
def State.farRead (s : State) (k : Nat) (r : Run) (tid seq fails : Nat) : FarWhat → State × FarRes
  | .mem cls a n => s.farMem k r tid seq cls a n fails
  | .gld a j =>
    let w := s.coreWho k tid
    let (s, ok) := s.passChecks w (a / 4 * 4) 4 fails false
    if !ok then (s, .error)
    else
      let (s, bad) := s.eccRead (a / 4 * 4) 4 w.master w.qos
      (s, if bad then .error else .data (s.gldRead r.tid a j))
  | .xfade a j =>
    let (s, ok) := s.passChecks (s.coreWho k tid) (a / 4 * 4) 4 fails false
    (s, if ok then .data (s.xfadeRead r.tid a j) else .error)
  | .bscl b j =>
    let (s, ok) := s.hops (s.coreWho k tid) 0 fails
    (s, if ok then .data (s.bsclRead r.tid b j) else .error)

/-- The data of a far load enters its registers as the load's own bundle wrote them, but for registers that a later
bundle has written (R53, R65). -/
def Core.farWrite (c : Core) (l : FarLoad) (v : Nat) : Core :=
  l.regs.zipIdx.foldl (fun (c : Core) q =>
    if l.spent.contains q.1 then c
    else
      let e : Pw := ⟨q.1, BitVec.ofNat 80 (v / 2 ^ (32 * q.2) % 2 ^ 32), l.at_, .plain⟩
      { c with pend := (c.pend.takeWhile fun x => x.at_ ≤ l.at_) ++ [e] ++ c.pend.dropWhile fun x => x.at_ ≤ l.at_ }) c

/-- The address of a far read, for the record of a poisoned word. -/
def FarWhat.addr : FarWhat → Nat
  | .mem _ a _ => a
  | .gld a _ => a
  | .xfade a _ => a
  | .bscl _ _ => 0

/-- The target and the bytes of a far read; a parameter read goes to the parameter store, one of class INPUT to global
SRAM, which holds the gathered blocks (R89, R145, R152). -/
def State.readTarget (s : State) : FarWhat → Nat × Nat
  | .mem cls a n => (if cls = clInput then 16 else (s.target a).num, n)
  | .gld _ _ => (17, 4)
  | .xfade _ _ => (17, 4)
  | .bscl _ _ => (17, 4)

/-- The target of a posted store, by number (R152). -/
def State.storeTarget (s : State) (x : FarStore) : Nat := (s.target x.addr).num

/-- The far accesses of a cluster's cores that have not completed, each with its place in the order of issue and its
target (R152, R154). -/
def State.outstanding (s : State) (c : Nat) : List (Nat × Nat) :=
  (List.range 16).flatMap fun i =>
    let x := s.core (c * 16 + i)
    x.loads.map (fun l => (l.seq, (s.readTarget l.what).1)) ++
      (x.stores ++ (match x.aside with | some a => a.stores | none => []) ++ x.late).map fun y => (y.seq, s.storeTarget y)

/-- An earlier access of the same cluster port to the same target has not completed: the later one waits (R154). -/
def State.behind (s : State) (k seq target : Nat) : Bool :=
  (s.outstanding (clusterOf k)).any fun q => decide (q.1 < seq) && q.2 == target

/-- The `i`-th far load of core `k` had to wait at its target where `waits` is set (R159). -/
def State.loadWaits (s : State) (k i fails : Nat) (waits : Bool) : State :=
  match waits, (s.core k).loads[i]? with
  | true, some l =>
    let q := s.readTarget l.what
    if s.behind k l.seq q.1 then s else s.waited (s.coreWho k l.tid) (l.what.addr / q.2 * q.2) q.2 fails q.1 false
  | _, _ => s

/-- The `i`-th far load of core `k` in flight completes, unless an earlier access of the cluster to the same target is
outstanding (R154); `fails` hops of its transaction fail in a row. -/
def State.farLoadEnd (s : State) (k i fails : Nat) : State :=
  let c := s.core k
  match c.loads[i]?, c.run with
  | some l, some r =>
    if s.behind k l.seq (s.readTarget l.what).1 then s
    else match (s.errored 0 false).farRead k r l.tid l.seq fails l.what with
    | (s, .data v) =>
      s.modCore k fun c => { c.farWrite l v with loads := c.loads.eraseIdx i }
    | (s, .error) => s.stopCoreAt k 0x42 s.integ.err.2 l.pc
    | (s, .poisoned inj) => s.poisonRun k l.what.addr inj
  | _, _ => s

/-- Store `x` of core `k`, of a run with shadows `sh`, reaches its target; false where it ends in an error response. -/
def State.farStoreAt (s : State) (k : Nat) (sh : List (Nat × Nat)) (x : FarStore) (fails : Nat) : State × Bool :=
  let w := s.coreWho k x.tid
  if x.cls = clDirect then s.busWrite w x.addr (leBytes x.val x.bytes) fails
  else
    let (s, ok) := s.passChecks w x.addr x.bytes fails true
    if !ok then (s, false)
    else match s.sramPage x.addr with
    | none => (s, false)
    | some (c, p) =>
      match sh.lookup (pageKey c p) with
      | some f => (s.st (frameAddr c f + x.addr % 512) x.bytes x.val, true)
      | none => (s, true)

/-- Whose a posted store is: of the run in progress, of the run held aside, or of a run that has ended. -/
inductive StoreOf where
  | own (i : Nat)
  | held (i : Nat)
  | late (i : Nat)
  deriving DecidableEq, Repr

/-- The `i`-th posted store of core `k`, counted through the run in progress, the run held aside, and what ended runs
have left (R30, R53), with the shadows of its run. -/
def Core.posted (c : Core) (i : Nat) : Option (StoreOf × FarStore × List (Nat × Nat)) :=
  let held := match c.aside with | some a => a.stores | none => []
  let sh := match c.run with | some r => r.shadows | none => []
  let shHeld := match c.aside with | some a => a.run.shadows | none => []
  match c.stores[i]?, held[i - c.stores.length]?, c.late[i - c.stores.length - held.length]? with
  | some x, _, _ => some (.own i, x, sh)
  | none, some x, _ => some (.held (i - c.stores.length), x, shHeld)
  | none, none, some x => some (.late (i - c.stores.length - held.length), x, [])
  | none, none, none => none

/-- The core without a posted store. -/
def Core.unpost (c : Core) : StoreOf → Core
  | .own i => { c with stores := c.stores.eraseIdx i }
  | .held i => { c with aside := c.aside.map fun a => { a with stores := a.stores.eraseIdx i } }
  | .late i => { c with late := c.late.eraseIdx i }

/-- The `i`-th posted far store of core `k` had to wait at its target where `waits` is set (R159). -/
def State.storeWaits (s : State) (k i fails : Nat) (waits : Bool) : State :=
  match waits, (s.core k).posted i with
  | true, some (_, x, _) =>
    if s.behind k x.seq (s.storeTarget x) then s
    else s.waited (s.coreWho k x.tid) x.addr x.bytes fails (s.storeTarget x) true
  | _, _ => s

/-- The `i`-th posted far store of core `k` completes, unless an earlier access of the cluster to the same target is
outstanding (R53, R154). A DONE that waited for it ends the run (R33). An error response stops the core (R54); to a
store whose run has ended it stops nothing (DESIGN CHOICE, log entry 51). -/
def State.farStoreEnd (s : State) (k i fails : Nat) : State :=
  match (s.core k).posted i with
  | none => s
  | some (o, x, sh) =>
    if s.behind k x.seq (s.storeTarget x) then s
    else
      match (s.errored 0 false).farStoreAt k sh x fails, o with
      | (s, true), _ =>
        let s := s.modCore k (·.unpost o)
        match (s.core k).ending with
        | some e => if (s.core k).stores.isEmpty then s.endRun k e else s
        | none => s
      | (s, false), .late _ => s.modCore k (·.unpost o)
      | (s, false), _ => s.stopCoreAt k 0x42 s.integ.err.2 x.pc

end Sys2Proof.Machine
end

