-- ==== Sys2Proof/Machine/Frame.lean ====
section
/-! DEFINITION. The frame (chapter 3): what the downbeat, the dispatcher step and the commit point bring
about, each as one step whose records are ordered at its end (R26, R130, R368). -/
namespace Sys2Proof.Machine

/-! ## The dispatcher step (R130) -/

/-- Item 1 of the step in which downbeat D(n) falls, with what the downbeat decides before any grant: cores,
clusters, received pages, commits, configuration, routes, buses, the snapshot, held tasks, and the commands
staged with DB, after which those that a lead took too late move up (R126, R130, R141, R182, R194, R205, R343,
R346, R392, R393, R408). -/
def State.downbeatPart (s : State) : State :=
  let n := s.frame
  let s := { s with disp := { s.disp with downbeat := false } }
  let s := s.marksDownbeat.downbeatCores.memtCores.powerDownbeat.installCopies
  let s := (s.epochDownbeat n).wardApply.voteFix.sigCheck
  let s := (((s.routeDownbeat n).busesDownbeat n).snapCapture n).downbeatTasks
  { s with disp := { s.disp with dbCmds := s.disp.lateCmds, lateCmds := [] } }

/-- One step of the dispatcher, records apart. -/
def State.stepBody (s : State) : State :=
  ((if s.disp.downbeat then s.downbeatPart else s).stepRest).memtYield

/-- One step of the dispatcher (R130, R131). -/
def State.dispatcherStep (s : State) : State := if s.board.held then s else State.batched State.stepBody s

/-- The step of an earlier downbeat, and one that takes the give-up actions of the frame, come before what follows. -/
def State.stepDue (s : State) : State :=
  if s.disp.downbeat || !s.disp.due.isEmpty then s.dispatcherStep else s

/-! ## The downbeat (R26) -/

/-- Pace of cluster `c` for the frame that ends (R45): bundles of its in-service cores over their busy time, `busy`
µs; its rounding is not given (log entry 24), and without busy time it is a free value. -/
def State.pace (s : State) (c busy : Nat) : State :=
  let ks := ((List.range 16).map (16 * c + ·)).filter fun k => bit (s.rd (CORECTL_INSVC_MAP (k / 32))) (k % 32)
  let b := ks.foldl (fun (b : Nat) k =>
    b + (s.rd (CORECTL_CBUNDLES_COUNT k) + 2 ^ 32 - tget 0 s.board.bundles k) % 2 ^ 32) 0
  let s := s.wr (DISP_PACE_BUSY c) busy
  if busy = 0 then (if b = 0 then s.wr (DISP_PACE_PACE c) 0 else (s.wr (DISP_PACE_PACE c) (s.free 16)).used)
  else if b % busy = 0 then s.wr (DISP_PACE_PACE c) (b / busy)
  else (s.wr (DISP_PACE_PACE c) (b / busy + s.free 1)).used

/-- Pace of every cluster; the counts of the frame that opens start here. -/
def State.paceDownbeat (s : State) (busy : List Nat) : State :=
  let s := (List.range 16).foldl (fun (s : State) c => s.pace c (busy.getD c 0)) s
  s.modBoard fun x => { x with bundles := (List.range 256).foldl (fun (l : Tab Nat) k =>
    tput 0 l k (s.rd (CORECTL_CBUNDLES_COUNT k))) x.bundles }

/-- A new device rate takes effect (R25): page changes, route crossfades and bus glides end at their targets. -/
def State.rateDownbeat (s : State) : State :=
  if !s.board.rate then s
  else
    let s := (s.modBoard fun x => { x with rate := false }).wr SYS_RATE_ACT (s.rd SYS_RATE_FS)
    let s := s.changingPages.foldl State.endChange s
    { s with route := { s.route with
        dests := s.route.dests.map fun q => (q.1, { q.2 with out := none, k := 0, kLen := 0 })
        buses := s.route.buses.map fun q => (q.1, { q.2 with old := q.2.new, kk := 0 }) } }

/-- Lockstep mismatches at the seals (R362): of a microphone's path, whose block is then taken as failed, and of an
ASRC group that is LOCKED. Answers the state for the groups before the ports are sealed. -/
def State.asrcMismatches (s : State) (mis : List (Nat × Nat × Nat)) : State :=
  (mis.filter fun q => q.1 == uAsrc && decide (q.2.1 < 32)).foldl (fun (s : State) q =>
    if s.rd (SPORT_ASRCST_LOCK q.2.1) = 2 then
      let s := s.mismatch uAsrc q.2.1 3 false
      { s with io := { s.io with asrcMis := q.2.1 :: s.io.asrcMis } }
    else s) s

def State.micMismatches (s : State) (mis : List (Nat × Nat × Nat)) : State :=
  (mis.filter fun q => q.1 == uMic && decide (q.2.1 < 64)).foldl (fun (s : State) q =>
    if s.rd (micField q.2.1) = 2 then
      let s := s.mismatch uMic q.2.1 2 false
      { s with route := { s.route with badSeal := (0x800 + q.2.1) :: s.route.badSeal } }
    else s) s

/-- What the world brings to a downbeat: modulators and group spares that failed a frame (R312), mean sense
currents squared (channel, 2^−32 A²; R300), lockstep mismatches (unit type, instance, stage; R362), disturbed copies of
configuration words (index, copy, value; R393), busy µs per cluster (R45), and the transactions of the frame that had
to wait at their target without a command of their own to say so (master, target; R159), and the bits that the PDM
lines brought in the frame, by microphone (R241). -/
structure FrameEnd where
  mods : List (Nat × List (Option Nat))
  spares : List (Nat × List (Option Nat))
  sense : List (Nat × Nat)
  mis : List (Nat × Nat × Nat)
  upsets : List (Nat × Fin 3 × Nat)
  busy : List Nat
  conf : List (Nat × Nat)
  pdm : List (Nat × List Bool)

/-- Counts conflicts of pairs of master and target (R159). -/
def State.countWaits (s : State) (l : List (Nat × Nat)) : State :=
  l.foldl (fun (s : State) q =>
    if q.1 < 24 ∧ q.2 < 22 then s.incSat (XBAR_CONFCNT_COUNT (q.1 * 22 + q.2)) 1 else s) s

/-- The frame that ends: its outputs are rendered, presented and sealed (R28, R203, R344). -/
def State.sealFrame (s : State) (mis : List (Nat × Nat × Nat)) (pdm : List (Nat × List Bool)) : State :=
  let n := s.n
  let s := ((s.renderFrame mis).presentDownbeat.sealInject.asrcInject).asrcMismatches mis
  let s := ((s.portsSeal n).micsSeal n pdm).micMismatches mis
  let s : State := { s with route := { s.route with
    coreMis := (mis.filter fun q => q.1 == uEndpoint && coreIn q.2.1).map (·.2.1) } }
  ((s.streamsSeal n).mirrorSeals (n - 1)).fire 0

/-- D(n), at beat-counter time `t`, opens frame n. -/
def State.openFrame (s : State) (t : Nat) : State :=
  let s := s.snapOpen.realigned t
  let s := { s with n := s.n + 1, window := false, io := { s.io with dbAt := t } }
  let runs := (DISP_CTXSTAT_RUNS 0).no
  { s with disp := { s.disp with downbeat := true, gaveUp := [], lastEnd := none }, epoch := { s.epoch with atDb := s.staged }, flds := s.flds.filter fun q => q.1 != runs }

/-- The downbeat, records apart: D(n) falls when media clock 0 reaches it (R273). -/
def State.downbeatBody (e : FrameEnd) (s : State) : State :=
  let t := s.downbeatTime
  let s : State := { s with bc := max s.bc t }
  let s := e.upsets.foldl State.upsetCfg s
  let s := (s.countWaits e.conf).railCurrents.paceDownbeat e.busy
  let s := ((s.sealFrame e.mis e.pdm).openFrame t).rateDownbeat
  let n := s.frame
  let s := (((s.timeDownbeat.refsDownbeat n).pairDownbeat n).memtDownbeat).modulesDownbeat
  let s := (s.ampsDownbeat e.mods e.spares e.sense).dacsDownbeat
  ((s.portsOpen n).streamsOpen n).refsSettle

/-- The downbeat (R26). -/
def State.downbeat (s : State) (e : FrameEnd) : State :=
  if s.board.held then s else State.batched (State.downbeatBody e) s.stepDue

/-! ## The commit point (R26) -/

/-- The slack of the frame in 0.1 % (R44): 3 per µs from the downbeat to the last DONE or abandonment of a deadline
task, by the beat counter. The spec does not say how it is rounded (the floor or one above it, free), nor what it is
in a frame in which no deadline task ended (free): log entry 24. -/
def State.slackOf (s : State) : Nat × State :=
  match s.disp.lastEnd with
  | some t =>
    let d := 3 * ((t + 2 ^ 64 - s.io.dbAt) % 2 ^ 64)
    if d % 1000 = 0 then (d / 1000, s) else (d / 1000 + s.free 1, s.used)
  | none => (s.free 10, s.used)

/-- Records the slack of the frame (R44). -/
def State.slack (s : State) : State :=
  let (v, s) := s.slackOf
  let v := min v 1023
  let s := (s.wr DISP_SLACK_VALUE v).wr DISP_SLACK_FRAME (s.frame % 65536)
  let s := if s.rd DISP_SLACKMAX_MAX < v then s.wr DISP_SLACKMAX_MAX v else s
  if s.rd DISP_SLACKTHR_THR < v then (s.wr DISP_STATUS_SLACKEV 1).event 0x0003 (s.partBlock 1) (leBytes v 2) else s

/-- The time of the router's copies (R203). -/
def State.moveDone (s : State) (ns : Nat) : State :=
  let v := min ns 65535
  let s := s.wr ROUTE_MOVEDONE_LAST v
  if s.rd ROUTE_MOVEDONE_MAX < v then s.wr ROUTE_MOVEDONE_MAX v else s

/-- What the world brings to a commit point: copy time, sources and destinations whose block check fails
(R359), destinations whose copies disagree (R362), and the pages that the peer has asked for (R346). -/
structure PointEnd where
  ns : Nat
  bad : List Nat
  badD : List Nat
  mis : List Nat
  asked : List (Nat × Nat)

/-- The commit point, records apart. -/
def State.commitPointBody (e : PointEnd) (s : State) : State :=
  let s := { s with window := true }
  let s := s.slack.routeWindow e.bad e.badD e.mis s.frame
  (s.moveDone e.ns).pairCommit s.frame e.asked

/-- The commit point (R26): 90 % of the frame. -/
def State.commitPoint (s : State) (e : PointEnd) : State :=
  if s.board.held || s.window || s.n == 0 then s else State.batched (State.commitPointBody e) s.stepDue

end Sys2Proof.Machine
end

