-- ==== Sys2Proof/Machine/Commands.lean ====
section
/-! DEFINITION. What the meanings of the rows share: the guard of a device in reset, commands of a ring (R382 to
R385), COPY (R383), a lead's COMMIT (R343), mirrored commands (R343), and the peer's heartbeat (R349). -/
namespace Sys2Proof.Machine

/-- Nothing happens in a device that is held in reset (R399). -/
def State.live (s : State) (f : State → State) : State := if s.board.held then s else f s

/-- The value with the `w` bits from bit `lo` at `x`. -/
def withBits (v : Word) (lo w x : Nat) : Nat := v.toNat - bits v.toNat lo w * 2 ^ lo + x % 2 ^ w * 2 ^ lo

/-- A read of a register by a host port, answered. -/
def State.hostGet (s : State) (p : Port) (a : Nat) : State :=
  match s.busRead (s.whoOf p) a 4 0 with
  | (t, some bs) => t.answer (.ok (wordList bs))
  | (t, none) => (if p = .spi then t.wr HOST_SPISTAT_ERR 1 else t).answer .error

/-- A write of a word at a device address by a host port, answered; a refused one sets ERR at the SPI port (R377). -/
def State.hostPut (s : State) (p : Port) (a v : Nat) : State :=
  let (t, ok) := s.busWrite (s.whoOf p) a (leBytes v 4) 0
  (if p = .spi && !ok then t.wr HOST_SPISTAT_ERR 1 else t).answerW ok

/-- A nanosecond of the beat counter without a command (R261; log entry 32); it stands still in reset. -/
def State.idle (s : State) : State := if s.board.held then s else { s with bc := (s.bc + 1) % 2 ^ 64 }

/-! ## Ring commands (R382 to R385) -/

/-- A reserved byte of the header, or of the body of NOP or COPY, is not 0 (R382, R383; log entry 33). -/
def reservedSet (e : List Byte) : Bool :=
  let op := entN e 0 1
  decide (op < 4) && (entN e 1 3 != 0 || (op == 0 && entN e 16 48 != 0) || (op == 3 && (entN e 37 27 != 0 || 4 ≤ entN e 36 1)))

/-- The entry at RCI of ring `r` is taken, where it holds an opcode that `p` accepts and no earlier COMMIT of the ring
waits for its acknowledgement (R343, R381, R385). -/
def State.ringRun (s : State) (r : Nat) (p : Nat → Bool) (run : State → List Byte → State × Option (Nat × Nat × Bool)) : State :=
  if s.board.held || s.epoch.waiting.contains r || !s.cmdIs r p then s
  else s.takeCommand r fun s e => if reservedSet e then (s, some (stMALFORMED, 0, false)) else run s e

/-- The accessor of a command of ring `r` (R383, R395; a ring in device memory is taken for the SPI host's, log entry 31). -/
def State.ringWho (s : State) (r : Nat) : Who :=
  { q := s.partRing r, code := if s.on (HOST_RCFG_LOC r) then 0 else 1, master := 16, qos := s.rd HOST_CTRL_QOS }

/-- COMMIT: a lead's waits for the heel where the acknowledgement does not come (R190, R343). -/
def State.commitRing (s : State) (r : Nat) (acked past : Bool) : State :=
  let judged := fun (s : State) (e : List Byte) => s.judgeCommit (s.partRing r) e past
  let go := fun (s : State) (e : List Byte) =>
    match judged s e with
    | .inl st => (s, some (st, 0, false))
    | .inr c =>
      let s := s.acceptCommit c
      (if s.role = roLead then s.tell (.commit c) else s, some (stOK, c.n, c.late))
  if s.role = roLead ∧ !acked ∧ !s.board.held ∧ !s.epoch.waiting.contains r ∧ s.cmdIs r (· == 1)
      ∧ s.newSeq r (entN (s.ringEntry r) 4 4) ∧ !reservedSet (s.ringEntry r) then
    match judged s (s.ringEntry r) with
    | .inr c => { s.tell (.commit c) with epoch := { s.epoch with waiting := r :: s.epoch.waiting } }
    | .inl _ => s.ringRun r (· == 1) go
  else s.ringRun r (· == 1) go

/-- A lead's COMMIT without an acknowledgement within 20 µs (R343). -/
def State.mirrorAckTimeout (s : State) (r : Nat) : State :=
  if s.epoch.waiting.contains r then
    ({ s with epoch := { s.epoch with waiting := s.epoch.waiting.erase r } }).ringRun r (· == 1)
      fun s _ => (s, some (stNOTMIRRORED, 0, false))
  else s

/-- COMMIT_CANCEL (R190, R343). -/
def State.cancelRing (s : State) (r : Nat) : State :=
  s.ringRun r (· == 2) fun s e =>
    let (t, st) := s.cancelCommit e
    (if t.role = roLead ∧ st = stCANCELLED then t.tell (.cancel (entN e 16 4)) else t, some (st, 0, false))

/-- Reads `n` bytes for a COPY, in host memory of function `fn` or at a device address. -/
def State.copyRead (s : State) (w : Who) (fn : Nat) (host : Bool) (a n : Nat) : State × Option (List Byte) :=
  if host then (s, some (bytesAt s.hostMem (hostAddr fn a) n)) else s.busRead w a n 0

/-- Writes bytes for a COPY. -/
def State.copyWrite (s : State) (w : Who) (fn : Nat) (host : Bool) (a : Nat) (bs : List Byte) : State × Bool :=
  if host then ({ s with hostMem := putBytes s.hostMem (hostAddr fn a) bs }, true) else s.busWrite w a bs 0

/-- An address at which a COPY may use a 16-byte burst: not in the register blocks (R383). -/
def burstAt (host : Bool) (a : Nat) : Bool := host || (a % 16 == 0 && !(decide (0x0A000000 ≤ a) && decide (a < 0x0B000000)))

/-- The accesses of a COPY from `src` to `dst`, `left` bytes to go and `done` copied; `fuel` bounds their number. The
count of bytes copied, and whether all were (R383). -/
def State.copyRun (w : Who) (fn : Nat) (hs hd : Bool) : Nat → State → Nat → Nat → Nat → Nat → State × Nat × Bool
  | 0, s, _, _, _, done => (s, done, true)
  | fuel + 1, s, src, dst, left, done =>
    if left = 0 then (s, done, true)
    else
      let n := if 16 ≤ left && burstAt hs src && burstAt hd dst then 16 else 4
      match s.copyRead w fn hs src n with
      | (s, none) => (s, done, false)
      | (s, some bs) =>
        match s.copyWrite w fn hd dst bs with
        | (s, false) => (s, done, false)
        | (s, true) => State.copyRun w fn hs hd fuel s (src + n) (dst + n) (left - n) (done + n)

/-- COPY (R383). -/
def State.copyRing (s : State) (r : Nat) : State :=
  s.ringRun r (· == 3) fun s e =>
    let len := entN e 32 4
    if len = 0 ∨ len % 4 ≠ 0 ∨ 2 ^ 20 < len then (s, some (stMALFORMED, 0, false))
    else
      let q := State.copyRun (s.ringWho r) (s.rd (HOST_RCFG_FN r)) (bit (entN e 36 1) 0) (bit (entN e 36 1) 1) (len / 4) s
        (entN e 16 8) (entN e 24 8) len 0
      (q.1, some (if q.2.2 then stOK else stACCESS, q.2.1, false))

/-! ## Mirrored commands (R343, R348) -/

/-- A mirrored command reaches the heel: from D(e) on it applies there as on the lead. -/
def State.mirrorCmd (s : State) (c : MirCmd) : State :=
  if s.role ≠ roHeel ∨ s.pair.joined.isNone then s
  else match c with
  | .commit c => (s.acceptCommit c).tell (.commitAck c.epoch)
  | .cancel ep => { s with epoch := { s.epoch with pend := s.epoch.pend.filter fun c => c.epoch != ep } }
  | .write a v => s.mirrorWrite a v
  | .disp c n =>
    if s.n < n then { s with disp := { s.disp with lateCmds := s.disp.lateCmds ++ [c] } }
    else { s with disp := { s.disp with dbCmds := s.disp.dbCmds ++ [c] } }

/-- What a page message brings (R346, R348). -/
def State.pageMsg (s : State) : PageMsg → State
  | .sram c p bs => s.pageCopy c p bs
  | .join x => s.joinItem (some x)
  | .joinEnd => s.joinItem none

/-! ## Modules and pins that only set a level -/

/-- PAIR_PEER_HB (R349). -/
def State.peerHeartbeat (s : State) (v : Nat) : State := s.wr PAIR_STAT_PEERHB v

/-- A lane retirement that the peer announces (R339). -/
def State.laneFlit (s : State) (l : Nat) : State := if s.on PAIR_STAT_LINK then s.laneDecide l false else s

/-- A write of the descriptor word of the stream that the window selects, EN set or cleared: word 0 bit 0 (R252, R269). -/
def State.streamWrite (s : State) (p : Port) (rx : Bool) (v : Word) (en : Nat) : State :=
  let x := withBits v 0 1 en
  if rx then s.hostReg p row_NET_RSDATA (s.rd NET_RSSEL_INDEX * 16) x else s.hostReg p row_NET_TSDATA (s.rd NET_TSSEL_INDEX * 16) x

end Sys2Proof.Machine
end

