-- ==== Sys2Proof/Machine/AmpRows.lean ====
section
/-! DEFINITION. Amplifier channels (chapter 13), one meaning per row of the table. -/
namespace Sys2Proof.Machine

/-- A write of AMP.CMD with REQ OFF (R307). -/
def execAmpCmdOff (p : Port) (c : Fin 128) (v : Word) (s : State) : Host.Outcome State Fault Refusal :=
  .next (s.hostReg p row_AMP_CMD c.val (withBits (BitVec.ofNat 32 (withBits v 0 2 0)) 17 1 0))

/-- A write of AMP.CMD with REQ DIAG (R307). -/
def execAmpCmdDiag (p : Port) (c : Fin 128) (v : Word) (s : State) : Host.Outcome State Fault Refusal :=
  .next (s.hostReg p row_AMP_CMD c.val (withBits (BitVec.ofNat 32 (withBits v 0 2 1)) 17 1 0))

/-- A write of AMP.CMD with REQ RUN (R307). -/
def execAmpCmdRun (p : Port) (c : Fin 128) (v : Word) (s : State) : Host.Outcome State Fault Refusal :=
  .next (s.hostReg p row_AMP_CMD c.val (withBits (BitVec.ofNat 32 (withBits v 0 2 2)) 17 1 0))

/-- A write of AMP.CMD with ABRET 1 (R304). -/
def execAbret (p : Port) (c : Fin 128) (v : Word) (s : State) : Host.Outcome State Fault Refusal :=
  .next (s.hostReg p row_AMP_CMD c.val (withBits v 17 1 1))

/-- A 20 ms test step ends with means in mV and µA (R308). -/
def execDiagStepEnd (c : Fin 128) (mv ua : Nat) (s : State) : Host.Outcome State Fault Refusal :=
  .next (s.live fun s => s.testStep c.val mv ua)

/-- The start ramp completes (R306). -/
def execStartingDone (c : Fin 128) (s : State) : Host.Outcome State Fault Refusal :=
  .next (s.live fun s => s.startingDone c.val)

/-- The stop ramp completes (R306). -/
def execStoppingDone (c : Fin 128) (s : State) : Host.Outcome State Fault Refusal :=
  .next (s.live fun s => s.stoppingDone c.val)

/-- The fast current exceeds ITRIP twice running (R302). -/
def execTrip (c : FastCurrent) (s : State) : Host.Outcome State Fault Refusal :=
  .next (s.live fun s => s.tripIn c.chan.val c.bits)

/-- 250 ms after entry into FAULT_SHORT (R303). -/
def execProbeDue (c : Fin 128) (s : State) : Host.Outcome State Fault Refusal :=
  .next (s.live fun s => s.probeDue c.val)

/-- A probe ends with means in mV and µA (R303). -/
def execProbeEnd (c : Fin 128) (mv ua : Nat) (s : State) : Host.Outcome State Fault Refusal :=
  .next (s.live fun s => s.probeEnd c.val mv ua)

/-- The recovery ramp completes (R303). -/
def execRecoverDone (c : Fin 128) (s : State) : Host.Outcome State Fault Refusal :=
  .next (s.live fun s => s.recoverDone c.val)

/-- The 100 ms measurement of |Z| in mΩ, none without a signal (R310). -/
def execLineMeasurement (c : Fin 128) (z : Option Nat) (s : State) : Host.Outcome State Fault Refusal :=
  .next (s.live fun s => s.lineMeasure c.val z)

/-- A write of ZBASE with CAP 1 (R311). -/
def execZbaseCapture (p : Port) (c : Fin 128) (v : Word) (s : State) : Host.Outcome State Fault Refusal :=
  .next (s.hostReg p row_LINE_ZBASE c.val (withBits v 31 1 1))

/-- A write of PCTL (R298). -/
def execPvalidWrite (p : Port) (c : Fin 128) (v : Word) (s : State) : Host.Outcome State Fault Refusal :=
  .next (s.hostReg p row_GUARD_PCTL c.val (v.toNat))

/-- The model coefficients are ready (R298). -/
def execCoefficientCompute (c : Fin 128) (s : State) : Host.Outcome State Fault Refusal :=
  .next (s.live fun s => s.computeCoef c.val)

/-- MODCMD.GO for a channel's modulator (R312). -/
def execModcmdGo (p : Port) (c : Fin 128) (s : State) : Host.Outcome State Fault Refusal :=
  .next (s.hostReg p row_AMP_MODCMD 0 (c.val + 2147483648))

end Sys2Proof.Machine
end

