-- ==== Sys2Proof/Machine/BellRows.lean ====
section
/-! DEFINITION. The alarm override path and the Bell unit (chapter 14), one meaning per row of the table. -/
namespace Sys2Proof.Machine

/-- ALM_IN i changes level (R320). -/
def execAlarmPinChange (i : Fin 16) (level : Bool) (s : State) : Host.Outcome State Fault Refusal :=
  .next (s.alarmPin i.val level)

/-- ALM_IN i has held its level for DEB ms (R320). -/
def execAlarmInputDebounced (i : Fin 16) (s : State) : Host.Outcome State Fault Refusal :=
  .next (s.live fun s => s.alarmDebounced i.val)

/-- A crossfade of channel c completes, DACs from 128 (R325). -/
def execOverrideRampEnd (c : Fin 136) (s : State) : Host.Outcome State Fault Refusal :=
  .next (s.live fun s => s.overRampEnd c.val)

/-- A write of SWACT (R321). -/
def execSwactWrite (p : Port) (v : Word) (s : State) : Host.Outcome State Fault Refusal :=
  .next (s.hostReg p row_OVR_SWACT 0 (v.toNat))

/-- A write of RELEASE (R321). -/
def execReleaseWrite (p : Port) (v : Word) (s : State) : Host.Outcome State Fault Refusal :=
  .next (s.hostReg p row_OVR_RELEASE 0 (v.toNat))

/-- A write of OVR.CTRL (R328). -/
def execOverrideArm (p : Port) (v : Word) (s : State) : Host.Outcome State Fault Refusal :=
  .next (s.hostReg p row_OVR_CTRL 0 (v.toNat))

/-- 10 s after the last RUN of an overridden wake-set channel (R326). -/
def execWakeRetry (c : Fin 128) (s : State) : Host.Outcome State Fault Refusal :=
  .next (s.live fun s => s.wakeRetry c.val)

/-- Player x reaches the end of its waveform: alarm players 0 to 15, Bell players from 16 (R318). -/
def execPlayerEnd (x : Fin 24) (s : State) : Host.Outcome State Fault Refusal :=
  .next (s.live fun s => s.playerEnd x.val)

/-- The load strobe of group g (R331). -/
def execLoadStrobe (g : Fin 2) (s : State) : Host.Outcome State Fault Refusal :=
  .next (s.live fun s => s.loadStrobe g.val)

/-- A write of PLAY with GO 1 (R334). -/
def execPlayGo (p : Port) (d : Fin 8) (v : Word) (s : State) : Host.Outcome State Fault Refusal :=
  .next (s.hostReg p row_BELL_PLAY d.val (withBits v 16 1 1))

/-- A write of PLAY with STOP 1 (R334). -/
def execPlayStop (p : Port) (d : Fin 8) (v : Word) (s : State) : Host.Outcome State Fault Refusal :=
  .next (s.hostReg p row_BELL_PLAY d.val (withBits v 17 1 1))

/-- A 5 ms enable or disable ramp completes (R331). -/
def execDacRampEnd (d : Fin 8) (s : State) : Host.Outcome State Fault Refusal :=
  .next (s.live fun s => s.dacRampEnd d.val)

/-- A range change passes to its next stage (R332). -/
def execDacRangeSwitch (d : Fin 8) (s : State) : Host.Outcome State Fault Refusal :=
  .next (s.live fun s => s.dacRangeNext d.val)

/-- A measurement of the replica monitor, `dev` for more than 2 % (R333). -/
def execDacMonitorMeasurement (d : Fin 8) (dev : Bool) (s : State) : Host.Outcome State Fault Refusal :=
  .next (s.live fun s => s.dacMeasure d.val dev)

/-- SPCMD.GO for a DAC channel (R333). -/
def execSpcmdGo (p : Port) (d : Fin 8) (s : State) : Host.Outcome State Fault Refusal :=
  .next (s.hostReg p row_BELL_SPCMD 0 (d.val + 2147483648))

/-- A write of BELL.PWR (R334). -/
def execBellPowerWrite (p : Port) (v : Word) (s : State) : Host.Outcome State Fault Refusal :=
  .next (s.hostReg p row_BELL_PWR 0 (v.toNat))

end Sys2Proof.Machine
end

