-- ==== Sys2Proof/Machine/BootRows.lean ====
section
/-! DEFINITION. Resets, boot, power, modules, UART (chapter 18), one meaning per row of the table. -/
namespace Sys2Proof.Machine

/-- PWR_GOOD is deasserted (R399). -/
def execPowerOnReset (s : State) : Host.Outcome State Fault Refusal :=
  .next (s.wholeReset 0)

/-- RESET_N is asserted (R399). -/
def execPinReset (s : State) : Host.Outcome State Fault Refusal :=
  .next (s.wholeReset 1)

/-- A write of RSTCTL with the key and GO (R399). -/
def execSoftReset (p : Port) (s : State) : Host.Outcome State Fault Refusal :=
  .next (s.hostReg p row_SYS_RSTCTL 0 (0x7680 + 2147483648))

/-- Release from reset with the levels of the straps (R401). -/
def execResetRelease (boot : Fin 4) (wardsel sdoz : Bool) (s : State) : Host.Outcome State Fault Refusal :=
  .next (s.releaseReset boot.val wardsel sdoz)

/-- A boot phase completes, given the key hash in fuses and the flash by pieces, offset and bytes (R401). -/
def execBootPhaseEnd (key : List Byte) (flash : List (Nat × List Byte)) (s : State) : Host.Outcome State Fault Refusal :=
  .next (s.bootPhase (key.map BitVec.toNat) (flash.map fun q => (q.1, q.2.map BitVec.toNat)))

/-- PCIE_PERST_N resets the PCIe port (R416). -/
def execPciePerst (s : State) : Host.Outcome State Fault Refusal :=
  .next (s.live fun s => s.perst)

/-- A write of CREQ (R408). -/
def execClusterPowerRequest (p : Port) (v : Word) (s : State) : Host.Outcome State Fault Refusal :=
  .next (s.hostReg p row_PWR_CREQ 0 (v.toNat))

/-- Tj has risen to 118 °C: a reading in 0.25 °C (R409). -/
def execThermWarn (tj : BitVec 10) (s : State) : Host.Outcome State Fault Refusal :=
  .next (s.live fun s => s.junction tj)

/-- THERM_TRIP_N changes: a reading of Tj in 0.25 °C (R409). -/
def execThermTrip (tj : BitVec 10) (s : State) : Host.Outcome State Fault Refusal :=
  .next (s.live fun s => s.junction tj)

/-- MOD_PRES_N of slot x is asserted, or has been held for DEB ms (R410). -/
def execModulePresence (x : Fin 32) (held : Bool) (s : State) : Host.Outcome State Fault Refusal :=
  .next (s.live fun s => s.presence x.val held)

/-- The presence of slot x is released (R413). -/
def execModuleRemoved (x : Fin 32) (s : State) : Host.Outcome State Fault Refusal :=
  .next (s.live fun s => s.removed x.val)

/-- A descriptor read of slot x ends; none where the EEPROM does not acknowledge (R412). -/
def execDescriptorReadDone (x : Fin 32) (rom : Option (List Byte)) (s : State) : Host.Outcome State Fault Refusal :=
  .next (s.live fun s => s.descriptorRead x.val (rom.map fun l => l.map BitVec.toNat))

/-- A write of RESCAN (R411). -/
def execRescan (p : Port) (v : Word) (s : State) : Host.Outcome State Fault Refusal :=
  .next (s.hostReg p row_MODID_RESCAN 0 (v.toNat))

/-- A write of UARTDATA (R417). -/
def execUartWrite (p : Port) (v : Word) (s : State) : Host.Outcome State Fault Refusal :=
  .next (s.hostReg p row_SYS_UARTDATA 0 (v.toNat))

/-- A read of UARTDATA (R417). -/
def execUartRead (p : Port) (s : State) : Host.Outcome State Fault Refusal :=
  .next (s.live fun s => s.hostGet p 0x0A000034)

/-- A byte on UART_RXD (R417). -/
def execUartRxByte (b : Byte) (s : State) : Host.Outcome State Fault Refusal :=
  .next (s.live fun s => s.uartByte b.toNat)

/-- The UART finishes a byte (R417). -/
def execUartByteSent (s : State) : Host.Outcome State Fault Refusal :=
  .next (s.live fun s => s.uartSent)

end Sys2Proof.Machine
end

