-- ==== Sys2Proof/Machine/CoreRows.lean ====
section
/-! DEFINITION. What happens to a core from outside its bundles (chapters 3 and 4), one meaning per row of the table. -/
namespace Sys2Proof.Machine

/-- The i-th far load in flight on core k returns; `retry` says that a hop failed once (R53, R357), `waits` that
it had to wait at its target (R159). -/
def execFarLoadReturn (k : CoreId) (i : Fin 16) (retry waits : Bool) (s : State) : Host.Outcome State Fault Refusal :=
  .next (s.live fun s => (s.loadWaits k.val i.val (if retry then 1 else 0) waits).farLoadEnd k.val i.val (if retry then 1 else 0))

/-- The i-th far load or posted store of core k gets an error response (R54). -/
def execFarAccessError (k : CoreId) (store : Bool) (i : Fin 64) (s : State) : Host.Outcome State Fault Refusal :=
  .next (s.live fun s => if store then s.farStoreEnd k.val i.val 2 else s.farLoadEnd k.val i.val 2)

/-- A breakpoint match on core k (R68). -/
def execBreakTrap (k : CoreId) (s : State) : Host.Outcome State Fault Refusal :=
  .next (s.live fun s => s.takeBreak k.val)

/-- The STEP trap of core k (R68). -/
def execStepTrap (k : CoreId) (s : State) : Host.Outcome State Fault Refusal :=
  .next (s.live fun s => s.takeStep k.val)

/-- Core k, asked to preempt, reaches a safe point (R74). -/
def execUrgentTrap (k : CoreId) (s : State) : Host.Outcome State Fault Refusal :=
  .next (s.live fun s => s.takeUrgent k.val)

/-- Core k with HOLD set reaches a safe point (R78). -/
def execCoreHoldStop (k : CoreId) (s : State) : Host.Outcome State Fault Refusal :=
  .next (s.live fun s => s.takeHold k.val)

/-- A write of CCTRL of core k with STEP 1 (R78). -/
def execCctrlStep (p : Port) (k : CoreId) (v : Word) (s : State) : Host.Outcome State Fault Refusal :=
  .next (s.hostReg p row_CORECTL_CCTRL k.val (withBits v 1 1 1))

/-- The i-th posted far store of core k completes at its target (R53), having had to wait there where `waits` is
set (R159). -/
def execFarStoreComplete (k : CoreId) (i : Fin 64) (retry waits : Bool) (s : State) : Host.Outcome State Fault Refusal :=
  .next (s.live fun s => (s.storeWaits k.val i.val (if retry then 1 else 0) waits).farStoreEnd k.val i.val (if retry then 1 else 0))

/-- Core k reaches a bundle w with a reserved form code or encoding (R80). -/
def execReservedEncoding (k : CoreId) (w : DWord) (s : State) : Host.Outcome State Fault Refusal :=
  .next (s.live fun s => if reservedWord (s.core k.val).pc w then s.runReserved k.val else s)

end Sys2Proof.Machine
end

