-- ==== Sys2Proof/Machine/DispRows.lean ====
section
/-! DEFINITION. Commands of the dispatcher's registers (chapter 6), one meaning per row of the table. -/
namespace Sys2Proof.Machine

/-- DISP.CMD ARM of context t, `db` for the next downbeat (R127). -/
def execArm (p : Port) (t : Fin 4096) (db : Bool) (s : State) : Host.Outcome State Fault Refusal :=
  .next (s.hostReg p row_DISP_CMD 0 (1 + 0 * 16 + t.val * 65536 + b2n db * 2147483648))

/-- DISP.CMD CANCEL (R126). -/
def execCancel (p : Port) (t : Fin 4096) (db : Bool) (s : State) : Host.Outcome State Fault Refusal :=
  .next (s.hostReg p row_DISP_CMD 0 (2 + 0 * 16 + t.val * 65536 + b2n db * 2147483648))

/-- DISP.CMD CLEAR (R126). -/
def execClear (p : Port) (t : Fin 4096) (db : Bool) (s : State) : Host.Outcome State Fault Refusal :=
  .next (s.hostReg p row_DISP_CMD 0 (3 + 0 * 16 + t.val * 65536 + b2n db * 2147483648))

/-- DISP.CMD POST of a flag (R126). -/
def execDispCmdPost (p : Port) (t : Fin 4096) (db : Bool) (flag : Fin 32) (s : State) : Host.Outcome State Fault Refusal :=
  .next (s.hostReg p row_DISP_CMD 0 (4 + flag.val * 16 + t.val * 65536 + b2n db * 2147483648))

/-- CORECMD RETIRE of core k (R141). -/
def execCoreRetire (p : Port) (k : CoreId) (s : State) : Host.Outcome State Fault Refusal :=
  .next (s.hostReg p row_DISP_CORECMD 0 (k.val + 256))

/-- CORECMD RESTORE of core k (R141). -/
def execCoreRestore (p : Port) (k : CoreId) (s : State) : Host.Outcome State Fault Refusal :=
  .next (s.hostReg p row_DISP_CORECMD 0 (k.val + 512))

/-- A write of DISP.SWEV (R144). -/
def execSoftwareEvent (p : Port) (x : Fin 128) (s : State) : Host.Outcome State Fault Refusal :=
  .next (s.hostReg p row_DISP_SWEV 0 (x.val))

/-- SLACKMAX.CLR (R144). -/
def execSlackmaxClr (p : Port) (s : State) : Host.Outcome State Fault Refusal :=
  .next (s.hostReg p row_DISP_SLACKMAX 0 (2147483648))

end Sys2Proof.Machine
end

