-- ==== Sys2Proof/Machine/EpochRows.lean ====
section
/-! DEFINITION. Ring commands and the epoch engine (chapters 8 and 17), one meaning per row of the table. -/
namespace Sys2Proof.Machine

/-- The COMMIT at RCI of ring r; on a lead, `acked` says that the heel acknowledges it and `past` that its
earlier cut-off has passed (R190, R343). -/
def execCommit (r : Fin 256) (acked past : Bool) (s : State) : Host.Outcome State Fault Refusal :=
  .next (s.commitRing r.val acked past)

/-- The COMMIT_CANCEL at RCI of ring r (R190). -/
def execCommitCancel (r : Fin 256) (s : State) : Host.Outcome State Fault Refusal :=
  .next (s.cancelRing r.val)

/-- The COPY at RCI of ring r (R383). -/
def execCopy (r : Fin 256) (s : State) : Host.Outcome State Fault Refusal :=
  .next (s.copyRing r.val)

/-- The NOP at RCI of ring r (R382). -/
def execCmdNop (r : Fin 256) (s : State) : Host.Outcome State Fault Refusal :=
  .next (s.ringRun r.val (· == 0) fun s _ => (s, some (stOK, 0, false)))

/-- No acknowledgement within 20 µs for the COMMIT of ring r (R343). -/
def execMirrorAckTimeout (r : Fin 256) (s : State) : Host.Outcome State Fault Refusal :=
  .next (s.live fun s => s.mirrorAckTimeout r.val)

/-- A host write of word `off` of the STAGE view of a page (R176). -/
def execStageWrite (p : Port) (page : Fin 2048) (off : Fin 256) (v : Word) (s : State) : Host.Outcome State Fault Refusal :=
  .next (s.live fun s => s.hostPut p (stageAddr page.val + 4 * off.val) v.toNat)

/-- The refill of a page's STAGE completes (R179). -/
def execStageRefill (page : Fin 2048) (s : State) : Host.Outcome State Fault Refusal :=
  .next (s.live fun s => s.refillPage page.val)

/-- SNAPCTL.GO (R194). -/
def execSnapshotGo (p : Port) (count : Fin 32) (s : State) : Host.Outcome State Fault Refusal :=
  .next (s.hostReg p row_EPOCH_SNAPCTL 0 (1 + count.val * 16))

/-- EPOCH.POOL.CLR (R195). -/
def execPoolClr (p : Port) (s : State) : Host.Outcome State Fault Refusal :=
  .next (s.hostReg p row_EPOCH_POOL 0 (2147483648))

/-- An entry of another opcode at RCI of ring r (R382). -/
def execBadop (r : Fin 256) (s : State) : Host.Outcome State Fault Refusal :=
  .next (s.ringRun r.val (fun o => decide (3 < o)) fun s _ => (s, some (stBADOP, 0, false)))

end Sys2Proof.Machine
end

