-- ==== Sys2Proof/Machine/FrameRows.lean ====
section
/-! DEFINITION. The commands of the frame (chapter 3), one meaning per row of the table. -/
namespace Sys2Proof.Machine

/-- D(n) falls; with it come the modulators and group spares that failed a frame, mean squared currents by
channel in 2^−32 A², lockstep mismatches (unit type, instance, stage), disturbed copies of configuration
words (index, copy, value), and what the frame showed (R26). -/
def execDownbeat (mods : List (Fin 128 × List (Option Nat))) (spares : List (Fin 8 × List (Option Nat))) (sense : List (Fin 128 × Nat)) (mis : List (Nat × Nat × Nat)) (upsets : List (Nat × Fin 3 × Nat)) (seen : FrameSeen) (s : State) : Host.Outcome State Fault Refusal :=
  .next (s.downbeat { mods := mods.map fun q => (q.1.val, q.2), spares := spares.map fun q => (q.1.val, q.2), sense := sense.map fun q => (q.1.val, q.2), mis, upsets, busy := seen.busy, conf := seen.conf.map fun q => (q.1.val, q.2.val), pdm := seen.pdm.map fun q => (q.1.val, q.2) })

/-- The commit point: time of the copies in ns, sources whose block check fails, delay descriptors whose tap
fails its check, destinations whose check fails, destinations whose copies disagree, pages that the peer asks
for (R26). -/
def execCommitPoint (ns : Nat) (bad badT badD mis : List Nat) (asked : List (Nat × Nat)) (s : State) : Host.Outcome State Fault Refusal :=
  .next (s.commitPoint { ns, bad := bad ++ badT.map tapNo, badD, mis, asked })

/-- The give-up time of deadline task t (R41). -/
def execGiveUp (t : Fin 4096) (s : State) : Host.Outcome State Fault Refusal :=
  .next (s.live fun s => s.giveUp t.val)

/-- One step of the dispatcher (R130). -/
def execDispatcherStep (s : State) : Host.Outcome State Fault Refusal :=
  .next (s.dispatcherStep)

end Sys2Proof.Machine
end

