-- ==== Sys2Proof/Machine/HostRows.lean ====
section
/-! DEFINITION. Host interfaces, partitions and plain register writes (chapters 17 and 18), one meaning per row of the table. -/
namespace Sys2Proof.Machine

/-- A BAR access of a PCIe function (R376); `waits` says that it had to wait at its target (R159). -/
def execHostBarAccess (fn : Fin 8) (bar2 : Bool) (off : Nat) (op : BarOp) (retry waits : Bool) (s : State) : Host.Outcome State Fault Refusal :=
  .next (s.live fun s => (let s := s.barWaits (.pcie fn) bar2 off op (b2n retry) waits; match op with | .write bs => s.barWrite (.pcie fn) bar2 off bs (b2n retry) | .read n => s.barRead (.pcie fn) bar2 off n (b2n retry)))

/-- An SPI WRITE (R377). -/
def execSpiWrite (a : Nat) (words : List Word) (retry : Bool) (s : State) : Host.Outcome State Fault Refusal :=
  .next (s.live fun s => s.spiWrite a words (b2n retry))

/-- An SPI READ, `late` for each word that has not arrived in time (R377). -/
def execSpiRead (a : Nat) (late : List Bool) (retry : Bool) (s : State) : Host.Outcome State Fault Refusal :=
  .next (s.live fun s => s.spiRead a late (b2n retry))

/-- An SPI STATUS (R377). -/
def execSpiStatus (s : State) : Host.Outcome State Fault Refusal :=
  .next (s.live fun s => s.spiStatus)

/-- A write of RPI of ring r (R380). -/
def execRingRpiWrite (p : Port) (r : Fin 256) (v : Word) (s : State) : Host.Outcome State Fault Refusal :=
  .next (s.hostReg p row_HOST_RPI r.val (v.toNat))

/-- A write of RCI of ring r (R380). -/
def execRingRciWrite (p : Port) (r : Fin 256) (v : Word) (s : State) : Host.Outcome State Fault Refusal :=
  .next (s.hostReg p row_HOST_RCI r.val (v.toNat))

/-- A write of CFGSTG at the selected index (R392). -/
def execWardCfgstgWrite (p : Port) (v : Word) (s : State) : Host.Outcome State Fault Refusal :=
  .next (s.hostReg p row_WARD_CFGSTG (s.rd WARD_CFGSEL_INDEX) (v.toNat))

/-- APPLY.GO (R392). -/
def execWardApplyGo (p : Port) (s : State) : Host.Outcome State Fault Refusal :=
  .next (s.hostReg p row_WARD_APPLY 0 (1))

/-- A write of JCI (R395). -/
def execJciWrite (p : Port) (v : Word) (s : State) : Host.Outcome State Fault Refusal :=
  .next (s.hostReg p row_WARD_JCI 0 (v.toNat))

/-- A host write of the register at word `off` of the register space (R9). -/
def execRegisterWrite (p : Port) (off : Fin 2097152) (v : Word) (s : State) : Host.Outcome State Fault Refusal :=
  .next (s.live fun s => s.hostPut p (0x0A000000 + 4 * off.val) v.toNat)

/-- A write of SYS.RATE.FS (R25). -/
def execRateWrite (p : Port) (fs : Fin 2) (s : State) : Host.Outcome State Fault Refusal :=
  .next (s.hostReg p row_SYS_RATE 0 (fs.val))

end Sys2Proof.Machine
end

