-- ==== Sys2Proof/Machine/MemRows.lean ====
section
/-! DEFINITION. Integrity, memory test, memories, DRAM (chapters 7 and 16), one meaning per row of the table. -/
namespace Sys2Proof.Machine

/-- A write of INJCTRL with GO 1 (R372). -/
def execInjectionGo (p : Port) (v : Word) (s : State) : Host.Outcome State Fault Refusal :=
  .next (s.hostReg p row_INTG_INJCTRL 0 (withBits v 0 1 1))

/-- FATCLR.CLR (R375). -/
def execFatclr (p : Port) (s : State) : Host.Outcome State Fault Refusal :=
  .next (s.hostReg p row_INTG_FATCLR 0 (1))

/-- INTERVAL has passed for engine e (R161). -/
def execMemtRegionStart (e : Fin 19) (s : State) : Host.Outcome State Fault Refusal :=
  .next (s.live fun s => s.memtStart e.val)

/-- SAVE of engine e ends (R161). -/
def execMemtSaveEnd (e : Fin 19) (s : State) : Host.Outcome State Fault Refusal :=
  .next (s.live fun s => s.memtSaved e.val)

/-- TEST of engine e ends with failing bits: row, word position, whether more bits of the word fail (R163). -/
def execMemtTestEnd (e : Fin 19) (fs : List (Fin 4 × Fin 8 × Bool)) (s : State) : Host.Outcome State Fault Refusal :=
  .next (s.live fun s => s.memtTested e.val (fs.map fun q => ⟨q.1.val, q.2.1.val, q.2.2⟩))

/-- RESTORE of engine e ends (R161). -/
def execMemtRestoreEnd (e : Fin 19) (s : State) : Host.Outcome State Fault Refusal :=
  .next (s.live fun s => s.memtRestored e.val)

/-- A write of BRETIRE with GO 1 (R164). -/
def execBankRetireGo (p : Port) (v : Word) (s : State) : Host.Outcome State Fault Refusal :=
  .next (s.hostReg p row_MEMT_BRETIRE 0 (withBits v 31 1 1))

/-- Engine 16 completes the copy of a retiring bank (R164). -/
def execBankCopyDone (s : State) : Host.Outcome State Fault Refusal :=
  .next (s.live fun s => s.bankCopied)

/-- A host write of word `off` of an instruction memory of core k (R60). -/
def execInstructionMemoryWrite (p : Port) (k : CoreId) (b : Bool) (off : Fin 4096) (v : Word) (s : State) : Host.Outcome State Fault Refusal :=
  .next (s.live fun s => s.hostPut p (0x04000000 + k.val * 0x40000 + 0x20000 + b2n b * 0x4000 + 4 * off.val) v.toNat)

/-- A host write of word `off` of the operand memory of core k (R57). -/
def execOperandMemoryWrite (p : Port) (k : CoreId) (off : Fin 32768) (v : Word) (s : State) : Host.Outcome State Fault Refusal :=
  .next (s.live fun s => s.hostPut p (0x04000000 + k.val * 0x40000 + 4 * off.val) v.toNat)

/-- A write of CSPOOL (R149). -/
def execCspoolWrite (p : Port) (c : Fin 16) (v : Word) (s : State) : Host.Outcome State Fault Refusal :=
  .next (s.hostReg p row_XBAR_CSPOOL c.val (v.toNat))

/-- CONFCLR (R171). -/
def execConfclr (p : Port) (s : State) : Host.Outcome State Fault Refusal :=
  .next (s.hostReg p row_XBAR_CONFCLR 0 (1))

/-- CSHIGH.CLR (R171). -/
def execCshighClr (p : Port) (c : Fin 16) (s : State) : Host.Outcome State Fault Refusal :=
  .next (s.hostReg p row_XBAR_CSHIGH c.val (2147483648))

/-- TRAIN.START (R168). -/
def execDramTrainStart (p : Port) (d : Fin 2) (s : State) : Host.Outcome State Fault Refusal :=
  .next (s.hostReg p row_DRAMC_TRAIN d.val (1))

/-- Training of controller d ends; `err` is the failing step, 0 for none (R168). -/
def execDramTrainingDone (d : Fin 2) (err : Nat) (s : State) : Host.Outcome State Fault Refusal :=
  .next (s.live fun s => s.dramTrained d.val err)

/-- A write of PWRd (R169). -/
def execDramPowerRequest (p : Port) (d : Fin 2) (v : Word) (s : State) : Host.Outcome State Fault Refusal :=
  .next (s.hostReg p row_DRAMC_PWR d.val (v.toNat))

/-- Controller d reads MR4 (R166). -/
def execMr4Poll (d : Fin 2) (v : Nat) (s : State) : Host.Outcome State Fault Refusal :=
  .next (s.live fun s => s.mr4 d.val v)

end Sys2Proof.Machine
end

