-- ==== Sys2Proof/Machine/NetRows.lean ====
section
/-! DEFINITION. Ethernet and streams (chapter 11), one meaning per row of the table. -/
namespace Sys2Proof.Machine

/-- A write of NETm.CTRL (R269). -/
def execMacEnable (p : Port) (m : Fin 4) (v : Word) (s : State) : Host.Outcome State Fault Refusal :=
  .next (s.hostReg p row_NET_CTRL m.val (v.toNat))

/-- The PCS of MAC m gains or loses lock (R269). -/
def execLinkChange (m : Fin 4) (up : Bool) (s : State) : Host.Outcome State Fault Refusal :=
  .next (s.live fun s => s.linkChange m.val up)

/-- A frame received on MAC m, without its FCS, at beat-counter time (R248). -/
def execFrameReceived (m : Fin 4) (time : Nat) (fcsOk : Bool) (frame : List Byte) (s : State) : Host.Outcome State Fault Refusal :=
  .next (s.live fun s => s.refsFollow (s.frameReceived m.val time fcsOk frame))

/-- A write of descriptor word 0 of the selected stream with EN 1 (R252). -/
def execStreamEnable (p : Port) (rx : Bool) (v : Word) (s : State) : Host.Outcome State Fault Refusal :=
  .next (s.streamWrite p rx v 1)

/-- A write of descriptor word 0 of the selected stream with EN 0 (R258). -/
def execStreamDisable (p : Port) (rx : Bool) (v : Word) (s : State) : Host.Outcome State Fault Refusal :=
  .next (s.streamWrite p rx v 0)

/-- The next packet of transmit stream i (R260). -/
def execStreamPacketTransmit (i : Fin 1024) (s : State) : Host.Outcome State Fault Refusal :=
  .next (s.live fun s => s.streamTransmit i.val)

/-- The frame at RCI of NETTX ring r leaves at beat-counter time (R264). -/
def execHostFrameTransmit (r : Fin 256) (time : Nat) (s : State) : Host.Outcome State Fault Refusal :=
  .next (s.live fun s => s.hostFrame r.val time)

end Sys2Proof.Machine
end

