-- ==== Sys2Proof/Machine/PairRows.lean ====
section
/-! DEFINITION. Pairing (chapter 15), one meaning per row of the table. -/
namespace Sys2Proof.Machine

/-- PAIR.CMD LEAD (R348). -/
def execPairLead (p : Port) (s : State) : Host.Outcome State Fault Refusal :=
  .next (s.hostReg p row_PAIR_CMD 0 (1))

/-- PAIR.CMD JOIN (R348). -/
def execPairJoin (p : Port) (s : State) : Host.Outcome State Fault Refusal :=
  .next (s.hostReg p row_PAIR_CMD 0 (2))

/-- PAIR.CMD DETACH (R352). -/
def execPairDetach (p : Port) (s : State) : Host.Outcome State Fault Refusal :=
  .next (s.hostReg p row_PAIR_CMD 0 (3))

/-- PAIR.CMD SOLO (R352). -/
def execPairSolo (p : Port) (s : State) : Host.Outcome State Fault Refusal :=
  .next (s.hostReg p row_PAIR_CMD 0 (4))

/-- One check of the joining heel: n of the marker and its distance in ns, whether the peer is in LEAD, the
CRC-64 values of its configuration (R348). -/
def execJoinCheck (n skew : Nat) (lead : Bool) (conf : List DWord) (s : State) : Host.Outcome State Fault Refusal :=
  .next (s.live fun s => s.joinCheck n skew lead (conf.map BitVec.toNat))

/-- LEASH(n) arrives (R351). -/
def execLeash (n : Nat) (s : State) : Host.Outcome State Fault Refusal :=
  .next (s.live fun s => s.leash n)

/-- The acknowledgement of LEASH(n) arrives (R351). -/
def execLeashAck (n : Nat) (s : State) : Host.Outcome State Fault Refusal :=
  .next (s.live fun s => s.leashAck n)

/-- A downbeat marker arrives at beat-counter time (R340). -/
def execDownbeatMarker (time : Nat) (s : State) : Host.Outcome State Fault Refusal :=
  .next (s.live fun s => s.markerEvent time)

/-- An echo flit of the peer, or the own one back after `rtt` ns (R340). -/
def execEcho (rtt : Option Nat) (s : State) : Host.Outcome State Fault Refusal :=
  .next (s.live fun s => s.echo rtt)

/-- The peer's digests of frame n (R346). -/
def execDigest (n : Nat) (crcs : List DWord) (s : State) : Host.Outcome State Fault Refusal :=
  .next (s.live fun s => s.peerDigests n (crcs.map BitVec.toNat))

/-- A mirrored command arrives (R343). -/
def execMirroredCommand (c : MirCmd) (s : State) : Host.Outcome State Fault Refusal :=
  .next (s.live fun s => s.mirrorCmd c)

/-- The seal marker of a source for frame m arrives (R344). -/
def execSealMarker (src m : Nat) (s : State) : Host.Outcome State Fault Refusal :=
  .next (s.live fun s => s.sealMarker src m)

/-- Mirrored samples of endpoint e of a source for frame m (R344). -/
def execMirrorSamples (src e m : Nat) (vals : List Word) (s : State) : Host.Outcome State Fault Refusal :=
  .next (s.live fun s => s.mirrorSamples src e m (vals.map BitVec.toNat))

/-- Copied page content arrives (R346, R348). -/
def execPageCopy (x : PageMsg) (s : State) : Host.Outcome State Fault Refusal :=
  .next (s.live fun s => s.pageMsg x)

/-- A flit fails its CRC (R338). -/
def execFlitReplay (s : State) : Host.Outcome State Fault Refusal :=
  .next (s.live fun s => s.flitReplay)

/-- No seal marker by MIRTO (R344). -/
def execMirrorTimeout (src : Nat) (s : State) : Host.Outcome State Fault Refusal :=
  .next (s.live fun s => s.mirrorTimeout src)

/-- No flit for 10 µs, or fewer than 2 lanes (R339). -/
def execLinkDown (s : State) : Host.Outcome State Fault Refusal :=
  .next (s.live fun s => s.refsFollow s.linkDown)

/-- The link trains, `good` being the lanes that do (R339). -/
def execLinkUp (good : BitVec 5) (s : State) : Host.Outcome State Fault Refusal :=
  .next (s.live fun s => s.refsFollow (s.linkUp good.toNat))

/-- Lane l shows invalid sync headers or loses block lock (R339). -/
def execLaneRetire (l : Fin 5) (hdrs : Option Nat) (s : State) : Host.Outcome State Fault Refusal :=
  .next (s.live fun s => s.laneRetire l.val hdrs)

/-- LANECMD.GO (R339). -/
def execLanecmdGo (p : Port) (l : Fin 5) (s : State) : Host.Outcome State Fault Refusal :=
  .next (s.hostReg p row_PAIR_LANECMD 0 (l.val + 2147483648))

/-- No edge on PAIR_PEER_HB for 2 carrier periods (R349). -/
def execPeerHeartbeatLoss (s : State) : Host.Outcome State Fault Refusal :=
  .next (s.live fun s => s.peerHeartbeat 0)

/-- An edge on PAIR_PEER_HB after a gap (R349). -/
def execPeerHeartbeatReturn (s : State) : Host.Outcome State Fault Refusal :=
  .next (s.live fun s => s.peerHeartbeat 1)

/-- The peer announces the retirement of lane l (R339). -/
def execLaneRetirementFlit (l : Fin 5) (s : State) : Host.Outcome State Fault Refusal :=
  .next (s.live fun s => s.laneFlit l.val)

/-- The lead's CRC-32 values of a cluster's digest set arrive (R346). -/
def execPageCrcList (c : Fin 16) (pages : List (Nat × Word)) (s : State) : Host.Outcome State Fault Refusal :=
  .next (s.live fun s => s.pageCrcs c.val (pages.map fun q => (q.1, q.2.toNat)))

end Sys2Proof.Machine
end

