-- ==== Sys2Proof/Machine/PortRows.lean ====
section
/-! DEFINITION. Serial ports, converter groups, microphones (chapter 10), one meaning per row of the table. -/
namespace Sys2Proof.Machine

/-- A write of CFG of port x with EN 1 (R237). -/
def execPortEnable (p : Port) (x : Fin 64) (v : Word) (s : State) : Host.Outcome State Fault Refusal :=
  .next (s.hostReg p row_SPORT_CFG x.val (withBits v 0 1 1))

/-- A write of CFG of port x with EN 0 (R237). -/
def execPortDisable (p : Port) (x : Fin 64) (v : Word) (s : State) : Host.Outcome State Fault Refusal :=
  .next (s.hostReg p row_SPORT_CFG x.val (withBits v 0 1 0))

/-- A frame of port x: its edge in beat-counter time, and SP_DIN as sampled in bit-clock cycles 0, 1, …, the last
being cycle 0 of the next frame (R223, R224, R227); an event of the candidates that name the port (R275). -/
def execPortFrame (x : Fin 64) (time : Nat) (din : List Bool) (s : State) : Host.Outcome State Fault Refusal :=
  .next (s.live fun s => s.portFrameAll x.val time din)

/-- No frame sync within 1.5 sample periods on slave port x (R235). -/
def execPortUnderrun (x : Fin 64) (s : State) : Host.Outcome State Fault Refusal :=
  .next (s.live fun s => s.refsFollow (s.portUnderrun x.val))

/-- A write of ASRCg (R239). -/
def execAsrcEnable (p : Port) (g : Fin 16) (v : Word) (s : State) : Host.Outcome State Fault Refusal :=
  .next (s.hostReg p row_SPORT_ASRC g.val (v.toNat))

/-- Group g has locked, at the ratio measured over the last span + 1 frames of its port (R239, R240). -/
def execAsrcLock (g : Fin 16) (span : Fin 64) (s : State) : Host.Outcome State Fault Refusal :=
  .next (s.live fun s => s.asrcLock g.val (span.val + 1))

/-- A write of PDM.CLKc (R245). -/
def execPdmClockEnable (p : Port) (c : Fin 8) (v : Word) (s : State) : Host.Outcome State Fault Refusal :=
  .next (s.hostReg p row_PDM_CLK c.val (v.toNat))

/-- A write of LCFG of line l (R243). -/
def execMicEnable (p : Port) (l : Fin 32) (v : Word) (s : State) : Host.Outcome State Fault Refusal :=
  .next (s.hostReg p row_PDM_LCFG l.val (v.toNat))

/-- The WAKE time of microphone m expires (R243). -/
def execWakeEnd (m : Fin 64) (s : State) : Host.Outcome State Fault Refusal :=
  .next (s.live fun s => s.micWake m.val)

/-- Constant data for 2 ms (R243). -/
def execMicStuck (m : Fin 64) (s : State) : Host.Outcome State Fault Refusal :=
  .next (s.live fun s => s.micStuck m.val)

/-- 10 ms of changing data (R243). -/
def execMicUnstuck (m : Fin 64) (s : State) : Host.Outcome State Fault Refusal :=
  .next (s.live fun s => s.micUnstuck m.val)

end Sys2Proof.Machine
end

