-- ==== Sys2Proof/Machine/RefRows.lean ====
section
/-! DEFINITION. Reference selection and clock clean-up (chapter 12), one meaning per row of the table. -/
namespace Sys2Proof.Machine

/-- The 10 ms measurement, offsets of candidates 0 to 11 (R277). -/
def execFrequencyMeasurement (offs : List Int) (s : State) : Host.Outcome State Fault Refusal :=
  .next (s.live fun s => s.measureAll offs)

/-- Candidate c is disqualified (R277). -/
def execCandidateDisqualified (c : Fin 12) (cause : Fin 5) (s : State) : Host.Outcome State Fault Refusal :=
  .next (s.live fun s => s.candDisqualified c.val cause.val)

/-- QUALT has passed for candidate c (R278). -/
def execCandidateQualified (c : Fin 12) (s : State) : Host.Outcome State Fault Refusal :=
  .next (s.live fun s => s.candQualified c.val)

/-- Wait-to-restore of DPLL x ends (R282). -/
def execWtrExpiry (x : Fin 4) (s : State) : Host.Outcome State Fault Refusal :=
  .next (s.live fun s => s.wtrExpiry x.val)

/-- A switch of DPLL x ends (R283). -/
def execSwitchComplete (x : Fin 4) (s : State) : Host.Outcome State Fault Refusal :=
  .next (s.live fun s => s.switchComplete x.val)

/-- 4 s within 1 µs (R281). -/
def execAcquireLocked (x : Fin 4) (s : State) : Host.Outcome State Fault Refusal :=
  .next (s.live fun s => s.acquireLocked x.val)

/-- The average of a whole second (R285). -/
def execHoldoverAverage (x : Fin 4) (avg : Int) (s : State) : Host.Outcome State Fault Refusal :=
  .next (s.live fun s => s.holdAverage x.val avg)

/-- A write of DCTRL (R286). -/
def execDctrlModeWrite (p : Port) (x : Fin 4) (v : Word) (s : State) : Host.Outcome State Fault Refusal :=
  .next (s.hostReg p row_REFS_DCTRL x.val (v.toNat))

/-- A write of DFW (R286). -/
def execDfwWrite (p : Port) (x : Fin 4) (v : Word) (s : State) : Host.Outcome State Fault Refusal :=
  .next (s.hostReg p row_REFS_DFW x.val (v.toNat))

/-- A write of DSTEER (R287). -/
def execDsteerWrite (p : Port) (x : Fin 4) (v : Word) (s : State) : Host.Outcome State Fault Refusal :=
  .next (s.hostReg p row_REFS_DSTEER x.val (v.toNat))

/-- The system DPLL loses lock (R271). -/
def execSystemDpllLoss (s : State) : Host.Outcome State Fault Refusal :=
  .next (s.live fun s => s.sysLoss)

/-- A write of FOOFS (R289). -/
def execFrameOutOffsetWrite (p : Port) (x : Fin 4) (v : Word) (s : State) : Host.Outcome State Fault Refusal :=
  .next (s.hostReg p row_REFS_FOOFS x.val (v.toNat))

/-- An edge on WCLK_IN c at beat-counter time (R277). -/
def execWclkInEdge (c : Fin 2) (time : Nat) (s : State) : Host.Outcome State Fault Refusal :=
  .next (s.live fun s => s.candEvent c.val time)

end Sys2Proof.Machine
end

