-- ==== Sys2Proof/Machine/RouteRows.lean ====
section
/-! DEFINITION. Side-tone (chapter 9), one meaning per row of the table. -/
namespace Sys2Proof.Machine

/-- A write of the gain of input x of path m (R216). -/
def execStgainWrite (p : Port) (m : Fin 16) (x : Fin 8) (v : Word) (s : State) : Host.Outcome State Fault Refusal :=
  .next (s.hostReg p row_ROUTE_STGAIN (m.val * 8 + x.val) (v.toNat))

/-- The next zero crossing of the input (R216). -/
def execZeroCrossingApply (m : Fin 16) (x : Fin 8) (s : State) : Host.Outcome State Fault Refusal :=
  .next (s.live fun s => s.gainApply (m.val * 8 + x.val) false)

/-- 10 ms without a zero crossing (R216). -/
def execZcTimeout (m : Fin 16) (x : Fin 8) (s : State) : Host.Outcome State Fault Refusal :=
  .next (s.live fun s => s.gainApply (m.val * 8 + x.val) true)

/-- A write of STCFG of path m (R217). -/
def execSideToneEnable (p : Port) (m : Fin 16) (v : Word) (s : State) : Host.Outcome State Fault Refusal :=
  .next (s.hostReg p row_ROUTE_STCFG m.val (v.toNat))

end Sys2Proof.Machine
end

