-- ==== Sys2Proof/Machine/TimeRows.lean ====
section
/-! DEFINITION. Time bases (chapter 12), one meaning per row of the table. -/
namespace Sys2Proof.Machine

/-- No update of time base x + 1 for SYNCTO (R267). -/
def execSyncTimeout (x : Fin 4) (s : State) : Host.Outcome State Fault Refusal :=
  .next (s.live fun s => s.refsFollow (s.syncTimeout x.val))

/-- TIME.SNAP.GO (R262). -/
def execTimeSnap (p : Port) (s : State) : Host.Outcome State Fault Refusal :=
  .next (s.hostReg p row_TIME_SNAP 0 (1))

/-- A write of TBADJ (R261). -/
def execTbAdj (p : Port) (x : Fin 4) (v : Word) (s : State) : Host.Outcome State Fault Refusal :=
  .next (s.hostReg p row_TIME_TBADJ x.val (v.toNat))

/-- A write of a named-master register (R267). -/
def execTbMidWrite (p : Port) (x : Fin 4) (part : Fin 3) (v : Word) (s : State) : Host.Outcome State Fault Refusal :=
  .next (s.hostReg p (if part = 0 then row_TIME_TBMID0 else if part = 1 then row_TIME_TBMID1 else row_TIME_TBMID2) x.val (v.toNat))

/-- A write of TBRATE (R261). -/
def execTbRateWrite (p : Port) (x : Fin 4) (v : Word) (s : State) : Host.Outcome State Fault Refusal :=
  .next (s.hostReg p row_TIME_TBRATE x.val (v.toNat))

/-- A write of TBCTRL (R268). -/
def execTbEnable (p : Port) (x : Fin 4) (v : Word) (s : State) : Host.Outcome State Fault Refusal :=
  .next (s.hostReg p row_TIME_TBCTRL x.val (v.toNat))

/-- A write of TBSEL (R274). -/
def execTbselWrite (p : Port) (v : Word) (s : State) : Host.Outcome State Fault Refusal :=
  .next (s.hostReg p row_REFS_TBSEL 0 (v.toNat))

end Sys2Proof.Machine
end

