-- ==== Sys2Proof/Machine/Dispatch.lean ====
section
/-! DEFINITION. One arm per command: the meaning it has. -/
namespace Sys2Proof.Machine
open Sys2Proof

def exec (i : Instr) (s : State) : Host.Outcome State Fault Refusal :=
  match i with
  | .downbeat mods spares sense mis upsets seen => Sys2Proof.Machine.execDownbeat mods spares sense mis upsets seen s
  | .commitPoint ns bad badT badD mis asked => Sys2Proof.Machine.execCommitPoint ns bad badT badD mis asked s
  | .giveUp t => Sys2Proof.Machine.execGiveUp t s
  | .dispatcherStep => Sys2Proof.Machine.execDispatcherStep s
  | .mac k u a x y rest => Sys2Proof.Machine.execMac k u a x y rest s
  | .msu k u a x y rest => Sys2Proof.Machine.execMsu k u a x y rest s
  | .mpy k u a x y rest => Sys2Proof.Machine.execMpy k u a x y rest s
  | .mix k u a x y rest => Sys2Proof.Machine.execMix k u a x y rest s
  | .mixa k u a g rest => Sys2Proof.Machine.execMixa k u a g rest s
  | .clr k u a rest => Sys2Proof.Machine.execClr k u a rest s
  | .adds k u a x rest => Sys2Proof.Machine.execAdds k u a x rest s
  | .rnd k u d a rest => Sys2Proof.Machine.execRnd k u d a rest s
  | .rndx k u d a rest => Sys2Proof.Machine.execRndx k u d a rest s
  | .norm k u d a rest => Sys2Proof.Machine.execNorm k u d a rest s
  | .ld32 k p m r place => Sys2Proof.Machine.execLd32 k p m r place s
  | .ld64 k p m r place => Sys2Proof.Machine.execLd64 k p m r place s
  | .st32 k p m r place => Sys2Proof.Machine.execSt32 k p m r place s
  | .st64 k p m r place => Sys2Proof.Machine.execSt64 k p m r place s
  | .str k p m a place => Sys2Proof.Machine.execStr k p m a place s
  | .nop k form => Sys2Proof.Machine.execNop k form s
  | .mov k dst src => Sys2Proof.Machine.execMov k dst src s
  | .ldi k dst imm => Sys2Proof.Machine.execLdi k dst imm s
  | .mval k d a part => Sys2Proof.Machine.execMval k d a part s
  | .mvla k a d part => Sys2Proof.Machine.execMvla k a d part s
  | .add k d a b => Sys2Proof.Machine.execAdd k d a b s
  | .sub k d a b => Sys2Proof.Machine.execSub k d a b s
  | .andD k d a b => Sys2Proof.Machine.execAndD k d a b s
  | .orD k d a b => Sys2Proof.Machine.execOrD k d a b s
  | .xorD k d a b => Sys2Proof.Machine.execXorD k d a b s
  | .shl k d a b => Sys2Proof.Machine.execShl k d a b s
  | .shra k d a b => Sys2Proof.Machine.execShra k d a b s
  | .shrl k d a b => Sys2Proof.Machine.execShrl k d a b s
  | .minD k d a b => Sys2Proof.Machine.execMinD k d a b s
  | .maxD k d a b => Sys2Proof.Machine.execMaxD k d a b s
  | .abs k d a => Sys2Proof.Machine.execAbs k d a s
  | .neg k d a => Sys2Proof.Machine.execNeg k d a s
  | .cmp k a b => Sys2Proof.Machine.execCmp k a b s
  | .tst k a b => Sys2Proof.Machine.execTst k a b s
  | .normd k d a => Sys2Proof.Machine.execNormd k d a s
  | .exp k d a => Sys2Proof.Machine.execExp k d a s
  | .gld k d p ds => Sys2Proof.Machine.execGld k d p ds s
  | .xfade k d p ds => Sys2Proof.Machine.execXfade k d p ds s
  | .bscl k d ds => Sys2Proof.Machine.execBscl k d ds s
  | .br k c target => Sys2Proof.Machine.execBr k c target s
  | .brr k c r => Sys2Proof.Machine.execBrr k c r s
  | .jl k d target => Sys2Proof.Machine.execJl k d target s
  | .loop k x count last => Sys2Proof.Machine.execLoop k x count last s
  | .fetch k => Sys2Proof.Machine.execFetch k s
  | .done k => Sys2Proof.Machine.execDone k s
  | .doneAbandon k => Sys2Proof.Machine.execDoneAbandon k s
  | .post k target flag => Sys2Proof.Machine.execPost k target flag s
  | .matchOp k target slot value => Sys2Proof.Machine.execMatchOp k target slot value s
  | .trap k code => Sys2Proof.Machine.execTrap k code s
  | .rett k => Sys2Proof.Machine.execRett k s
  | .savelp k p => Sys2Proof.Machine.execSavelp k p s
  | .rstlp k p => Sys2Proof.Machine.execRstlp k p s
  | .farLoadReturn k j retry waits => Sys2Proof.Machine.execFarLoadReturn k j retry waits s
  | .farAccessError k store j => Sys2Proof.Machine.execFarAccessError k store j s
  | .breakTrap k => Sys2Proof.Machine.execBreakTrap k s
  | .stepTrap k => Sys2Proof.Machine.execStepTrap k s
  | .urgentTrap k => Sys2Proof.Machine.execUrgentTrap k s
  | .coreHoldStop k => Sys2Proof.Machine.execCoreHoldStop k s
  | .cctrlStep p k v => Sys2Proof.Machine.execCctrlStep p k v s
  | .arm p t db => Sys2Proof.Machine.execArm p t db s
  | .cancel p t db => Sys2Proof.Machine.execCancel p t db s
  | .clear p t db => Sys2Proof.Machine.execClear p t db s
  | .dispCmdPost p t db flag => Sys2Proof.Machine.execDispCmdPost p t db flag s
  | .coreRetire p k => Sys2Proof.Machine.execCoreRetire p k s
  | .coreRestore p k => Sys2Proof.Machine.execCoreRestore p k s
  | .softwareEvent p x => Sys2Proof.Machine.execSoftwareEvent p x s
  | .slackmaxClr p => Sys2Proof.Machine.execSlackmaxClr p s
  | .commit r acked past => Sys2Proof.Machine.execCommit r acked past s
  | .commitCancel r => Sys2Proof.Machine.execCommitCancel r s
  | .copy r => Sys2Proof.Machine.execCopy r s
  | .cmdNop r => Sys2Proof.Machine.execCmdNop r s
  | .mirrorAckTimeout r => Sys2Proof.Machine.execMirrorAckTimeout r s
  | .stageWrite p page off v => Sys2Proof.Machine.execStageWrite p page off v s
  | .stageRefill page => Sys2Proof.Machine.execStageRefill page s
  | .snapshotGo p count => Sys2Proof.Machine.execSnapshotGo p count s
  | .poolClr p => Sys2Proof.Machine.execPoolClr p s
  | .stgainWrite p m x v => Sys2Proof.Machine.execStgainWrite p m x v s
  | .zeroCrossingApply m x => Sys2Proof.Machine.execZeroCrossingApply m x s
  | .zcTimeout m x => Sys2Proof.Machine.execZcTimeout m x s
  | .sideToneEnable p m v => Sys2Proof.Machine.execSideToneEnable p m v s
  | .portEnable p x v => Sys2Proof.Machine.execPortEnable p x v s
  | .portDisable p x v => Sys2Proof.Machine.execPortDisable p x v s
  | .portFrame x time din => Sys2Proof.Machine.execPortFrame x time din s
  | .portUnderrun x => Sys2Proof.Machine.execPortUnderrun x s
  | .asrcEnable p g v => Sys2Proof.Machine.execAsrcEnable p g v s
  | .asrcLock g span => Sys2Proof.Machine.execAsrcLock g span s
  | .pdmClockEnable p c v => Sys2Proof.Machine.execPdmClockEnable p c v s
  | .micEnable p l v => Sys2Proof.Machine.execMicEnable p l v s
  | .wakeEnd m => Sys2Proof.Machine.execWakeEnd m s
  | .micStuck m => Sys2Proof.Machine.execMicStuck m s
  | .micUnstuck m => Sys2Proof.Machine.execMicUnstuck m s
  | .macEnable p m v => Sys2Proof.Machine.execMacEnable p m v s
  | .linkChange m up => Sys2Proof.Machine.execLinkChange m up s
  | .frameReceived m time fcsOk frame => Sys2Proof.Machine.execFrameReceived m time fcsOk frame s
  | .streamEnable p rx v => Sys2Proof.Machine.execStreamEnable p rx v s
  | .streamDisable p rx v => Sys2Proof.Machine.execStreamDisable p rx v s
  | .streamPacketTransmit j => Sys2Proof.Machine.execStreamPacketTransmit j s
  | .hostFrameTransmit r time => Sys2Proof.Machine.execHostFrameTransmit r time s
  | .syncTimeout x => Sys2Proof.Machine.execSyncTimeout x s
  | .timeSnap p => Sys2Proof.Machine.execTimeSnap p s
  | .tbAdj p x v => Sys2Proof.Machine.execTbAdj p x v s
  | .tbMidWrite p x part v => Sys2Proof.Machine.execTbMidWrite p x part v s
  | .tbRateWrite p x v => Sys2Proof.Machine.execTbRateWrite p x v s
  | .tbEnable p x v => Sys2Proof.Machine.execTbEnable p x v s
  | .tbselWrite p v => Sys2Proof.Machine.execTbselWrite p v s
  | .frequencyMeasurement offs => Sys2Proof.Machine.execFrequencyMeasurement offs s
  | .candidateDisqualified c cause => Sys2Proof.Machine.execCandidateDisqualified c cause s
  | .candidateQualified c => Sys2Proof.Machine.execCandidateQualified c s
  | .wtrExpiry x => Sys2Proof.Machine.execWtrExpiry x s
  | .switchComplete x => Sys2Proof.Machine.execSwitchComplete x s
  | .acquireLocked x => Sys2Proof.Machine.execAcquireLocked x s
  | .holdoverAverage x avg => Sys2Proof.Machine.execHoldoverAverage x avg s
  | .dctrlModeWrite p x v => Sys2Proof.Machine.execDctrlModeWrite p x v s
  | .dfwWrite p x v => Sys2Proof.Machine.execDfwWrite p x v s
  | .dsteerWrite p x v => Sys2Proof.Machine.execDsteerWrite p x v s
  | .systemDpllLoss => Sys2Proof.Machine.execSystemDpllLoss s
  | .frameOutOffsetWrite p x v => Sys2Proof.Machine.execFrameOutOffsetWrite p x v s
  | .ampCmdOff p c v => Sys2Proof.Machine.execAmpCmdOff p c v s
  | .ampCmdDiag p c v => Sys2Proof.Machine.execAmpCmdDiag p c v s
  | .ampCmdRun p c v => Sys2Proof.Machine.execAmpCmdRun p c v s
  | .abret p c v => Sys2Proof.Machine.execAbret p c v s
  | .diagStepEnd c mv ua => Sys2Proof.Machine.execDiagStepEnd c mv ua s
  | .startingDone c => Sys2Proof.Machine.execStartingDone c s
  | .stoppingDone c => Sys2Proof.Machine.execStoppingDone c s
  | .trip c => Sys2Proof.Machine.execTrip c s
  | .probeDue c => Sys2Proof.Machine.execProbeDue c s
  | .probeEnd c mv ua => Sys2Proof.Machine.execProbeEnd c mv ua s
  | .recoverDone c => Sys2Proof.Machine.execRecoverDone c s
  | .lineMeasurement c z => Sys2Proof.Machine.execLineMeasurement c z s
  | .zbaseCapture p c v => Sys2Proof.Machine.execZbaseCapture p c v s
  | .pvalidWrite p c v => Sys2Proof.Machine.execPvalidWrite p c v s
  | .coefficientCompute c => Sys2Proof.Machine.execCoefficientCompute c s
  | .modcmdGo p c => Sys2Proof.Machine.execModcmdGo p c s
  | .alarmPinChange j level => Sys2Proof.Machine.execAlarmPinChange j level s
  | .alarmInputDebounced j => Sys2Proof.Machine.execAlarmInputDebounced j s
  | .overrideRampEnd c => Sys2Proof.Machine.execOverrideRampEnd c s
  | .swactWrite p v => Sys2Proof.Machine.execSwactWrite p v s
  | .releaseWrite p v => Sys2Proof.Machine.execReleaseWrite p v s
  | .overrideArm p v => Sys2Proof.Machine.execOverrideArm p v s
  | .wakeRetry c => Sys2Proof.Machine.execWakeRetry c s
  | .playerEnd x => Sys2Proof.Machine.execPlayerEnd x s
  | .loadStrobe g => Sys2Proof.Machine.execLoadStrobe g s
  | .playGo p d v => Sys2Proof.Machine.execPlayGo p d v s
  | .playStop p d v => Sys2Proof.Machine.execPlayStop p d v s
  | .dacRampEnd d => Sys2Proof.Machine.execDacRampEnd d s
  | .dacRangeSwitch d => Sys2Proof.Machine.execDacRangeSwitch d s
  | .dacMonitorMeasurement d dev => Sys2Proof.Machine.execDacMonitorMeasurement d dev s
  | .spcmdGo p d => Sys2Proof.Machine.execSpcmdGo p d s
  | .bellPowerWrite p v => Sys2Proof.Machine.execBellPowerWrite p v s
  | .pairLead p => Sys2Proof.Machine.execPairLead p s
  | .pairJoin p => Sys2Proof.Machine.execPairJoin p s
  | .pairDetach p => Sys2Proof.Machine.execPairDetach p s
  | .pairSolo p => Sys2Proof.Machine.execPairSolo p s
  | .joinCheck n skew lead conf => Sys2Proof.Machine.execJoinCheck n skew lead conf s
  | .leash n => Sys2Proof.Machine.execLeash n s
  | .leashAck n => Sys2Proof.Machine.execLeashAck n s
  | .downbeatMarker time => Sys2Proof.Machine.execDownbeatMarker time s
  | .echo rtt => Sys2Proof.Machine.execEcho rtt s
  | .digest n crcs => Sys2Proof.Machine.execDigest n crcs s
  | .mirroredCommand c => Sys2Proof.Machine.execMirroredCommand c s
  | .sealMarker src m => Sys2Proof.Machine.execSealMarker src m s
  | .mirrorSamples src e m vals => Sys2Proof.Machine.execMirrorSamples src e m vals s
  | .pageCopy x => Sys2Proof.Machine.execPageCopy x s
  | .flitReplay => Sys2Proof.Machine.execFlitReplay s
  | .mirrorTimeout src => Sys2Proof.Machine.execMirrorTimeout src s
  | .linkDown => Sys2Proof.Machine.execLinkDown s
  | .linkUp good => Sys2Proof.Machine.execLinkUp good s
  | .laneRetire l hdrs => Sys2Proof.Machine.execLaneRetire l hdrs s
  | .lanecmdGo p l => Sys2Proof.Machine.execLanecmdGo p l s
  | .peerHeartbeatLoss => Sys2Proof.Machine.execPeerHeartbeatLoss s
  | .injectionGo p v => Sys2Proof.Machine.execInjectionGo p v s
  | .fatclr p => Sys2Proof.Machine.execFatclr p s
  | .memtRegionStart e => Sys2Proof.Machine.execMemtRegionStart e s
  | .memtSaveEnd e => Sys2Proof.Machine.execMemtSaveEnd e s
  | .memtTestEnd e fs => Sys2Proof.Machine.execMemtTestEnd e fs s
  | .memtRestoreEnd e => Sys2Proof.Machine.execMemtRestoreEnd e s
  | .bankRetireGo p v => Sys2Proof.Machine.execBankRetireGo p v s
  | .bankCopyDone => Sys2Proof.Machine.execBankCopyDone s
  | .instructionMemoryWrite p k b off v => Sys2Proof.Machine.execInstructionMemoryWrite p k b off v s
  | .operandMemoryWrite p k off v => Sys2Proof.Machine.execOperandMemoryWrite p k off v s
  | .cspoolWrite p c v => Sys2Proof.Machine.execCspoolWrite p c v s
  | .confclr p => Sys2Proof.Machine.execConfclr p s
  | .cshighClr p c => Sys2Proof.Machine.execCshighClr p c s
  | .dramTrainStart p d => Sys2Proof.Machine.execDramTrainStart p d s
  | .dramTrainingDone d err => Sys2Proof.Machine.execDramTrainingDone d err s
  | .dramPowerRequest p d v => Sys2Proof.Machine.execDramPowerRequest p d v s
  | .mr4Poll d v => Sys2Proof.Machine.execMr4Poll d v s
  | .hostBarAccess fn bar2 off op retry waits => Sys2Proof.Machine.execHostBarAccess fn bar2 off op retry waits s
  | .spiWrite a words retry => Sys2Proof.Machine.execSpiWrite a words retry s
  | .spiRead a late retry => Sys2Proof.Machine.execSpiRead a late retry s
  | .spiStatus => Sys2Proof.Machine.execSpiStatus s
  | .ringRpiWrite p r v => Sys2Proof.Machine.execRingRpiWrite p r v s
  | .ringRciWrite p r v => Sys2Proof.Machine.execRingRciWrite p r v s
  | .wardCfgstgWrite p v => Sys2Proof.Machine.execWardCfgstgWrite p v s
  | .wardApplyGo p => Sys2Proof.Machine.execWardApplyGo p s
  | .jciWrite p v => Sys2Proof.Machine.execJciWrite p v s
  | .registerWrite p off v => Sys2Proof.Machine.execRegisterWrite p off v s
  | .rateWrite p fs => Sys2Proof.Machine.execRateWrite p fs s
  | .powerOnReset => Sys2Proof.Machine.execPowerOnReset s
  | .pinReset => Sys2Proof.Machine.execPinReset s
  | .softReset p => Sys2Proof.Machine.execSoftReset p s
  | .resetRelease boot wardsel sdoz => Sys2Proof.Machine.execResetRelease boot wardsel sdoz s
  | .bootPhaseEnd key flash => Sys2Proof.Machine.execBootPhaseEnd key flash s
  | .pciePerst => Sys2Proof.Machine.execPciePerst s
  | .clusterPowerRequest p v => Sys2Proof.Machine.execClusterPowerRequest p v s
  | .thermWarn tj => Sys2Proof.Machine.execThermWarn tj s
  | .thermTrip tj => Sys2Proof.Machine.execThermTrip tj s
  | .modulePresence x held => Sys2Proof.Machine.execModulePresence x held s
  | .moduleRemoved x => Sys2Proof.Machine.execModuleRemoved x s
  | .descriptorReadDone x rom => Sys2Proof.Machine.execDescriptorReadDone x rom s
  | .rescan p v => Sys2Proof.Machine.execRescan p v s
  | .uartWrite p v => Sys2Proof.Machine.execUartWrite p v s
  | .uartRead p => Sys2Proof.Machine.execUartRead p s
  | .uartRxByte b => Sys2Proof.Machine.execUartRxByte b s
  | .farStoreComplete k j retry waits => Sys2Proof.Machine.execFarStoreComplete k j retry waits s
  | .wclkInEdge c time => Sys2Proof.Machine.execWclkInEdge c time s
  | .peerHeartbeatReturn => Sys2Proof.Machine.execPeerHeartbeatReturn s
  | .uartByteSent => Sys2Proof.Machine.execUartByteSent s
  | .reservedEncoding k w => Sys2Proof.Machine.execReservedEncoding k w s
  | .badop r => Sys2Proof.Machine.execBadop r s
  | .laneRetirementFlit l => Sys2Proof.Machine.execLaneRetirementFlit l s
  | .pageCrcList c pages => Sys2Proof.Machine.execPageCrcList c pages s

end Sys2Proof.Machine
end

