-- ==== Sys2Proof/Machine/Pins.lean ====
section
/-! DEFINITION. The levels of the output pins that follow from the state alone (R241, R288, R297, R306, R339, R349, R377, R399,
R406, R409, R410, R429); SP_BCLK, SP_FS and SP_DOUT stand in Serial.lean, FRAME_OUT in Refs.lean. In reset every output
has its in-reset level whatever else stands in the state. -/
namespace Sys2Proof.Machine

/-- What an output pin shows: it is driven low or high, or released to its pull-up, its pull-down or the line. -/
inductive Level where
  | low | high | open_
  deriving DecidableEq, Repr

/-- A driven level. -/
def driven (b : Bool) : Level := if b then .high else .low

/-- An open-drain pin: low while asserted, released otherwise. -/
def openDrain (asserted : Bool) : Level := if asserted then .low else .open_

/-- AMP_EN_N[k]: held high by its pull-up in reset, low while the power stage is enabled (R306, R406). -/
def State.pinAmpEn (s : State) (k : Nat) : Level := if s.board.held then .open_ else driven (!s.ampEn k)

/-- What drives AMP_PWMA[k] and AMP_PWMB[k] at time `t`; in reset both are low (R306, R406, R429). -/
def State.pinPwm (s : State) (k t : Nat) : Drive := if s.board.held then .low else s.drive k t

/-- AMP_SCLK[c] runs at media clock 0 divided by 16 once the second phase of boot has locked the system DPLL (R297, R401,
R406). -/
def State.sclkRuns (s : State) : Bool := !s.board.held && decide (1 ≤ s.board.phase)

/-- AMP_SCLK in the `i`-th half period since a downbeat; every frame holds 4,096 whole periods of it (R292, R297). -/
def State.pinSclk (s : State) (i : Nat) : Level := driven (s.sclkRuns && i % 2 == 0)

/-- PDM_CLK[c] in the `i`-th half period of its divider: low while CLKc.EN is 0 (R241, R245, R406). -/
def State.pinPdmClk (s : State) (c i : Nat) : Level :=
  if s.board.held then .open_ else driven (s.on (PDM_CLK_EN c) && i % 2 == 0)

/-- A MAC transmits; its lines are electrically idle otherwise (R269, R406). -/
def State.macDrives (s : State) (m : Nat) : Bool := !s.board.held && s.on (NET_CTRL_EN m)

/-- The Tadom transmitters are active: from the first PAIR.CMD LEAD or JOIN on (R348, R406). -/
def State.tadomDrives (s : State) : Bool := !s.board.held && s.pair.active

/-- PAIR_HB in the `i`-th carrier period of a frame (R349, R406). -/
def State.pinPairHb (s : State) (i : Nat) : Level := driven (s.heartbeatPin i)

/-- HOST_IRQ_N (R377, R406). -/
def State.pinHostIrq (s : State) : Level := openDrain (!s.board.held && s.hostIrq)

/-- THERM_TRIP_N (R406, R409). -/
def State.pinThermTrip (s : State) : Level := openDrain (!s.board.held && s.on PWR_THERM_TRIP)

/-- MOD_SEG_N[x] enables the bus switch of a slot whose descriptor is being read (R406, R410, R411). -/
def State.pinModSeg (s : State) (x : Nat) : Level :=
  openDrain (!s.board.held && s.rd (MODID_SSTAT_STATE x) == slReading)

end Sys2Proof.Machine
end

