-- ==== Sys2Proof/WellFormed.lean ====
section
/-! DEFINITION. What makes a command's operands well-formed: a bundle whose encoding is not reserved (R80) and holds its operands (R81, R86, R92), as many words, samples or
bytes as the spec gives the message, and accesses that the crossbar can issue (R153). -/
namespace Sys2Proof
open Sys2Proof.Machine

/-- The core, the bundle and the hardware fault in it, of a command that executes a bundle. -/
def Instr.bundle : Instr → Option (CoreId × Bundle × Bool)
  | .mac k u a x y rest => some (k, unitBundle u (.mac a x y) rest, rest.mism)
  | .msu k u a x y rest => some (k, unitBundle u (.msu a x y) rest, rest.mism)
  | .mpy k u a x y rest => some (k, unitBundle u (.mpy a x y) rest, rest.mism)
  | .mix k u a x y rest => some (k, unitBundle u (.mix a x y) rest, rest.mism)
  | .mixa k u a g rest => some (k, unitBundle u (.mixa a g) rest, rest.mism)
  | .clr k u a rest => some (k, unitBundle u (.clr a) rest, rest.mism)
  | .adds k u a x rest => some (k, unitBundle u (.adds a x) rest, rest.mism)
  | .rnd k u d a rest => some (k, unitBundle u (.rnd d a) rest, rest.mism)
  | .rndx k u d a rest => some (k, unitBundle u (.rndx d a) rest, rest.mism)
  | .norm k u d a rest => some (k, unitBundle u (.norm d a) rest, rest.mism)
  | .ld32 k p m r place => some (k, memBundle place (.ld32 p m r), place.mism)
  | .ld64 k p m r place => some (k, memBundle place (.ld64 p m r), place.mism)
  | .st32 k p m r place => some (k, memBundle place (.st32 p m r), place.mism)
  | .st64 k p m r place => some (k, memBundle place (.st64 p m r), place.mism)
  | .str k p m a place => some (k, memBundle place (.str p m a), place.mism)
  | .nop k form => some (k, nopBundle form, false)
  | .mov k dst src => some (k, .move (.mov dst src), false)
  | .ldi k dst imm => some (k, .move (.ldi dst imm), false)
  | .mval k d a part => some (k, .move (.mval d a part), false)
  | .mvla k a d part => some (k, .move (.mvla a d part), false)
  | .add k d a b => some (k, .move (.alu .add d a b), false)
  | .sub k d a b => some (k, .move (.alu .sub d a b), false)
  | .andD k d a b => some (k, .move (.alu .and d a b), false)
  | .orD k d a b => some (k, .move (.alu .or d a b), false)
  | .xorD k d a b => some (k, .move (.alu .xor d a b), false)
  | .shl k d a b => some (k, .move (.alu .shl d a b), false)
  | .shra k d a b => some (k, .move (.alu .shra d a b), false)
  | .shrl k d a b => some (k, .move (.alu .shrl d a b), false)
  | .minD k d a b => some (k, .move (.alu .min d a b), false)
  | .maxD k d a b => some (k, .move (.alu .max d a b), false)
  | .abs k d a => some (k, .move (.abs d a), false)
  | .neg k d a => some (k, .move (.neg d a), false)
  | .cmp k a b => some (k, .move (.cmp a b), false)
  | .tst k a b => some (k, .move (.tst a b), false)
  | .normd k d a => some (k, .move (.normd d a), false)
  | .exp k d a => some (k, .move (.exp d a), false)
  | .gld k d p ds => some (k, .move (.gld d p ds), false)
  | .xfade k d p ds => some (k, .move (.xfade d p ds), false)
  | .bscl k d ds => some (k, .move (.bscl d ds), false)
  | .br k c target => some (k, .ctrl (.br c target), false)
  | .brr k c r => some (k, .ctrl (.brr c r), false)
  | .jl k d target => some (k, .ctrl (.jl d target), false)
  | .loop k x count last => some (k, .ctrl (.loop x count last), false)
  | .fetch k => some (k, .ctrl (.fetch), false)
  | .done k => some (k, .ctrl (.done false), false)
  | .doneAbandon k => some (k, .ctrl (.done true), false)
  | .post k target flag => some (k, .ctrl (.post target flag), false)
  | .matchOp k target slot value => some (k, .ctrl (.matchOp target slot value), false)
  | .trap k code => some (k, .ctrl (.trap code), false)
  | .rett k => some (k, .ctrl (.rett), false)
  | .savelp k p => some (k, .ctrl (.savelp p), false)
  | .rstlp k p => some (k, .ctrl (.rstlp p), false)
  | _ => none

/-- A command's operands are well-formed. -/
def Instr.wellFormed (i : Instr) : Bool :=
  match i with
  | .downbeat _ _ _ _ upsets seen =>
    seen.busy.length ≤ 16 && upsets.all (fun q => decide (q.1 < 4096) && decide (q.2.2 < 2 ^ 32)) && seen.pdm.all (fun q => q.2.length ≤ 2048)
  | .portFrame _ _ din => din.length ≤ 1025
  | .frameReceived _ _ _ frame => 14 ≤ frame.length
  | .digest _ crcs => crcs.length == 16
  | .mirrorSamples _ _ _ vals => vals.length ≤ 32
  | .pageCopy (.sram c p bytes) => decide (c < 16) && decide (p < 3072) && bytes.length == 512
  | .hostBarAccess _ _ _ (.write bs) _ _ => bs.length == 4 || bs.length == 8 || (bs.length % 16 == 0 && 16 ≤ bs.length && bs.length ≤ 256)
  | .hostBarAccess _ _ _ (.read n) _ _ => n == 4 || n == 8 || (n % 16 == 0 && 16 ≤ n && n ≤ 256)
  | .spiWrite a words _ => a % 4 == 0 && words.length != 0
  | .spiRead a late _ => a % 4 == 0 && late.length != 0
  | .bootPhaseEnd key _ => key.length == 32
  | i =>
    match i.bundle with
    | some (_, b, _) => bundleOk 0 b && encodable b
    | none => true

end Sys2Proof
end

