-- ==== Sys2Proof/Safety.lean ====
section
/-! DEFINITION. What counts as a safe run: commands that are well-formed, and states whose memories are in canonical form. -/
namespace Sys2Proof.Machine

/-- Device memory and host memory are in canonical form (log entry 7). -/
def State.memOk (s : State) : Bool := memWf s.mem && memWf s.hostMem

/-- Every command in the queue is well-formed. -/
def State.queueOk (s : State) : Bool := s.pending.all Instr.wellFormed

/-- The state is one that a run is judged in. -/
def State.Safe (s : State) : Prop := s.memOk = true ∧ s.queueOk = true

/-! ## Terms of the statements -/

/-- The fields that writing an event or a record may change. -/
def noteFields : List Nat :=
  [INTG_INJSTAT_DONE.no, INTG_INJCTRL_BUSY.no, INTG_INJSTAT_RESULT.no, (HOST_RPI_INDEX 0).no, (HOST_RSTAT_DROP 0).no,
    SYS_UARTSTAT_TXFREE.no, SYS_UARTSTAT_TXBUSY.no, (INTG_FATREC_WORD 0).no, INTG_SEQ_NEXT.no, INTG_SUMMARY_CLASS.no,
    INTG_NEST_NESTED.no, INTG_NEST_ESC.no, (INTG_OVF_COUNT 0).no, (INTG_RCNT_COUNT 0).no,
    XBAR_DEFREC0_ADDRLO.no, XBAR_DEFREC1_ADDRHI.no, XBAR_DEFREC1_MASTER.no, XBAR_DEFREC1_QOS.no, XBAR_DEFREC1_WRITE.no, XBAR_DEFCNT_COUNT.no]

/-- A write of `v` to register `r` at index `i` through port `p` passes the checks that every write meets: boot has ended
(R405), RWE fields and DISP.CMD ask for authority (R342), the block is one the partition reaches (R389), and RWW
fields are changed by the warden alone, with room in the journal (R395, R440). -/
abbrev State.writeOpen (s : State) (p : Port) (r : RegRow) (i v : Nat) : Prop :=
  ((s.whoOf p).host = true → s.on SYS_BOOTSTAT_DONE = true)
  ∧ ((s.whoOf p).host = true → s.authority = true ∨ (s.changesRwe r i v = false ∧ r.addr ≠ 0x0A010008))
  ∧ s.mayReach (s.whoOf p) (blockOf (r.at_ i)) true = true
  ∧ (s.changesRww r i v = true → (s.whoOf p).q = warden
      ∧ (s.journalFull = false ∨ isArm r v = true ∨ r.addr = 0x0A160024))

/-- What an accepted write leaves, `u` being the state after the register's own effect: a journal entry for a change of
an RWW field (R395), the lead's message for an RWE field (R343), and the response. -/
def State.written (s : State) (p : Port) (r : RegRow) (i v : Nat) (u : State) : State :=
  let w := s.whoOf p
  let t := if s.changesRww r i v then
      (if u.journalFull then u.incSat WARD_JSTAT_LOST 1
        else u.journal (r.at_ i % 2 ^ 31) (s.rowVal r i) (s.rowNew r i v) 0 w.code 0)
    else u
  let t := if w.host && s.role == roLead && (r.flds i).any (fun q => q.2.2 == .rwe) then t.tell (.write (r.at_ i) v) else t
  t.answerW true

/-- What a refused write leaves of `u`: the response, and ERR of the SPI port (R377). -/
def State.turnedAway (p : Port) (u : State) : State := (if p = .spi then u.wr HOST_SPISTAT_ERR 1 else u).answerW false

/-- Core `k` executes bundle `b` now: it may (R78), waits for no register (R53), no ECC error is near (R56), no injected
and no tag's residue mismatch meets it (R119, R120, R372), and it raises none of the faults of R68. -/
abbrev State.runs (s : State) (k : Nat) (b : Bundle) : Prop :=
  s.canRun k = true
  ∧ (b.reads.any fun r => (s.core k).locked (xD r)) = false
  ∧ (s.core k).badEntry = false
  ∧ bundleOk (s.core k).pc b = true ∧ illegalHere (s.core k) b = false
  ∧ s.poison = [] ∧ s.integ.flips = []
  ∧ s.injResidue k (b.stages (s.core k)) = false ∧ b.mismatch (s.core k) = false
  ∧ (b.mems.all fun m => (s.memFault (s.core k) (s.core k).tid m).isNone) = true

end Sys2Proof.Machine
end

