-- ==== Sys2Proof/Certificates/Slice0/Obligations.lean ====
section
/-! DEFINITION. The statements made of the model, for the provers. -/
open Sys2Proof Sys2Proof.Machine

/-- A step takes the command at the front of the queue and runs it with the queue's rest; the run answers a next state. -/
def Obligations.StepRunsFront : Prop :=
  ∀ (c : Instr) (rest : List Instr) (s : State),
    step { s with pending := c :: rest } = exec c { s with pending := rest }
    ∧ ∃ t, exec c s = .next t

/-- An empty queue: the beat counter counts a nanosecond, and stands still in reset (log entry 32, a choice of the model). -/
def Obligations.EmptyQueueTick : Prop :=
  ∀ s : State, s.pending = [] →
    (s.board.held = true → step s = .next s)
    ∧ (s.board.held = false → step s = .next { s with bc := (s.bc + 1) % 2 ^ 64 })

/-- The whole-device resets (R399): registers at their reset values; what stands outside the device is left. -/
def Obligations.WholeDeviceResets : Prop :=
  ∀ (s : State) (c : Instr) (b : Nat), (c = .powerOnReset ∧ b = 0) ∨ (c = .pinReset ∧ b = 1) →
    ∃ t, exec c s = .next t
      ∧ (∀ f : Fld, f.no ∉ [SYS_RSTCAUSE_CAUSE.no, SYS_UIDL_UID.no, SYS_UIDH_UID.no, SYS_STRAP_BOOT.no, SYS_STRAP_WARDSEL.no,
          SYS_STRAP_SDOZ.no] → t.rd f = f.reset)
      ∧ t.rd SYS_RSTCAUSE_CAUSE = setBit (if s.board.held then s.rd SYS_RSTCAUSE_CAUSE else 0) b true % 2 ^ SYS_RSTCAUSE_CAUSE.w
      ∧ t.staged = [] ∧ t.mem = [] ∧ t.poison = [] ∧ t.cores = [] ∧ t.ctxs = [] ∧ t.amps = [] ∧ t.epoch = State.reset.epoch
      ∧ t.board.held = true ∧ t.bc = 0 ∧ t.n = 0
      ∧ t.pending = s.pending ∧ t.hostMem = s.hostMem ∧ t.bell.pins = s.bell.pins

/-- The register file of the model: read after write, independence of fields, staging (R8 to R10). -/
def Obligations.FieldReadBack : Prop :=
  ∀ (s : State) (f g : Fld) (v : Nat),
    (s.wr f v).rd f = v % 2 ^ f.w
    ∧ (g.no ≠ f.no ∨ g.idx ≠ f.idx → (s.wr f v).rd g = s.rd g)
    ∧ (s.stage f v).rd g = s.rd g
    ∧ (s.stage f v).rdStaged f = v % 2 ^ f.w
    ∧ (g.no ≠ f.no ∨ g.idx ≠ f.idx → (s.stage f v).rdStaged g = s.rdStaged g)
    ∧ { s.wr f v with flds := s.flds } = s ∧ { s.stage f v with staged := s.staged } = s
    ∧ State.reset.rd f = f.reset

/-- Each field of a register that is written, by its access code (R9). -/
def Obligations.AccessCodes : Prop :=
  ∀ (s : State) (r : RegRow) (i v : Nat),
    (r.flds i).Pairwise (fun a b => a.2.1.no ≠ b.2.1.no ∨ a.2.1.idx ≠ b.2.1.idx) →
    (∀ q ∈ r.flds i, (s.wrRow r i v).rd q.2.1 =
        match q.2.2 with
        | .rw | .rww => bits v q.1 q.2.1.w
        | .w1c => (s.rd q.2.1 - (s.rd q.2.1 &&& bits v q.1 q.2.1.w)) % 2 ^ q.2.1.w
        | _ => s.rd q.2.1)
    ∧ (∀ q ∈ r.flds i, q.2.2 = .rwe → (s.wrRow r i v).rdStaged q.2.1 = bits v q.1 q.2.1.w)
    ∧ (∀ g : Fld, (∀ q ∈ r.flds i, g.no ≠ q.2.1.no ∨ g.idx ≠ q.2.1.idx) →
        (s.wrRow r i v).rd g = s.rd g ∧ (s.wrRow r i v).rdStaged g = s.rdStaged g)

/-- R105: the multiplier is exact and align multiplies by 16; the largest product. -/
def Obligations.ExactProducts : Prop :=
  ∀ (c : Core) (sr : Nat) (prev : Option (Nat × Int × Nat)) (a : Fin 4) (x y : Fin 16),
    let p := c.ds x * c.ds y
    let r := unitEval c sr prev (.mpy a x y)
    (-2 ^ 63 ≤ p ∧ p < 2 ^ 63 ∧ p ≤ 0x4000000000000000)
    ∧ alignMul (c.ds x) (c.ds y) = 16 * p
    ∧ sx 80 (ux 80 (16 * p)) = 16 * p
    ∧ r.writes = [(xA a, ux 80 (16 * p), .accUnit), (xAE a, 0, .accUnit)] ∧ r.sr = sr
    ∧ (-2 ^ 31 : Int) * (-2 ^ 31) = 0x4000000000000000 ∧ alignMul (-2 ^ 31) (-2 ^ 31) = 0x00040000000000000000

/-- R106: the arithmetic shift is a floor; the addends of MAC, MSU, ADDS and MIX are shifted by AEk. -/
def Obligations.ArithmeticShifts : Prop :=
  ∀ (c : Core) (sr : Nat) (prev : Option (Nat × Int × Nat)) (a : Fin 4) (x y : Fin 16) (z : Int) (k : Nat),
    let acc := (c.accIn a prev).1
    let ae := (c.accIn a prev).2
    let p := 16 * (c.ds x * c.ds y)
    let w := fun op => (unitEval c sr prev op).writes
    (shr z k * 2 ^ k ≤ z ∧ z < (shr z k + 1) * 2 ^ k)
    ∧ (0 ≤ z → z < 2 ^ k → shr z k = 0) ∧ (z < 0 → -2 ^ k ≤ z → shr z k = -1)
    ∧ (in80 (acc + shr p ae) = true → w (.mac a x y) = [(xA a, ux 80 (acc + shr p ae), .accUnit)]
        ∧ w (.mix a x y) = [(xA a, ux 80 (acc + shr p ae), .accUnit)])
    ∧ (in80 (acc - shr p ae) = true → w (.msu a x y) = [(xA a, ux 80 (acc - shr p ae), .accUnit)])
    ∧ (in80 (acc + shr (c.ds x * 2 ^ 32) ae) = true →
        w (.adds a x) = [(xA a, ux 80 (acc + shr (c.ds x * 2 ^ 32) ae), .accUnit)])

/-- R107: saturation of the accumulators. -/
def Obligations.Saturation : Prop :=
  ∀ (c : Core) (sr : Nat) (prev : Option (Nat × Int × Nat)) (a : Fin 4) (x y : Fin 16) (z : Int) (e : Nat),
    let acc := (c.accIn a prev).1
    let ae := (c.accIn a prev).2
    let t := shr (16 * (c.ds x * c.ds y)) ae
    let made := fun (op : UnitOp) (v : Int) =>
      (unitEval c sr prev op).writes = [(xA a, ux 80 (sat80 v ae).a, .accUnit)]
      ∧ (unitEval c sr prev op).sr = (if v < -2 ^ 79 ∨ 2 ^ 79 - 1 < v then setBit sr a.val true else sr)
      ∧ (unitEval c sr prev op).acc = some (a.val, (sat80 v ae).a, ae)
    (-2 ^ 79 ≤ z → z ≤ 2 ^ 79 - 1 → (sat80 z e).a = z ∧ (sat80 z e).av = false)
    ∧ (2 ^ 79 - 1 < z → (sat80 z e).a = 2 ^ 79 - 1 ∧ (sat80 z e).av = true)
    ∧ (z < -2 ^ 79 → (sat80 z e).a = -2 ^ 79 ∧ (sat80 z e).av = true)
    ∧ made (.mac a x y) (acc + t) ∧ made (.msu a x y) (acc - t) ∧ made (.adds a x) (acc + shr (c.ds x * 2 ^ 32) ae)
    ∧ made (.mixa a x) (scaleAcc acc (c.ds x))
    ∧ c.accIn a (some (a.val, (sat80 z e).a, e)) = ((sat80 z e).a, e)
    ∧ (∀ op, bit sr a.val = true → bit (unitEval c sr prev op).sr a.val = true)

/-- R108: rescue_add; its result is in range after one step. -/
def Obligations.RangeRescue : Prop :=
  ∀ (c : Core) (sr : Nat) (prev : Option (Nat × Int × Nat)) (a : Fin 4) (x y : Fin 16),
    let acc := (c.accIn a prev).1
    let ae := (c.accIn a prev).2
    let p := 16 * (c.ds x * c.ds y)
    let s := acc + shr p ae
    let fits := fun (z : Int) => -2 ^ 79 ≤ z ∧ z ≤ 2 ^ 79 - 1
    let r := unitEval c sr prev (.mix a x y)
    (fits s → r.writes = [(xA a, ux 80 s, .accUnit)] ∧ r.sr = sr)
    ∧ (¬ fits s → ae ≠ 63 →
        r.writes = [(xA a, ux 80 (shr acc 1 + shr p (ae + 1)), .accUnit), (xAE a, ae + 1, .accUnit)] ∧ r.sr = sr)
    ∧ (¬ fits s → ae = 63 → r.writes = [(xA a, ux 80 (sat80 s 63).a, .accUnit)] ∧ r.sr = setBit sr a.val true)
    ∧ (fits acc → ae ≤ 63 → ∃ b e, r.acc = some (a.val, b, e) ∧ fits b ∧ (e = ae ∨ e = ae + 1) ∧ e ≤ 63
        ∧ (¬ fits s → ae ≠ 63 → fits (shr acc 1 + shr p (ae + 1))))

/-- R111: the accuracy of round_q131 in each mode, its ties and its limits. -/
def Obligations.RoundingAccuracy : Prop :=
  (∀ (a : Int) (ae rm : Nat), ae < 32 → rm < 4 →
    let unit : Int := 2 ^ (32 - ae)
    let q := (roundQ131 a ae rm).1
    (-2 ^ 31 ≤ q ∧ q ≤ 2 ^ 31 - 1)
    ∧ ((roundQ131 a ae rm).2 = false →
        (rm = 2 → q * unit ≤ a ∧ a < (q + 1) * unit)
        ∧ (rm ≠ 2 → -unit ≤ 2 * (q * unit - a) ∧ 2 * (q * unit - a) ≤ unit)
        ∧ (rm = 0 ∨ rm = 3 → (2 * (q * unit - a) = unit ∨ 2 * (q * unit - a) = -unit) → q % 2 = 0)
        ∧ (rm = 1 → (2 * (q * unit - a) = unit → 0 ≤ a) ∧ (2 * (q * unit - a) = -unit → a < 0)))
    ∧ ((roundQ131 a ae rm).2 = true → (q = 2 ^ 31 - 1 ∧ (2 ^ 32 - 1) * unit ≤ 2 * a) ∨ (q = -2 ^ 31 ∧ 2 * a ≤ -(2 ^ 32 + 1) * unit) ∨ (rm = 2 ∧ q = -2 ^ 31 ∧ a < -2 ^ 31 * unit)))
  ∧ (∀ (a : Int) (ae rm : Nat), 32 ≤ ae →
      let z := a * 2 ^ (ae - 32)
      roundQ131 a ae rm = if z < -2 ^ 31 then (-2 ^ 31, true) else if 2 ^ 31 - 1 < z then (2 ^ 31 - 1, true) else (z, false))
  ∧ (∀ (c : Core) (sr : Nat) (prev : Option (Nat × Int × Nat)) (d : Fin 16) (k : Fin 4),
      let z := roundQ131 (c.accOut k).1 (c.accOut k).2 c.rm
      (unitEval c sr prev (.rnd d k)).writes = [(xD d, ux 32 z.1, .plain)]
      ∧ (unitEval c sr prev (.rnd d k)).sr = if z.2 then setBit sr 4 true else sr)

/-- R112 to R114: normalising shifts and the exported mantissa and exponent. -/
def Obligations.NormalisingShifts : Prop :=
  (∀ a : Nat, a < 2 ^ 32 →
    let n := normD (sx 32 a)
    n ≤ 31 ∧ (∀ i < n, bit a (30 - i) = bit a 31) ∧ (n < 31 → bit a (30 - n) ≠ bit a 31))
  ∧ normD (sx 32 0) = 31 ∧ normD (sx 32 0xFFFFFFFF) = 31
  ∧ (∀ a : Int, a ≠ 0 → -2 ^ 79 ≤ a → a < 2 ^ 79 →
      let r := normR a
      r ≤ 79 ∧ -2 ^ 79 ≤ a * 2 ^ r ∧ a * 2 ^ r < 2 ^ 79 ∧ (r < 79 → a * 2 ^ (r + 1) < -2 ^ 79 ∨ 2 ^ 79 ≤ a * 2 ^ (r + 1))
      ∧ (∀ ae, normShift a ae = r - 16 - ae)
      ∧ (∀ ae rm, let q := exportAcc a ae rm
          q.1 < 2 ^ 31 ∧ -2 ^ 31 ≤ q.1
          ∧ ((q.2 = 16 + ae - r ∧ (rm ≠ 2 → -2 ^ 48 ≤ 2 * (q.1 * 2 ^ 48 - a * 2 ^ r) ∧ 2 * (q.1 * 2 ^ 48 - a * 2 ^ r) ≤ 2 ^ 48))
            ∨ (q.2 = 17 + ae - r ∧ q.1 = 2 ^ 30))))
  ∧ (∀ ae rm, normShift 0 ae = 64 ∧ exportAcc 0 ae rm = (0, 0))
  ∧ (∀ (c : Core) (sr : Nat) (prev : Option (Nat × Int × Nat)) (d : Fin 16) (k : Fin 4),
      let e := exportAcc (c.accOut k).1 (c.accOut k).2 c.rm
      (unitEval c sr prev (.norm d k)).writes = [(xD d, ux 32 (normShift (c.accOut k).1 (c.accOut k).2), .plain)]
      ∧ (unitEval c sr prev (.norm d k)).sr = sr
      ∧ (unitEval c sr prev (.rndx d k)).writes = [(xD d, ux 32 e.1, .plain), (xD d + 1, ux 32 e.2, .plain)]
      ∧ (unitEval c sr prev (.rndx d k)).sr = sr)

/-- R115 to R117: the factors of a bus, glided, and what MIXA does with one. -/
def Obligations.BusScaling : Prop :=
  (∀ law n : Nat, n = 0 ∨ law = 0 → busFactor law n = 0x10000000)
  ∧ (∀ n : Nat, 1 ≤ n → let g := busFactor 1 n; 2 * 2 ^ 28 ≤ 2 * g * n + n ∧ 2 * g * n ≤ 2 * 2 ^ 28 + n)
  ∧ (∀ n : Nat, 1 ≤ n → n ≤ 4096 → let g := busFactor 2 n
      (2 * g - 1) * (2 * g - 1) * n ≤ 2 ^ 58 ∧ 2 ^ 58 ≤ (2 * g + 1) * (2 * g + 1) * n)
  ∧ (∀ (old new k : Int) (kk : Nat), 0 ≤ k →
      ((kk : Int) ≤ k → glideAt old new k kk = new)
      ∧ (k < kk → (glideAt old new k kk - old) * kk ≤ (new - old) * k ∧ (new - old) * k < (glideAt old new k kk - old + 1) * kk))
  ∧ (∀ (c : Core) (sr : Nat) (prev : Option (Nat × Int × Nat)) (a : Fin 4) (g : Fin 16),
      (unitEval c sr prev (.mixa a g)).writes
        = [(xA a, ux 80 (sat80 (((c.accIn a prev).1 * c.ds g) / 2 ^ 28) (c.accIn a prev).2).a, .accUnit)])

/-- R65: visibility by distance. -/
def Obligations.ResultDistances : Prop :=
  (∀ u, distOf .nearLoad u = 2) ∧ distOf .accUnit .accOp = 1 ∧ distOf .accUnit .accRead = 3
  ∧ (∀ u, distOf .addrMove u = 2 ∧ distOf .loopMove u = 2 ∧ distOf .plain u = 1)
  ∧ (∀ (c : Core) (r x n : Nat) (p : Prod) (u : Cons), (∀ w ∈ c.pend, w.at_ ≤ c.bn) →
      let later := { c.push r x p with bn := c.bn + n }
      (distOf p u ≤ n → later.see u r = BitVec.ofNat 80 (x % 2 ^ regWidth r))
      ∧ (n < distOf p u → later.see u r = Core.see { c with bn := c.bn + n } u r)
      ∧ (∀ q, q ≠ r → later.see u q = Core.see { c with bn := c.bn + n } u q))
  ∧ (∀ (c : Core) (r n : Nat) (u : Cons), (∀ w ∈ c.pend, w.at_ ≤ c.bn) → c.pend.Pairwise (fun a b => a.at_ ≤ b.at_) →
      (c.tick n).see u r = Core.see { c with bn := c.bn + n } u r)

/-- ARITH bundles whose stores are near, and the memory operations of the MOVE form (R55, R56, R81 to R86). -/
def Obligations.ArithBundles : Prop :=
  ∀ (k : CoreId) (u : Fin 2) (a : Fin 4) (x y d r : Fin 16) (p : Fin 8) (md : Mode) (rest : Rest) (place : Place) (s : State),
    let v := s.core k.val
    let near := fun (m : MemOp) (t : State) => match m.ptr with
      | some (q, w) => if m.store then t.st (opAddr k.val (v.ea q w)) m.size (storeValue v 0 m).1 else t
      | none => t
    let result := fun (u0 u1 : UnitOp) (m0 m1 : MemOp) =>
      let r0 := unitEval v v.sr none u0
      let r1 := unitEval v r0.sr r0.acc u1
      let c := (r0.writes ++ r1.writes).foldl (fun c w => c.push w.1 w.2.1 w.2.2) v
      let c := s.loadOp k.val v.tid 1 (s.loadOp k.val v.tid 0 c m0) m1
      let c := pushSr v (postModify v (postModify v c m0) m1) (storeValue v (storeValue v r1.sr m0).2 m1).2
      (near m1 (near m0 (s.setCore k.val c))).finishSeq k.val v c 1
    let allNear := fun (m : MemOp) => ∀ q w, m.ptr = some (q, w) → m.store = true → v.ea q w < 0x10000
    (∀ i op, (i, op) ∈ [(Instr.mac k u a x y rest, UnitOp.mac a x y), (.msu k u a x y rest, .msu a x y), (.mpy k u a x y rest, .mpy a x y),
        (.mix k u a x y rest, .mix a x y), (.mixa k u a x rest, .mixa a x), (.clr k u a rest, .clr a), (.adds k u a x rest, .adds a x),
        (.rnd k u d a rest, .rnd d a), (.rndx k u d a rest, .rndx d a), (.norm k u d a rest, .norm d a)] →
      rest.mism = false →
      allNear rest.m0 → allNear rest.m1 →
      (u = 0 → s.runs k.val (.arith op rest.other rest.m0 rest.m1) → exec i s = .next (result op rest.other rest.m0 rest.m1))
      ∧ (u = 1 → s.runs k.val (.arith rest.other op rest.m0 rest.m1) → exec i s = .next (result rest.other op rest.m0 rest.m1)))
    ∧ (∀ i m, (i, m) ∈ [(Instr.ld32 k p md r place, MemOp.ld32 p md r), (.ld64 k p md r place, .ld64 p md r),
        (.st32 k p md r place, .st32 p md r), (.st64 k p md r place, .st64 p md r), (.str k p md a place, .str p md a)] →
      allNear m →
      (place = .move false → s.runs k.val (.move (.mem m)) → exec i s = .next (result .nop .nop m .none))
      ∧ (∀ u0 u1 o, place = .slot 0 u0 u1 o false → allNear o → s.runs k.val (.arith u0 u1 m o) → exec i s = .next (result u0 u1 m o))
      ∧ (∀ u0 u1 o, place = .slot 1 u0 u1 o false → allNear o → s.runs k.val (.arith u0 u1 o m) → exec i s = .next (result u0 u1 o m)))
    ∧ (s.runs k.val (.arith .nop .nop .none .none) → exec (.nop k .arith) s = .next (s.finishSeq k.val v v 1))

/-- The operations of R87 but for memory and parameter reads. -/
def Obligations.MoveBundles : Prop :=
  ∀ (k : CoreId) (dst src : Fin 68) (imm : Word) (d e : Fin 16) (a : Fin 4) (part : Fin 3) (b : Src) (s : State),
    let v := s.core k.val
    let done := fun (c : Core) => Host.Outcome.next (s.finishSeq k.val v c 1)
    let A := v.d e
    let B := v.src b
    let n := B % 64
    let acc := (v.see .accRead (xA a)).toNat
    let from_ := if 0x14 ≤ src.val ∧ src.val < 0x18 then (v.see .accRead src.val).toNat else v.seeN src.val
    let into := fun x => if dst.val = xSR then v.push xSR (srMove v.sr x) .plain else v.push dst.val (x &&& moveMask dst.val) (moveProd dst.val)
    let flags := fun z m => setBit (setBit v.sr 5 z) 6 m
    (s.runs k.val (.move (.mov dst src)) → exec (.mov k dst src) s = done (into from_))
    ∧ (s.runs k.val (.move (.ldi dst imm)) → exec (.ldi k dst imm) s = done (into imm.toNat))
    ∧ (∀ r, moveMask r = if r = xTRA then 0x07FF87FF else if r = xTCS then 0x07FFFFFF else 0xFFFFFFFF)
    ∧ (∀ x, x < 2 ^ 32 → v.sr < 2 ^ 32 → ∀ i < 32, bit (srMove v.sr x) i = if i < 8 ∨ i = 9 ∨ i = 11 ∨ i = 12 then bit x i else bit v.sr i)
    ∧ (s.runs k.val (.move (.mval d a part)) → exec (.mval k d a part) s = done (v.push (xD d)
        (if part = 0 then acc else if part = 1 then acc / 2 ^ 32 else ux 32 (sx 16 (acc / 2 ^ 64))) .plain))
    ∧ (s.runs k.val (.move (.mvla a e part)) → exec (.mvla k a e part) s = done (v.push (xA a)
        (if part = 0 then acc / 2 ^ 32 * 2 ^ 32 + A else if part = 1 then acc / 2 ^ 64 * 2 ^ 64 + A * 2 ^ 32 + acc % 2 ^ 32
         else A % 2 ^ 16 * 2 ^ 64 + acc % 2 ^ 64) .plain))
    ∧ (∀ i op x, (i, op, x) ∈ [(Instr.add k d e b, AluOp.add, (A + B) % 2 ^ 32), (.sub k d e b, .sub, ux 32 ((A : Int) - B)),
          (.andD k d e b, .and, A &&& B), (.orD k d e b, .or, A ||| B), (.xorD k d e b, .xor, A ^^^ B),
          (.shl k d e b, .shl, if 32 ≤ n then 0 else A * 2 ^ n % 2 ^ 32),
          (.shra k d e b, .shra, if 32 ≤ n then ux 32 (if A < 2 ^ 31 then 0 else -1) else ux 32 (sx 32 A / 2 ^ n)),
          (.shrl k d e b, .shrl, if 32 ≤ n then 0 else A / 2 ^ n),
          (.minD k d e b, .min, if sx 32 A ≤ sx 32 B then A else B), (.maxD k d e b, .max, if sx 32 A ≤ sx 32 B then B else A)] →
        s.runs k.val (.move (.alu op d e b)) → exec i s = done (v.push (xD d) x .plain))
    ∧ (∀ i op z, (i, op, z) ∈ [(Instr.abs k d e, MoveOp.abs d e, Int.natAbs (sx 32 A)), (.neg k d e, .neg d e, ux 32 (-(sx 32 A)))] →
        s.runs k.val (.move op) →
        (A ≠ 2 ^ 31 → exec i s = done (v.push (xD d) z .plain))
        ∧ (A = 2 ^ 31 → exec i s = done (pushSr v (v.push (xD d) (2 ^ 31 - 1) .plain) (setBit v.sr 4 true))))
    ∧ (s.runs k.val (.move (.cmp e b)) → exec (.cmp k e b) s
        = done (pushSr v v (setBit (flags (A == B) (decide (sx 32 A < sx 32 B))) 7 (decide (A < B)))))
    ∧ (s.runs k.val (.move (.tst e b)) → exec (.tst k e b) s = done (pushSr v v (flags ((A &&& B) == 0) (bit (A &&& B) 31))))
    ∧ (s.runs k.val (.move (.normd d e)) → exec (.normd k d e) s = done (v.push (xD d) (normD (v.ds e)) .plain))
    ∧ (s.runs k.val (.move (.exp d e)) → exec (.exp k d e) s = done (v.push (xD d)
        (if v.ds d ≤ normD (v.ds e) then v.d d else normD (v.ds e)) .plain))
    ∧ (s.runs k.val (.move .nop) → exec (.nop k .move) s = done v)

/-- What the memory operations do to the core and to memory (R30 to R32, R53, R62, R83). -/
def Obligations.MemoryOperations : Prop :=
  ∀ (k : CoreId) (p : Fin 8) (md : Mode) (r : Fin 16) (a : Fin 4) (t i : Nat) (c : Core) (s : State),
    let v := s.core k.val
    let ea := v.ea p md
    let at_ := 0x04000000 + k.val * 0x40000 + ea
    (ea < 0x10000 →
      s.loadOp k.val t i c (.ld32 p md r) = c.push (xD r) (s.ld at_ 4) .nearLoad
      ∧ s.loadOp k.val t i c (.ld64 p md r) = (c.push (xD r) (s.ld at_ 4) .nearLoad).push (xD (r + 1)) (s.ld (at_ + 4) 4) .nearLoad)
    ∧ (∀ cls dev, 0x10000 ≤ ea → s.translate t ea = some (cls, dev) →
      (s.loadOp k.val t i c (.ld32 p md r)).loads = c.loads ++ [⟨t, [xD r], c.bn, .mem cls dev 4, [], c.pc, s.issued + i⟩]
      ∧ (s.loadOp k.val t i c (.ld64 p md r)).loads = c.loads ++ [⟨t, [xD r, xD (r + 1)], c.bn, .mem cls dev 8, [], c.pc, s.issued + i⟩]
      ∧ (s.loadOp k.val t i c (.ld32 p md r)).locked (xD r) = true ∧ (s.loadOp k.val t i c (.ld64 p md r)).locked (xD (r + 1)) = true)
    ∧ (∀ sr, storeValue v sr (.st32 p md r) = (v.d r, sr) ∧ storeValue v sr (.st64 p md r) = (v.d r + 2 ^ 32 * v.d (r + 1), sr)
      ∧ storeValue v sr (.str p md a) = (ux 32 (roundQ131 (v.accOut a).1 (v.accOut a).2 v.rm).1,
          if (roundQ131 (v.accOut a).1 (v.accOut a).2 v.rm).2 then setBit sr 4 true else sr))
    ∧ (∀ m n, (m, n) ∈ [(MemOp.ld32 p md r, 4), (.ld64 p md r, 8), (.st32 p md r, 4), (.st64 p md r, 8), (.str p md a, 4)] →
      let moved := fun off => c.push (xP p) (ptrMove (v.seeN (xP p)) (v.seeN (xB p)) (v.seeN (xL p)) off) .plain
      postModify v c m = match md with
        | .postInc => moved n
        | .postMod => moved (sx 32 (v.seeN (xM p)))
        | _ => c)
    ∧ (∀ m dev, m ∈ [MemOp.st32 p md r, .st64 p md r, .str p md a] → 0x10000 ≤ ea → s.translate v.tid ea = some (clDirect, dev) →
      s.runs k.val (.move (.mem m)) →
      let posted := fun (q : Core) => { q with stores := q.stores ++ [⟨v.tid, clDirect, dev, m.size, (storeValue v 0 m).1, v.pc, s.issued⟩] }
      let c' := pushSr v (postModify v v m) (storeValue v v.sr m).2
      s.runBundle k.val (.move (.mem m)) false = (s.setCore k.val (posted c')).finishSeq k.val v (posted c') 1)
    ∧ (∀ m cls dev cl pg run, m ∈ [MemOp.st32 p md r, .st64 p md r, .str p md a] → 0x10000 ≤ ea → s.translate t ea = some (cls, dev) →
      cls = clState ∨ cls = clOutput → s.sramPage dev = some (cl, pg) → v.run = some run → s.poison = [] → s.integ.flips = [] →
      let posted := fun (u : State) => u.modCore k.val fun q => { q with stores := q.stores ++ [⟨t, cls, dev, m.size, (storeValue v 0 m).1, v.pc, u.issued + i⟩] }
      ((run.shadows.lookup (pageKey cl pg)).isSome → s.storeOp k.val t i v m = (posted s, none))
      ∧ (∀ f u, run.shadows.lookup (pageKey cl pg) = none → s.newShadow cl pg cls = some (f, u) →
          s.storeOp k.val t i v m = (posted (u.modCore k.val fun q => { q with run := some { run with shadows := (pageKey cl pg, f) :: run.shadows } }), none))
      ∧ (run.shadows.lookup (pageKey cl pg) = none → s.newShadow cl pg cls = none → s.storeOp k.val t i v m = (s, some .full)
          ∧ s.storeEnds k.val .full = s.abandonNow k.val 0 0x0021 0))

/-- R62 and R63: linear and circular addressing. -/
def Obligations.ModuloAddresses : Prop :=
  (∀ (p b : Nat) (off : Int), (ptrMove p b 0 off : Int) = (p + off) % 2 ^ 32)
  ∧ (∀ (p b l : Nat) (off : Int), 0 < l → b + l ≤ 2 ^ 32 →
      let q := ptrMove p b l off
      (b ≤ q ∧ q < b + l) ∧ (-2 ^ 31 ≤ (p : Int) - b → (p : Int) - b < 2 ^ 31 → ((q : Int) - (p + off)) % l = 0))
  ∧ (∀ (c : Core) (p : Fin 8) (m : Mode), c.ea p m = ptrMove (c.seeN (xP p)) (c.seeN (xB p)) (c.seeN (xL p))
      (match m with | .indexed off => off.toInt | _ => 0))
  ∧ ptrMove 0x20F8 0x2000 0x100 0x10 = 0x2008 ∧ ptrMove 0x20F8 0x2000 0x80 0 = 0x2078 ∧ ptrMove 0x20F8 0x2000 0x80 0x10 = 0x2008
  ∧ ptrMove 0x2004 0x2000 0x80 (-0x10) = 0x2074

/-- The parameter reads of R89. -/
def Obligations.ParameterReads : Prop :=
  ∀ (k : CoreId) (d ds : Fin 16) (p : Fin 8) (s : State),
    let v := s.core k.val
    let a := v.seeN (xP p)
    let ix := fun x => (v.seeN xSIX + x % s.fs) % 2 ^ 32
    let locks := fun (w : FarWhat) => Host.Outcome.next (s.finishSeq k.val v { v with loads := v.loads ++ [⟨v.tid, [xD d], v.bn, w, [], v.pc, s.issued⟩] } 1)
    (s.runs k.val (.move (.gld d p ds)) →
      (∀ dev, 0x10000 ≤ a → s.translate v.tid a = some (clParam, dev) → exec (.gld k d p ds) s = locks (.gld dev (ix (v.d ds % 32))))
      ∧ ((a < 0x10000 ∨ s.translate v.tid a = none ∨ ∃ cls dev, s.translate v.tid a = some (cls, dev) ∧ cls ≠ clParam) →
          exec (.gld k d p ds) s = .next (s.bundleFault k.val 1)))
    ∧ (s.runs k.val (.move (.xfade d p ds)) →
      (∀ dev, 0x10000 ≤ a → s.translate v.tid a = some (clParam, dev) → exec (.xfade k d p ds) s = locks (.xfade dev (ix (v.d ds % 32))))
      ∧ ((a < 0x10000 ∨ s.translate v.tid a = none ∨ ∃ cls dev, s.translate v.tid a = some (cls, dev) ∧ cls ≠ clParam) →
          exec (.xfade k d p ds) s = .next (s.bundleFault k.val 1)))
    ∧ (s.runs k.val (.move (.bscl d ds)) →
      exec (.bscl k d ds) s = locks (.bscl (v.d ds % 512) (ix (v.d ds / 2 ^ 16 % 32))))

/-- Branches and LOOP (R66, R67, R90 to R92). -/
def Obligations.ControlBundles : Prop :=
  ∀ (k : CoreId) (cnd : Cond) (target last : BitVec 11) (r d : Fin 16) (x : Fin 2) (count : Sel) (s : State),
    let v := s.core k.val
    let jump := fun (c : Core) (onto : Option Nat) => Host.Outcome.next (s.finish k.val c (v.pc + 1) 1 onto true)
    (s.runs k.val (.ctrl .nop) → exec (.nop k .ctrl) s = .next (s.finishSeq k.val v v 1))
    ∧ (s.runs k.val (.ctrl (.br cnd target)) →
        exec (.br k cnd target) s = jump v (if condHolds v.sr cnd then some target.toNat else none))
    ∧ (s.runs k.val (.ctrl (.brr cnd r)) →
        exec (.brr k cnd r) s = jump v (if condHolds v.sr cnd then some (v.d r % 2048) else none))
    ∧ (s.runs k.val (.ctrl (.jl d target)) → exec (.jl k d target) s = jump (v.push (xD d) (v.pc + 2) .plain) (some target.toNat))
    ∧ (∀ c b, (c, b) ∈ [(Cond.al, true), (.eq, bit v.sr 5), (.ne, !bit v.sr 5), (.mi, bit v.sr 6), (.pl, !bit v.sr 6), (.cs, bit v.sr 7),
          (.cc, !bit v.sr 7), (.le, bit v.sr 5 || bit v.sr 6), (.gt, !bit v.sr 5 && !bit v.sr 6),
          (.av, bit v.sr 0 || bit v.sr 1 || bit v.sr 2 || bit v.sr 3), (.sv, bit v.sr 4)] → condHolds v.sr c = b)
    ∧ (s.runs k.val (.ctrl (.loop x count last)) →
        let n := v.sel count % 65536
        let c := (nextOf v v).1
        let c' := (((c.push (xLC x) n .plain).push (xLS x) (v.pc + 1) .plain).push (xLE x) last.toNat .plain).push xSR
          (setBit c.settle.sr (16 + x.val) (n != 0)) .plain
        (n ≠ 0 ∨ v.delay ≠ none → exec (.loop k x count last) s = .next (s.finish k.val c' (nextOf v v).2 1 none false))
        ∧ (n = 0 → v.delay = none → exec (.loop k x count last) s = .next (s.finish k.val c' (last.toNat + 1) 1 none false)))

/-- R67 and R94: loop ends; R58: past the last bundle. -/
def Obligations.LoopEndsAndCompletion : Prop :=
  ∀ (k : CoreId) (v c : Core) (s : State) (pc n : Nat) (onto : Option Nat) (slot : Bool),
    let ends := fun (x : Fin 2) => v.la x = true ∧ v.seeN (xLE x) = v.pc
    let dec := fun (c : Core) (x : Fin 2) => c.push (xLC x) ((v.seeN (xLC x) + 65535) % 65536) .plain
    let off := fun (c : Core) (x : Fin 2) => (dec c x).push xSR (setBit (dec c x).settle.sr (16 + x.val) false) .plain
    let last := fun (x : Fin 2) => v.seeN (xLC x) % 65536 = 1
    (∀ t, v.delay = some t → nextOf v c = (c, t))
    ∧ (v.delay = none →
      (¬ ends 0 → ¬ ends 1 → nextOf v c = (c, v.pc + 1))
      ∧ (∀ x, ends x → (x = 1 → ¬ ends 0) → ¬ last x → nextOf v c = (dec c x, v.seeN (xLS x)))
      ∧ (∀ x, ends x → last x → ¬ ends (1 - x) → nextOf v c = (off c x, v.pc + 1))
      ∧ (ends 0 → last 0 → ends 1 → ¬ last 1 → nextOf v c = (dec (off c 0) 1, v.seeN (xLS 1)))
      ∧ (ends 0 → last 0 → ends 1 → last 1 → nextOf v c = (off (off c 0) 1, v.pc + 1)))
    ∧ (let c' : Core := { c with pc := pc, delay := onto, slot := slot, entry := c.entry && c.tm, wantStep := c.wantStep || c.stepping, stepping := false }
      let t := (({ s with issued := s.issued + 2 }.setCore k.val (c'.tick n)).inc (CORECTL_CBUNDLES_COUNT k.val) 1).urgentArmed k.val
      (pc ≠ 2048 → s.finish k.val c pc n onto slot = t ∧ t.mem = s.mem ∧ (t.core k.val).pc = pc ∧ (t.core k.val).bn = c.bn + n
        ∧ (∀ j, j ≠ k.val → t.core j = s.core j))
      ∧ (pc = 2048 → s.finish k.val c pc n onto slot =
          ((({ s with issued := s.issued + 2 }.setCore k.val { c'.tick n with pc := 2047 }).inc (CORECTL_CBUNDLES_COUNT k.val) 1).urgentArmed k.val).pcEnd k.val))
    ∧ ((s.core k.val).settle.tm = false → s.pcEnd k.val = s.takeTrap k.val 0x04 0 0 2047 false 0)
    ∧ ((s.core k.val).settle.tm = true → s.pcEnd k.val = s.abandonNow k.val 0 0x0025 0x04)

/-- The ends of a run by its program (R33, R95, R96). -/
def Obligations.RunEnds : Prop :=
  ∀ (k : CoreId) (s : State),
    let v := s.core k.val
    let f := s.finish k.val { v with loads := [] } v.pc 1 none false
    let w := f.core k.val
    let ended := fun (t : State) =>
      if w.tm && w.urgent then
        (if w.pc = 2047 then (t.modCore k.val Core.urgentOver).pcEnd k.val
         else t.modCore k.val fun c => { c.urgentOver with pc := c.pc + 1 })
      else (t.modCore k.val Core.leaveTm).coreToFetch k.val
    let gone := fun (r : Run) => ended (f.abandonRun k.val r 0 (if w.tm && !w.urgent then 0x0025 else 0x0022)
      (if w.tm && !w.urgent then w.seeN xTCS % 256 else 0))
    (∀ r, s.runs k.val (.ctrl (.done false)) → v.stores = [] → w.run = some r →
      exec (.done k) s = .next (ended (f.commitRun k.val r)))
    ∧ (∀ r, s.runs k.val (.ctrl (.done true)) → v.stores = [] → w.run = some r → exec (.doneAbandon k) s = .next (gone r))
    ∧ (∀ r, s.runs k.val (.ctrl .fetch) → v.tm = false → v.stores = [] → w.run = some r →
      exec (.fetch k) s = .next (ended (f.commitRun k.val r)))
    ∧ (s.runs k.val (.ctrl .fetch) → v.tm = true → exec (.fetch k) s = .next (s.bundleFault k.val 3))
    ∧ (s.runs k.val (.ctrl (.done false)) → v.stores ≠ [] →
      exec (.done k) s = .next (f.modCore k.val fun c => { c with ending := some .commit }))
    ∧ (s.runs k.val (.ctrl (.done true)) → v.stores ≠ [] →
      exec (.doneAbandon k) s = .next (f.modCore k.val fun c => { c with ending := some .abandon }))
    ∧ (∀ t : State, (t.coreToFetch k.val).rd (CORECTL_CSTAT_TID k.val) = 0 ∧ ((t.coreToFetch k.val).core k.val).run = none
        ∧ (t.power (clusterOf k.val) = 2 → s.holding k.val = false → t.holding k.val = false →
          (t.coreToFetch k.val).rd (CORECTL_CSTAT_STATE k.val) = stIdle ∧ k.val ∈ (t.coreToFetch k.val).disp.fetchNew)
        ∧ (t.power (clusterOf k.val) = 2 → t.holding k.val = true → (t.coreToFetch k.val).rd (CORECTL_CSTAT_STATE k.val) = stHeld))

/-- R33: shadows, posts and completion list at DONE. -/
def Obligations.CommitTakesEffect : Prop :=
  ∀ (k : Nat) (r : Run) (s : State), r.reexec = false → (r.shadows.map (·.1)).Nodup →
    let t := s.commitRun k r
    (∀ q ∈ r.shadows, t.frameOf (q.1 / 3072) (q.1 % 3072) = q.2)
    ∧ (∀ c p, p < 3072 → (∀ q ∈ r.shadows, q.1 ≠ pageKey c p) → t.frameOf c p = s.frameOf c p)
    ∧ t.disp.posts.map (·.2) = s.disp.posts.map (·.2) ++ (r.posts ++ s.completionPosts r.tid)
    ∧ t.disp.endings = s.disp.endings ++ [(r.tid, false)]
    ∧ (t.ctx r.tid).live = false ∧ (t.ctx r.tid).stops = []
    ∧ t.mem = s.mem ∧ t.cores = s.cores ∧ (∀ j, j ≠ r.tid → t.ctx j = s.ctx j)

/-- The post buffer of a run (R97 to R99). -/
def Obligations.PostBuffers : Prop :=
  ∀ (k : CoreId) (target : Sel) (flag : Fin 32) (slot : Fin 8) (value : Fin 16) (r : Run) (s : State),
    let v := s.core k.val
    let dst := v.sel target % 4096
    ∀ i op e, (i, op, e) ∈ [(Instr.post k target flag, CtrlOp.post target flag, PostE.post dst flag.val),
        (.matchOp k target slot value, .matchOp target slot value, .deliver dst slot.val (v.d value))] →
      s.runs k.val (.ctrl op) → v.run = some r →
      (dst = 0 → exec i s = .next (s.finishSeq k.val v v 1))
      ∧ (dst ≠ 0 → r.posts.length < 64 →
          exec i s = .next (s.finishSeq k.val v { v with run := some { r with posts := r.posts ++ [e] } } 1))
      ∧ (dst ≠ 0 → 64 ≤ r.posts.length → exec i s = .next (s.abandonNow k.val 0 0x0023 0))

/-- R70: what trap entry leaves. -/
def Obligations.TrapEntry : Prop :=
  ∀ (k : Fin 256) (cause code entry pc tgt : Nat) (dsv : Bool) (s : State),
    cause < 256 → code < 256 → entry < 65536 → pc < 2048 → tgt < 2048 → (s.core k.val).settle.sr < 2 ^ 32 →
    let t := s.takeTrap k.val cause code entry pc dsv tgt
    let c := t.core k.val
    let old := (s.core k.val).settle
    c.seeN xTRA = pc + 2 ^ 15 * (if dsv then 1 else 0) + 2 ^ 16 * (if dsv then tgt else 0)
    ∧ c.seeN xTCS = cause + 256 * code + 65536 * entry
    ∧ (∀ i < 32, bit c.sr i = if i = 10 then true else if i = 16 ∨ i = 17 then false else if i = 18 ∨ i = 19 then bit old.sr (i - 2) else bit old.sr i)
    ∧ (∀ r u, r ≠ xTRA → r ≠ xTCS → r ≠ xSR → c.see u r = old.see u r)
    ∧ c.pend = [] ∧ c.delay = none ∧ c.slot = false ∧ c.run = (s.core k.val).run
    ∧ c.pc = (if cause = 0x10 then 4 else if cause = 0x20 ∨ cause = 0x21 then 8 else if cause = 0x30 then 12 else 0)
    ∧ t.rd (CORECTL_CSTAT_STATE k.val) = (if s.rd (CORECTL_CSTAT_STATE k.val) = stHeld then stHeld else stTrap) ∧ t.rd (CORECTL_CFAULT_CAUSE k.val) = cause ∧ t.rd (CORECTL_CFAULT_PC k.val) = pc
    ∧ t.rd (CORECTL_CFAULT_VALID k.val) = 1 ∧ t.mem = s.mem ∧ (∀ j, j ≠ k.val → t.core j = s.core j)

/-- The trap and save-area bundles (R68, R71, R72, R74, R75, R93). -/
def Obligations.TrapBundles : Prop :=
  ∀ (k : CoreId) (code : BitVec 8) (p : Fin 8) (s : State),
    let v := s.core k.val
    let ea := v.seeN (xP p)
    let at_ := opAddr k.val ea
    let tra := v.seeN xTRA
    let q := match v.urgent, v.run with
      | true, some r => (s.abandonRun k.val r 0 0x0022 0).modCore k.val Core.urgentOver
      | _, _ => s
    let w := (q.core k.val).leaveTm
    let back := fun (c : Core) =>
      ((q.finish k.val c (bits tra 0 11) 1 (if bit tra 15 then some (bits tra 16 11) else none) (bit tra 15)).modCore k.val fun u =>
        { u with entry := v.entry && q.entryOf c == some (bits tra 0 11) }).wr (CORECTL_CSTAT_STATE k.val)
          (if q.rd (CORECTL_CSTAT_STATE k.val) = stHeld then stHeld else stRun)
    (s.runs k.val (.ctrl (.trap code)) → exec (.trap k code) s = .next
      (((s.finish k.val (nextOf v v).1 ((nextOf v v).2 % 2048) 1 none false).takeTrap k.val 0x10 code.toNat 0 (nextOf v v).2 false 0).wr
        (CORECTL_CFAULT_PC k.val) v.pc))
    ∧ (s.runs k.val (.ctrl .rett) → v.tm = false → exec (.rett k) s = .next (s.bundleFault k.val 3))
    ∧ (s.runs k.val (.ctrl .rett) → v.tm = true →
      (w.aside = none → exec (.rett k) s = .next (back w))
      ∧ (∀ a, w.aside = some a → a.dead = false → exec (.rett k) s = .next (((back
          { a.regs.foldl (fun c x => c.force x.1 x.2.toNat) w with aside := none, lent := none }).wr (CORECTL_CSTAT_TID k.val) a.run.tid).wr
            (CORECTL_CSTAT_MEM k.val) (if a.run.memB then 1 else 0)))
      ∧ (∀ a, w.aside = some a → a.dead = true → exec (.rett k) s = .next ((q.setCore k.val w).coreToFetch k.val)))
    ∧ (∀ f i op, (i, op) ∈ [(Instr.savelp k p, CtrlOp.savelp p), (.rstlp k p, .rstlp p)] → s.runs k.val (.ctrl op) →
        (ea % 8 ≠ 0 ∧ f = 2) ∨ (ea % 8 = 0 ∧ 0xFFF0 < ea ∧ f = 1) → exec i s = .next (s.bundleFault k.val f))
    ∧ (s.runs k.val (.ctrl (.savelp p)) → ea % 8 = 0 → ea ≤ 0xFFF0 → exec (.savelp k p) s = .next
        (((s.st at_ 8 (v.seeN (xLC 0) + 2 ^ 16 * v.seeN (xLC 1) + 2 ^ 32 * (if v.tm then bits v.sr 18 2 else bits v.sr 16 2))).st (at_ + 8) 8
          (v.seeN (xLS 0) + 2 ^ 16 * v.seeN (xLE 0) + 2 ^ 32 * v.seeN (xLS 1) + 2 ^ 48 * v.seeN (xLE 1))).finishSeq k.val v v 2))
    ∧ (s.runs k.val (.ctrl (.rstlp p)) → ea % 8 = 0 → ea ≤ 0xFFF0 → exec (.rstlp k p) s = .next
        (s.finish k.val ((nextOf v v).1.loadArea (s.ld at_ 8) (s.ld (at_ + 8) 8)) (nextOf v v).2 2 none false))

/-- R71: the save area as SAVELP writes it and RSTLP reads it. -/
def Obligations.RestoredLoops : Prop :=
  ∀ (c d : Core), (∀ x, c.seeN (xLC x) < 2 ^ 16 ∧ c.seeN (xLS x) < 2 ^ 11 ∧ c.seeN (xLE x) < 2 ^ 11) → d.settle.sr < 2 ^ 32 →
    let r := d.loadArea c.saveArea.1 c.saveArea.2
    (∀ x : Fin 2, r.seeN (xLC x) = c.seeN (xLC x) ∧ r.seeN (xLS x) = c.seeN (xLS x) ∧ r.seeN (xLE x) = c.seeN (xLE x)
      ∧ r.la x = bit c.sr ((if c.tm then 18 else 16) + x.val))
    ∧ (∀ u g, g ≠ xSR → (∀ x, g ≠ xLC x ∧ g ≠ xLS x ∧ g ≠ xLE x) → r.see u g = d.see u g)
    ∧ (∀ i < 32, i ≠ 16 → i ≠ 17 → bit r.sr i = bit d.settle.sr i)

/-- Faults and stops of a bundle, in their order (R53, R56, R58, R61, R66 to R68, R73 to R75, R80, R120). -/
def Obligations.BundleFaults : Prop :=
  ∀ (k : Nat) (b : Bundle) (m : Bool) (s : State),
    let v := s.core k
    (s.canRun k = false → s.runBundle k b m = s)
    ∧ (∀ r ∈ b.reads, v.locked (xD r) = true → s.runBundle k b m = s)
    ∧ (s.canRun k = true → (∀ r ∈ b.reads, v.locked (xD r) = false) →
      (s.integ.flips = [] → s.poison.contains (v.bundleAddr k / 8) = true → v.bundleAddr k % 8 = 0 →
        ∃ inj, s.runBundle k b m = s.stopCore k 0x41 inj)
      ∧ (s.integ.flips = [] → s.poison = [] →
        (bundleOk v.pc b = false → s.runBundle k b m = s.bundleFault k (if v.badEntry then 5 else 3))
        ∧ (bundleOk v.pc b = true →
          (m = true → s.runBundle k b m = s.stopCore k 0x40 false)
          ∧ (m = false → s.injResidue k (b.stages v) = true → s.runBundle k b m = s.injDone.stopCore k 0x40 true)
          ∧ (m = false → s.injResidue k (b.stages v) = false → b.mismatch v = true → s.runBundle k b m = s.stopCore k 0x40 false)
          ∧ (m = false → s.injResidue k (b.stages v) = false → b.mismatch v = false →
            (v.badEntry = true → s.runBundle k b m = s.bundleFault k 5)
            ∧ (v.badEntry = false → illegalHere v b = true → s.runBundle k b m = s.bundleFault k 3)
            ∧ (∀ f, v.badEntry = false → illegalHere v b = false → (b.mems.filterMap fun x => s.memFault v v.tid x).head? = some f →
              s.runBundle k b m = s.bundleFault k f)))))
    ∧ (v.badEntry = true ↔ v.entry = true ∧ v.pc < 16 ∧ v.tm = false)
    ∧ (∀ p q md mm r t u0 u1, genOf p = genOf q → illegalHere v (.arith u0 u1 (.ld32 p md r) (.st32 q mm t)) = true)
    ∧ (∀ d src, d.val ∈ [xTID, xFRM, xSIX] → illegalHere v (.move (.mov d src)) = true)
    ∧ (∀ d src, d.val ∈ [xTRA, xTCS] → illegalHere v (.move (.mov d src)) = !v.tm)
    ∧ (b.jumps = true → v.slot = true → illegalHere v b = true)
    ∧ (∀ x, b.jumps = true → v.la x = true → v.seeN (xLE x) = v.pc → illegalHere v b = true)
    ∧ (∀ cause, v.settle.tm = false → s.bundleFault k cause = s.takeTrap k cause 0 0 v.pc v.slot (v.delay.getD (v.pc + 1)))
    ∧ (∀ cause r, v.settle.tm = true → v.run = some r →
      let t := s.abandonRun k r 0 0x0025 cause
      (v.urgent = true → s.bundleFault k cause = t.modCore k fun c => { c.settle.urgentOver with pc := 14, delay := none, slot := false })
      ∧ (v.urgent = false → s.bundleFault k cause = (t.modCore k Core.leaveTm).coreToFetch k))

/-- The frame of the register operations of MOVE and CTRL bundles. -/
def Obligations.BundleFrame : Prop :=
  ∀ (k : CoreId) (b : Bundle) (s t : State),
    (∃ op, b = .move op ∧ ∀ m, op ≠ .mem m ∧ (∀ d p ds, op ≠ .gld d p ds ∧ op ≠ .xfade d p ds)) ∨ (∃ c x, b = .ctrl (.br c x)) ∨ (∃ c r, b = .ctrl (.brr c r))
      ∨ (∃ d x, b = .ctrl (.jl d x)) ∨ (∃ x n l, b = .ctrl (.loop x n l) ∧ l.toNat ≠ 2047) ∨ b = .ctrl .nop →
    s.runs k.val b → (s.core k.val).pc < 2047 → (∀ q, (s.core k.val).delay = some q → q < 2048) →
    (∀ x, (s.core k.val).seeN (xLS x) < 2048) → s.runBundle k.val b false = t →
    t.mem = s.mem ∧ t.hostMem = s.hostMem ∧ (∀ f, f.no ≠ (CORECTL_CBUNDLES_COUNT k.val).no ∨ f.idx ≠ k.val → t.rd f = s.rd f)
    ∧ (∀ j, j ≠ k.val → t.core j = s.core j) ∧ t.ctxs = s.ctxs ∧ t.disp = s.disp ∧ t.pending = s.pending
    ∧ (t.core k.val).run = (s.core k.val).run ∧ (t.core k.val).stores = (s.core k.val).stores ∧ (t.core k.val).aside = (s.core k.val).aside
    ∧ t.rd (CORECTL_CBUNDLES_COUNT k.val) = (s.rd (CORECTL_CBUNDLES_COUNT k.val) + 1) % 2 ^ 32

/-- Decoding the word of a bundle gives the bundle (R79 to R92). -/
def Obligations.EncodeDecode : Prop :=
  ∀ b : Bundle, encodable b = true → decodeBundle (encodeBundle b) = some b

/-- A decodable word has no spare bits (R79, R80). -/
def Obligations.DecodeEncode : Prop :=
  ∀ w : DWord, (∀ b, decodeBundle w = some b → encodeBundle b = w ∧ encodable b = true)
    ∧ (w.toNat < 2 ^ 60 ∨ 4 * 2 ^ 60 ≤ w.toNat → decodeBundle w = none)

/-- Words built field by field from R81, R86 and R90. -/
def Obligations.BundleWords : Prop :=
  (∀ q ∈ [
    -- FORM 1 | OP0 1 ACC0 2 X0 3 Y0 4 | OP1 8 ACC1 1 X1 5 Y1 0 | MOP0 1 PTR0 2 MODE0 1 REG0 6 | MOP1 3 PTR1 5 MODE1 2 REG1 7 | 0
    ((0b0001_0001_10_0011_0100_1000_01_0101_0000_001_010_01_0110_011_101_10_0111_00000000 : DWord),
      Bundle.arith (.mac 2 3 4) (.rnd 5 1) (.ld32 2 .postInc 6) (.st32 5 .postMod 7)),
    (0b0001_0100_00_0001_0010_0101_11_1001_0000_000_000_00_0000_101_001_00_0010_00000000, .arith (.mix 0 1 2) (.mixa 3 9) .none (.str 1 .ind 2)),
    (0b0001_0000_00_0000_0000_0110_11_0000_0000_010_111_01_1110_000_000_00_0000_00000000, .arith .nop (.clr 3) (.ld64 7 .postInc 14) .none),
    -- FORM 2 | OP | DST | SA | SB | I | IMM
    (0b0010_000001_0000101_0111110_0000000_0_00000000000000000000000000000000, .move (.mov 5 0x3E)),
    (0b0010_000010_0011000_0000000_0000000_1_00000000000000010000000000000000, .move (.ldi 0x18 0x10000)),
    (0b0010_000011_0000111_0010010_0000000_1_00000000000000000000000000000010, .move (.mval 7 2 2)),
    (0b0010_001001_0000001_0000010_0000011_0_00000000000000000000000000000000, .move (.alu .sub 1 2 (.reg 3))),
    (0b0010_001110_0000001_0000010_0000000_1_00000000000000000000000000000101, .move (.alu .shra 1 2 (.imm 5))),
    (0b0010_010100_0000000_0000010_0000011_0_00000000000000000000000000000000, .move (.cmp 2 (.reg 3))),
    (0b0010_100000_0000110_0011001_0000000_1_00000000000000000000111111111100, .move (.mem (.ld32 1 (.indexed 0xFFC) 6))),
    (0b0010_101000_0000001_0011010_0000011_0_00000000000000000000000000000000, .move (.gld 1 2 3)),
    -- FORM 3 | OP | RA | RB | COND | 00 | I | X | IMM
    (0b0011_000001_0000000_0000000_0101_00_0_0_00000000000000000000011111111111, .ctrl (.br .cs 0x7FF)),
    (0b0011_001000_0000000_0000000_0000_00_1_1_00000000000010010000000000101000, .ctrl (.loop 1 (.imm 9) 40)),
    (0b0011_010011_0000011_0000100_0000_00_0_0_00000000000001110000000000000000, .ctrl (.matchOp (.reg 3) 7 4)),
    (0b0011_010001_0000000_0000000_0000_00_0_0_00000000000000000000000000000001, .ctrl (.done true))], decodeBundle q.1 = some q.2)
  ∧ (∀ w ∈ [
    (0b0001_1011_00_0000_0000_0000_00_0000_0000_000_000_00_0000_000_000_00_0000_00000000 : DWord),
    0b0001_0000_00_0000_0000_0000_00_0000_0000_001_010_11_0110_000_000_00_0000_00000000,
    0b0001_0110_00_0001_0000_0000_00_0000_0000_000_000_00_0000_000_000_00_0000_00000000,
    0b0001_0000_00_0000_0000_0000_00_0000_0000_000_000_00_0000_000_000_00_0000_00000001,
    0b0010_000101_0000000_0000000_0000000_0_00000000000000000000000000000000,
    0b0011_000001_0000000_0000000_1011_00_0_0_00000000000000000000000000000000,
    0b0011_011001_0000000_0000000_0001_00_0_0_00000000000000000000000000000000], decodeBundle w = none)
  ∧ bundleOk 20 (.arith (.rndx 3 0) .nop .none .none) = false ∧ bundleOk 20 (.arith .nop .nop (.st32 0 .ind 1) (.st32 2 .ind 1)) = false
  ∧ bundleOk 20 (.arith (.mac 1 2 3) (.mpy 1 2 3) .none .none) = false ∧ bundleOk 20 (.arith (.mac 1 2 3) (.adds 1 2) .none .none) = true
  ∧ bundleOk 20 (.ctrl (.loop 0 (.imm 1) 20)) = false ∧ bundleOk 20 (.ctrl (.loop 0 (.imm 1) 21)) = true

/-- Completion of far accesses (R33, R34, R40, R53, R54, R154). -/
def Obligations.FarAccessesEnd : Prop :=
  ∀ (k : CoreId) (i : Fin 16) (j : Fin 64) (retry : Bool) (l : FarLoad) (o : StoreOf) (x : FarStore) (sh : List (Nat × Nat)) (r : Run) (s : State),
    let c := s.core k.val
    let n := if retry then 1 else 0
    let e := s.errored 0 false
    s.board.held = false →
    (c.run = some r → c.loads[i.val]? = some l →
      (s.behind k.val l.seq (s.readTarget l.what).1 = true → exec (.farLoadReturn k i retry false) s = .next s)
      ∧ (s.behind k.val l.seq (s.readTarget l.what).1 = false →
        (∀ u v, e.farRead k.val r l.tid l.seq n l.what = (u, .data v) → exec (.farLoadReturn k i retry false) s = .next
          (u.modCore k.val fun q => { q.farWrite l v with loads := q.loads.eraseIdx i.val }))
        ∧ (∀ u, e.farRead k.val r l.tid l.seq n l.what = (u, .error) → exec (.farLoadReturn k i retry false) s = .next
          (u.stopCoreAt k.val 0x42 u.integ.err.2 l.pc))
        ∧ (∀ u b, e.farRead k.val r l.tid l.seq n l.what = (u, .poisoned b) → exec (.farLoadReturn k i retry false) s = .next
          (u.poisonRun k.val l.what.addr b))
        ∧ (let u := (e.farRead k.val r l.tid l.seq 2 l.what).1
           exec (.farAccessError k false (i.castLE (by decide))) s = .next (u.stopCoreAt k.val 0x42 u.integ.err.2 l.pc))))
    ∧ (c.posted j.val = some (o, x, sh) →
      (s.behind k.val x.seq (s.storeTarget x) = true → exec (.farStoreComplete k j retry false) s = .next s)
      ∧ (s.behind k.val x.seq (s.storeTarget x) = false →
        (∀ u, e.farStoreAt k.val sh x n = (u, true) →
          let t := u.modCore k.val fun q => q.unpost o
          ((t.core k.val).ending = none → exec (.farStoreComplete k j retry false) s = .next t)
          ∧ (∀ d, (t.core k.val).ending = some d → (t.core k.val).stores ≠ [] → exec (.farStoreComplete k j retry false) s = .next t)
          ∧ (∀ d, (t.core k.val).ending = some d → (t.core k.val).stores = [] → exec (.farStoreComplete k j retry false) s = .next (t.endRun k.val d)))
        ∧ (∀ u, e.farStoreAt k.val sh x n = (u, false) →
          ((∀ m, o ≠ .late m) → exec (.farStoreComplete k j retry false) s = .next (u.stopCoreAt k.val 0x42 u.integ.err.2 x.pc))
          ∧ (∀ m, o = .late m → exec (.farStoreComplete k j retry false) s = .next (u.modCore k.val fun q => q.unpost o)))
        ∧ (let u := (e.farStoreAt k.val sh x 2).1
           ((∀ m, o ≠ .late m) → exec (.farAccessError k true j) s = .next (u.stopCoreAt k.val 0x42 u.integ.err.2 x.pc))
           ∧ (∀ m, o = .late m → exec (.farAccessError k true j) s = .next (u.modCore k.val fun q => q.unpost o)))))
    ∧ (∀ b, exec (.farLoadReturn k i b true) s = exec (.farLoadReturn k i b false) (s.loadWaits k.val i.val (if b then 1 else 0) true)
      ∧ exec (.farStoreComplete k j b true) s = exec (.farStoreComplete k j b false) (s.storeWaits k.val j.val (if b then 1 else 0) true))
    ∧ (∀ g v, l.regs = [g] → l.spent = [] → (∀ w ∈ c.pend, w.reg ≠ g ∧ w.at_ ≤ l.at_) → l.at_ + 1 ≤ c.bn →
        ((c.farWrite l v).see .plain g).toNat = v % 2 ^ 32 ∧ (∀ h u, h ≠ g → (c.farWrite l v).see u h = c.see u h))
    ∧ (∀ code inj pc, code < 256 → pc < 2048 → c.aside = none →
        let t := s.stopCoreAt k.val code inj pc
        t.rd (CORECTL_CSTAT_STATE k.val) = stStopped ∧ t.rd (CORECTL_CFAULT_CAUSE k.val) = code ∧ t.rd (CORECTL_CFAULT_PC k.val) = pc
          ∧ (t.core k.val).run = none ∧ (t.core k.val).loads = [] ∧ (t.core k.val).stores = [])

/-- Asynchronous events of a core (R68, R69, R74, R75, R78) and the reserved encodings (R80). -/
def Obligations.CoreEvents : Prop :=
  ∀ (p : Port) (k : CoreId) (v : Word) (w : DWord) (s : State),
    let c := s.core k.val
    (s.board.held = false →
      (s.breakHere k.val = true ∨ c.wantBreak = true → s.rd (CORECTL_CSTAT_STATE k.val) = stRun →
        (c.safePoint = true → c.tm = false → exec (.breakTrap k) s = .next
          ((s.modCore k.val fun q => { q with wantBreak := false }).takeTrap k.val 0x20 0 0 c.pc false 0))
        ∧ (c.safePoint = false ∨ c.tm = true → exec (.breakTrap k) s = .next (s.modCore k.val fun q => { q with wantBreak := true })))
      ∧ (c.wantStep = true → c.run.isSome = true → s.rd (CORECTL_CSTAT_STATE k.val) ∈ [stRun, stHeld] → c.safePoint = true → c.tm = false →
          s.on CORECTL_DBG_EN = true → exec (.stepTrap k) s = .next
          ((s.modCore k.val fun q => { q with wantStep := false }).takeTrap k.val 0x21 0 0 c.pc false 0))
      ∧ (s.on (CORECTL_CCTRL_HOLD k.val) = true → s.on CORECTL_DBG_EN = true → c.safePoint = true →
          s.rd (CORECTL_CSTAT_STATE k.val) ∈ [stRun, stTrap, stIdle] → exec (.coreHoldStop k) s = .next
          ((s.wr (CORECTL_CSTAT_STATE k.val) stHeld).unfetch k.val))
      ∧ (∀ t r, c.wantUrgent = some t → c.run = some r → t < 4096 → s.ctxState t = cxReady → bit c.sr 9 = true →
          s.rd (CORECTL_CSTAT_STATE k.val) = stRun → c.tm = false → c.safePoint = true → c.retire = none → s.mayGrant t = true →
          ∃ u, exec (.urgentTrap k) s = .next u ∧ (u.core k.val).urgent = true ∧ (u.core k.val).run = some ⟨t, (u.ctx t).memB, [], [], false⟩
            ∧ ((u.core k.val).aside.map (·.run)) = some r ∧ (u.core k.val).stores = [] ∧ (u.core k.val).pc = 12
            ∧ u.ctxState t = cxRunning ∧ u.rd (CORECTL_CSTAT_TID k.val) = t ∧ (u.core k.val).seeN xTID = t
            ∧ (u.core k.val).seeN 0 = (u.ctx t).arg % 2 ^ 32
            ∧ (∀ m < 4, (u.core k.val).seeN (0x18 + m) = s.ctxWord t (5 + m) % 2 ^ 32 ∧ (u.core k.val).seeN (0x30 + m) = s.ctxWord t (5 + m) % 2 ^ 32
              ∧ (u.core k.val).seeN (0x20 + m) = 0 ∧ (u.core k.val).seeN (0x28 + m) = 0))
      ∧ (∀ t r, c.wantUrgent = some t → c.run = some r → s.ctxState t = cxReady → bit c.sr 9 = false →
          exec (.urgentTrap k) s = .next ((s.setCore k.val { c with wantUrgent := none }).withdraw t))
      ∧ (reservedWord c.pc w = true → s.canRun k.val = true → s.poison = [] → s.integ.flips = [] →
          exec (.reservedEncoding k w) s = .next (s.bundleFault k.val (if c.badEntry then 5 else 3))))
    ∧ (let x := withBits v 1 1 1
       let t := s.wrRow row_CORECTL_CCTRL k.val x
       let t := if s.on (CORECTL_CCTRL_HOLD k.val) = true ∧ bit x 0 = false then t.releaseHold k.val else t
       s.writeOpen p row_CORECTL_CCTRL k.val x → bit x 1 = true →
         exec (.cctrlStep p k v) s = .next (s.written p row_CORECTL_CCTRL k.val x (t.stepCore k.val)))
    ∧ (∀ b, s.rd (CORECTL_CSTAT_STATE k.val) = stHeld → s.on CORECTL_DBG_EN = true → reservedWord c.pc (s.nextWord k.val) = false →
        decodeBundle (s.nextWord k.val) = some b → (s.modCore k.val fun q => { q with stepping := true }).canRun k.val = true →
        s.stepCore k.val = (s.modCore k.val fun q => { q with stepping := true }).runBundle k.val b false)

/-- Commands of the dispatcher's registers (R126, R130, R141, R144, R343, R390). -/
def Obligations.DispatcherCommands : Prop :=
  ∀ (p : Port) (t : Fin 4096) (db : Bool) (flag : Fin 32) (k : CoreId) (x : Fin 128) (s : State),
    let q := (s.whoOf p).q
    let role := s.rd PAIR_STAT_ROLE
    (∀ i op fl, (i, op, fl) ∈ [(Instr.arm p t db, 1, 0), (.cancel p t db, 2, 0), (.clear p t db, 3, 0), (.dispCmdPost p t db flag, 4, flag.val)] →
      let w := op + fl * 16 + t.val * 65536 + b2n db * 2147483648
      let c : DispCmd := ⟨op, fl, t.val⟩
      let code := (s.applyCmd c).2
      let barred := q ≠ warden ∧ (s.partCtx t.val ≠ q ∨ (op = 1 ∧ s.partCluster (s.ctxF t.val 7 4) ≠ q))
      s.writeOpen p row_DISP_CMD 0 w →
        (s.on DISP_STATUS_BUSY = true → exec i s = .next (State.turnedAway p s))
        ∧ (s.on DISP_STATUS_BUSY = false →
          (t.val = 0 → exec i s = .next (s.written p row_DISP_CMD 0 w (s.cmdResult 0 3)))
          ∧ (t.val ≠ 0 → barred → exec i s = .next (s.written p row_DISP_CMD 0 w (s.cmdResult t.val 4)))
          ∧ (t.val ≠ 0 → ¬ barred →
            (db = false → role ≠ 1 → exec i s = .next (s.written p row_DISP_CMD 0 w
              ({ s with disp := { s.disp with cmds := s.disp.cmds ++ [c] } }.wr DISP_STATUS_BUSY 1)))
            ∧ (db = true → role ≠ 1 → exec i s = .next (s.written p row_DISP_CMD 0 w
              ((if code = 0 then { s with disp := { s.disp with dbCmds := s.disp.dbCmds ++ [c] } } else s).cmdResult t.val code)))
            ∧ (role = 1 → ∃ u, exec i s = .next (s.written p row_DISP_CMD 0 w u)
              ∧ u.rd DISP_CMDRES_CODE = code ∧ u.rd DISP_CMDRES_TID = t.val ∧ u.disp.cmds = s.disp.cmds
              ∧ (code ≠ 0 → u.disp = s.disp ∧ u.pair = s.pair)
              ∧ (code = 0 → s.bc ≤ s.io.dbAt + 290000 → u.disp.dbCmds = s.disp.dbCmds ++ [c] ∧ u.disp.lateCmds = s.disp.lateCmds)
              ∧ (code = 0 → s.io.dbAt + 290000 < s.bc → u.disp.dbCmds = s.disp.dbCmds ∧ u.disp.lateCmds = s.disp.lateCmds ++ [c])))))
    ∧ (∀ c : DispCmd, s.disp.cmds = [c] →
        let u := { s with disp := { s.disp with cmds := [] } }
        s.takeCmds = ((u.applyCmd c).1.cmdResult c.tid (u.applyCmd c).2).wr DISP_STATUS_BUSY 0)
    ∧ (∀ c : DispCmd, let st := s.ctxState c.tid
      (c.op = 1 → st ≠ cxDisarmed → s.applyCmd c = (s, 1)) ∧ (c.op = 1 → st = cxDisarmed → s.badCfg c.tid = true → s.applyCmd c = (s, 2))
      ∧ (c.op = 1 → st = cxDisarmed → s.badCfg c.tid = false → s.applyCmd c = ((s.setCtxState c.tid cxWaiting).touch c.tid, 0))
      ∧ (c.op = 2 → st = cxRunning → s.applyCmd c = (s.setCtxState c.tid cxCancelling, 0))
      ∧ (c.op = 2 → st = cxWaiting → s.applyCmd c = (s.setCtxState c.tid cxDisarmed, 0))
      ∧ (c.op = 2 → st = cxDisarmed ∨ st = cxCancelling → s.applyCmd c = (s, 0))
      ∧ (c.op = 2 → st = cxReady ∨ st = cxHeld → s.background c.tid = true → s.applyCmd c = ((s.leaveList c.tid).setCtxState c.tid cxDisarmed, 0))
      ∧ (c.op = 3 → st ≠ cxDisarmed → s.applyCmd c = (s, 1))
      ∧ (c.op = 3 → st = cxDisarmed → (s.applyCmd c).2 = 0 ∧ ((s.applyCmd c).1.ctx c.tid).flags = 0 ∧ ((s.applyCmd c).1.ctx c.tid).counts = []
          ∧ ((s.applyCmd c).1.ctx c.tid).slots = [] ∧ (s.applyCmd c).1.rd (DISP_CTXSTAT_CSAT c.tid) = 0)
      ∧ (c.op = 4 → s.applyCmd c = ({ s with disp := { s.disp with hostPosts := s.disp.hostPosts ++ [(c.tid, c.flag)] } }, 0)))
    ∧ (∀ i w op, (i, w, op) ∈ [(Instr.coreRetire p k, k.val + 256, 1), (.coreRestore p k, k.val + 512, 2)] →
        s.writeOpen p row_DISP_CORECMD 0 w →
        exec i s = .next (s.written p row_DISP_CORECMD 0 w ((s.wrRow row_DISP_CORECMD 0 w).coreCmd k.val op)))
    ∧ ((s.core k.val).retired = false → (s.core k.val).retire = none →
        (((s.coreCmd k.val 1).core k.val).retire = some 0 ∧ (s.coreCmd k.val 1).rd DISP_CORECMD_PEND = 1))
    ∧ ((s.core k.val).retired = true → (k.val ∈ (s.coreCmd k.val 2).disp.restores ∧ (s.coreCmd k.val 2).rd DISP_CORECMD_PEND = 1))
    ∧ (s.writeOpen p row_DISP_SWEV 0 x.val → exec (.softwareEvent p x) s = .next (s.written p row_DISP_SWEV 0 x.val (s.fire (896 + x.val))))
    ∧ (s.writeOpen p row_DISP_SLACKMAX 0 2147483648 →
        exec (.slackmaxClr p) s = .next (s.written p row_DISP_SLACKMAX 0 2147483648 (s.wr DISP_SLACKMAX_MAX 0)))

/-- R130 item 5, R132, R138, R139. -/
def Obligations.FlagsAndReadiness : Prop :=
  ∀ (t : Nat) (f : Fin 32) (slot v : Nat) (s : State), t ≠ 0 →
    let c := s.ctx t
    let u := s.postFlag t f.val
    (s.counting t f.val = false → c.flags < 2 ^ 32 → u.flagSet t f.val = true ∧ (u.ctx t).counts = c.counts
      ∧ (∀ g : Fin 32, g ≠ f → u.flagSet t g.val = s.flagSet t g.val))
    ∧ (s.counting t f.val = true → tget 0 c.counts f.val < 255 → tget 0 (u.ctx t).counts f.val = tget 0 c.counts f.val + 1
      ∧ (u.ctx t).flags = c.flags ∧ (∀ g, g ≠ f.val → tget 0 (u.ctx t).counts g = tget 0 c.counts g))
    ∧ (s.counting t f.val = true → 255 ≤ tget 0 c.counts f.val → u.rd (DISP_CTXSTAT_CSAT t) = 1 ∧ u.on DISP_STATUS_CSAT = true ∧ u.ctx t = c)
    ∧ (∀ j, j ≠ t → u.ctx j = s.ctx j) ∧ (∀ j, u.ctxState j = s.ctxState j) ∧ t ∈ u.disp.changed
    ∧ (s.matching t = false ∨ bit (s.slotMask t) slot = false → s.deliver t slot v = s.wr DISP_STATUS_MATCHERR 1)
    ∧ (s.matching t = true → bit (s.slotMask t) slot = true → s.rd DISP_MSUSE_INUSE < 512 →
        tget [] ((s.deliver t slot v).ctx t).slots slot = tget [] c.slots slot ++ [v]
        ∧ (s.deliver t slot v).rd DISP_MSUSE_INUSE = s.rd DISP_MSUSE_INUSE + 1)
    ∧ (s.matching t = true → bit (s.slotMask t) slot = true → 512 ≤ s.rd DISP_MSUSE_INUSE →
        s.deliver t slot v = (s.wr DISP_STATUS_MSFULL 1).emit (mkRec cLost 0 0x0024 uTask t (d16 t)))
    ∧ (s.matching t = false → s.ctxF t 15 1 ≠ 1 → (s.isReady t = true ↔ ∃ g < 32, bit (s.ctxWord t 2) g = true ∧ s.flagSet t g = true))
    ∧ (s.matching t = false → s.ctxF t 15 1 = 1 → (s.isReady t = true ↔ ∀ g < 32, bit (s.ctxWord t 2) g = true → s.flagSet t g = true))
    ∧ (s.matching t = true → (s.isReady t = true ↔ ∀ j < 8, bit (s.slotMask t) j = true → tget [] c.slots j ≠ []))

/-- R47, R95 and R134: choosing and entering a task. -/
def Obligations.TaskEntry : Prop :=
  (∀ (k : Nat) (e : ReadyE) (s : State), s.ownPick k = some e →
    e ∈ s.disp.ready ∧ e.cluster = clusterOf k ∧ s.allows e.tid k = true ∧ s.mayGrant e.tid = true
    ∧ ∀ g ∈ s.disp.ready, g.cluster = clusterOf k → s.allows g.tid k = true → s.mayGrant g.tid = true → e.level ≤ g.level)
  ∧ (∀ (k : Fin 256) (e : ReadyE) (stolen : Bool) (s : State), e.tid < 4096 → s.matching e.tid = false →
    let t := e.tid
    let u := s.grant k.val e stolen
    let c := u.core k.val
    c.run = some ⟨t, (u.ctx t).memB, [], [], e.mark⟩ ∧ c.pc = bits (s.ctxWord t 1) 0 11 ∧ c.entry = true ∧ c.pend = [] ∧ c.loads = [] ∧ c.stores = []
    ∧ c.seeN 0 = (u.ctx t).arg % 2 ^ 32
    ∧ (∀ i < 4, c.seeN (0x18 + i) = s.ctxWord t (5 + i) % 2 ^ 32 ∧ c.seeN (0x30 + i) = s.ctxWord t (5 + i) % 2 ^ 32)
    ∧ c.seeN xTID = t ∧ c.seeN xFRM = (u.ctx t).frame % 2 ^ 32 ∧ c.seeN xSIX = (u.ctx t).six % 2 ^ 32
    ∧ (∀ r, r ∉ [0, 0x18, 0x19, 0x1A, 0x1B, 0x30, 0x31, 0x32, 0x33, xTID, xFRM, xSIX] → ∀ v, c.see v r = 0)
    ∧ u.rd (CORECTL_CSTAT_STATE k.val) = stRun ∧ u.rd (CORECTL_CSTAT_TID k.val) = t ∧ u.ctxState t = cxRunning
    ∧ (∀ g ∈ u.disp.ready, g.tid ≠ t) ∧ k.val ∉ u.disp.fetchQ ∧ k.val ∉ u.disp.fetchNew ∧ u.mem = s.mem
    ∧ (e.mark = false → (u.ctx t).frame = s.frame ∧ (u.ctx t).six = s.fs * s.frame % 2 ^ 32 ∧ (u.ctx t).memB = s.on CORECTL_IMSTAT_ACT ∧ (u.ctx t).live = true)
    ∧ (e.mark = true → u.ctx t = s.ctx t))

/-- The frame's events (R26, R41, R44, R130). -/
def Obligations.DispatcherSteps : Prop :=
  ∀ (t : Fin 4096) (mods : List (Fin 128 × List (Option Nat))) (spares : List (Fin 8 × List (Option Nat))) (sense : List (Fin 128 × Nat))
    (mis : List (Nat × Nat × Nat)) (upsets : List (Nat × Fin 3 × Nat)) (seen : FrameSeen)
    (ns : Nat) (bad badT badD m2 : List Nat) (asked : List (Nat × Nat)) (s : State),
    s.board.held = false →
    let noted := { s with disp := { s.disp with gaveUp := t.val :: s.disp.gaveUp } }
    let st := s.ctxState t.val
    let chk := match (s.ctx t.val).stops.getLast? with | some q => q.check | none => 0
    (exec .dispatcherStep s = .next (State.batched State.stepBody s))
    ∧ (∀ u : State, u.stepBody = ((if u.disp.downbeat then u.downbeatPart else u).stepRest).memtYield
        ∧ u.stepRest = u.takeCmds.takeEndings.takeGiveUps.takeUpdates.evalReady.grantAll.signalUrgent)
    ∧ (exec (.giveUp t) s = .next { s with disp := { s.disp with due := s.disp.due ++ [t.val] } })
    ∧ (∀ u : State, u.takeGiveUps = u.disp.due.foldl State.giveUpTask { u with disp := { u.disp with due := [] } })
    ∧ (s.background t.val = false → st = cxReady ∨ st = cxRequeued → s.coreOf t.val = none → s.giveUpTask t.val =
        (((((noted.leaveList t.val).abandonTask t.val chk 0x0020 0xFFFF 0 0).wr (DISP_CTXSTAT_MARK t.val) 0).setCtxState t.val cxWaiting).touch t.val))
    ∧ (∀ k, s.background t.val = false → s.coreOf t.val = some k →
        let gone := (noted.dropRun t.val).abandonTask t.val chk 0x0020 0xFFFF (s.core k).pc 0
        (st = cxRunning → s.giveUpTask t.val = ((gone.wr (DISP_CTXSTAT_MARK t.val) 0).setCtxState t.val cxWaiting).touch t.val)
        ∧ (st = cxCancelling → s.giveUpTask t.val = gone.setCtxState t.val cxDisarmed))
    ∧ (s.background t.val = true ∨ st = cxWaiting ∨ st = cxDisarmed ∨ st = cxHeld → s.giveUpTask t.val = noted)
    ∧ (let e : FrameEnd := ⟨mods.map (fun q => (q.1.val, q.2)), spares.map (fun q => (q.1.val, q.2)), sense.map (fun q => (q.1.val, q.2)), mis, upsets, seen.busy,
          seen.conf.map (fun q => (q.1.val, q.2.val)), seen.pdm.map (fun q => (q.1.val, q.2))⟩
       exec (.downbeat mods spares sense mis upsets seen) s = .next (State.batched (State.downbeatBody e) s.stepDue))
    ∧ (s.disp.downbeat = false → s.disp.due = [] → s.stepDue = s)
    ∧ (∀ at_, s.epoch.snap = false → s.refs.align = false →
        let u := s.openFrame at_
        u.n = s.n + 1 ∧ u.window = false ∧ u.io.dbAt = at_ ∧ u.disp.downbeat = true ∧ u.disp.gaveUp = [] ∧ u.disp.lastEnd = none
        ∧ u.mem = s.mem ∧ u.cores = s.cores ∧ ∀ j, u.rd (DISP_CTXSTAT_RUNS j) = 0)
    ∧ (s.n ≠ 0 → s.window = false → exec (.commitPoint ns bad badT badD m2 asked) s = .next
        (State.batched (State.commitPointBody ⟨ns, bad ++ badT.map tapNo, badD, m2, asked⟩) s.stepDue))
    ∧ (s.window = true ∨ s.n = 0 → exec (.commitPoint ns bad badT badD m2 asked) s = .next s)
    ∧ (∀ v d, s.disp.lastEnd = some d → s.io.dbAt ≤ d → d < 2 ^ 64 → 3 * (d - s.io.dbAt) = 1000 * v →
        let x := min v 1023
        (x ≤ s.rd DISP_SLACKTHR_THR → s.slack.rd DISP_SLACK_VALUE = x ∧ s.slack.rd DISP_SLACK_FRAME = s.frame % 65536
          ∧ s.slack.rd DISP_SLACKMAX_MAX = max x (s.rd DISP_SLACKMAX_MAX))
        ∧ (s.rd DISP_SLACKTHR_THR < x → s.slack.on DISP_STATUS_SLACKEV = true))

/-- Host registers with rules of their own (R25, R380, R392, R395). -/
def Obligations.HostRegisterWrites : Prop :=
  ∀ (p : Port) (r : Fin 256) (v : Word) (fs : Fin 2) (s : State),
    let w := s.whoOf p
    let x := v.toNat
    let k := r.val
    let mine := w.q = warden ∨ s.partRing k = w.q
    let hosts := s.rd (HOST_RCFG_TYPE k) = ringCmd ∨ s.rd (HOST_RCFG_TYPE k) = ringNettx
    let rpi := s.rd (HOST_RPI_INDEX k)
    let rci := s.rd (HOST_RCI_INDEX k)
    let i := s.rd WARD_CFGSEL_INDEX
    let jci := s.rd WARD_JCI_INDEX
    let busy := s.on DISP_CTRL_EN ∨ s.on ROUTE_CTRL_ENACT ∨ s.audioIdle = false ∨ (∃ c < 128, s.ampState c ≠ amOff)
      ∨ (∃ d < 8, s.on (BELL_CFG_EN d) = true) ∨ s.rd OVR_ASTAT_ACTIVE ≠ 0
    (s.writeOpen p row_HOST_RPI k x →
      (¬ mine ∨ (x ≠ rpi ∧ ¬ hosts) ∨ (x ≠ rpi ∧ s.ringSize k < (x + 2 ^ 32 - rci) % 2 ^ 32) → exec (.ringRpiWrite p r v) s = .next (State.turnedAway p s))
      ∧ (mine → x = rpi → exec (.ringRpiWrite p r v) s = .next (s.written p row_HOST_RPI k x s))
      ∧ (mine → hosts → x ≠ rpi → (x + 2 ^ 32 - rci) % 2 ^ 32 ≤ s.ringSize k →
          exec (.ringRpiWrite p r v) s = .next (s.written p row_HOST_RPI k x (s.wr (HOST_RPI_INDEX k) x))))
    ∧ (s.writeOpen p row_HOST_RCI k x →
      (¬ mine ∨ (hosts ∧ x ≠ rci) ∨ (¬ hosts ∧ s.ringUsed k < (x + 2 ^ 32 - rci) % 2 ^ 32) → exec (.ringRciWrite p r v) s = .next (State.turnedAway p s))
      ∧ (mine → hosts → x = rci → exec (.ringRciWrite p r v) s = .next (s.written p row_HOST_RCI k x s))
      ∧ (mine → ¬ hosts → (x + 2 ^ 32 - rci) % 2 ^ 32 ≤ s.ringUsed k →
          exec (.ringRciWrite p r v) s = .next (s.written p row_HOST_RCI k x
            { s.wr (HOST_RCI_INDEX k) x with host := { s.host with spent := s.host.spent.filter (· ≠ k), busy := s.host.busy.filter (· ≠ k) ++ (if x = rpi then [] else [k]) } })))
    ∧ (s.writeOpen p row_WARD_CFGSTG i x →
      (cfgListed i = true → exec (.wardCfgstgWrite p v) s = .next (s.written p row_WARD_CFGSTG i x (s.wr (WARD_CFGSTG_WORD i) x)))
      ∧ (cfgListed i = false → exec (.wardCfgstgWrite p v) s = .next (State.turnedAway p s)))
    ∧ (s.writeOpen p row_WARD_APPLY 0 1 → s.on WARD_APPLY_GO = false →
      exec (.wardApplyGo p) s = .next (s.written p row_WARD_APPLY 0 1 (s.wr WARD_APPLY_GO 1)))
    ∧ (s.writeOpen p row_WARD_JCI 0 x →
      ((x + 2 ^ 32 - jci) % 2 ^ 32 ≤ (s.rd WARD_JPI_INDEX + 2 ^ 32 - jci) % 2 ^ 32 →
        exec (.jciWrite p v) s = .next (s.written p row_WARD_JCI 0 x (s.wr WARD_JCI_INDEX x)))
      ∧ ((s.rd WARD_JPI_INDEX + 2 ^ 32 - jci) % 2 ^ 32 < (x + 2 ^ 32 - jci) % 2 ^ 32 → exec (.jciWrite p v) s = .next (State.turnedAway p s)))
    ∧ (s.writeOpen p row_SYS_RATE 0 fs.val →
      (busy → fs.val = s.rd SYS_RATE_FS → exec (.rateWrite p fs) s = .next (s.written p row_SYS_RATE 0 fs.val s))
      ∧ (busy → fs.val ≠ s.rd SYS_RATE_FS → exec (.rateWrite p fs) s = .next (State.turnedAway p s))
      ∧ (¬ busy → exec (.rateWrite p fs) s = .next (s.written p row_SYS_RATE 0 fs.val
          ((s.wr SYS_RATE_FS fs.val).modBoard fun q => { q with rate := true }).realign)))
    ∧ ((s.pll 0).late = [] → s.realign = (let t := { s with n := s.firstDownbeat (s.rd REFS_TBSEL_SEL), refs := { s.refs with align := true } }
        let t := (t.wr (REFS_DSTAT_STATE 0) plFreerun).wr (REFS_DSTAT_ACTIVE 0) 15
        ((t.setPll 0 { t.pll 0 with fresh := true, late := [] }).retarget 0).pllsSettle))

/-- Refused register writes (R389, R395, R405, R440). -/
def Obligations.HostWriteRefusals : Prop :=
  ∀ (p : Port) (r : RegRow) (i v : Nat) (s : State),
    let w := s.whoOf p
    let a := r.at_ i
    let host := w.host = true
    let told := s.emit (mkRec cCorrected 0 0x000A uMaster w.master (detA a w.master w.qos))
    let heel := s.authority = false ∧ (s.changesRwe r i v = true ∨ r.addr = 0x0A010008)
    let reach := s.mayReach w (blockOf a) true = true
    (host → s.on SYS_BOOTSTAT_DONE = false → s.hostReg p r i v = State.turnedAway p s)
    ∧ (host → s.on SYS_BOOTSTAT_DONE = true → heel → s.hostReg p r i v = State.turnedAway p s)
    ∧ ((host → s.on SYS_BOOTSTAT_DONE = true ∧ ¬ heel) →
      (¬ reach ∨ (s.changesRww r i v = true ∧ w.q ≠ warden) → s.hostReg p r i v = State.turnedAway p told)
      ∧ (reach → s.changesRww r i v = true → w.q = warden → s.journalFull = true → isArm r v = false → r.addr ≠ 0x0A160024 →
          s.hostReg p r i v = State.turnedAway p s))
    ∧ (reach ↔ w.q = warden ∨ blockOf a = 0x01 ∨ blockOf a = 0x05 ∨ blockOf a = 0x17 ∨ (blockOf a ≠ 0x16 ∧ s.partBlock (blockOf a) = w.q))
    ∧ (∀ f : Fld, f.no ∉ noteFields → f.no ≠ HOST_SPISTAT_ERR.no → (State.turnedAway p told).rd f = s.rd f ∧ (State.turnedAway p s).rd f = s.rd f)
    ∧ (State.turnedAway p told).resp = .error ∧ (State.turnedAway p s).resp = .error
    ∧ (p = .spi → (State.turnedAway p s).on HOST_SPISTAT_ERR = true) ∧ (p ≠ .spi → State.turnedAway p s = { s with resp := .error })

/-- Host accesses (R376, R377, R389). -/
def Obligations.HostAccesses : Prop :=
  ∀ (fn : Fin 8) (a n : Nat) (bs : List Byte) (p : Port) (off : Fin 2097152) (x : Word) (s : State),
    let port := Port.pcie fn
    let w := s.whoOf port
    let write := fun (b : Bool) (o : Nat) => Instr.hostBarAccess fn b o (.write bs) false false
    let read := Instr.hostBarAccess fn false a (.read n) false false
    let spi := s.whoOf .spi
    let reg := 0x0A000000 + 4 * off.val
    let irq := ∃ r < 256, s.partRing r = s.portPart .spi ∧ s.on (HOST_RCFG_IRQ r) = true ∧ s.ringUsed r ≠ 0
    let v := s.rd HOST_SPISTAT_ERR + 2 * s.rd HOST_SPISTAT_LATE
    s.board.held = false →
    (∀ o, 0x10000000 ≤ o → exec (write false o) s = .next (s.answerW false)) ∧ (∀ o, 0x400000000 ≤ o → exec (write true o) s = .next (s.answerW false))
    ∧ (s.on SYS_BOOTSTAT_DONE = true → s.integ.inj = none → a < 0x01000000 →
      (issuable a bs.length = true → (w.q = warden ∨ s.windowed w.q a bs.length true = true) →
        exec (write false a) s = .next ((s.devPut a bs).answerW true)
        ∧ (s.poison = [] → (∀ i (h : i < bs.length), byteAt (s.devPut a bs).mem (a + i) = bs[i])
          ∧ ∀ b, (b < a ∨ a + bs.length ≤ b) → byteAt (s.devPut a bs).mem b = byteAt s.mem b))
      ∧ (issuable a bs.length = true → w.q ≠ warden → s.windowed w.q a bs.length true = false →
        exec (write false a) s = .next ((s.refusedRec w a).answerW false))
      ∧ (issuable a n = true → (w.q = warden ∨ s.windowed w.q a n false = true) → s.poison = [] → s.integ.flips = [] → s.integ.stuck = [] →
        s.integ.batching = false → s.integ.batch = [] → exec read s = .next (s.answer (.ok (wordList (bytesAt s.mem a n)))))
      ∧ (issuable a n = true → w.q ≠ warden → s.windowed w.q a n false = false → exec read s = .next ((s.refusedRec w a).answer .error))
      ∧ (issuable a 4 = true → (spi.q = warden ∨ s.windowed spi.q a 4 true = true) →
        exec (.spiWrite a [x] false) s = .next ((s.devPut a (leBytes x.toNat 4)).answerW true))
      ∧ (issuable a 4 = true → spi.q ≠ warden → s.windowed spi.q a 4 true = false →
        exec (.spiWrite a [x] false) s = .next (((s.refusedRec spi a).wr HOST_SPISTAT_ERR 1).answerW false))
      ∧ (issuable a 4 = true → (spi.q = warden ∨ s.windowed spi.q a 4 false = true) → s.poison = [] → s.integ.flips = [] → s.integ.stuck = [] →
        exec (.spiRead a [false] false) s = .next (s.answer (.ok [BitVec.ofNat 32 (s.ld a 4)]))
        ∧ exec (.spiRead a [true] false) s = .next ((s.wr HOST_SPISTAT_LATE 1).answer (.ok [0]))))
    ∧ exec .spiStatus s = .next (((s.wr HOST_SPISTAT_ERR 0).wr HOST_SPISTAT_LATE 0).answer (.ok [BitVec.ofNat 32 (v + 4 * b2n (decide irq))]))
    ∧ (s.on SYS_BOOTSTAT_DONE = true → s.integ.inj = none → s.mayReach (s.whoOf p) (blockOf reg) true = true → reg < 0x0A1B0000 → ¬ (0x0A1A4000 ≤ reg ∧ reg < 0x0A1A8000) →
      (∀ r j i, findRow reg = some (r, j) → s.windowIx r j = some i → exec (.registerWrite p off x) s = .next (s.hostReg p r i x.toNat))
      ∧ (findRow reg = none → exec (.registerWrite p off x) s = .next (s.answerW true)))
    ∧ (∀ b o op retry, exec (.hostBarAccess fn b o op retry true) s = exec (.hostBarAccess fn b o op retry false) (s.barWaits port b o op (b2n retry) true))
    ∧ (∀ b o d bytes fails, barAddr b o = some d → bytes.length ≤ 256 → (s.passChecks w d bytes.length fails true).2 = true → (s.target d).num < 22 →
      let u := s.barWaits port b o (.write bytes) fails true
      let m := 16 * 22 + (s.target d).num
      u.rd (XBAR_CONFCNT_COUNT m) = min (2 ^ 32 - 1) (s.rd (XBAR_CONFCNT_COUNT m) + 1)
        ∧ ∀ f : Fld, (f.no ≠ (XBAR_CONFCNT_COUNT m).no ∨ f.idx ≠ m) → u.rd f = s.rd f)

/-- Commands of a ring (R190, R343, R381 to R385). -/
def Obligations.RingCommands : Prop :=
  ∀ (r : Fin 256) (acked past : Bool) (s : State),
    let k := r.val
    let e := s.ringEntry k
    let seq := entN e 4 4
    let op := entN e 0 1
    let peer := s.peerOf k
    let read := (s.ringFetch k).1
    let taken := (read.inc (HOST_RCI_INDEX k) 1).wr (HOST_RSEQ_SEQ k) seq
    let fin := fun (t : State) (st res : Nat) (late : Bool) => t.completion (t.peerOf k) op st k seq (entN e 8 8) res late
    let idle := s.board.held = false ∧ s.epoch.waiting.contains k = false ∧ s.cmdReady k = true
    let newIn := fun (t : State) => 1 ≤ (seq + 2 ^ 32 - t.rd (HOST_RSEQ_SEQ k)) % 2 ^ 32 ∧ (seq + 2 ^ 32 - t.rd (HOST_RSEQ_SEQ k)) % 2 ^ 32 ≤ 2 ^ 31 - 1
    let isNew := newIn read
    let commit := Instr.commit r acked past
    let judged := taken.judgeCommit (taken.partRing k) e past
    let holds := s.role = roLead ∧ acked = false
    let len := entN e 32 4
    let w := taken.ringWho k
    let src := taken.copyRead w (taken.rd (HOST_RCFG_FN k)) (bit (entN e 36 1) 0) (entN e 16 8) 4
    let wrote := fun (bs : List Byte) => src.1.copyWrite w (taken.rd (HOST_RCFG_FN k)) (bit (entN e 36 1) 1) (entN e 24 8) bs
    let run := State.copyRun w (taken.rd (HOST_RCFG_FN k)) (bit (entN e 36 1) 0) (bit (entN e 36 1) 1) (len / 4) taken (entN e 16 8) (entN e 24 8) len 0
    let begun := fun (c : Commit) => taken.disp.downbeat = true ∧ c.n ≤ taken.frame
    (s.cmdReady k = true ↔ s.on (HOST_RCFG_EN k) = true ∧ s.rd (HOST_RCFG_TYPE k) = ringCmd ∧ s.ringUsed k ≠ 0
      ∧ ¬ (s.on (HOST_RCFG_EN peer) = true ∧ s.rd (HOST_RCFG_TYPE peer) = ringCpl ∧ s.ringSize peer ≤ s.ringUsed peer))
    ∧ (idle → ∀ c o, (c, o) ∈ [(Instr.cmdNop r, 0), (commit, 1), (.commitCancel r, 2), (.copy r, 3), (.badop r, op)] → op = o → (c = .badop r → 3 < op) →
      (¬ isNew → ¬ newIn s → exec c s = .next (fin (read.inc (HOST_RCI_INDEX k) 1) stDUP 0 false))
      ∧ (isNew → reservedSet e = true → exec c s = .next (fin taken stMALFORMED 0 false)))
    ∧ (idle → isNew → reservedSet e = false →
      (op = 0 → exec (.cmdNop r) s = .next (fin taken stOK 0 false))
      ∧ (3 < op → exec (.badop r) s = .next (fin taken stBADOP 0 false))
      ∧ (op = 1 → ¬ holds → ∀ st, judged = .inl st → exec commit s = .next (fin taken st 0 false))
      ∧ (op = 1 → ¬ holds → ∀ c, judged = .inr c → exec commit s = .next
          (fin (if taken.role = roLead then (taken.acceptCommit c).tell (.commit c) else taken.acceptCommit c) stOK c.n c.late))
      ∧ (op = 1 → holds → newIn s → ∀ st, s.judgeCommit (s.partRing k) e past = .inl st → judged = .inl st → exec commit s = .next (fin taken st 0 false))
      ∧ (op = 1 → holds → newIn s → ∀ c, s.judgeCommit (s.partRing k) e past = .inr c → exec commit s = .next
          { s.tell (.commit c) with epoch := { s.epoch with waiting := k :: s.epoch.waiting } })
      ∧ (op = 2 → taken.authority = false → exec (.commitCancel r) s = .next (fin taken stNOTLEAD 0 false))
      ∧ (op = 2 → taken.authority = true → entN e 20 44 ≠ 0 → exec (.commitCancel r) s = .next (fin taken stMALFORMED 0 false))
      ∧ (op = 2 → taken.authority = true → entN e 20 44 = 0 → (∀ c ∈ taken.epoch.pend, c.epoch = entN e 16 4 → begun c) →
          exec (.commitCancel r) s = .next (fin taken stNOTPENDING 0 false))
      ∧ (op = 2 → taken.authority = true → entN e 20 44 = 0 → (∃ c ∈ taken.epoch.pend, c.epoch = entN e 16 4 ∧ ¬ begun c) →
          exec (.commitCancel r) s = .next (fin
            (let t := { taken with epoch := { taken.epoch with pend := taken.epoch.pend.filter fun c => c.epoch != entN e 16 4 } }
             if taken.role = roLead then t.tell (.cancel (entN e 16 4)) else t) stCANCELLED 0 false))
      ∧ (op = 3 → (len = 0 ∨ len % 4 ≠ 0 ∨ 2 ^ 20 < len) → exec (.copy r) s = .next (fin taken stMALFORMED 0 false))
      ∧ (op = 3 → len ≠ 0 → len % 4 = 0 → len ≤ 2 ^ 20 → exec (.copy r) s = .next (fin run.1 (if run.2.2 then stOK else stACCESS) run.2.1 false))
      ∧ (len = 4 → src.2 = none → run = (src.1, 0, false))
      ∧ (len = 4 → ∀ bs, src.2 = some bs → run = ((wrote bs).1, if (wrote bs).2 then (4, true) else (0, false))))
    ∧ (let s0 := { s with epoch := { s.epoch with waiting := [] } }
      let q := s0.ringFetch k
      let n := entN q.2 4 4
      s.board.held = false → s.epoch.waiting = [k] → s0.cmdReady k = true → entN q.2 0 1 = 1 → q.1.newSeq k n = true → reservedSet q.2 = false →
      let t := (q.1.inc (HOST_RCI_INDEX k) 1).wr (HOST_RSEQ_SEQ k) n
      exec (.mirrorAckTimeout r) s = .next (t.completion (t.peerOf k) 1 stNOTMIRRORED k n (entN q.2 8 8) 0 false))

/-- R186 to R190. -/
def Obligations.CommitsJudged : Prop :=
  ∀ (part : Nat) (e : List Byte) (past : Bool) (s : State) (ps : List Nat),
    let ep := entN e 16 4
    let d := (ep + 2 ^ 32 - s.rd EPOCH_HIGH_EPOCH) % 2 ^ 32
    let imm := bit (entN e 20 1) 7 = true
    let when_ := bits (entN e 20 1) 0 2
    let at_ := entN e 24 8
    let bad := when_ = 3 ∨ bits (entN e 20 1) 2 5 ≠ 0 ∨ 3 ≤ entN e 21 1 ∨ (imm ∧ when_ ≠ 0) ∨ (when_ = 0 ∧ at_ ≠ 0) ∨ (¬ imm ∧ 96000 < entN e 32 4) ∨ bits (entN e 32 4) 17 15 ≠ 0
    let seen := ep ∈ s.epoch.accepted
    let order := ep = 0 ∨ d = 0 ∨ 2 ^ 31 - 1 < d
    let unknown := ∃ p ∈ ps, 2047 < p ∨ s.pageValid p = false
    let foreign := part ≠ warden ∧ ∃ p ∈ ps, s.pageOwner p ≠ part
    let full := ¬ imm ∧ 16 ≤ (s.epoch.pend.filter fun c => !c.imm).length
    let good := s.authority = true ∧ ¬ bad ∧ s.commitPages e = some ps
    let first := if s.window = true ∨ (past = true ∧ s.role = roLead) then s.n + 1 else s.n
    let n := if when_ = 1 then at_ else (3 * at_ + 999999) / 1000000
    let now := if s.disp.downbeat then s.n - 1 else s.n
    (s.authority = false → s.judgeCommit part e past = .inl stNOTLEAD)
    ∧ (s.authority = true → bad ∨ s.commitPages e = none → s.judgeCommit part e past = .inl stMALFORMED)
    ∧ (good → seen → s.judgeCommit part e past = .inl stDUP)
    ∧ (good → ¬ seen → order → s.judgeCommit part e past = .inl stORDER)
    ∧ (good → ¬ seen → ¬ order → unknown → s.judgeCommit part e past = .inl stUNKNOWN)
    ∧ (good → ¬ seen → ¬ order → ¬ unknown → foreign → s.judgeCommit part e past = .inl stPARTITION)
    ∧ (good → ¬ seen → ¬ order → ¬ unknown → ¬ foreign → full → s.judgeCommit part e past = .inl stOVERFLOW)
    ∧ (good → ¬ seen → ¬ order → ¬ unknown → ¬ foreign → ¬ full → s.judgeCommit part e past =
        .inr ⟨ep, (s.applyAt e past).1, (s.applyAt e past).2, entN e 32 4, bit (entN e 20 1) 7, ps.eraseDups, part⟩)
    ∧ (imm → ¬ (past = true ∧ s.role = roLead) → s.applyAt e past = (now, false))
    ∧ (imm → past = true → s.role = roLead → s.applyAt e past = (now + 1, false))
    ∧ (¬ imm → when_ = 0 → s.applyAt e past = (first, false))
    ∧ (¬ imm → when_ ≠ 0 → first ≤ n → s.applyAt e past = (n, false))
    ∧ (¬ imm → when_ ≠ 0 → n < first → s.applyAt e past = (first, true))
    ∧ (∀ c : Commit, let t := s.acceptCommit c
      t.rd EPOCH_HIGH_EPOCH = c.epoch % 2 ^ 32 ∧ t.epoch.pend = s.epoch.pend ++ [c] ∧ c.epoch ∈ t.epoch.accepted ∧ t.epoch.accepted.length ≤ 64
      ∧ (c.late = true → t.on EPOCH_STATUS_LATE = true) ∧ (∀ f : Fld, f.no ≠ EPOCH_HIGH_EPOCH.no → f.no ≠ EPOCH_STATUS_LATE.no → t.rd f = s.rd f) ∧ t.mem = s.mem)

/-- Parameter pages (R175 to R195). -/
def Obligations.ParameterPages : Prop :=
  ∀ (p : Port) (page : Fin 2048) (off : Fin 256) (v : Word) (count : Fin 32) (s : State),
    let w := s.whoOf p
    let x := page.val
    let a := 0x08000000 + x * 0x400 + 4 * off.val
    let held := s.pageHeld x = true
    let write := exec (.stageWrite p page off v) s
    let go := 1 + count.val * 16
    let clean := s.poison = [] ∧ s.integ.flips = [] ∧ s.integ.stuck = [] ∧ s.integ.batch = [] ∧ s.integ.batching = false
    (s.board.held = false → s.on SYS_BOOTSTAT_DONE = true → s.integ.inj = none → x < 1792 → (w.host = true → s.authority = true) →
      (w.q = warden ∨ (s.windowed w.q a 4 true = true ∧ s.pageOwner x = w.q)) →
      (held → write = .next (State.turnedAway p (s.wr EPOCH_STATUS_STGHELD 1)))
      ∧ (¬ held → write = .next ((let t := (s.refillPage x).devPut a (leBytes v.toNat 4)
          if w.host = true ∧ s.role = roLead then t.tell (.write a v.toNat) else t).answerW true)))
    ∧ (s.board.held = false → exec (.stageRefill page) s = .next
        (if (s.page x).refill = true ∧ ¬ held then s.setPage x { s.page x with refill := false } else s))
    ∧ (s.writeOpen p row_EPOCH_SNAPCTL 0 go → s.on EPOCH_SNAPSTAT_BUSY = true → exec (.snapshotGo p count) s = .next (State.turnedAway p s))
    ∧ (s.writeOpen p row_EPOCH_SNAPCTL 0 go → s.on EPOCH_SNAPSTAT_BUSY = false → exec (.snapshotGo p count) s = .next (s.written p row_EPOCH_SNAPCTL 0 go
        (let t := s.wrRow row_EPOCH_SNAPCTL 0 go
         if count.val = 0 then t.wr EPOCH_SNAPSTAT_DONE 1 else { t with epoch := { t.epoch with snap := true } }.wr EPOCH_SNAPSTAT_BUSY 1)))
    ∧ (s.writeOpen p row_EPOCH_POOL 0 2147483648 → exec (.poolClr p) s = .next (s.written p row_EPOCH_POOL 0 2147483648
        ((s.wrRow row_EPOCH_POOL 0 2147483648).wr EPOCH_POOL_LOW (s.rd EPOCH_POOL_FREE))))
    ∧ (∀ n kk epoch old,
      let t := (s.changePage x n kk epoch old).1
      (s.changing x = false ∨ s.glide x = false → t.paramFrame (targetV x) = s.paramFrame (stageV x))
      ∧ (s.changing x = false → t.paramFrame (stageV x) = s.paramFrame (targetV x) ∧ t.paramFrame (activeV x) = s.paramFrame (activeV x))
      ∧ (s.changing x = true → s.glide x = false →
          t.paramFrame (stageV x) = s.paramFrame (activeV x) ∧ t.paramFrame (activeV x) = s.paramFrame (targetV x))
      ∧ (s.changing x = true → s.glide x = true → ∀ f l, s.poolFrames = f :: l → t.paramFrame (activeV x) = f)
      ∧ (clean → s.changing x = false ∨ s.glide x = false →
          t.devGet (targetAddr x) 1024 = s.devGet (stageAddr x) 1024 ∧ t.devGet (stageAddr x) 1024 = s.devGet (stageAddr x) 1024
          ∧ (s.paramFrame (activeV x) ≠ s.paramFrame (targetV x) →
              t.devGet (activeAddr x) 1024 = s.devGet (if s.changing x then targetAddr x else activeAddr x) 1024))
      ∧ t.changing x = true ∧ (t.page x).j0 = s.fs * n % 2 ^ 32 ∧ (t.page x).kk = kk ∧ (t.page x).refill = true ∧ t.rd (EPOCH_PGEPOCH_EPOCH x) = epoch % 2 ^ 32)
    ∧ ((clean → (s.endChange x).devGet (activeAddr x) 1024 = s.devGet (targetAddr x) 1024) ∧ (s.endChange x).changing x = false)
    ∧ (∀ b t j0 kk : Nat, b < 2 ^ 32 → t < 2 ^ 32 → j0 < 2 ^ 32 → 0 < kk → kk < 2 ^ 31 →
        (∀ j, glideWord b t false j0 kk j = t) ∧ glideWord b t true j0 kk j0 = b ∧ glideWord b t true j0 kk ((j0 + kk) % 2 ^ 32) = t
        ∧ xfadeAt true j0 kk j0 = 0 ∧ xfadeAt true j0 kk ((j0 + kk) % 2 ^ 32) = 0x7FFFFFFF ∧ ∀ j, xfadeAt false j0 kk j = 0x7FFFFFFF)

/-- The warden's apply at a downbeat (R392). -/
def Obligations.ConfigurationApply : Prop :=
  ∀ (s : State),
    let ch := cfgAll.filter fun i => s.cfgStaged i != s.cfgWord i
    let u := s.wr WARD_APPLY_GO 0
    let bad := fun i => u.cfgUnsafe i = true ∨ cfgBad i (u.cfgStaged i) = true
    let t := s.wardApply
    let refused := fun rea => u.applyRefused ch = some rea
    let frozen := s.on WARD_STAT_FROZEN = true
    (s.on WARD_APPLY_GO = false → t = s)
    ∧ (frozen → refused 5) ∧ (¬ frozen → s.journalFree < ch.length → refused 4)
    ∧ (¬ frozen → ch.length ≤ s.journalFree → ∀ a i b, ch = a ++ i :: b → (∀ j ∈ a, ¬ bad j) →
        (u.cfgUnsafe i = true → refused 1) ∧ (u.cfgUnsafe i = false → cfgBad i (u.cfgStaged i) = true → refused 3))
    ∧ (¬ frozen → ch.length ≤ s.journalFree → (∀ j ∈ ch, ¬ bad j) → (∃ j ∈ ch, u.cfgInUse j = true) → refused 2)
    ∧ (¬ frozen → ch.length ≤ s.journalFree → (∀ j ∈ ch, ¬ bad j) → (∀ j ∈ ch, u.cfgInUse j = false) → u.applyRefused ch = none)
    ∧ (s.on WARD_APPLY_GO = true →
      t.on WARD_APPLY_GO = false
      ∧ (∀ rea, refused rea → t.rd WARD_APPLY_RESULT = 2 ∧ t.rd WARD_APPLY_REASON = rea ∧ t.host.cfg = s.host.cfg
          ∧ t.rd WARD_JPI_INDEX = (if s.journalFull then s.rd WARD_JPI_INDEX else (s.rd WARD_JPI_INDEX + 1) % 2 ^ 32))
      ∧ (u.applyRefused ch = none → (∀ i ∈ cfgAll, t.cfgWord i = s.cfgStaged i) ∧ t.rd WARD_APPLY_REASON = 0
          ∧ t.rd WARD_APPLY_RESULT = (if ch = [] then 3 else 1) ∧ t.rd WARD_JPI_INDEX = (if ch = [] then s.rd WARD_JPI_INDEX else (s.rd WARD_JPI_INDEX + ch.length) % 2 ^ 32)
          ∧ t.rd WARD_SIG_CRC = t.cfgCrc % 2 ^ 32 ∧ t.host.signed = true))

/-- Integrity and memory tests (chapters 7 and 16). -/
def Obligations.TestsAndInjections : Prop :=
  ∀ (p : Port) (v : Word) (e : Fin 19) (fs : List (Fin 4 × Fin 8 × Bool)) (s : State),
    let k := e.val
    let ph := s.rd (MEMT_EPOS_PHASE k)
    let r := s.rd (MEMT_EPOS_REGION k)
    let m := (memtPlace k r).1
    let row := (memtPlace k r).2
    let fails := fs.map fun q => (⟨q.1.val, q.2.1.val, q.2.2⟩ : TestFail)
    let plan := planRepair (s.rd (MEMT_MACSTAT_ROWSLEFT m)) (s.on (MEMT_MACSTAT_COLUSED m)) fails
    let failed := s.incSat (MEMT_MACSTAT_FAILROWS m) ((fails.map (·.row)).eraseDups.length)
    let bx := withBits v 31 1 1
    let bank := bits bx 0 5
    let b0 := s.wrRow row_MEMT_BRETIRE 0 bx
    let b : State := { b0 with memt := { b0.memt with go := some bank } }
    let under := (b.memt.copy.any (·.1 == bank) || b.memt.queue.any (·.bank == bank)) = true
    let retires := fun (t : State) => exec (.bankRetireGo p v) s = .next (s.written p row_MEMT_BRETIRE 0 bx t)
    let saved := (s.memtWords k).foldl (fun s a => s.readWord (a / 8) a 23 0) s
    let on := s.memtNext k
    let ix := withBits v 0 1 1
    let i := s.wrRow row_INTG_INJCTRL 0 ix
    let check := i.rd INTG_INJCTRL_CHECK
    let ty := i.rd INTG_INJTGT_UTYPE
    let u := i.rd INTG_INJTGT_UINST
    let begun := (i.wr INTG_INJSTAT_DONE 0).wr INTG_INJSTAT_RESULT 0
    let ended := fun res => ((begun.wr INTG_INJCTRL_BUSY 0).wr INTG_INJSTAT_RESULT res).wr INTG_INJSTAT_DONE 0
    let lawful := (injTypes check).contains ty = true ∧ u < unitCount ty ∧ ¬ (begun.anyPlan = true ∧ begun.unitPart ty u = 0)
    let away := begun.injAway check ty u (i.rd INTG_INJADDR_OFFS) = true
    (s.board.held = false →
      (s.on MEMT_CTRL_EN = true → ph = 0 → exec (.memtRegionStart e) s = .next (s.wr (MEMT_EPOS_PHASE k) (if s.memtSkips k m then 5 else 1)))
      ∧ (s.on MEMT_CTRL_EN = true → ph = 5 → exec (.memtRegionStart e) s = .next
          (on.wr (MEMT_EPOS_PHASE k) (if on.memtSkips k (memtPlace k (on.rd (MEMT_EPOS_REGION k))).1 then 5 else 1)))
      ∧ (s.on MEMT_CTRL_EN = false → exec (.memtRegionStart e) s = .next s)
      ∧ (ph = 1 → (∀ a ∈ s.memtWords k, a / 8 ∉ saved.poison) → exec (.memtSaveEnd e) s = .next (saved.wr (MEMT_EPOS_PHASE k) 2))
      ∧ (ph = 1 → (∃ a ∈ s.memtWords k, a / 8 ∈ saved.poison) → exec (.memtSaveEnd e) s = .next (saved.wr (MEMT_EPOS_PHASE k) 3))
      ∧ (s.integ.flips = [] → s.integ.stuck = [] → (∀ a ∈ s.memtWords k, a / 8 ∉ s.poison) → saved = s)
      ∧ (ph = 2 → s.integ.inj = none → fs = [] → exec (.memtTestEnd e fs) s = .next (failed.wr (MEMT_EPOS_PHASE k) 3))
      ∧ (∀ col rows, ph = 2 → s.integ.inj = none → fs ≠ [] → plan = some (col, rows) → exec (.memtTestEnd e fs) s = .next
          (let t := failed.beginHandling uMacro m
           { t with memt := { t.memt with repairs := tput none t.memt.repairs k (some ⟨m, col, rows.map (row + ·), []⟩) } }.wr (MEMT_EPOS_PHASE k) 4))
      ∧ (ph = 2 → s.integ.inj = none → fs ≠ [] → plan = none → exec (.memtTestEnd e fs) s = .next (failed.spareless k m row fails false))
      ∧ (ph = 3 → r + 1 ≠ memtRegions k → exec (.memtRestoreEnd e) s = .next ((s.wr (MEMT_EPOS_PHASE k) 0).wr (MEMT_EPOS_REGION k) (r + 1)))
      ∧ (ph = 3 → r + 1 = memtRegions k → exec (.memtRestoreEnd e) s = .next
          (((s.wr (MEMT_EPOS_PHASE k) 0).wr (MEMT_EPOS_REGION k) 0).inc (MEMT_EPASS_PASSES k) 1))
      ∧ (s.rd MEMT_BANKMAP_COPY = 1 → exec .bankCopyDone s = .next (s.wr MEMT_BANKMAP_COPY 2)))
    ∧ (s.writeOpen p row_MEMT_BRETIRE 0 bx →
      (under → retires b)
      ∧ (¬ under → b.memt.copy.isSome = true → retires { b with memt := { b.memt with queue := b.memt.queue ++ [⟨bank, none⟩] } })
      ∧ (¬ under → b.memt.copy = none → ∀ q, b.spareBank = some q →
          retires (({ b with memt := { b.memt with copy := some (bank, q) } }.wr MEMT_BANKMAP_COPY 1).beginHandling uBank bank))
      ∧ (¬ under → b.memt.copy = none → b.spareBank = none → b.memt.waitBank ≠ some bank →
          retires ({ b.wr MEMT_BANKMAP_NOSPARE 1 with memt := { b.memt with go := none } }.wr MEMT_BRETIRE_GO 0))
      ∧ (b.rd MEMT_BANKMAP_SPARE32 = 0x3F → (∀ j < 8, b.on (MEMT_MACSTAT_EXHAUSTED (1152 + 8 * 32 + j)) = false) → b.spareBank = some 32)
      ∧ (b.rd MEMT_BANKMAP_SPARE32 ≠ 0x3F → b.rd MEMT_BANKMAP_SPARE33 ≠ 0x3F → b.spareBank = none))
    ∧ (s.writeOpen p row_INTG_INJCTRL 0 ix → s.on INTG_INJCTRL_BUSY = false → bits ix 8 8 = 0 → exec (.injectionGo p v) s = .next (State.turnedAway p s))
    ∧ (s.writeOpen p row_INTG_INJCTRL 0 ix → s.on INTG_INJCTRL_BUSY = false → bits ix 8 8 ≠ 0 → (s.whoOf p).q = warden →
      (¬ lawful → exec (.injectionGo p v) s = .next (s.written p row_INTG_INJCTRL 0 ix (ended 2)))
      ∧ (lawful → away → exec (.injectionGo p v) s = .next (s.written p row_INTG_INJCTRL 0 ix (ended 3)))
      ∧ (lawful → ¬ away → check ≠ 1 → exec (.injectionGo p v) s = .next (s.written p row_INTG_INJCTRL 0 ix
          ({ begun with integ := { begun.integ with inj := some ⟨check, ty, u, i.rd INTG_INJARG_ARG, i.rd INTG_INJADDR_OFFS, i.rd INTG_INJCTRL_COUNT⟩ } }.wr
            INTG_INJCTRL_BUSY 1)))
      ∧ (∀ a n, lawful → ¬ away → check = 1 → (if ty = uDram then begun.dramByte u (i.rd INTG_INJADDR_OFFS) else begun.macroByte u (i.rd INTG_INJADDR_OFFS)) = some a →
          injBits (i.rd INTG_INJARG_ARG) = n + 1 → ∃ t, exec (.injectionGo p v) s = .next (s.written p row_INTG_INJCTRL 0 ix t)
            ∧ t.integ.flips = (a / 8, n + 1) :: (s.integ.flips.filter fun f => f.1 ≠ a / 8) ∧ t.on INTG_INJCTRL_BUSY = true)
      ∧ (lawful → ¬ away → check = 1 → injBits (i.rd INTG_INJARG_ARG) = 0 → ∃ t, exec (.injectionGo p v) s = .next (s.written p row_INTG_INJCTRL 0 ix t)
            ∧ t.integ.flips = s.integ.flips ∧ t.on INTG_INJCTRL_BUSY = false ∧ t.rd INTG_INJSTAT_RESULT = 1))
    ∧ (s.writeOpen p row_INTG_INJCTRL 0 ix → s.on INTG_INJCTRL_BUSY = true → s.changesRww row_INTG_INJCTRL 0 ix = true →
      exec (.injectionGo p v) s = .next (State.turnedAway p s))
    ∧ (s.writeOpen p row_INTG_FATCLR 0 1 → ∃ t, exec (.fatclr p) s = .next (s.written p row_INTG_FATCLR 0 1 t)
      ∧ (∀ w < 8, t.rd (INTG_FATREC_WORD w) = 0) ∧ t.integ.latched = false ∧ (∀ f : Fld, f.no ≠ (INTG_FATREC_WORD 0).no → t.rd f = s.rd f))

/-- Core memories, cluster pools, DRAM (chapters 3 and 7). -/
def Obligations.MemoriesAndDram : Prop :=
  ∀ (p : Port) (c : CoreId) (b : Bool) (oi : Fin 4096) (oo : Fin 32768) (cl : Fin 16) (d : Fin 2) (v : Word) (err mr : Nat) (s : State),
    let w := s.whoOf p
    let x := d.val
    let bs := leBytes v.toNat 4
    let ia := 0x04000000 + c.val * 0x40000 + 0x20000 + b2n b * 0x4000 + 4 * oi.val
    let oa := 0x04000000 + c.val * 0x40000 + 4 * oo.val
    let instr := exec (.instructionMemoryWrite p c b oi v) s
    let operand := exec (.operandMemoryWrite p c oo v) s
    let shut := b2n b = s.rd CORECTL_IMSTAT_ACT ∨ s.runsFrom b = true
    let cs := s.rd (CORECTL_CSTAT_STATE c.val)
    let busy := cs = stRun ∨ cs = stTrap ∨ cs = stStopped
    let open_ := fun a => w.q = warden ∨ s.windowed w.q a 4 true = true
    let pool := bits v.toNat 0 11
    let st := s.rd (DRAMC_STAT_STATE x)
    (s.board.held = false → s.on SYS_BOOTSTAT_DONE = true → s.integ.inj = none →
      (open_ ia → shut → instr = .next (State.turnedAway p (s.wr CORECTL_IMSTAT_WREFUSED 1)))
      ∧ (open_ ia → ¬ shut → instr = .next ((s.devPut ia bs).answerW true))
      ∧ (¬ open_ ia → instr = .next (State.turnedAway p (s.refusedRec w ia)))
      ∧ (open_ oa → oo.val < 16384 → busy → operand = .next (State.turnedAway p s))
      ∧ (open_ oa → oo.val < 16384 → ¬ busy → operand = .next ((s.devPut oa bs).answerW true))
      ∧ (open_ oa → 16384 ≤ oo.val → operand = .next (State.turnedAway p (s.defaultTarget oa w.master w.qos true)))
      ∧ (¬ open_ oa → operand = .next (State.turnedAway p (s.refusedRec w oa))))
    ∧ (∀ a, 0x04000000 ≤ a → a + 4 ≤ 0x08000000 → s.poison = [] → ∀ y, y < a ∨ a + 4 ≤ y → byteAt (s.devPut a bs).mem y = byteAt s.mem y)
    ∧ (∀ a, 0x04000000 ≤ a → a + 4 ≤ 0x08000000 → s.poison = [] → bytesAt (s.devPut a bs).mem a 4 = bs)
    ∧ (s.writeOpen p row_XBAR_CSPOOL cl.val v.toNat →
      let t := s.wr (XBAR_CSPOOL_POOL cl.val) pool
      let barred := s.power cl.val ≠ 0 ∨ s.rd (XBAR_CSPOOL_INUSE cl.val) ≠ 0 ∨ pool % 16 ≠ 0 ∨ 1024 < pool
      (pool = s.rd (XBAR_CSPOOL_POOL cl.val) → exec (.cspoolWrite p cl v) s = .next (s.written p row_XBAR_CSPOOL cl.val v.toNat t))
      ∧ (pool ≠ s.rd (XBAR_CSPOOL_POOL cl.val) → barred → exec (.cspoolWrite p cl v) s = .next (State.turnedAway p s))
      ∧ (pool ≠ s.rd (XBAR_CSPOOL_POOL cl.val) → ¬ barred → exec (.cspoolWrite p cl v) s = .next (s.written p row_XBAR_CSPOOL cl.val v.toNat
          { t with sram := { t.sram with remap := t.sram.remap.filter fun q => q.1 / 3072 ≠ cl.val, pool := tput none t.sram.pool cl.val none } })))
    ∧ (s.writeOpen p row_XBAR_CONFCLR 0 1 → ∃ t, exec (.confclr p) s = .next (s.written p row_XBAR_CONFCLR 0 1 t)
      ∧ (∀ k, t.rd (XBAR_CONFCNT_COUNT k) = 0) ∧ (∀ f : Fld, f.no ≠ (XBAR_CONFCNT_COUNT 0).no → t.rd f = s.rd f))
    ∧ (s.writeOpen p row_XBAR_CSHIGH cl.val 2147483648 → exec (.cshighClr p cl) s = .next (s.written p row_XBAR_CSHIGH cl.val 2147483648
        (s.wr (XBAR_CSHIGH_HIGH cl.val) (s.rd (XBAR_CSPOOL_INUSE cl.val)))))
    ∧ (s.writeOpen p row_DRAMC_TRAIN x 1 →
      ((st = 0 ∨ st = 4) → exec (.dramTrainStart p d) s = .next (s.written p row_DRAMC_TRAIN x 1 ((s.wr (DRAMC_STAT_STATE x) 1).fence 1)))
      ∧ (st ≠ 0 → st ≠ 4 → exec (.dramTrainStart p d) s = .next (s.written p row_DRAMC_TRAIN x 1 s)))
    ∧ (s.writeOpen p row_DRAMC_PWR x v.toNat →
      ((st = 2 ∨ st = 3) → exec (.dramPowerRequest p d v) s = .next (s.written p row_DRAMC_PWR x v.toNat
          ((s.wr (DRAMC_PWR_REQ x) v.toNat).wr (DRAMC_STAT_STATE x) (2 + v.toNat % 2))))
      ∧ (st ≠ 2 → st ≠ 3 → exec (.dramPowerRequest p d v) s = .next (s.written p row_DRAMC_PWR x v.toNat (s.wr (DRAMC_PWR_REQ x) v.toNat))))
    ∧ (s.board.held = false →
      (st = 1 → err ≠ 0 → exec (.dramTrainingDone d err) s = .next ((s.wr (DRAMC_STAT_STATE x) 4).wr (DRAMC_STAT_TRAINERR x) err))
      ∧ (st = 1 → err = 0 → ∃ t, exec (.dramTrainingDone d err) s = .next t ∧ t.rd (DRAMC_STAT_STATE x) = 2 ∧ t.rd (DRAMC_STAT_TRAINERR x) = 0
          ∧ (∀ q ∈ t.mem, s.dramOf x q.1 = false) ∧ ∀ q ∈ s.mem, s.dramOf x q.1 = false → q ∈ t.mem)
      ∧ (st ≠ 1 → exec (.dramTrainingDone d err) s = .next s)
      ∧ (st = 2 → exec (.mr4Poll d mr) s = .next (s.wr (DRAMC_STAT_MR4 x) mr)) ∧ (st ≠ 2 → exec (.mr4Poll d mr) s = .next s))

/-- The MACs and streams (chapter 11). -/
def Obligations.EthernetAndStreams : Prop :=
  ∀ (p : Port) (m : Fin 4) (v : Word) (upNow : Bool) (t : Nat) (ok : Bool) (b : List Byte) (rx : Bool) (i : Fin 1024) (r : Fin 256) (s : State),
    let x := v.toNat
    let k := m.val
    let was := s.on (NET_CTRL_EN k)
    let fields := s.wrRow row_NET_CTRL k x
    let unfit := (was = true ∧ s.rd (NET_CTRL_SPEED k) ≠ bits x 1 1) ∨ bits x 2 2 = 3 ∨ (bits x 2 2 = 2 ∧ bits x 1 1 = 0)
    let down := fun (s : State) => let u := s.fence 2; if u.on (NET_STAT_LINK k) then (u.wr (NET_STAT_LINK k) 0).wr (NET_STAT_LINKCHG k) 1 else u
    let frame := exec (.frameReceived m t ok b) s
    let e := parseEth b
    let good := s.inc (NET_RXOK_COUNT k) 1
    let at_ := t - good.rd (NET_LATRX_NS k)
    let servo := match ptpOf e with | some (_, q) => ∃ z ∈ List.range 4, good.ptpFor z k q = true | none => False
    let sel := if rx then s.rd NET_RSSEL_INDEX else s.rd NET_TSSEL_INDEX
    let row := if rx then row_NET_RSDATA else row_NET_TSDATA
    let fld := if rx then NET_RSDATA_WORD (sel * 16) else NET_TSDATA_WORD (sel * 16)
    let on1 := withBits v 0 1 1
    let set := s.wr fld on1
    let err := if rx then set.rsErr sel else set.tsErr sel
    let off := if rx then s.rd (NET_RSSTAT_STATE sel) = 0 else s.on (NET_TSSTAT_RUN sel) = false
    let off1 := withBits v 0 1 0
    let S := s.ptimeS (bits (s.tsWord i.val 0) 8 2)
    let q0 := s.ringFetch r.val
    let h := q0.2
    let after := q0.1.inc (HOST_RCI_INDEX r.val) 1
    let fin := fun (u : State) => u.completion (s.peerOf r.val) 0x80 stOK r.val 0 0 0 false
    let len := entN h 8 2
    let mac := entN h 10 1
    let got := after.ringGet r.val (q0.1.ringBuf r.val + q0.1.rd (HOST_RCI_INDEX r.val) % q0.1.ringSize r.val * 2048) len
    let free := bit (entN h 11 1) 6 = false ∨ after.authority = true
    let seen := fun (u : State) => frame = .next (s.refsFollow u)
    let wrong := len < 60 ∨ 1518 < len ∨ 3 < mac ∨ 4 < entN h 11 1 % 8 ∨ 4 < entN h 11 1 / 8 % 8
    let due := s.ringIs r.val ringNettx = true ∧ s.ringUsed r.val ≠ 0 ∧ (s.ringIs (s.peerOf r.val) ringCpl && s.ringFull (s.peerOf r.val)) = false
    (s.writeOpen p row_NET_CTRL k x →
      (unfit → exec (.macEnable p m v) s = .next (State.turnedAway p s))
      ∧ (¬ unfit → exec (.macEnable p m v) s = .next (s.written p row_NET_CTRL k x (if was ∧ bit x 0 = false then down fields else fields))))
    ∧ (s.board.held = false →
      (was = false ∨ s.on (NET_STAT_LINK k) = upNow → exec (.linkChange m upNow) s = .next s)
      ∧ (was = true → s.on (NET_STAT_LINK k) = false → exec (.linkChange m true) s = .next ((s.wr (NET_STAT_LINK k) 1).wr (NET_STAT_LINKCHG k) 1))
      ∧ (was = true → s.on (NET_STAT_LINK k) = true → exec (.linkChange m false) s = .next (down s))
      ∧ (was = false ∨ s.on (NET_STAT_LINK k) = false → frame = .next s)
      ∧ (was = true → s.on (NET_STAT_LINK k) = true →
        (ok = false ∨ 1518 < b.length → seen (s.inc (NET_RXFCS_COUNT k) 1))
        ∧ (ok = true → b.length ≤ 1518 → (b.length < 60 ∨ e.tags = 2) → seen (s.inc (NET_RXDROP_COUNT k) 1))
        ∧ (ok = true → b.length ≤ 1518 → 60 ≤ b.length → e.tags ≠ 2 → ∀ udp z q, ptpOf e = some (udp, q) → z < 4 → good.ptpFor z k q = true →
            (∀ y < z, good.ptpFor y k q = false) → seen ((good.ptpMessage z at_ udp q).toHost k at_ true b))
        ∧ (ok = true → b.length ≤ 1518 → 60 ≤ b.length → e.tags ≠ 2 → ¬ servo →
          (∀ z ∈ List.range 1024, good.rsMatch z k e = true → (∀ y < z, good.rsMatch y k e = false) → seen (good.streamFrame z at_ e))
          ∧ ((∀ z ∈ List.range 1024, good.rsMatch z k e = false) → good.accepts k e.dst = true → seen (good.toHost k at_ false b))
          ∧ ((∀ z ∈ List.range 1024, good.rsMatch z k e = false) → good.accepts k e.dst = false → seen (good.inc (NET_RXDROP_COUNT k) 1)))))
    ∧ (∀ z, s.rsCheck z e = none → s.streamFrame z t e = s.incSat (NET_RSCNT1_BADFMT z) 1)
    ∧ (s.writeOpen p row (sel * 16) on1 →
      (off → err ≠ 0 → exec (.streamEnable p rx v) s = .next (State.turnedAway p (if rx then s.wr (NET_RSSTAT_ERR sel) err else s.wr (NET_TSSTAT_ERR sel) err)))
      ∧ (off → err = 0 → exec (.streamEnable p rx v) s = .next (s.written p row (sel * 16) on1 set.countStreams))
      ∧ (¬ off → s.rd fld = on1 → exec (.streamEnable p rx v) s = .next (s.written p row (sel * 16) on1 set.countStreams))
      ∧ (¬ off → s.rd fld ≠ on1 → exec (.streamEnable p rx v) s = .next (State.turnedAway p s)))
    ∧ (s.writeOpen p row (sel * 16) off1 →
      (off ∨ s.rd fld = off1 + 1 ∨ s.rd fld = off1 → exec (.streamDisable p rx v) s = .next (s.written p row (sel * 16) off1 (s.wr fld off1).countStreams))
      ∧ (¬ off → s.rd fld ≠ off1 + 1 → s.rd fld ≠ off1 → exec (.streamDisable p rx v) s = .next (State.turnedAway p s)))
    ∧ (s.board.held = false →
      (s.net.tx.lookup i.val = none → exec (.streamPacketTransmit i) s = .next s)
      ∧ (∀ j, s.net.tx.lookup i.val = some j → s.fs * (s.frame + 1 + b2n s.window) < j + S → exec (.streamPacketTransmit i) s = .next s)
      ∧ (∀ j, s.net.tx.lookup i.val = some j → j + S ≤ s.fs * (s.frame + 1 + b2n s.window) → s.txBehind i.val ((j + S - 1) / s.fs) = true → exec (.streamPacketTransmit i) s = .next s)
      ∧ (∀ j, s.net.tx.lookup i.val = some j → j + S ≤ s.fs * (s.frame + 1 + b2n s.window) → s.txBehind i.val ((j + S - 1) / s.fs) = false → s.role ≠ roHeel →
          ∃ u, exec (.streamPacketTransmit i) s = .next u ∧ u.net.tx = tins (tdel s.net.tx i.val) i.val (j + S)
            ∧ (∀ q < 4, bit (dPorts (s.tsWord i.val 0)) q = true → (s.on (NET_CTRL_EN q) = false ∨ s.on (NET_STAT_LINK q) = false) →
                u.rd (NET_TXDISC_COUNT q) = (s.rd (NET_TXDISC_COUNT q) + 1) % 2 ^ 32))
      ∧ (¬ due → exec (.hostFrameTransmit r t) s = .next s)
      ∧ (due → wrong → exec (.hostFrameTransmit r t) s = .next (after.completion (s.peerOf r.val) 0x80 stMALFORMED r.val 0 0 0 false))
      ∧ (due → ¬ wrong → ¬ free → exec (.hostFrameTransmit r t) s = .next (fin (after.incSat PAIR_CTLDISC_COUNT 1)))
      ∧ (due → ¬ wrong → free → (after.on (NET_CTRL_EN mac) = false ∨ after.on (NET_STAT_LINK mac) = false) →
          exec (.hostFrameTransmit r t) s = .next (fin (after.inc (NET_TXDISC_COUNT mac) 1)))
      ∧ (due → ¬ wrong → free → after.on (NET_CTRL_EN mac) = true → after.on (NET_STAT_LINK mac) = true → entN h 11 1 % 8 = 0 → got.1.integ.inj = none →
          exec (.hostFrameTransmit r t) s = .next (fin ({ got.1 with net := { got.1.net with frame := some (mac, got.2, false) } }.inc (NET_TXOK_COUNT mac) 1))))

/-- Pairing: roles, link and leash (chapter 15). -/
def Obligations.PairRolesAndLink : Prop :=
  ∀ (p : Port) (n skew time : Nat) (hdrs : Option Nat) (lead : Bool) (conf : List DWord) (rtt : Option Nat) (good : BitVec 5) (l : Fin 5) (s : State),
    let role := s.role
    let cmd := fun (op : Nat) (t : State) => State.written s p row_PAIR_CMD 0 op t
    let u := fun op => s.wrRow row_PAIR_CMD 0 op
    let heel := role = roHeel
    let check := exec (.joinCheck n skew lead conf) s
    let same := conf.map BitVec.toNat = s.confCrcs
    let byWarden := (s.whoOf p).q = warden
    let st := s.hstate
    let linked := s.on PAIR_STAT_LINK = true
    let retiring := fun (s : State) => s.rd (PAIR_LANE_STATE l.val) = laRetired ∨ (∃ q ∈ s.pair.lanes, q.1 = l.val)
    let decide_ := fun (s : State) (at_ : Nat) => s.modPair fun x => { x with lanes := x.lanes ++ [(l.val, at_)] }
    let recent := (l.val, s.bc, hdrs.getD 0) :: s.pair.hdrs.filter fun q => decide (s.bc < q.2.1 + 1000000000)
    let counted := (s.incSat (PAIR_LANE_BLKERR l.val) (hdrs.getD 0)).modPair fun x => { x with hdrs := recent }
    let worn := hdrs = none ∨ 64 < (recent.filter fun q => q.1 == l.val).foldl (fun a q => a + q.2.2) 0
    let trains := fun (k : Nat) => bit good.toNat k = true ∧ s.rd (PAIR_LANE_STATE k) ≠ laRetired
    let go := l.val + 2147483648
    let g := s.wrRow row_PAIR_LANECMD 0 go
    (∀ c op, (c, op) ∈ [(Instr.pairLead p, 1), (.pairJoin p, 2), (.pairDetach p, 3), (.pairSolo p, 4)] → s.writeOpen p row_PAIR_CMD 0 op →
      (op = 1 → byWarden → role = roDetached ∨ role = roSolo → exec c s = .next (cmd op (((u op).leaveRole roLead).modPair fun x => { x with active := true })))
      ∧ (op = 1 → role ≠ roDetached → role ≠ roSolo → exec c s = .next (cmd op (u op))) ∧ (¬ byWarden → exec c s = .next (cmd op (u op)))
      ∧ (op = 2 → byWarden → role = roDetached ∨ role = roFenced → exec c s = .next (cmd op
          (((((u op).leaveRole roHeel).wr PAIR_STAT_HSTATE hsLink).wr PAIR_STAT_JOINERR 0).modPair fun x => { x with active := true })))
      ∧ (op = 2 → role ≠ roDetached → role ≠ roFenced → exec c s = .next (cmd op (u op)))
      ∧ (op = 3 → byWarden → exec c s = .next (cmd op ((u op).leaveRole roDetached))) ∧ (op = 4 → byWarden → exec c s = .next (cmd op ((u op).leaveRole roSolo))))
    ∧ (∀ r, r < 8 → (s.leaveRole r).pair.expiry = none ∧ (s.leaveRole r).pair.renewed = none ∧ (s.leaveRole r).pair.joined = none ∧ (s.leaveRole r).pair.resync = [])
    ∧ (s.board.held = false →
      (¬ heel ∨ (st ≠ hsLink ∧ st ≠ hsCheck) → check = .next s)
      ∧ (heel → st = hsLink → linked → 4 ≤ s.lanesIn.length → s.rd PAIR_LINKSTAT_DELAY ≤ 5000 → check = .next (s.wr PAIR_STAT_HSTATE hsCheck))
      ∧ (heel → st = hsLink → ¬ (linked ∧ 4 ≤ s.lanesIn.length ∧ s.rd PAIR_LINKSTAT_DELAY ≤ 5000) → check = .next (s.joinFails 1))
      ∧ (heel → st = hsCheck → (n ≠ s.frame ∨ 1000 < skew) → check = .next (s.joinFails 2))
      ∧ (heel → st = hsCheck → n = s.frame → skew ≤ 1000 → lead = false → check = .next (s.joinFails 4))
      ∧ (heel → st = hsCheck → n = s.frame → skew ≤ 1000 → lead = true → ¬ same → check = .next (s.joinFails 3))
      ∧ (heel → st = hsCheck → n = s.frame → skew ≤ 1000 → lead = true → same → check = .next (s.wr PAIR_STAT_HSTATE hsCopy))
      ∧ (heel → exec (.leash n) s = .next ((((((s.modPair fun x => { x with expiry := some (n + 3) }).wr PAIR_LEASH_STATE 2).wr PAIR_LEASH_LEFT
          (min 3 (n + 3 - s.frame))).wr PAIR_LEASH_LASTN n).tell (.leashAck n))))
      ∧ (role = roLead → exec (.leash n) s = .next (((((s.setRole roFenced).wr PAIR_STAT_FENCEEV 1).wr PAIR_LEASH_STATE 3).emit (mkRec cDegraded 0 0x001A uDevice 0 []))))
      ∧ (¬ heel → role ≠ roLead → exec (.leash n) s = .next s)
      ∧ (role = roLead → n = s.frame → s.bc ≤ s.io.dbAt + 50000 → exec (.leashAck n) s = .next
          ((((s.modPair fun x => { x with renewed := some n }).wr PAIR_LEASH_STATE 1).wr PAIR_LEASH_LEFT 3).wr PAIR_LEASH_LASTN n))
      ∧ (role ≠ roLead ∨ n ≠ s.frame ∨ s.io.dbAt + 50000 < s.bc → exec (.leashAck n) s = .next s)
      ∧ (let c := s.candEvent 10 time
         let e := clampS 32 ((c.io.dbAt : Int) - time)
         let tracks := (c.pllState 0 = plAcquire ∨ c.pllState 0 = plLocked) ∧ c.rd (REFS_DSTAT_ACTIVE 0) = 10
         (¬ tracks → exec (.downbeatMarker time) s = .next c)
         ∧ (tracks → ∃ t, exec (.downbeatMarker time) s = .next t ∧ t.rd (REFS_DPHERR_NS 0) = ux 32 e
             ∧ t.on (REFS_DSTAT_ALIGNED 0) = decide (c.pllState 0 = plLocked ∧ e.natAbs ≤ 20)))
      ∧ exec .peerHeartbeatLoss s = .next (s.wr PAIR_STAT_PEERHB 0) ∧ exec .peerHeartbeatReturn s = .next (s.wr PAIR_STAT_PEERHB 1)
      ∧ (¬ linked → ∀ c ∈ [Instr.linkDown, .flitReplay, .echo rtt, .laneRetirementFlit l], exec c s = .next s)
      ∧ (linked → exec .flitReplay s = .next ((s.inc PAIR_FLITERR_COUNT 1).tell .replay) ∧ exec (.echo none) s = .next (s.tell .echoBack)
          ∧ ∀ z, ∃ t, exec (.echo (some z)) s = .next t ∧ t.pair.rtts = (z :: s.pair.rtts).take 64)
      ∧ (linked → ∃ t, exec .linkDown s = .next (s.refsFollow t) ∧ t.on PAIR_STAT_LINK = false ∧ t.on PAIR_STAT_LINKEV = true ∧ t.lanesIn = []
          ∧ t.role = (if heel ∧ st < hsSynced then roDetached else role)
          ∧ t.rd (SYS_XRSTCNT_COUNT 3) = min (2 ^ 32 - 1) (s.rd (SYS_XRSTCNT_COUNT 3) + 1))
      ∧ ((linked ∨ s.pair.active = false) → exec (.linkUp good) s = .next s)
      ∧ (¬ linked → s.pair.active = true → ∃ t : State,
          exec (.linkUp good) s = .next (if 2 ≤ t.lanesIn.length then s.refsFollow (t.wr PAIR_STAT_LINK 1) else s) ∧ (∀ k < 4, trains k → t.rd (PAIR_LANE_STATE k) = laIn)
          ∧ (trains 4 → t.rd (PAIR_LANE_STATE 4) = if s.pair.spared then laIn else laSpare)
          ∧ ∀ k < 5, ¬ trains k → t.rd (PAIR_LANE_STATE k) = s.rd (PAIR_LANE_STATE k))
      ∧ (worn → ¬ retiring counted → exec (.laneRetire l hdrs) s = .next ((decide_ counted s.bc).tell (.lane l.val)))
      ∧ (¬ worn ∨ retiring counted → exec (.laneRetire l hdrs) s = .next counted)
      ∧ (linked → ¬ retiring s → exec (.laneRetirementFlit l) s = .next (decide_ s (s.bc - s.rd PAIR_LINKSTAT_DELAY)))
      ∧ (retiring s → exec (.laneRetirementFlit l) s = .next s))
    ∧ (s.writeOpen p row_PAIR_LANECMD 0 go → ¬ retiring g → exec (.lanecmdGo p l) s = .next (s.written p row_PAIR_LANECMD 0 go ((decide_ g s.bc).tell (.lane l.val))))
    ∧ (s.writeOpen p row_PAIR_LANECMD 0 go → s.rd (PAIR_LANE_STATE l.val) = laRetired → s.pair.lanes = [] →
      exec (.lanecmdGo p l) s = .next (s.written p row_PAIR_LANECMD 0 go (g.wr PAIR_LANECMD_GO 0)))
    ∧ (s.writeOpen p row_PAIR_LANECMD 0 go → (∃ q ∈ s.pair.lanes, q.1 = l.val) → exec (.lanecmdGo p l) s = .next (s.written p row_PAIR_LANECMD 0 go g))

/-- Pairing: mirroring and resynchronisation (R343 to R348). -/
def Obligations.PairMirroring : Prop :=
  ∀ (n src e m : Nat) (crcs : List DWord) (vals : List Word) (c : Commit) (ep a v : Nat) (d : DispCmd) (k : Fin 16) (pages : List (Nat × Word)) (pg : Nat)
    (bytes : List Byte) (item : JoinItem) (s : State),
    let linked := s.on PAIR_STAT_LINK = true
    let joined := s.role = roHeel ∧ s.pair.joined.isSome = true
    let sums := crcs.map BitVec.toNat
    let shown := sums.zipIdx.foldl (fun (s : State) q => (s.wr (PAIR_DIGPEERL_CRC q.2) q.1).wr (PAIR_DIGPEERH_CRC q.2) (q.1 / 2 ^ 32)) s
    let bad := (List.range 16).filter fun x => sums.getD x 0 != shown.digOwn x
    let digest := exec (.digest n crcs) s
    let mirror := fun x => exec (.mirroredCommand x) s
    let waits := s.role = roHeel ∧ src ∈ s.pair.wait
    let unwait := s.modPair fun x => { x with wait := x.wait.erase src, mir := x.mir.filter fun b => b.src != src }
    let fired := { unwait with disp := { s.disp with fired := s.disp.fired ++ [src] } }
    let list := pages.map fun q => (q.1, q.2.toNat)
    let diff := (list.filter fun q => decide (q.1 < s.sramPages k.val) && crc32 ((s.pageBytes k.val q.1).map (·.toNat)) != q.2).map Prod.fst
    s.board.held = false →
    (¬ linked ∨ n < s.pair.setsN → digest = .next s)
    ∧ (linked → s.pair.setsN < n → digest = .next (s.modPair fun x => { x with early := some (n, sums) }))
    ∧ (linked → n = s.pair.setsN → s.role ≠ roLead → ¬ joined → digest = .next shown)
    ∧ (linked → n = s.pair.setsN → s.role = roLead → digest = .next (bad.foldl (fun (s : State) x =>
        s.tell (.crcList x ((tget [] s.pair.sets x).map fun q => (q, crc32 ((s.pageBytes x q).map (·.toNat)))))) shown))
    ∧ (linked → n = s.pair.setsN → joined → ∃ t, digest = .next t ∧ t.rd PAIR_DIGSTAT_MISMATCH = bad.foldl (fun b x => b + 2 ^ x) 0
        ∧ t.rd PAIR_DIGCNT_COUNT = (s.rd PAIR_DIGCNT_COUNT + bad.length) % 2 ^ 32 ∧ (bad ≠ [] → t.on PAIR_STAT_MISEV = true)
        ∧ (∀ x ∈ bad, ∃ q ∈ t.pair.resync, q.1 = x) ∧ t.pair.agree = (if bad = [] then s.pair.agree + 1 else 0))
    ∧ (¬ joined → ∀ x, mirror x = .next s)
    ∧ (joined →
      mirror (.commit c) = .next ((s.acceptCommit c).tell (.commitAck c.epoch))
      ∧ mirror (.cancel ep) = .next { s with epoch := { s.epoch with pend := s.epoch.pend.filter fun x => x.epoch != ep } }
      ∧ mirror (.write a v) = .next (s.mirrorWrite a v)
      ∧ (n ≤ s.n → mirror (.disp d n) = .next { s with disp := { s.disp with dbCmds := s.disp.dbCmds ++ [d] } })
      ∧ (s.n < n → mirror (.disp d n) = .next { s with disp := { s.disp with lateCmds := s.disp.lateCmds ++ [d] } })
      ∧ exec (.mirrorSamples src e m vals) s = .next (s.modPair fun x => { x with mir := x.mir ++ [⟨src, e, m, vals.map BitVec.toNat⟩] }))
    ∧ (¬ joined → exec (.mirrorSamples src e m vals) s = .next s)
    ∧ (¬ waits → exec (.sealMarker src m) s = .next s ∧ exec (.mirrorTimeout src) s = .next s)
    ∧ (waits → s.pair.mir = [] → exec (.sealMarker src m) s = .next fired)
    ∧ (waits → s.pair.mir = [⟨src, e, m, vals.map BitVec.toNat⟩] → ∃ t, exec (.sealMarker src m) s = .next t ∧ t.pair.mir = [] ∧ src ∈ t.disp.fired
        ∧ t = { ((vals.map BitVec.toNat).zipIdx.foldl (fun (s : State) q => s.setSmp e m q.2 q.1) s) with
            pair := { s.pair with wait := s.pair.wait.erase src, mir := [] }, disp := { s.disp with fired := s.disp.fired ++ [src] } })
    ∧ (waits → exec (.mirrorTimeout src) s = .next ((fired.incSat PAIR_MIRSTAT_LATE 1).emitRated 1000000000 (mkRec cCorrected 0 0x0007 uSource src [])))
    ∧ ((s.role = roHeel ∨ s.role = roLead) → pg < s.sramPages k.val → exec (.pageCopy (.sram k.val pg bytes)) s = .next
        ((s.modPair fun x => { x with got := x.got ++ [(k.val, pg, padTo 512 bytes)] }).inc PAIR_COPYCNT_COUNT 1))
    ∧ (s.role = roHeel → s.hstate = hsCopy → exec (.pageCopy (.join item)) s = .next (s.modPair fun x => { x with items := x.items ++ [item] })
        ∧ exec (.pageCopy .joinEnd) s = .next (s.modPair fun x => { x with copied := true }))
    ∧ ((s.role ≠ roHeel ∨ ∀ q ∈ s.pair.resync, q.1 ≠ k.val) → exec (.pageCrcList k pages) s = .next s)
    ∧ (s.role = roHeel → (∃ q ∈ s.pair.resync, q.1 = k.val) → ∃ t, exec (.pageCrcList k pages) s = .next t
        ∧ t.pair.out = (if diff = [] then s.pair.out else s.pair.out ++ [.want k.val diff])
        ∧ t.pair.resync = s.pair.resync.map fun q => if q.1 = k.val then (k.val, q.2.1, sortNat (q.2.2 ++ diff).eraseDups) else q)

/-- Serial ports, converter groups, microphones (chapter 10). -/
def Obligations.PortsAndMicrophones : Prop :=
  ∀ (p : Port) (x : Fin 64) (v : Word) (en : Bool) (time : Nat) (din : List Bool) (g : Fin 16) (span : Fin 64) (c : Fin 8) (li : Fin 32) (m : Fin 64) (s : State),
    let k := x.val
    let w := withBits v 0 1 (b2n en)
    let t := s.wrRow row_SPORT_CFG k w
    let frozen := [SPORT_CFG_MASTER k, SPORT_CFG_FMT k, SPORT_CFG_SLOTS k, SPORT_CFG_SLOTW k, SPORT_CFG_WORDL k, SPORT_CFG_BCLKINV k,
      SPORT_CFG_FSINV k, SPORT_CFG_FSWIDE k, SPORT_CFG_GRP k, SPORT_CFG_MCLK k, SPORT_CFG_RXEN k, SPORT_CFG_TXEN k]
    let unfit := (s.portState k ≠ poOff ∧ ∃ f ∈ frozen, s.rd f ≠ t.rd f) ∨ t.cfgLegal k = false
      ∨ (t.on (SPORT_CFG_GRP k) = true ∧ 8 ≤ (s.grpMembers.filter (· != k)).length) ∨ (t.on (SPORT_CFG_EN k) = true ∧ t.divLegal k = false)
    let write := exec (if en then .portEnable p x v else .portDisable p x v) s
    let frame := exec (.portFrame x time din) s
    let st := s.portState k
    let q := s.port k
    let T := (s.frameAt k time).1
    let ji := (s.frameAt k time).2.1
    let jo := (s.frameAt k time).2.2
    let latched := { q with rx := s.rd (SPORT_RXMASK_MASK k), tx := s.rd (SPORT_TXMASK_MASK k), next := jo + 4 }
    let u := s.setPort k latched
    let gap := match q.edge with | some e => T - e | none => 0
    let edged := fun (t : State) => t.setPort k { t.port k with edge := some T, gap, per := if t.portState k = poRun ∧ st ≠ poUnder then gap else (t.port k).per }
    let sees := fun (t : State) => frame = .next
      (let w := s.portEvent (edged t) k time
       if w.refs == (edged t).refs then s.refsFollow w else (s.refsFollow w).refsSettle)
    let ws := s.lineWords k din
    let timely := u.timelyEdge (u.groupOf k).isSome latched T
    let slave := u.on (SPORT_CFG_MASTER k) = false
    let start := s.subStart (s.rd (SPORT_CFG_UPOL k))
    let ran := (s.wr (SPORT_STAT_STATE k) poUnder).wr (SPORT_STAT_UNDER k) 1
    let gx := s.rd (SPORT_ASRC_PORT g.val)
    let ga := s.wrRow row_SPORT_ASRC g.val v.toNat
    let gp := ga.rd (SPORT_ASRC_PORT g.val)
    let gwas := s.on (SPORT_ASRC_EN g.val)
    let gnow := ga.on (SPORT_ASRC_EN g.val)
    let use := (List.range 16).foldl (fun n i => if ga.on (SPORT_ASRC_EN i) then n + (ga.rd (SPORT_ASRC_CHIN i) + ga.rd (SPORT_ASRC_CHOUT i)) else n) 0
    let toomany := gnow = true ∧ (128 < use ∨ 32 < ga.rd (SPORT_ASRC_CHIN g.val) ∨ 32 < ga.rd (SPORT_ASRC_CHOUT g.val))
    let bound := gnow = true ∧ gwas = false ∧ ((s.groupOf gp).isSome = true ∨ ga.on (SPORT_CFG_GRP gp) = true ∨ ga.portState gp ≠ poOff)
    let bad := (gwas = true ∧ s.rd (SPORT_ASRC_PORT g.val) ≠ gp) ∨ toomany ∨ bound
    let set := (ga.wr SPORT_ASRCUSE_USED use).markBound gp
    let groupWrite := fun (t : State) => exec (.asrcEnable p g v) s = .next (s.written p row_SPORT_ASRC g.val v.toNat (s.refsFollow t.sideCheck))
    let clk := s.wrRow row_PDM_CLK c.val v.toNat
    let line := s.wrRow row_PDM_LCFG li.val v.toNat
    let ms := s.rd (micField m.val)
    (s.writeOpen p row_SPORT_CFG k w →
      (unfit → write = .next (State.turnedAway p (s.wr (SPORT_STAT_REFUSED k) 1)))
      ∧ (¬ unfit → write = .next (s.written p row_SPORT_CFG k w
          (s.refsFollow (if en = true ∧ s.on (SPORT_CFG_EN k) = false ∧ st = poOff then t.wr (SPORT_STAT_STATE k) poStarting else t).countGrp.sideCheck))))
    ∧ (s.board.held = false →
      (st = poOff ∨ st = poStarting ∨ s.framePasses k time = false → frame = .next s)
      ∧ (st = poSeeking → s.framePasses k time = true → sees (u.setPort k
          { latched with timely := if u.steadyEdge (u.groupOf k).isSome latched T then q.timely + 1 else 1 }))
      ∧ (st = poRun → s.framePasses k time = true → sees (((u.sendFrame k T jo).runFrame k T ji ws).asrcEdge k T))
      ∧ (st = poUnder → s.framePasses k time = true → sees (u.underFrame k T ji ws))
      ∧ (st = poRun → s.on (SPORT_CFG_MASTER k) = false → exec (.portUnderrun x) s = .next (s.refsFollow
          (let z := ran.setPort k { q with timely := 0, rising := false, fall := start, stamps := [], outFall := if (s.groupOf k).isSome then start else q.outFall }
           (match z.groupOf k with | some a => z.setLock a 1 | none => z).emit (mkRec cLost 0 0x0028 uPort k [s.rd (SPORT_CFG_UPOL k)]))))
      ∧ (st ≠ poRun ∨ s.on (SPORT_CFG_MASTER k) = true → exec (.portUnderrun x) s = .next s)
      ∧ (s.rd (SPORT_ASRCST_LOCK g.val) = 1 → s.portState gx = poRun → ∀ r, s.measuredRatio (s.port gx) (span.val + 1) = some r → exec (.asrcLock g span) s = .next
          (((s.setPort gx { s.port gx with ratio := r, outFall := s.fadeLen }).setLock g.val 2).wr (SPORT_ASRCST_RATIO g.val) (r / 2 ^ 20)))
      ∧ (s.rd (SPORT_ASRCST_LOCK g.val) ≠ 1 ∨ s.portState gx ≠ poRun ∨ s.measuredRatio (s.port gx) (span.val + 1) = none → exec (.asrcLock g span) s = .next s)
      ∧ (ms = 1 → exec (.wakeEnd m) s = .next ((s.wr (micField m.val) 2).micFrom m.val 2))
      ∧ (ms ≠ 1 → exec (.wakeEnd m) s = .next s)
      ∧ (ms = 2 → exec (.micStuck m) s = .next ((((s.wr (micField m.val) 3).wr (PDM_LSTAT_STUCKEV (m.val / 2)) 1).micFrom m.val 3).emit
          (mkRec cLost 0 0x0028 uMic m.val [s.rd (PDM_LCFG_UPOL (m.val / 2))])))
      ∧ (ms ≠ 2 → exec (.micStuck m) s = .next s)
      ∧ (ms = 3 → exec (.micUnstuck m) s = .next ((s.wr (micField m.val) 2).micFrom m.val 2)) ∧ (ms ≠ 3 → exec (.micUnstuck m) s = .next s))
    ∧ ((timely = false → u.underFrame k T ji ws = u.setPort k { latched with timely := 0 })
      ∧ (timely = true → q.timely < 3 → u.underFrame k T ji ws = u.setPort k { latched with timely := q.timely + 1 })
      ∧ (timely = true → 3 ≤ q.timely → (u.underFrame k T ji ws).portState k = poRun))
    ∧ (∀ (j : Int) l, slave → (u.groupOf k).isSome = false → (u.fs * u.frame : Nat) ≤ j → q.last = some l →
      let placed := u.wr (SPORT_PHASE_OFFS k) (u.gridTime (j - 2) - T).toNat
      (j = l + 1 → u.runFrame k T j ws = placed.takeFrame k (l + 1) T ws)
      ∧ (j ≤ l → u.runFrame k T j ws = placed.slip k)
      ∧ (j = l + 2 → u.runFrame k T j ws = ((placed.takeFrame k (l + 1) (placed.gridTime ((l : Int) - 1)).toNat
          ((List.range 32).map fun i => tget 0 q.hold i / 2 ^ (32 - placed.wordLen k))).slip k).takeFrame k (l + 2) T ws)
      ∧ ((l : Int) + 2 < j → u.runFrame k T j ws = placed.portUnderrun k))
    ∧ (s.writeOpen p row_SPORT_ASRC g.val v.toNat →
      (bad → exec (.asrcEnable p g v) s = .next (State.turnedAway p s))
      ∧ (¬ bad → gnow = gwas → groupWrite set)
      ∧ (¬ bad → gnow = true → gwas = false → groupWrite (set.setLock g.val 1))
      ∧ (¬ bad → gnow = false → gwas = true → groupWrite ((set.setLock g.val 0).fence 5)))
    ∧ (s.writeOpen p row_PDM_CLK c.val v.toNat →
      let shut := (s.on (PDM_CLK_EN c.val) = true ∧ s.rd (PDM_CLK_RATE c.val) ≠ bits v.toNat 1 2) ∨ (bits v.toNat 1 2 = 0 ∧ s.on SYS_RATE_ACT = true)
      (shut → exec (.pdmClockEnable p c v) s = .next (State.turnedAway p s))
      ∧ (¬ shut → exec (.pdmClockEnable p c v) s = .next (s.written p row_PDM_CLK c.val v.toNat ((List.range 8).foldl (fun t i => t.micTurn (8 * c.val + i)) clk))))
    ∧ (s.writeOpen p row_PDM_LCFG li.val v.toNat →
      exec (.micEnable p li v) s = .next (s.written p row_PDM_LCFG li.val v.toNat ((line.micTurn (2 * li.val)).micTurn (2 * li.val + 1))))
    ∧ (let live := s.on (micEnable m.val) = true ∧ s.on (PDM_CLK_EN (m.val / 8)) = true
      (live → ms = 0 → s.micTurn m.val = (s.wr (micField m.val) 1).micFrom m.val 1) ∧ (live → ms ≠ 0 → s.micTurn m.val = s) ∧ (¬ live → ms = 0 → s.micTurn m.val = s)
      ∧ (¬ live → ms ≠ 0 → (s.micTurn m.val).rd (micField m.val) = 0))

/-- Reference selection and clean-up (chapter 12). -/
def Obligations.ReferencesAndDplls : Prop :=
  ∀ (p : Port) (w2 : Fin 2) (time : Nat) (offs : List Int) (c : Fin 12) (cause : Fin 5) (x : Fin 4) (avg : Int) (v : Word) (s : State),
    let k := x.val
    let cs := fun (i : Nat) => s.rd (REFS_CSTAT_STATE i)
    let cd := s.cand w2.val
    let jump := jumps (s.rd (REFS_CQUAL_PJTHR w2.val)) cd.times time = true
    let st := s.pllState k
    let active := s.rd (REFS_DSTAT_ACTIVE k)
    let tracking := st = plAcquire ∨ st = plLocked
    let applied := ((s.pll k).late.foldl (fun (s : State) q => s.pllFields k q.1 q.2) (s.setPll k { s.pll k with late := [] })).wr (REFS_DSTAT_SWEV k) 1
    let target := applied.rd (REFS_DSTAT_ACTIVE k)
    let noted := (s.setCand w2.val { cd with times := (time :: cd.times).take 65, alive := true }).foMeasure w2.val time
    let waits := fun (kind : Nat) => s.setPll k { s.pll k with late := (s.pll k).late ++ [(kind, v.toNat)] }
    let above := ∃ b, s.autoBest k = some b ∧ (s.prio k b < s.prio k active ∨ (s.prio k b = s.prio k active ∧ b < active))
    let reverts := s.rd (REFS_DCTRL_MODE k) = moAuto ∧ s.on (REFS_DCTRL_REVERT k) = true ∧ tracking ∧ above
    let moved := (s.wr (REFS_FOOFS_OFFSET k) v.toNat).setFo k { s.fo k with offs := ((sx 32 v.toNat, s.bc) :: (s.fo k).offs).take 64 }
    let steer := (sx 32 v.toNat).natAbs ≤ 6871948
    (s.board.held = false →
      (cs w2.val = caOff → exec (.wclkInEdge w2 time) s = .next s)
      ∧ (cs w2.val ≠ caOff → jump → exec (.wclkInEdge w2 time) s = .next
          ((s.setCand w2.val { cd with times := [time], alive := true }).disqualify w2.val 2).refsSettle)
      ∧ (cs w2.val ≠ caOff → ¬ jump → exec (.wclkInEdge w2 time) s = .next ((List.range 4).foldl (fun (s : State) y =>
          if s.runsOn y w2.val && !s.aligned y w2.val then s.builtSeen y w2.val time else s) noted).refsSettle)
      ∧ (∃ t, exec (.frequencyMeasurement offs) s = .next t ∧ ∀ i < 12, cs i ≠ caOff → ¬ (2 ≤ i ∧ i ≤ 5) → i ≠ 11 → t.rd (REFS_CFREQ_OFFS i) = ux 32 (offs.getD i 0))
      ∧ (cs c.val = caOff ∨ c.val = 11 → exec (.candidateDisqualified c cause) s = .next s)
      ∧ (cs c.val ≠ caOff → c.val ≠ 11 → exec (.candidateDisqualified c cause) s = .next
          (((if cause.val = 4 then s.setCand c.val { s.cand c.val with out := 50 } else s).disqualify c.val cause.val).pllsSettle))
      ∧ (cs c.val ≠ caQualifying ∨ (s.cand c.val).inside + 1 < 10 * s.rd (REFS_CQUAL_QUALT c.val) → exec (.candidateQualified c) s = .next s)
      ∧ (cs c.val = caQualifying → 10 * s.rd (REFS_CQUAL_QUALT c.val) ≤ (s.cand c.val).inside + 1 → exec (.candidateQualified c) s = .next
          (((s.wr (REFS_CSTAT_STATE c.val) caQualified).wr (REFS_CSTAT_QEV c.val) 1).setCand c.val { s.cand c.val with qAt := s.bc }).pllsSettle)
      ∧ (reverts → exec (.wtrExpiry x) s = .next (s.select k)) ∧ (¬ reverts → exec (.wtrExpiry x) s = .next s)
      ∧ (st ≠ plSwitching → exec (.switchComplete x) s = .next s)
      ∧ (st = plSwitching → applied.selects k = false → exec (.switchComplete x) s = .next (applied.pllMode k).pllsSettle)
      ∧ (st = plSwitching → applied.selects k = true → applied.qualified target = true → exec (.switchComplete x) s = .next (applied.takeRef k).pllsSettle)
      ∧ (st = plSwitching → applied.selects k = true → applied.qualified target = false → exec (.switchComplete x) s = .next (applied.select k).pllsSettle)
      ∧ (st = plAcquire → exec (.acquireLocked x) s = .next ((s.wr (REFS_DSTAT_STATE k) plLocked).retarget k)) ∧ (st ≠ plAcquire → exec (.acquireLocked x) s = .next s)
      ∧ (tracking → exec (.holdoverAverage x avg) s = .next (s.setPll k { s.pll k with avgs := (avg :: (s.pll k).avgs).take 61 }))
      ∧ (¬ tracking → exec (.holdoverAverage x avg) s = .next s)
      ∧ (s.on REFS_SYSSTAT_LOCK = true → exec .systemDpllLoss s = .next
          ((((s.wr REFS_SYSSTAT_LOCK 0).wr REFS_SYSSTAT_LOSSEV 1).wr (REFS_CSTAT_STATE 11) caDisq).emit (mkRec cFatal 0 0x0030 uDevice 0 [])).pllsSettle)
      ∧ (s.on REFS_SYSSTAT_LOCK = false → exec .systemDpllLoss s = .next s))
    ∧ (∀ i, (cs i = caQualifying ∨ cs i = caQualified) → (s.disqualify i cause.val).rd (REFS_CSTAT_STATE i) = caDisq
        ∧ (s.disqualify i cause.val).rd (REFS_CSTAT_CAUSE i) = cause.val ∧ (s.disqualify i cause.val).on (REFS_CSTAT_DQEV i) = true)
    ∧ (s.pick k = none → st ≠ plHoldover → (s.select k).pllState k = plHoldover ∧ (s.select k).rd (REFS_DSTAT_ACTIVE k) = 15 ∧ (s.select k).on (REFS_DSTAT_HOEV k) = true)
    ∧ (∀ b < 11, s.pick k = some b → (s.select k).pllState k = plSwitching ∧ (s.select k).rd (REFS_DSTAT_ACTIVE k) = b)
    ∧ ((s.takeRef k).pllState k = (if s.aligned k active then plAcquire else plLocked) ∧ (s.takeRef k).on (REFS_DSTAT_SWEV k) = true)
    ∧ (∀ b, s.autoBest k = some b → s.qualified b = true ∧ s.prio k b < 15 ∧ ∀ d < 12, s.qualified d = true → s.prio k d < 15 → s.prio k b ≤ s.prio k d)
    ∧ (s.writeOpen p row_REFS_DCTRL k v.toNat →
      (4 < bits v.toNat 0 3 ∨ 11 < bits v.toNat 4 4 → exec (.dctrlModeWrite p x v) s = .next (State.turnedAway p s))
      ∧ (bits v.toNat 0 3 ≤ 4 → bits v.toNat 4 4 ≤ 11 → st = plSwitching → exec (.dctrlModeWrite p x v) s = .next (s.written p row_REFS_DCTRL k v.toNat (waits 0)))
      ∧ (bits v.toNat 0 3 ≤ 4 → bits v.toNat 4 4 ≤ 11 → st ≠ plSwitching → exec (.dctrlModeWrite p x v) s = .next
          (s.written p row_REFS_DCTRL k v.toNat (s.pllPut k 0 v.toNat).pllsSettle)))
    ∧ (∀ i row f, (i, row, f) ∈ [(Instr.dfwWrite p x v, row_REFS_DFW, REFS_DFW_WORD k), (.dsteerWrite p x v, row_REFS_DSTEER, REFS_DSTEER_STEER k)] →
      s.writeOpen p row k v.toNat → (steer → exec i s = .next (s.written p row k v.toNat ((s.wr f v.toNat).retarget k))) ∧ (¬ steer → exec i s = .next (State.turnedAway p s)))
    ∧ (s.writeOpen p row_REFS_FOOFS k v.toNat →
      (333333 < (sx 32 v.toNat).natAbs → exec (.frameOutOffsetWrite p x v) s = .next (State.turnedAway p s))
      ∧ ((sx 32 v.toNat).natAbs ≤ 333333 → exec (.frameOutOffsetWrite p x v) s = .next (s.written p row_REFS_FOOFS k v.toNat moved)))
    ∧ (∀ i, let later := s.foPos k (s.bc + 1000) ≤ i * s.foPeriod k + s.foPhase k i + sx 32 v.toNat * (3 * 2 ^ 36)
      (later → moved.foOffset k i = sx 32 v.toNat) ∧ (¬ later → (s.fo k).offs.length < 63 → moved.foOffset k i = s.foOffset k i))

/-- Time bases and side-tone (chapters 9 and 12). -/
def Obligations.TimeBasesAndSideTone : Prop :=
  ∀ (p : Port) (x : Fin 4) (part : Fin 3) (v : Word) (m : Fin 16) (i : Fin 8) (s : State),
    let k := x.val
    let w := v.toNat
    let st := s.rd (TIME_TBSTAT_STATE k)
    let servo := st = tbLocking ∨ st = tbLocked
    let row := if part = 0 then row_TIME_TBMID0 else if part = 1 then row_TIME_TBMID1 else row_TIME_TBMID2
    let named := s.wrRow row k w
    let ctrl := if bit w 1 then s.wrRow row_TIME_TBCTRL k w else (s.wrRow row_TIME_TBCTRL k w).wr (TIME_TBNRR_NRR k) 0
    let realigned := (s.wr REFS_TBSEL_SEL (bits w 0 3)).realign
    let was := s.on (TIME_TBCTRL_EN k) = true
    let now := ctrl.on (TIME_TBCTRL_EN k) = true
    let fixed := [TIME_TBCTRL_MODE k, TIME_TBCTRL_PORT k, TIME_TBCTRL_DOMAIN k, TIME_TBCTRL_MAJSDO k, TIME_TBCTRL_MINSDO k]
    let moved := was ∧ ∃ f ∈ fixed, s.rd f ≠ ctrl.rd f
    let selected := s.rd REFS_TBSEL_SEL = k + 1
    let t := bits w 0 3
    let idle := s.on DISP_CTRL_EN = false ∧ s.on ROUTE_CTRL_ENACT = false ∧ s.audioIdle = true ∧ t ≤ 4 ∧ s.tbNamed t = true
    let e := m.val * 8 + i.val
    let pend := s.rd (ROUTE_STSTAT_ZCPEND m.val)
    let gain := tget none s.io.zc e
    let cleared := (({ s with io := { s.io with zc := tput none s.io.zc e none } }).wr (ROUTE_STSTAT_ZCPEND m.val) (setBit pend i.val false))
    let path := s.wrRow row_ROUTE_STCFG m.val w
    let bad := bit w 0 = true ∧ (path.sideOk m.val = false ∨ path.sideClash m.val = true)
    (s.board.held = false →
      (¬ servo → exec (.syncTimeout x) s = .next s)
      ∧ (servo → exec (.syncTimeout x) s = .next (s.refsFollow
          (let u := ((s.wr (TIME_TBSTAT_STATE k) tbHoldover).wr (TIME_TBSTAT_HOLDEV k) 1).setTb k { s.tb k with run := 0, stepped := false }
           u.event 0x0004 (u.partBlock 0x0D) (leBytes (k + 1) 1))))
      ∧ (gain = none → exec (.zeroCrossingApply m i) s = .next s ∧ exec (.zcTimeout m i) s = .next s)
      ∧ (∀ y, gain = some y → exec (.zeroCrossingApply m i) s = .next (cleared.wr (ROUTE_STGAIN_GAIN e) y)
          ∧ exec (.zcTimeout m i) s = .next ((cleared.wr (ROUTE_STGAIN_GAIN e) y).wr (ROUTE_STSTAT_ZCTO m.val) 1)))
    ∧ (s.writeOpen p row_TIME_SNAP 0 1 → ∃ u, exec (.timeSnap p) s = .next (s.written p row_TIME_SNAP 0 1 u)
      ∧ (s.bc < 2 ^ 64 → u.rd TIME_BCSNAPL_BC + 2 ^ 32 * u.rd TIME_BCSNAPH_BC = s.bc)
      ∧ (∀ j < 4, u.rd (TIME_TBSNAPL_TB j) + 2 ^ 32 * u.rd (TIME_TBSNAPH_TB j) = ux 64 (s.timeAt (j + 1) s.bc)) ∧ 844 ∈ u.disp.fired)
    ∧ (s.writeOpen p row_TIME_TBADJ k w →
      (selected → exec (.tbAdj p x v) s = .next (State.turnedAway p s))
      ∧ (¬ selected → ∃ u, exec (.tbAdj p x v) s = .next (s.written p row_TIME_TBADJ k w u)
          ∧ u.timeAt (k + 1) s.bc = s.timeAt (k + 1) s.bc + sx 32 w ∧ (∀ j < 4, j ≠ k → ∀ z, u.timeAt (j + 1) z = s.timeAt (j + 1) z)
          ∧ (s.rd (REFS_CQUAL_PJTHR (k + 2)) < (sx 32 w).natAbs → s.rd (REFS_CSTAT_STATE (k + 2)) = caQualified →
              u.rd (REFS_CSTAT_CAUSE (k + 2)) = 2 ∧ u.rd (REFS_CSTAT_DQEV (k + 2)) = 1)))
    ∧ (s.writeOpen p row_TIME_TBRATE k w →
      (s.on (TIME_TBCTRL_SVEN k) = true → s.rd (TIME_TBRATE_RATE k) ≠ w → exec (.tbRateWrite p x v) s = .next (State.turnedAway p s))
      ∧ (s.on (TIME_TBCTRL_SVEN k) = true → s.rd (TIME_TBRATE_RATE k) = w → exec (.tbRateWrite p x v) s = .next (s.written p row_TIME_TBRATE k w s))
      ∧ (s.on (TIME_TBCTRL_SVEN k) = false → ∃ u, exec (.tbRateWrite p x v) s = .next (s.written p row_TIME_TBRATE k w u)
          ∧ u.rd (TIME_TBRATE_RATE k) = w ∧ u.timeAt (k + 1) s.bc = s.timeAt (k + 1) s.bc ∧ (∀ j < 4, j ≠ k → ∀ z, u.timeAt (j + 1) z = s.timeAt (j + 1) z)))
    ∧ (s.writeOpen p row k w → exec (.tbMidWrite p x part v) s = .next (s.written p row k w
        (s.refsFollow ((named.tbHold k).setTb k { (named.tbHold k).tb k with sync := none, req := none, presp := none, last := none }))))
    ∧ (s.writeOpen p row_TIME_TBCTRL k w →
      (moved ∨ (was ∧ ¬ now ∧ selected) → exec (.tbEnable p x v) s = .next (State.turnedAway p s))
      ∧ (¬ moved → ¬ was → now → exec (.tbEnable p x v) s = .next (s.written p row_TIME_TBCTRL k w
          (s.refsFollow ((ctrl.setTb k { TbSt.reset with ofs := (s.tb k).ofs, anc := s.bc }).wr (TIME_TBSTAT_STATE k) tbFreerun))))
      ∧ (¬ moved → was → ¬ now → ¬ selected → exec (.tbEnable p x v) s = .next (s.written p row_TIME_TBCTRL k w
          (s.refsFollow ((ctrl.setTb k { s.tb k with ofs := s.tbFine k s.bc / 2 ^ 24, anc := s.bc }).wr (TIME_TBSTAT_STATE k) tbDisabled))))
      ∧ (¬ moved → was → now → exec (.tbEnable p x v) s = .next (s.written p row_TIME_TBCTRL k w
          (s.refsFollow (if ctrl.on (TIME_TBCTRL_SVEN k) then ctrl else ctrl.wr (TIME_TBSTAT_STATE k) tbFreerun))))
      ∧ (¬ was → ¬ now → exec (.tbEnable p x v) s = .next (s.written p row_TIME_TBCTRL k w ctrl)))
    ∧ (s.writeOpen p row_REFS_TBSEL 0 w →
      (¬ idle → t ≠ s.rd REFS_TBSEL_SEL → exec (.tbselWrite p v) s = .next (State.turnedAway p s))
      ∧ (¬ idle → t = s.rd REFS_TBSEL_SEL → exec (.tbselWrite p v) s = .next (s.written p row_REFS_TBSEL 0 w s))
      ∧ (idle → exec (.tbselWrite p v) s = .next (s.written p row_REFS_TBSEL 0 w realigned)))
    ∧ (realigned.n = s.firstDownbeat t ∧ realigned.refs.align = true ∧ realigned.rd REFS_TBSEL_SEL = t ∧ (realigned.pll 0).late = [])
    ∧ (s.writeOpen p row_ROUTE_STGAIN e w →
      (s.on (ROUTE_STSRC_ZC e) = true → exec (.stgainWrite p m i v) s = .next (s.written p row_ROUTE_STGAIN e w
          (({ s with io := { s.io with zc := tput none s.io.zc e (some w) } }).wr (ROUTE_STSTAT_ZCPEND m.val) (setBit pend i.val true))))
      ∧ (s.on (ROUTE_STSRC_ZC e) = false → exec (.stgainWrite p m i v) s = .next (s.written p row_ROUTE_STGAIN e w (cleared.wr (ROUTE_STGAIN_GAIN e) w))))
    ∧ (s.writeOpen p row_ROUTE_STCFG m.val w →
      (bad → exec (.sideToneEnable p m v) s = .next (State.turnedAway p (s.wr (ROUTE_STSTAT_ERR m.val) 1)))
      ∧ (¬ bad → exec (.sideToneEnable p m v) s = .next (s.written p row_ROUTE_STCFG m.val w (path.wr (ROUTE_STSTAT_ACTIVE m.val) (bits w 0 1)).sideCheck)))

/-- Writes of AMP.CMD and AMP.MODCMD (R304, R307, R314, R394). -/
def Obligations.AmpCommands : Prop :=
  ∀ (p : Port) (c : Fin 128) (v : Word) (s : State),
    let off := withBits (BitVec.ofNat 32 (withBits v 0 2 0)) 17 1 0
    let diag := withBits (BitVec.ofNat 32 (withBits v 0 2 1)) 17 1 0
    let run := withBits (BitVec.ofNat 32 (withBits v 0 2 2)) 17 1 0
    let back := withBits v 17 1 1
    let free := (s.whoOf p).q = warden ∨ s.on (AMP_STAT_ALARM c.val) = false
    let queued := fun (x req : Nat) =>
      ((s.wrRow row_AMP_CMD c.val x).wr (AMP_CMD_REQ c.val) req).modAmp c.val fun q => { q with cmds := q.cmds ++ [(req, false)] }
    let notSelf := bit v.toNat 15 = false ∨ bits v.toNat 8 7 ≠ c.val
    (s.writeOpen p row_AMP_CMD c.val off → notSelf → free →
      exec (.ampCmdOff p c v) s = .next (s.written p row_AMP_CMD c.val off (queued off 0)))
    ∧ (s.writeOpen p row_AMP_CMD c.val diag → notSelf → free →
      exec (.ampCmdDiag p c v) s = .next (s.written p row_AMP_CMD c.val diag (queued diag 1)))
    ∧ (s.writeOpen p row_AMP_CMD c.val run → notSelf →
      exec (.ampCmdRun p c v) s = .next (s.written p row_AMP_CMD c.val run (queued run 2)))
    ∧ (s.writeOpen p row_AMP_CMD c.val back → notSelf → bits v.toNat 0 2 ≠ 3 → free ∨ bits v.toNat 0 2 = 2 →
      exec (.abret p c v) s = .next (s.written p row_AMP_CMD c.val back
        ((queued back (bits v.toNat 0 2)).modAmp c.val fun q => { q with abret := true })))
    ∧ (s.writeOpen p row_AMP_MODCMD 0 (c.val + 2147483648) →
      lifeSafetyBroken s s s.canCarry (s.carryWithout c.val) = false →
      exec (.modcmdGo p c) s = .next (s.written p row_AMP_MODCMD 0 (c.val + 2147483648)
        (s.wrRow row_AMP_MODCMD 0 (c.val + 2147483648))))
    ∧ (s.writeOpen p row_AMP_CMD c.val off → notSelf → ¬free →
      exec (.ampCmdOff p c v) s = .next (State.turnedAway p (s.wr WARD_STAT_LSREF 1)))

/-- The sequences of a channel (R302, R303, R308). -/
def Obligations.AmpSequences : Prop :=
  ∀ (c : Fin 128) (mv ua : Nat) (cur : BitVec 17) (s : State), s.board.held = false →
    let k := c.val
    let fast := s.tripSeen k cur = true
    let tripped := (s.wr (AMP_STAT_TRIPEV k) 1).incSat (AMP_STAT_TRIPS k) 1
    let seen := s.setZ k mv ua
    (∀ st res, (st = 1 ∧ res = 2) ∨ (st = 2 ∧ res = 3) → (s.amp k).test = st →
      exec (.diagStepEnd c mv ua) s = .next
        (if s.rd (AMP_SCALE_IFS k) * 500 < ua then s.testEnd k res else s.modAmp k fun x => { x with test := st + 1 }))
    ∧ ((s.amp k).test = 3 → exec (.diagStepEnd c mv ua) s = .next
        (seen.testEnd k (if ua ≠ 0 ∧ mv * 100000 < seen.rd (AMP_DIAG_ZSHORT k) * ua then 4
          else if ua < s.rd (AMP_SCALE_IFS k) * 10 ∨ seen.rd (AMP_DIAG_ZOPEN k) * ua < mv * 1000 then 5 else 1)))
    ∧ (s.ampState k = 2 → exec (.startingDone c) s = .next (s.ampEnter k 3))
    ∧ (s.ampState k = 4 → exec (.stoppingDone c) s = .next (s.ampEnter k 0))
    ∧ (fast ↔ ∀ i ∈ [0, 1], 16 * s.rd (GUARD_RATING_ITRIP k) ≤
        (2 * (((List.range 16).filter fun j => cur.getLsbD (i + j)).length : Int) - 16).natAbs * s.rd (AMP_SCALE_IFS k))
    ∧ (¬ fast ∨ s.noScale k = true → exec (.trip ⟨c, cur⟩) s = .next s)
    ∧ (fast → s.noScale k = false → s.ampState k = 2 ∨ s.ampState k = 3 ∨ s.ampState k = 7 →
        exec (.trip ⟨c, cur⟩) s = .next (((tripped.ampReturn k).modAmp k fun x => { x with abDue := true }).emit
          (mkRec 3 0 0x002A 0x0A k [])))
    ∧ (fast → s.noScale k = false → s.ampState k = 6 → exec (.trip ⟨c, cur⟩) s = .next (tripped.ampReturn k))
    ∧ (fast → s.noScale k = false → s.ampState k = 1 → (s.amp k).test = 3 → exec (.trip ⟨c, cur⟩) s = .next (tripped.testEnd k 4))
    ∧ (s.ampState k = 5 → ((s.recentProbes k).length < 3 ∨ s.on (AMP_STAT_ALARM k) = true) →
        exec (.probeDue c) s = .next ((s.modAmp k fun x => { x with probes := s.bc :: s.recentProbes k }).ampEnter k 6))
    ∧ (s.ampState k = 5 → 3 ≤ (s.recentProbes k).length → s.on (AMP_STAT_ALARM k) = false →
        exec (.probeDue c) s = .next (((s.wr (AMP_STAT_LATCHEV k) 1).ampEnter k 8).emit (mkRec 3 0 0x002B 0x0A k [])))
    ∧ (s.ampState k = 6 → exec (.probeEnd c mv ua) s = .next
        (if ua ≠ 0 ∧ mv * 100000 < seen.rd (AMP_DIAG_ZSHORT k) * ua then seen.ampReturn k else seen.ampEnter k 7))
    ∧ (s.ampState k = 7 → exec (.recoverDone c) s = .next ((s.ampEnter k 3).modAmp k fun x => { x with recovered := true }))

/-- PVALID, coefficients, line supervision (R298, R310, R311, R315) and the wake retry (R326). -/
def Obligations.AmpProtectionAndLine : Prop :=
  ∀ (p : Port) (c : Fin 128) (v : Word) (z : Option Nat) (s : State),
    let k := c.val
    let cap := withBits v 31 1 1
    let needed := [GUARD_RE_RE k, GUARD_BL_BL k, GUARD_BL_MMS k, GUARD_KMS_KMS k, GUARD_XMAX_XMAX k, GUARD_RATING_VRATED k,
      GUARD_RATING_ITRIP k]
    let valid := s.on (GUARD_PCTL_PVALID k)
    let base := s.captureEnd k
    let shown := base.wr (LINE_ZMEAS_Z k) (z.getD 0)
    let expired := ∃ t l, (s.amp k).capture = some (t, l) ∧ t + 1000000000 ≤ s.bc
    let clear := fun (t : State) => t.modAmp k fun x => { x with kind := 0, count := 0, nosig := 0 }
    (s.writeOpen p row_GUARD_PCTL k v.toNat → bit v.toNat 0 = true → (∀ f ∈ needed, s.rd f ≠ 0) →
      exec (.pvalidWrite p c v) s = .next (s.written p row_GUARD_PCTL k v.toNat
        (if valid then s.wrRow row_GUARD_PCTL k v.toNat
          else (((s.wrRow row_GUARD_PCTL k v.toNat).wr (GUARD_PCTL_PVALID k) 1).wr (GUARD_PCTL_SRC k) 2).modAmp k fun x =>
            { x with dropValid := false, chain := { x.chain with coef := none, dt1 := 0, dt2 := 0 } })))
    ∧ (s.writeOpen p row_GUARD_PCTL k v.toNat → bit v.toNat 0 = true → (∃ f ∈ needed, s.rd f = 0) →
      exec (.pvalidWrite p c v) s = .next (State.turnedAway p s))
    ∧ (s.writeOpen p row_GUARD_PCTL k v.toNat → bit v.toNat 0 = false →
      exec (.pvalidWrite p c v) s = .next (s.written p row_GUARD_PCTL k v.toNat
        (if valid then (s.wrRow row_GUARD_PCTL k v.toNat).unprotect k else s.wrRow row_GUARD_PCTL k v.toNat)))
    ∧ (s.board.held = false → valid = true → s.rd (GUARD_BL_MMS k) ≠ 0 → s.rd (GUARD_KMS_KMS k) ≠ 0 →
      exec (.coefficientCompute c) s = .next (s.modAmp k fun x => { x with chain := { x.chain with coef := some (s.coefficients k) } }))
    ∧ (s.writeOpen p row_LINE_ZBASE k cap →
      exec (.zbaseCapture p c v) s = .next (s.written p row_LINE_ZBASE k cap
        (((clear (s.wrRow row_LINE_ZBASE k cap)).wr (LINE_LSTAT_CAPBUSY k) 1).modAmp k fun x => { x with capture := some (s.bc, []) })))
    ∧ (expired → base = (s.wr (LINE_LSTAT_CAPBUSY k) 0).modAmp k fun x => { x with capture := none }) ∧ (¬ expired → base = s)
    ∧ (s.board.held = false → base.pilotOn k = false → exec (.lineMeasurement c z) s = .next base)
    ∧ (∀ t l, s.board.held = false → base.pilotOn k = true → (base.amp k).capture = some (t, l) → (l ++ z.toList).length ≠ 10 →
      exec (.lineMeasurement c z) s = .next (shown.modAmp k fun x => { x with capture := some (t, l ++ z.toList) }))
    ∧ (∀ t l, s.board.held = false → base.pilotOn k = true → (base.amp k).capture = some (t, l) → (l ++ z.toList).length = 10 →
        (l ++ z.toList).sum % 10 ≠ 0 → ∃ u, exec (.lineMeasurement c z) s = .next u ∧ (u.amp k).capture = none ∧ u.on (LINE_LSTAT_CAPBUSY k) = false
          ∧ ∃ r, (r = (l ++ z.toList).sum / 10 ∨ r = (l ++ z.toList).sum / 10 + 1) ∧ u.rd (LINE_ZBASE_ZBASE k) = r % 2 ^ 31)
    ∧ (∀ t l, s.board.held = false → base.pilotOn k = true → (base.amp k).capture = some (t, l) → (l ++ z.toList).length = 10 →
        (l ++ z.toList).sum % 10 = 0 →
      exec (.lineMeasurement c z) s = .next (((shown.wr (LINE_ZBASE_ZBASE k) ((l ++ z.toList).sum / 10)).wr (LINE_LSTAT_CAPBUSY k) 0).modAmp k
        fun x => { x with capture := none, kind := 0, count := 0, nosig := 0 }))
    ∧ (s.board.held = false → base.pilotOn k = true → (base.amp k).capture = none → z = none →
      exec (.lineMeasurement c z) s = .next
        (let t := shown.modAmp k fun x => { x with kind := 0, count := 0, nosig := min 3 (x.nosig + 1) }
         if (base.amp k).nosig + 1 < 3 then t else t.lineEnter k 4 0))
    ∧ (∀ m, s.board.held = false → base.pilotOn k = true → (base.amp k).capture = none → z = some m →
      exec (.lineMeasurement c z) s = .next
        (let kd := shown.lineKind k m
         let n := if (base.amp k).kind = kd then min 3 ((base.amp k).count + 1) else 1
         let t := shown.modAmp k fun x => { x with kind := kd, count := if x.kind = kd then min 3 (x.count + 1) else 1, nosig := 0 }
         if n < 3 then t else if kd = 1 then t.lineEnter k 3 m else if kd = 2 then t.lineEnter k 4 m else t.lineEnter k 2 0))
    ∧ (s.board.held = false → (tget none s.bell.planOf k).isSome = true → s.ampState k = 0 ∨ s.ampState k = 1 →
        bit (s.rd (OVR_WAKE_SET (k / 32))) (k % 32) = true →
      exec (.wakeRetry c) s = .next ((s.wr (AMP_CMD_REQ k) 2).modAmp k fun x => { x with cmds := x.cmds ++ [(2, true)] }))

/-- Alarm inputs, plans and arming (R320, R321, R327, R328). -/
def Obligations.AlarmInputsAndPlans : Prop :=
  ∀ (p : Port) (i : Fin 16) (c : Fin 136) (lvl : Bool) (v : Word) (s : State),
    let done := s.on OVR_STAT_IMGDONE = true ∨ p = .image
    let ramps := bits v.toNat 8 8 ≠ 0 ∧ bits v.toNat 16 8 ≠ 0
    let armed := fun (on : Bool) (src : Nat) =>
      ((((s.wrRow row_OVR_CTRL 0 v.toNat).wr OVR_STAT_ARMED (b2n on)).wr OVR_STAT_SRC src).wr OVR_CTRL_ARM (b2n on)).evaluate none
    exec (.alarmPinChange i lvl) s = .next { s with bell := { s.bell with pins := setBit s.bell.pins i.val lvl } }
    ∧ (s.board.held = false → bit s.bell.pins i.val ≠ bit s.bell.deb i.val →
      exec (.alarmInputDebounced i) s = .next
        ({ s with bell := { s.bell with deb := setBit s.bell.deb i.val (bit s.bell.pins i.val) } }.evaluate (some 0)))
    ∧ (s.writeOpen p row_OVR_SWACT 0 v.toNat → done →
      exec (.swactWrite p v) s = .next (s.written p row_OVR_SWACT 0 v.toNat ((s.wr OVR_SWACT_ACT (bits v.toNat 0 16)).evaluate (some 1))))
    ∧ (s.writeOpen p row_OVR_RELEASE 0 v.toNat → done →
      exec (.releaseWrite p v) s = .next (s.written p row_OVR_RELEASE 0 v.toNat
        (((List.range 16).foldl (fun (t : State) q =>
          if bit v.toNat q && !t.asserted q && !bit (t.rd OVR_SWACT_ACT) q then t.wr (OVR_PSTAT_LATCHED q) 0 else t) s).evaluate (some 2))))
    ∧ (s.writeOpen p row_OVR_CTRL 0 v.toNat → done → ramps → bit v.toNat 0 = true → s.on OVR_CTRL_ARM = false →
      exec (.overrideArm p v) s = .next (s.written p row_OVR_CTRL 0 v.toNat (armed true (if p = .image then 1 else 2))))
    ∧ (s.writeOpen p row_OVR_CTRL 0 v.toNat → done → ramps → bit v.toNat 0 = false → s.on OVR_CTRL_ARM = true →
        s.rd OVR_ASTAT_ACTIVE = 0 →
      exec (.overrideArm p v) s = .next (s.written p row_OVR_CTRL 0 v.toNat (armed false 0)))
    ∧ (s.writeOpen p row_OVR_CTRL 0 v.toNat → done → ramps → bit v.toNat 0 = s.on OVR_CTRL_ARM →
      exec (.overrideArm p v) s = .next (s.written p row_OVR_CTRL 0 v.toNat (s.wrRow row_OVR_CTRL 0 v.toNat)))
    ∧ (s.writeOpen p row_OVR_CTRL 0 v.toNat → done → ramps → bit v.toNat 0 = false → s.on OVR_CTRL_ARM = true →
        s.rd OVR_ASTAT_ACTIVE ≠ 0 → exec (.overrideArm p v) s = .next (State.turnedAway p s))
    ∧ (s.writeOpen p row_OVR_SWACT 0 v.toNat → s.on OVR_STAT_IMGDONE = false → p ≠ .image →
      exec (.swactWrite p v) s = .next (State.turnedAway p s))
    ∧ (∀ f, s.board.held = false → (s.mixer c.val).fades.getLast? = some f → f.2.1 + f.2.2 ≤ s.fs * s.frame →
      exec (.overrideRampEnd c) s = .next (s.setMixer c.val ⟨f.1, []⟩))

/-- Bell players and DACs (R318, R319, R331 to R334). -/
def Obligations.BellPlayersAndDacs : Prop :=
  ∀ (p : Port) (d : Fin 8) (g : Fin 2) (x : Fin 24) (dev : Bool) (v : Word) (s : State),
    let done := s.on OVR_STAT_IMGDONE = true ∨ p = .image
    let go := withBits v 16 1 1
    let stop := withBits v 17 1 1
    let dac := s.dac d.val
    (s.writeOpen p row_BELL_PLAY d.val go → done →
      exec (.playGo p d v) s = .next (s.written p row_BELL_PLAY d.val go ((s.wrRow row_BELL_PLAY d.val go).modDac d.val fun q =>
        { q with go := some (bits v.toNat 0 8), stop := bit v.toNat 17 })))
    ∧ (s.writeOpen p row_BELL_PLAY d.val stop → done →
      exec (.playStop p d v) s = .next (s.written p row_BELL_PLAY d.val stop ((s.wrRow row_BELL_PLAY d.val stop).modDac d.val fun q =>
        { q with go := if bit v.toNat 16 then some (bits v.toNat 0 8) else none, stop := true })))
    ∧ (s.board.held = false → exec (.loadStrobe g) s = .next ((List.range 4).foldl (fun (t : State) i =>
        let k := 4 * g.val + i
        let q := t.dac k
        let t := match q.gain with
          | some v => (t.wr (BELL_GAIN_GAIN k) v).modDac k fun x =>
              { x with gain := none, eff := (t.now3, v, match q.eff.head? with | some e => e.2.2 | none => false) :: x.eff }
          | none => t
        let t := if q.stop then (t.stopAct (16 + k) t.thisSample).wr (BELL_STAT_PLAYING k) 0 else t
        let t := match q.go with | some w => t.startBell k w | none => t
        let t := t.modDac k fun x => { x with go := none, stop := false }
        if q.cfg then t.dacCfg k else t) s))
    ∧ (∀ a l, s.board.held = false → x.val < 16 → (s.player x.val).acts = a :: l → a.stop = none → s.rd (OVR_PSTAT_PHASE x.val) = 1 →
      exec (.playerEnd x) s = .next (if a.main = none then s.fallback x.val a.mainNo 0 false else s.wr (OVR_PSTAT_PHASE x.val) 2))
    ∧ (∀ a l w, s.board.held = false → 16 ≤ x.val → (s.player x.val).acts = a :: l → a.stop = none →
        s.on (BELL_STAT_PLAYING (x.val - 16)) = true → a.main = some w →
      exec (.playerEnd x) s = .next (let t := s.fire (832 + (x.val - 16)); if w.loop then t else t.wr (BELL_STAT_PLAYING (x.val - 16)) 0))
    ∧ (s.board.held = false → dac.range = none → s.rd (BELL_STAT_STATE d.val) = 1 →
      exec (.dacRampEnd d) s = .next (s.dacEnter d.val 2))
    ∧ (s.board.held = false → dac.range = none → dac.en = false → s.rd (BELL_STAT_STATE d.val) = 3 →
      exec (.dacRampEnd d) s = .next ((s.dacEnter d.val 0).wr (BELL_STAT_RANGE d.val) (s.rd (BELL_CFG_RANGE d.val))))
    ∧ (∀ r, s.board.held = false → dac.range = some r →
      (s.rd (BELL_STAT_STATE d.val) = 3 → exec (.dacRangeSwitch d) s = .next (s.dacEnter d.val 4))
      ∧ (s.rd (BELL_STAT_STATE d.val) = 4 → exec (.dacRangeSwitch d) s = .next ((s.wr (BELL_STAT_RANGE d.val) r).dacEnter d.val 1))
      ∧ (s.rd (BELL_STAT_STATE d.val) = 1 →
          exec (.dacRangeSwitch d) s = .next ((s.modDac d.val fun q => { q with range := none }).dacEnter d.val 2)))
    ∧ (s.board.held = false → dac.en = true → s.on BELL_PWR_STATE = true → s.integ.inj = none → dac.inj = 0 →
      exec (.dacMonitorMeasurement d dev) s = .next (s.modDac d.val fun q =>
        if !dev then { q with devs := 0, inj := 0 }
        else if dac.devs + 1 < 16 then { q with devs := dac.devs + 1, inj := 0 }
        else { q with devs := 0, inj := 0, fail := some false }))
    ∧ (s.writeOpen p row_BELL_SPCMD 0 (d.val + 2147483648) → done →
      exec (.spcmdGo p d) s = .next (s.written p row_BELL_SPCMD 0 (d.val + 2147483648) (s.wrRow row_BELL_SPCMD 0 (d.val + 2147483648))))
    ∧ (s.writeOpen p row_BELL_PWR 0 v.toNat → done →
      exec (.bellPowerWrite p v) s = .next (s.written p row_BELL_PWR 0 v.toNat
        ((List.range 8).foldl State.dacPower ((s.wr BELL_PWR_REQ (bits v.toNat 0 1)).wr BELL_PWR_STATE (bits v.toNat 0 1)))))

/-- Soft reset, release and boot (R399 to R405). -/
def Obligations.ResetReleaseAndBoot : Prop :=
  ∀ (p : Port) (boot : Fin 4) (w z : Bool) (key : List Byte) (flash : List (Nat × List Byte)) (s : State),
    let fl := flash.map fun q => (q.1, q.2.map BitVec.toNat)
    let kb := ((key.map BitVec.toNat) ++ List.replicate 32 0).take 32
    let next := fun (t : State) => (t.modBoard fun q => { q with phase := q.phase + 1 }).phaseLine (t.board.phase + 1)
    let dirB := fun (t : State) => match dirOf fl with | some (_, true) => t.wr SYS_BOOTSTAT_DIRB 1 | _ => t
    let end_ := Instr.bootPhaseEnd key flash
    (s.writeOpen p row_SYS_RSTCTL 0 (0x7680 + 2147483648) → exec (.softReset p) s = .next ((s.wholeReset 2).answerW true))
    ∧ (s.board.held = true → exec (.resetRelease boot w z) s = .next
        (let t := (List.range 256).foldl (fun (t : State) k => if k % 16 < 14 then t.inService k true else t.wr (CORECTL_CSTAT_STATE k) 1)
            (s.modBoard fun q => { q with held := false })
         let t := if t.rd SYS_RSTCAUSE_CAUSE = 4 then t
           else ((t.wr SYS_STRAP_BOOT boot.val).wr SYS_STRAP_WARDSEL (b2n w)).wr SYS_STRAP_SDOZ (b2n z)
         let t := if t.on SYS_STRAP_SDOZ then (List.range 64).foldl (fun (t : State) x => t.wr (SPORT_CFG_TXZ x) 1) t else t
         { t with bc := 0 }.refsStart))
    ∧ (s.board.held = false →
      (s.board.phase = 0 → exec end_ s = .next
        (next ((s.modBoard fun q => { q with key := kb }).wr SYS_BOOTSTAT_NOKEY (b2n (kb.all (· == 0))))))
      ∧ (s.board.phase = 1 → exec end_ s = .next (next { s with mem := [], poison := [] }))
      ∧ (s.board.phase = 2 → (∀ x < 32, s.rd (MODID_SSTAT_STATE x) ≠ 2) → exec end_ s = .next (next s))
      ∧ (s.board.phase = 3 → 2 ≤ s.rd SYS_STRAP_BOOT → exec end_ s = .next (next (s.wr SYS_BOOTSTAT_SAFETY imStrap)))
      ∧ (s.board.phase = 3 → s.rd SYS_STRAP_BOOT < 2 → dirOf fl = none → exec end_ s = .next (next (s.wr SYS_BOOTSTAT_SAFETY imFlash)))
      ∧ (∀ d b code slot n l, s.board.phase = 3 → s.rd SYS_STRAP_BOOT < 2 → dirOf fl = some (d, b) →
          chooseImage fl s.board.key d 0 = (code, slot, n, l) → exec end_ s = .next
          (let t := ((dirB s).wr SYS_BOOTSTAT_SAFETY code).wr SYS_BOOTSTAT_SSLOT slot
           next (if code = imApplied then t.applySafety (imageWords n 0 l) else t)))
      ∧ (s.board.phase = 4 → s.rd SYS_STRAP_BOOT ≠ 0 → exec end_ s = .next (next (s.wr SYS_BOOTSTAT_CONFIG imStrap)))
      ∧ (s.board.phase = 4 → s.rd SYS_STRAP_BOOT = 0 → dirOf fl = none → exec end_ s = .next (next (s.wr SYS_BOOTSTAT_CONFIG imFlash)))
      ∧ (∀ d b code slot n l, s.board.phase = 4 → s.rd SYS_STRAP_BOOT = 0 → dirOf fl = some (d, b) →
          chooseImage fl s.board.key d 1 = (code, slot, n, l) → exec end_ s = .next
          (let t := ((dirB s).wr SYS_BOOTSTAT_CONFIG code).wr SYS_BOOTSTAT_CSLOT slot
           next (if code = imApplied then t.applyConfig (imageWords n 0 l) else t)))
      ∧ (s.board.phase = 5 → exec end_ s = .next (next ((s.wr OVR_STAT_IMGDONE 1).wr SYS_BOOTSTAT_DONE 1))))

/-- Power requests, temperature, PERST, module slots (R408 to R413, R415, R416). -/
def Obligations.BoardEvents : Prop :=
  ∀ (p : Port) (v : Word) (tj : BitVec 10) (x : Fin 32) (rom : List Byte) (s : State),
    let hot := tj.toInt
    let seen := s.wr PWR_TEMP_TJ tj.toNat
    let base := (if sx 10 (seen.rd PWR_TEMP_TJHIGH) < hot then seen.wr PWR_TEMP_TJHIGH tj.toNat else seen).wr PWR_THERM_WARN
      (b2n (472 ≤ hot))
    let told := fun (t : State) (kind : Nat) => t.event 0x000B warden (leBytes (tj.signExtend 16).toNat 2 ++ leBytes kind 1)
    (s.writeOpen p row_PWR_CREQ 0 v.toNat → (∀ c < 16, bits v.toNat (2 * c) 2 ≠ 3) →
      exec (.clusterPowerRequest p v) s = .next (s.written p row_PWR_CREQ 0 v.toNat ((List.range 16).foldl (fun (t : State) c =>
        let q := bits v.toNat (2 * c) 2
        if q = t.rd (PWR_CREQ_REQ c) then t
        else
          let u := t.wr (PWR_CREQ_REQ c) q
          if q = u.power c then { u with pwr := { u.pwr with reqAt := tdel u.pwr.reqAt c } }.wr (PWR_CSTAT_STATE c) q
          else { u with pwr := { u.pwr with reqAt := tput 0 u.pwr.reqAt c u.bc } }.wr (PWR_CSTAT_STATE c) 3) s)))
    ∧ (s.writeOpen p row_PWR_CREQ 0 v.toNat → (∃ c < 16, bits v.toNat (2 * c) 2 = 3) →
      exec (.clusterPowerRequest p v) s = .next (State.turnedAway p s))
    ∧ (s.writeOpen p row_MODID_RESCAN 0 v.toNat →
      exec (.rescan p v) s = .next (s.written p row_MODID_RESCAN 0 v.toNat ((List.range 32).foldl (fun (t : State) y =>
        if bit v.toNat y = true ∧ t.rd (MODID_SSTAT_STATE y) ≠ 0 ∧ t.rd (MODID_SSTAT_STATE y) ≠ 1 then t.slotState y 2 else t) s)))
    ∧ (s.board.held = false →
      (∀ c, c = .thermWarn tj ∨ c = .thermTrip tj →
        (base.on PWR_THERM_TRIP = false → s.board.warned = false → 472 ≤ hot → hot < 500 → exec c s = .next
          (told ((base.modBoard fun q => { q with warned := true }).wr PWR_THERM_WARNEV 1) 0))
        ∧ (base.on PWR_THERM_TRIP = false → s.board.warned = true → 500 ≤ hot → exec c s = .next
          (told ((base.wr PWR_THERM_TRIP 1).wr PWR_THERM_TRIPEV 1) 1))
        ∧ (base.on PWR_THERM_TRIP = true → 460 ≤ hot → hot < 472 → exec c s = .next (told (base.wr PWR_THERM_TRIP 0) 2))
        ∧ (base.on PWR_THERM_TRIP = false → hot < 460 → exec c s = .next (base.modBoard fun q => { q with warned := false }))
        ∧ (base.on PWR_THERM_TRIP = true → s.board.warned = true → 480 ≤ hot → exec c s = .next base))
      ∧ exec .pciePerst s = .next (((List.range 256).foldl (fun (t : State) r =>
          if t.on (HOST_RCFG_LOC r) then t.wr (HOST_RCFG_EN r) 0 else t) s).fence 4)
      ∧ (s.rd (MODID_SSTAT_STATE x.val) = 0 → exec (.modulePresence x false) s = .next ((s.wr (MODID_SSTAT_PRES x.val) 1).slotState x.val 1))
      ∧ (s.rd (MODID_SSTAT_STATE x.val) = 1 → exec (.modulePresence x true) s = .next ((s.wr (MODID_SSTAT_PRES x.val) 1).slotState x.val 2))
      ∧ exec (.moduleRemoved x) s = .next ((s.wr (MODID_SSTAT_PRES x.val) 0).slotState x.val 0).conflicts
      ∧ (s.rd (MODID_SSTAT_STATE x.val) = 2 →
        exec (.descriptorReadDone x none) s = .next (s.slotState x.val 5).conflicts
        ∧ ((rom.map BitVec.toNat).take 4 ≠ [0x47, 0x4D, 0x44, 0x31] →
          exec (.descriptorReadDone x (some rom)) s = .next (s.slotState x.val 6).conflicts)))

/-- The UART's two queues (R417 to R419). -/
def Obligations.UartBytes : Prop :=
  ∀ (p : Port) (v : Word) (b : Byte) (s : State),
    let mine := (s.board.uart.filter fun e => !e.1).length
    let queue := fun (t : State) (q : List (Bool × Nat)) =>
      ((t.modBoard fun x => { x with uart := q }).wr SYS_UARTSTAT_TXFREE (64 - (q.filter fun e => !e.1).length)).wr SYS_UARTSTAT_TXBUSY
        (b2n !q.isEmpty)
    (s.writeOpen p row_SYS_UARTDATA 0 v.toNat → mine < 64 →
      exec (.uartWrite p v) s = .next (s.written p row_SYS_UARTDATA 0 v.toNat (queue s (s.board.uart ++ [(false, v.toNat % 256)]))))
    ∧ (s.writeOpen p row_SYS_UARTDATA 0 v.toNat → 64 ≤ mine →
      exec (.uartWrite p v) s = .next (s.written p row_SYS_UARTDATA 0 v.toNat (s.wr SYS_UARTSTAT_TXOVF 1)))
    ∧ (s.board.held = false →
      exec .uartByteSent s = .next (queue (s.modBoard fun x => { x with uart := s.board.uart.drop 1 }) (s.board.uart.drop 1))
      ∧ (s.board.uartRx.length < 64 → exec (.uartRxByte b) s = .next
          ((s.modBoard fun x => { x with uartRx := s.board.uartRx ++ [b.toNat] }).wr SYS_UARTSTAT_RXCOUNT (s.board.uartRx.length + 1)))
      ∧ (64 ≤ s.board.uartRx.length → exec (.uartRxByte b) s = .next (s.wr SYS_UARTSTAT_RXOVF 1))
      ∧ (s.mayReach (s.whoOf p) 0 false = true → s.integ.inj = none →
        (s.board.uartRx = [] → exec (.uartRead p) s = .next (s.answer (.ok [0])))
        ∧ (∀ x l, s.board.uartRx = x :: l → x < 256 → exec (.uartRead p) s = .next
            (((s.modBoard fun q => { q with uartRx := l }).wr SYS_UARTSTAT_RXCOUNT l.length).answer (.ok [BitVec.ofNat 32 (x + 256)])))))
end

