-- ==== Sys2Proof/Laws/Bits.lean ====
section
/-! SUPPORT. Bit fields: reading the bits of a number some of whose bits were set, and of a word made of fields. -/
namespace Sys2Proof.Machine

theorem bits_lt (x lo w : Nat) : bits x lo w < 2 ^ w := Nat.mod_lt _ (Nat.two_pow_pos w)

@[simp] theorem bits_mod (x lo w : Nat) : bits x lo w % 2 ^ w = bits x lo w := by simp [bits]

/-- A number as its low part, a field and the part above. -/
theorem bits_split (x lo w : Nat) : x = x % 2 ^ lo + 2 ^ lo * (bits x lo w + 2 ^ w * (x / 2 ^ (lo + w))) := by
  have h1 := Nat.mod_add_div x (2 ^ lo)
  have h2 := Nat.mod_add_div (x / 2 ^ lo) (2 ^ w)
  rw [Nat.div_div_eq_div_mul, ← Nat.pow_add] at h2
  rw [bits, h2, h1]

/-- The value after a field is replaced, in the same parts. -/
theorem withBits_split (v : Word) (lo w x : Nat) :
    withBits v lo w x = v.toNat % 2 ^ lo + 2 ^ lo * (x % 2 ^ w + 2 ^ w * (v.toNat / 2 ^ (lo + w))) := by
  have h := bits_split v.toNat lo w
  have hp := Nat.mul_comm (bits v.toNat lo w) (2 ^ lo)
  have hx := Nat.mul_comm (x % 2 ^ w) (2 ^ lo)
  simp only [withBits]
  generalize bits v.toNat lo w = m at *
  generalize v.toNat / 2 ^ (lo + w) = b at *
  generalize v.toNat % 2 ^ lo = a at *
  rw [Nat.mul_add] at h ⊢
  omega

theorem bits_parts (a m b lo w : Nat) (ha : a < 2 ^ lo) (hm : m < 2 ^ w) : bits (a + 2 ^ lo * (m + 2 ^ w * b)) lo w = m := by
  rw [bits, Nat.add_mul_div_left _ _ (Nat.two_pow_pos lo), Nat.div_eq_of_lt ha, Nat.zero_add,
    Nat.add_mul_mod_self_left, Nat.mod_eq_of_lt hm]

/-- The field that was set. -/
@[simp] theorem bits_withBits_same (v : Word) (lo w x : Nat) : bits (withBits v lo w x) lo w = x % 2 ^ w := by
  rw [withBits_split]
  exact bits_parts _ _ _ lo w (Nat.mod_lt _ (Nat.two_pow_pos lo)) (Nat.mod_lt _ (Nat.two_pow_pos w))

/-- A field above the one that was set. -/
theorem bits_withBits_above (v : Word) (lo w x lo' w' : Nat) (h : lo + w ≤ lo') : bits (withBits v lo w x) lo' w' = bits v.toNat lo' w' := by
  rw [withBits_split]
  obtain ⟨k, rfl⟩ := Nat.exists_eq_add_of_le h
  simp only [bits, Nat.pow_add, ← Nat.div_div_eq_div_mul]
  rw [Nat.add_mul_div_left _ _ (Nat.two_pow_pos lo), Nat.div_eq_of_lt (Nat.mod_lt _ (Nat.two_pow_pos lo)), Nat.zero_add,
    Nat.add_mul_div_left _ _ (Nat.two_pow_pos w), Nat.div_eq_of_lt (Nat.mod_lt _ (Nat.two_pow_pos w)), Nat.zero_add]

/-- A field below the one that was set. -/
theorem bits_withBits_below (v : Word) (lo w x lo' w' : Nat) (h : lo' + w' ≤ lo) : bits (withBits v lo w x) lo' w' = bits v.toNat lo' w' := by
  obtain ⟨k, rfl⟩ := Nat.exists_eq_add_of_le h
  have key : ∀ y : Nat, bits y lo' w' = bits (y % 2 ^ (lo' + w' + k)) lo' w' := by
    intro y
    have h1 : 2 ^ (lo' + w' + k) = 2 ^ lo' * (2 ^ w' * 2 ^ k) := by rw [Nat.pow_add, Nat.pow_add, Nat.mul_assoc]
    rw [bits, bits, h1, Nat.mod_mul_right_div_self, Nat.mod_mul_right_mod]
  rw [key, withBits_split, Nat.add_mul_mod_self_left, Nat.mod_mod, ← key]

/-- Setting bits of a 32-bit word leaves a 32-bit number. -/
theorem withBits_lt (v : Word) (lo w x : Nat) (h : lo + w ≤ 32) : withBits v lo w x < 2 ^ 32 := by
  have hv := v.isLt
  have h0 := bits_split v.toNat lo w
  have hm := bits_lt v.toNat lo w
  have hx := Nat.mod_lt x (Nat.two_pow_pos w)
  obtain ⟨k, hk⟩ := Nat.exists_eq_add_of_le h
  rw [withBits_split]
  have hb : v.toNat / 2 ^ (lo + w) < 2 ^ k := by
    rw [Nat.div_lt_iff_lt_mul (Nat.two_pow_pos _), ← Nat.pow_add, show k + (lo + w) = 32 by omega]; exact hv
  have ha := Nat.mod_lt v.toNat (Nat.two_pow_pos lo)
  generalize v.toNat / 2 ^ (lo + w) = b at *
  generalize v.toNat % 2 ^ lo = a at *
  generalize x % 2 ^ w = y at *
  have h1 : y + 2 ^ w * b < 2 ^ w * 2 ^ k := by
    have := Nat.mul_le_mul_left (2 ^ w) (Nat.succ_le_of_lt hb)
    rw [Nat.mul_succ] at this
    omega
  have h2 := Nat.mul_le_mul_left (2 ^ lo) (Nat.succ_le_of_lt h1)
  rw [Nat.mul_succ, ← Nat.pow_add, ← Nat.pow_add] at h2
  rw [hk, Nat.add_assoc]
  omega

@[simp] theorem toNat_withBits (v : Word) (lo w x : Nat) (h : lo + w ≤ 32) :
    (BitVec.ofNat 32 (withBits v lo w x)).toNat = withBits v lo w x := by
  rw [BitVec.toNat_ofNat, Nat.mod_eq_of_lt (withBits_lt v lo w x h)]

/-! ## Words made of fields -/

theorem bits_pack_first (w v : Nat) (l : List (Nat × Nat)) : bits (pack ((w, v) :: l)) 0 w = v % 2 ^ w := by
  simp [bits, pack, Nat.add_mul_mod_self_left]

theorem bits_pack_skip (w v : Nat) (l : List (Nat × Nat)) (lo n : Nat) (h : w ≤ lo) :
    bits (pack ((w, v) :: l)) lo n = bits (pack l) (lo - w) n := by
  obtain ⟨k, rfl⟩ := Nat.exists_eq_add_of_le h
  have hv : v % 2 ^ w < 2 ^ w := Nat.mod_lt _ (Nat.two_pow_pos w)
  simp only [bits, pack, Nat.add_sub_cancel_left]
  rw [Nat.pow_add, ← Nat.div_div_eq_div_mul, Nat.add_mul_div_left _ _ (Nat.two_pow_pos w), Nat.div_eq_of_lt hv, Nat.zero_add]

theorem pack_lt (l : List (Nat × Nat)) : pack l < 2 ^ (l.map Prod.fst).sum := by
  induction l with
  | nil => simp [pack]
  | cons q l ih =>
    obtain ⟨w, v⟩ := q
    have h : v % 2 ^ w < 2 ^ w := Nat.mod_lt _ (Nat.two_pow_pos w)
    simp only [pack, List.map_cons, List.sum_cons, Nat.pow_add]
    have := Nat.mul_le_mul_left (2 ^ w) (Nat.succ_le_of_lt ih)
    rw [Nat.mul_succ] at this
    omega

theorem toNat_pack (l : List (Nat × Nat)) (h : (l.map Prod.fst).sum = 64) : (BitVec.ofNat 64 (pack l)).toNat = pack l := by
  have := pack_lt l
  rw [h] at this
  rw [BitVec.toNat_ofNat, Nat.mod_eq_of_lt this]

end Sys2Proof.Machine
end

