-- ==== Sys2Proof/Laws/Tab.lean ====
section
/-! SUPPORT. Tables: what is read after an entry is set, and that setting an entry keeps the canonical form. -/
namespace Sys2Proof.Machine

variable {α : Type}

theorem tget_tdel_same (d : α) (t : Tab α) (k : Nat) : tget d (tdel t k) k = d := by
  induction t with
  | nil => rfl
  | cons q t ih =>
    obtain ⟨j, v⟩ := q
    by_cases h : j = k <;> simp [tdel, tget, h, ih]

theorem tget_tdel_other (d : α) (t : Tab α) {j k : Nat} (h : j ≠ k) : tget d (tdel t k) j = tget d t j := by
  induction t with
  | nil => rfl
  | cons q t ih =>
    obtain ⟨i, v⟩ := q
    by_cases hk : i = k
    · subst hk; simp [tdel, tget, ih, Ne.symm h]
    · by_cases hj : i = j
      · subst hj; simp [tdel, tget, hk]
      · simp [tdel, tget, hk, hj, ih]

theorem tget_tins_same (d : α) (t : Tab α) (k : Nat) (v : α) (h : ∀ q ∈ t, q.1 ≠ k) : tget d (tins t k v) k = v := by
  induction t with
  | nil => simp [tins, tget]
  | cons q t ih =>
    obtain ⟨j, w⟩ := q
    have hj : j ≠ k := h (j, w) (by simp)
    by_cases hk : k < j
    · simp [tins, tget, hk]
    · simp [tins, tget, hk, hj, ih fun q hq => h q (by simp [hq])]

theorem tget_tins_other (d : α) (t : Tab α) {j k : Nat} (v : α) (h : j ≠ k) : tget d (tins t k v) j = tget d t j := by
  induction t with
  | nil => simp [tins, tget, Ne.symm h]
  | cons q t ih =>
    obtain ⟨i, w⟩ := q
    by_cases hk : k < i
    · simp [tins, tget, hk, Ne.symm h]
    · by_cases hj : i = j
      · subst hj; simp [tins, tget, hk]
      · simp [tins, tget, hk, hj, ih]

theorem mem_tdel_ne (t : Tab α) (k : Nat) : ∀ q ∈ tdel t k, q.1 ≠ k := by
  induction t with
  | nil => simp [tdel]
  | cons q t ih =>
    obtain ⟨j, v⟩ := q
    by_cases h : j = k
    · simpa [tdel, h] using ih
    · intro q hq
      simp only [tdel, h, if_false, List.mem_cons] at hq
      rcases hq with rfl | hq
      · exact h
      · exact ih q hq

/-- Reading the key that was set. -/
@[simp] theorem tget_tput_same [DecidableEq α] (d : α) (t : Tab α) (k : Nat) (v : α) : tget d (tput d t k v) k = v := by
  unfold tput
  split
  · next h => rw [tget_tdel_same, h]
  · exact tget_tins_same d _ k v (mem_tdel_ne t k)

/-- Reading any other key, whatever default its reader names. -/
theorem tget_tput_other [DecidableEq α] (d e : α) (t : Tab α) {j k : Nat} (v : α) (h : j ≠ k) :
    tget d (tput e t k v) j = tget d t j := by
  unfold tput
  split
  · exact tget_tdel_other d t h
  · rw [tget_tins_other d _ v h, tget_tdel_other d t h]

theorem tdel_tdel (t : Tab α) (k : Nat) : tdel (tdel t k) k = tdel t k := by
  induction t with
  | nil => rfl
  | cons q t ih =>
    obtain ⟨j, v⟩ := q
    by_cases h : j = k <;> simp [tdel, h, ih]

theorem tdel_tins (t : Tab α) (k : Nat) (v : α) : tdel (tins t k v) k = tdel t k := by
  induction t with
  | nil => simp [tins, tdel]
  | cons q t ih =>
    obtain ⟨j, w⟩ := q
    by_cases hk : k < j
    · simp [tins, hk, tdel]
    · by_cases hj : j = k <;> simp [tins, hk, tdel, hj, ih]

/-- The later of two settings of one key stands. -/
@[simp] theorem tput_tput [DecidableEq α] (d : α) (t : Tab α) (k : Nat) (v w : α) : tput d (tput d t k v) k w = tput d t k w := by
  have h : tdel (tput d t k v) k = tdel t k := by
    unfold tput
    split
    · exact tdel_tdel t k
    · rw [tdel_tins, tdel_tdel]
  simp only [tput] at h ⊢
  rw [h]

/-! ## The canonical form -/

/-- The canonical form, as a property: keys rise, no entry holds the default. -/
theorem tabWf_iff [DecidableEq α] (d : α) (t : Tab α) :
    tabWf d t = true ↔ t.Pairwise (fun a b => a.1 < b.1) ∧ ∀ q ∈ t, q.2 ≠ d := by
  induction t with
  | nil => simp [tabWf]
  | cons q t ih =>
    obtain ⟨j, v⟩ := q
    cases t with
    | nil => simp [tabWf]
    | cons r t =>
      obtain ⟨k, w⟩ := r
      simp only [tabWf, Bool.and_eq_true, decide_eq_true_eq, ih]
      constructor
      · rintro ⟨⟨hv, hjk⟩, hp, ha⟩
        refine ⟨List.pairwise_cons.2 ⟨?_, hp⟩, ?_⟩
        · intro a ha'
          rcases List.mem_cons.1 ha' with rfl | h
          · exact hjk
          · exact Nat.lt_trans hjk ((List.pairwise_cons.1 hp).1 a h)
        · intro a h
          rcases List.mem_cons.1 h with rfl | h
          · exact hv
          · exact ha a h
      · rintro ⟨hp, ha⟩
        have hc := List.pairwise_cons.1 hp
        exact ⟨⟨ha (j, v) (by simp), hc.1 (k, w) (by simp)⟩, hc.2, fun a h => ha a (by simp [List.mem_cons.1 h])⟩

theorem mem_tdel_mem (t : Tab α) (k : Nat) : ∀ q ∈ tdel t k, q ∈ t := by
  induction t with
  | nil => simp [tdel]
  | cons q t ih =>
    obtain ⟨j, v⟩ := q
    intro q hq
    by_cases h : j = k
    · simp only [tdel, h, if_true] at hq
      exact List.mem_cons_of_mem _ (ih q hq)
    · simp only [tdel, h, if_false, List.mem_cons] at hq
      rcases hq with rfl | hq
      · simp
      · exact List.mem_cons_of_mem _ (ih q hq)

theorem pairwise_tdel (t : Tab α) (k : Nat) (h : t.Pairwise (fun a b => a.1 < b.1)) :
    (tdel t k).Pairwise (fun a b => a.1 < b.1) := by
  induction t with
  | nil => simp [tdel]
  | cons q t ih =>
    obtain ⟨j, v⟩ := q
    have hc := List.pairwise_cons.1 h
    by_cases hj : j = k
    · simp only [tdel, hj, if_true]
      exact ih hc.2
    · simp only [tdel, hj, if_false]
      exact List.pairwise_cons.2 ⟨fun a ha => hc.1 a (mem_tdel_mem t k a ha), ih hc.2⟩

theorem mem_tins (t : Tab α) (k : Nat) (v : α) : ∀ q ∈ tins t k v, q = (k, v) ∨ q ∈ t := by
  induction t with
  | nil => simp [tins]
  | cons q t ih =>
    obtain ⟨j, w⟩ := q
    intro q hq
    by_cases hk : k < j
    · simp only [tins, hk, if_true, List.mem_cons] at hq
      simpa using hq
    · simp only [tins, hk, if_false, List.mem_cons] at hq
      rcases hq with rfl | hq
      · simp
      · rcases ih q hq with h | h <;> simp [h]

theorem pairwise_tins (t : Tab α) (k : Nat) (v : α) (hk : ∀ q ∈ t, q.1 ≠ k) (h : t.Pairwise (fun a b => a.1 < b.1)) :
    (tins t k v).Pairwise (fun a b => a.1 < b.1) := by
  induction t with
  | nil => simp [tins]
  | cons q t ih =>
    obtain ⟨j, w⟩ := q
    have hc := List.pairwise_cons.1 h
    by_cases hj : k < j
    · simp only [tins, hj, if_true]
      refine List.pairwise_cons.2 ⟨?_, h⟩
      intro a ha
      rcases List.mem_cons.1 ha with rfl | ha
      · exact hj
      · exact Nat.lt_trans hj (hc.1 a ha)
    · simp only [tins, hj, if_false]
      refine List.pairwise_cons.2 ⟨?_, ih (fun q hq => hk q (by simp [hq])) hc.2⟩
      intro a ha
      have hne : j ≠ k := hk (j, w) (by simp)
      rcases mem_tins t k v a ha with rfl | ha
      · simp only; omega
      · exact hc.1 a ha

/-- Setting an entry keeps the canonical form. -/
theorem tabWf_tput [DecidableEq α] (d : α) (t : Tab α) (k : Nat) (v : α) (h : tabWf d t = true) : tabWf d (tput d t k v) = true := by
  rw [tabWf_iff] at h ⊢
  unfold tput
  split
  · exact ⟨pairwise_tdel t k h.1, fun q hq => h.2 q (mem_tdel_mem t k q hq)⟩
  · next hv =>
    refine ⟨pairwise_tins _ k v (mem_tdel_ne t k) (pairwise_tdel t k h.1), ?_⟩
    intro q hq
    rcases mem_tins _ k v q hq with rfl | hq
    · exact hv
    · exact h.2 q (mem_tdel_mem t k q hq)

end Sys2Proof.Machine
end

