-- ==== Sys2Proof/Laws/State.lean ====
section
/-! SUPPORT. What each basic update leaves as it was, field by field, and what a register field reads after another was written. -/
namespace Sys2Proof.Machine

@[simp] theorem State.wr_pending (s : State) (f : Fld) (v : Nat) : (s.wr f v).pending = s.pending := rfl
@[simp] theorem State.wr_staged (s : State) (f : Fld) (v : Nat) : (s.wr f v).staged = s.staged := rfl
@[simp] theorem State.wr_mem (s : State) (f : Fld) (v : Nat) : (s.wr f v).mem = s.mem := rfl
@[simp] theorem State.wr_hostMem (s : State) (f : Fld) (v : Nat) : (s.wr f v).hostMem = s.hostMem := rfl
@[simp] theorem State.wr_poison (s : State) (f : Fld) (v : Nat) : (s.wr f v).poison = s.poison := rfl
@[simp] theorem State.wr_n (s : State) (f : Fld) (v : Nat) : (s.wr f v).n = s.n := rfl
@[simp] theorem State.wr_window (s : State) (f : Fld) (v : Nat) : (s.wr f v).window = s.window := rfl
@[simp] theorem State.wr_bc (s : State) (f : Fld) (v : Nat) : (s.wr f v).bc = s.bc := rfl
@[simp] theorem State.wr_resp (s : State) (f : Fld) (v : Nat) : (s.wr f v).resp = s.resp := rfl
@[simp] theorem State.wr_fresh (s : State) (f : Fld) (v : Nat) : (s.wr f v).fresh = s.fresh := rfl
@[simp] theorem State.wr_sram (s : State) (f : Fld) (v : Nat) : (s.wr f v).sram = s.sram := rfl
@[simp] theorem State.wr_cores (s : State) (f : Fld) (v : Nat) : (s.wr f v).cores = s.cores := rfl
@[simp] theorem State.wr_ctxs (s : State) (f : Fld) (v : Nat) : (s.wr f v).ctxs = s.ctxs := rfl
@[simp] theorem State.wr_disp (s : State) (f : Fld) (v : Nat) : (s.wr f v).disp = s.disp := rfl
@[simp] theorem State.wr_integ (s : State) (f : Fld) (v : Nat) : (s.wr f v).integ = s.integ := rfl
@[simp] theorem State.wr_host (s : State) (f : Fld) (v : Nat) : (s.wr f v).host = s.host := rfl
@[simp] theorem State.wr_epoch (s : State) (f : Fld) (v : Nat) : (s.wr f v).epoch = s.epoch := rfl
@[simp] theorem State.wr_pwr (s : State) (f : Fld) (v : Nat) : (s.wr f v).pwr = s.pwr := rfl
@[simp] theorem State.wr_route (s : State) (f : Fld) (v : Nat) : (s.wr f v).route = s.route := rfl
@[simp] theorem State.wr_memt (s : State) (f : Fld) (v : Nat) : (s.wr f v).memt = s.memt := rfl
@[simp] theorem State.wr_io (s : State) (f : Fld) (v : Nat) : (s.wr f v).io = s.io := rfl
@[simp] theorem State.wr_net (s : State) (f : Fld) (v : Nat) : (s.wr f v).net = s.net := rfl
@[simp] theorem State.wr_refs (s : State) (f : Fld) (v : Nat) : (s.wr f v).refs = s.refs := rfl
@[simp] theorem State.wr_amps (s : State) (f : Fld) (v : Nat) : (s.wr f v).amps = s.amps := rfl
@[simp] theorem State.wr_bell (s : State) (f : Fld) (v : Nat) : (s.wr f v).bell = s.bell := rfl
@[simp] theorem State.wr_pair (s : State) (f : Fld) (v : Nat) : (s.wr f v).pair = s.pair := rfl
@[simp] theorem State.wr_board (s : State) (f : Fld) (v : Nat) : (s.wr f v).board = s.board := rfl

@[simp] theorem State.core_wr (s : State) (f : Fld) (v : Nat) (j : Nat) : (s.wr f v).core j = s.core j := rfl
@[simp] theorem State.ctx_wr (s : State) (f : Fld) (v : Nat) (j : Nat) : (s.wr f v).ctx j = s.ctx j := rfl

@[simp] theorem State.inc_pending (s : State) (f : Fld) (v : Nat) : (s.inc f v).pending = s.pending := rfl
@[simp] theorem State.inc_staged (s : State) (f : Fld) (v : Nat) : (s.inc f v).staged = s.staged := rfl
@[simp] theorem State.inc_mem (s : State) (f : Fld) (v : Nat) : (s.inc f v).mem = s.mem := rfl
@[simp] theorem State.inc_hostMem (s : State) (f : Fld) (v : Nat) : (s.inc f v).hostMem = s.hostMem := rfl
@[simp] theorem State.inc_poison (s : State) (f : Fld) (v : Nat) : (s.inc f v).poison = s.poison := rfl
@[simp] theorem State.inc_n (s : State) (f : Fld) (v : Nat) : (s.inc f v).n = s.n := rfl
@[simp] theorem State.inc_window (s : State) (f : Fld) (v : Nat) : (s.inc f v).window = s.window := rfl
@[simp] theorem State.inc_bc (s : State) (f : Fld) (v : Nat) : (s.inc f v).bc = s.bc := rfl
@[simp] theorem State.inc_resp (s : State) (f : Fld) (v : Nat) : (s.inc f v).resp = s.resp := rfl
@[simp] theorem State.inc_fresh (s : State) (f : Fld) (v : Nat) : (s.inc f v).fresh = s.fresh := rfl
@[simp] theorem State.inc_sram (s : State) (f : Fld) (v : Nat) : (s.inc f v).sram = s.sram := rfl
@[simp] theorem State.inc_cores (s : State) (f : Fld) (v : Nat) : (s.inc f v).cores = s.cores := rfl
@[simp] theorem State.inc_ctxs (s : State) (f : Fld) (v : Nat) : (s.inc f v).ctxs = s.ctxs := rfl
@[simp] theorem State.inc_disp (s : State) (f : Fld) (v : Nat) : (s.inc f v).disp = s.disp := rfl
@[simp] theorem State.inc_integ (s : State) (f : Fld) (v : Nat) : (s.inc f v).integ = s.integ := rfl
@[simp] theorem State.inc_host (s : State) (f : Fld) (v : Nat) : (s.inc f v).host = s.host := rfl
@[simp] theorem State.inc_epoch (s : State) (f : Fld) (v : Nat) : (s.inc f v).epoch = s.epoch := rfl
@[simp] theorem State.inc_pwr (s : State) (f : Fld) (v : Nat) : (s.inc f v).pwr = s.pwr := rfl
@[simp] theorem State.inc_route (s : State) (f : Fld) (v : Nat) : (s.inc f v).route = s.route := rfl
@[simp] theorem State.inc_memt (s : State) (f : Fld) (v : Nat) : (s.inc f v).memt = s.memt := rfl
@[simp] theorem State.inc_io (s : State) (f : Fld) (v : Nat) : (s.inc f v).io = s.io := rfl
@[simp] theorem State.inc_net (s : State) (f : Fld) (v : Nat) : (s.inc f v).net = s.net := rfl
@[simp] theorem State.inc_refs (s : State) (f : Fld) (v : Nat) : (s.inc f v).refs = s.refs := rfl
@[simp] theorem State.inc_amps (s : State) (f : Fld) (v : Nat) : (s.inc f v).amps = s.amps := rfl
@[simp] theorem State.inc_bell (s : State) (f : Fld) (v : Nat) : (s.inc f v).bell = s.bell := rfl
@[simp] theorem State.inc_pair (s : State) (f : Fld) (v : Nat) : (s.inc f v).pair = s.pair := rfl
@[simp] theorem State.inc_board (s : State) (f : Fld) (v : Nat) : (s.inc f v).board = s.board := rfl

@[simp] theorem State.core_inc (s : State) (f : Fld) (v : Nat) (j : Nat) : (s.inc f v).core j = s.core j := rfl
@[simp] theorem State.ctx_inc (s : State) (f : Fld) (v : Nat) (j : Nat) : (s.inc f v).ctx j = s.ctx j := rfl

@[simp] theorem State.incSat_pending (s : State) (f : Fld) (v : Nat) : (s.incSat f v).pending = s.pending := rfl
@[simp] theorem State.incSat_staged (s : State) (f : Fld) (v : Nat) : (s.incSat f v).staged = s.staged := rfl
@[simp] theorem State.incSat_mem (s : State) (f : Fld) (v : Nat) : (s.incSat f v).mem = s.mem := rfl
@[simp] theorem State.incSat_hostMem (s : State) (f : Fld) (v : Nat) : (s.incSat f v).hostMem = s.hostMem := rfl
@[simp] theorem State.incSat_poison (s : State) (f : Fld) (v : Nat) : (s.incSat f v).poison = s.poison := rfl
@[simp] theorem State.incSat_n (s : State) (f : Fld) (v : Nat) : (s.incSat f v).n = s.n := rfl
@[simp] theorem State.incSat_window (s : State) (f : Fld) (v : Nat) : (s.incSat f v).window = s.window := rfl
@[simp] theorem State.incSat_bc (s : State) (f : Fld) (v : Nat) : (s.incSat f v).bc = s.bc := rfl
@[simp] theorem State.incSat_resp (s : State) (f : Fld) (v : Nat) : (s.incSat f v).resp = s.resp := rfl
@[simp] theorem State.incSat_fresh (s : State) (f : Fld) (v : Nat) : (s.incSat f v).fresh = s.fresh := rfl
@[simp] theorem State.incSat_sram (s : State) (f : Fld) (v : Nat) : (s.incSat f v).sram = s.sram := rfl
@[simp] theorem State.incSat_cores (s : State) (f : Fld) (v : Nat) : (s.incSat f v).cores = s.cores := rfl
@[simp] theorem State.incSat_ctxs (s : State) (f : Fld) (v : Nat) : (s.incSat f v).ctxs = s.ctxs := rfl
@[simp] theorem State.incSat_disp (s : State) (f : Fld) (v : Nat) : (s.incSat f v).disp = s.disp := rfl
@[simp] theorem State.incSat_integ (s : State) (f : Fld) (v : Nat) : (s.incSat f v).integ = s.integ := rfl
@[simp] theorem State.incSat_host (s : State) (f : Fld) (v : Nat) : (s.incSat f v).host = s.host := rfl
@[simp] theorem State.incSat_epoch (s : State) (f : Fld) (v : Nat) : (s.incSat f v).epoch = s.epoch := rfl
@[simp] theorem State.incSat_pwr (s : State) (f : Fld) (v : Nat) : (s.incSat f v).pwr = s.pwr := rfl
@[simp] theorem State.incSat_route (s : State) (f : Fld) (v : Nat) : (s.incSat f v).route = s.route := rfl
@[simp] theorem State.incSat_memt (s : State) (f : Fld) (v : Nat) : (s.incSat f v).memt = s.memt := rfl
@[simp] theorem State.incSat_io (s : State) (f : Fld) (v : Nat) : (s.incSat f v).io = s.io := rfl
@[simp] theorem State.incSat_net (s : State) (f : Fld) (v : Nat) : (s.incSat f v).net = s.net := rfl
@[simp] theorem State.incSat_refs (s : State) (f : Fld) (v : Nat) : (s.incSat f v).refs = s.refs := rfl
@[simp] theorem State.incSat_amps (s : State) (f : Fld) (v : Nat) : (s.incSat f v).amps = s.amps := rfl
@[simp] theorem State.incSat_bell (s : State) (f : Fld) (v : Nat) : (s.incSat f v).bell = s.bell := rfl
@[simp] theorem State.incSat_pair (s : State) (f : Fld) (v : Nat) : (s.incSat f v).pair = s.pair := rfl
@[simp] theorem State.incSat_board (s : State) (f : Fld) (v : Nat) : (s.incSat f v).board = s.board := rfl

@[simp] theorem State.core_incSat (s : State) (f : Fld) (v : Nat) (j : Nat) : (s.incSat f v).core j = s.core j := rfl
@[simp] theorem State.ctx_incSat (s : State) (f : Fld) (v : Nat) (j : Nat) : (s.incSat f v).ctx j = s.ctx j := rfl

@[simp] theorem State.stage_pending (s : State) (f : Fld) (v : Nat) : (s.stage f v).pending = s.pending := rfl
@[simp] theorem State.stage_flds (s : State) (f : Fld) (v : Nat) : (s.stage f v).flds = s.flds := rfl
@[simp] theorem State.stage_mem (s : State) (f : Fld) (v : Nat) : (s.stage f v).mem = s.mem := rfl
@[simp] theorem State.stage_hostMem (s : State) (f : Fld) (v : Nat) : (s.stage f v).hostMem = s.hostMem := rfl
@[simp] theorem State.stage_poison (s : State) (f : Fld) (v : Nat) : (s.stage f v).poison = s.poison := rfl
@[simp] theorem State.stage_n (s : State) (f : Fld) (v : Nat) : (s.stage f v).n = s.n := rfl
@[simp] theorem State.stage_window (s : State) (f : Fld) (v : Nat) : (s.stage f v).window = s.window := rfl
@[simp] theorem State.stage_bc (s : State) (f : Fld) (v : Nat) : (s.stage f v).bc = s.bc := rfl
@[simp] theorem State.stage_resp (s : State) (f : Fld) (v : Nat) : (s.stage f v).resp = s.resp := rfl
@[simp] theorem State.stage_fresh (s : State) (f : Fld) (v : Nat) : (s.stage f v).fresh = s.fresh := rfl
@[simp] theorem State.stage_sram (s : State) (f : Fld) (v : Nat) : (s.stage f v).sram = s.sram := rfl
@[simp] theorem State.stage_cores (s : State) (f : Fld) (v : Nat) : (s.stage f v).cores = s.cores := rfl
@[simp] theorem State.stage_ctxs (s : State) (f : Fld) (v : Nat) : (s.stage f v).ctxs = s.ctxs := rfl
@[simp] theorem State.stage_disp (s : State) (f : Fld) (v : Nat) : (s.stage f v).disp = s.disp := rfl
@[simp] theorem State.stage_integ (s : State) (f : Fld) (v : Nat) : (s.stage f v).integ = s.integ := rfl
@[simp] theorem State.stage_host (s : State) (f : Fld) (v : Nat) : (s.stage f v).host = s.host := rfl
@[simp] theorem State.stage_epoch (s : State) (f : Fld) (v : Nat) : (s.stage f v).epoch = s.epoch := rfl
@[simp] theorem State.stage_pwr (s : State) (f : Fld) (v : Nat) : (s.stage f v).pwr = s.pwr := rfl
@[simp] theorem State.stage_route (s : State) (f : Fld) (v : Nat) : (s.stage f v).route = s.route := rfl
@[simp] theorem State.stage_memt (s : State) (f : Fld) (v : Nat) : (s.stage f v).memt = s.memt := rfl
@[simp] theorem State.stage_io (s : State) (f : Fld) (v : Nat) : (s.stage f v).io = s.io := rfl
@[simp] theorem State.stage_net (s : State) (f : Fld) (v : Nat) : (s.stage f v).net = s.net := rfl
@[simp] theorem State.stage_refs (s : State) (f : Fld) (v : Nat) : (s.stage f v).refs = s.refs := rfl
@[simp] theorem State.stage_amps (s : State) (f : Fld) (v : Nat) : (s.stage f v).amps = s.amps := rfl
@[simp] theorem State.stage_bell (s : State) (f : Fld) (v : Nat) : (s.stage f v).bell = s.bell := rfl
@[simp] theorem State.stage_pair (s : State) (f : Fld) (v : Nat) : (s.stage f v).pair = s.pair := rfl
@[simp] theorem State.stage_board (s : State) (f : Fld) (v : Nat) : (s.stage f v).board = s.board := rfl

@[simp] theorem State.rd_stage (s : State) (f : Fld) (v : Nat) (g : Fld) : (s.stage f v).rd g = s.rd g := rfl
@[simp] theorem State.on_stage (s : State) (f : Fld) (v : Nat) (g : Fld) : (s.stage f v).on g = s.on g := rfl
@[simp] theorem State.core_stage (s : State) (f : Fld) (v : Nat) (j : Nat) : (s.stage f v).core j = s.core j := rfl
@[simp] theorem State.ctx_stage (s : State) (f : Fld) (v : Nat) (j : Nat) : (s.stage f v).ctx j = s.ctx j := rfl

@[simp] theorem State.setCore_pending (s : State) (k : Nat) (c : Core) : (s.setCore k c).pending = s.pending := rfl
@[simp] theorem State.setCore_flds (s : State) (k : Nat) (c : Core) : (s.setCore k c).flds = s.flds := rfl
@[simp] theorem State.setCore_staged (s : State) (k : Nat) (c : Core) : (s.setCore k c).staged = s.staged := rfl
@[simp] theorem State.setCore_mem (s : State) (k : Nat) (c : Core) : (s.setCore k c).mem = s.mem := rfl
@[simp] theorem State.setCore_hostMem (s : State) (k : Nat) (c : Core) : (s.setCore k c).hostMem = s.hostMem := rfl
@[simp] theorem State.setCore_poison (s : State) (k : Nat) (c : Core) : (s.setCore k c).poison = s.poison := rfl
@[simp] theorem State.setCore_n (s : State) (k : Nat) (c : Core) : (s.setCore k c).n = s.n := rfl
@[simp] theorem State.setCore_window (s : State) (k : Nat) (c : Core) : (s.setCore k c).window = s.window := rfl
@[simp] theorem State.setCore_bc (s : State) (k : Nat) (c : Core) : (s.setCore k c).bc = s.bc := rfl
@[simp] theorem State.setCore_resp (s : State) (k : Nat) (c : Core) : (s.setCore k c).resp = s.resp := rfl
@[simp] theorem State.setCore_fresh (s : State) (k : Nat) (c : Core) : (s.setCore k c).fresh = s.fresh := rfl
@[simp] theorem State.setCore_sram (s : State) (k : Nat) (c : Core) : (s.setCore k c).sram = s.sram := rfl
@[simp] theorem State.setCore_ctxs (s : State) (k : Nat) (c : Core) : (s.setCore k c).ctxs = s.ctxs := rfl
@[simp] theorem State.setCore_disp (s : State) (k : Nat) (c : Core) : (s.setCore k c).disp = s.disp := rfl
@[simp] theorem State.setCore_integ (s : State) (k : Nat) (c : Core) : (s.setCore k c).integ = s.integ := rfl
@[simp] theorem State.setCore_host (s : State) (k : Nat) (c : Core) : (s.setCore k c).host = s.host := rfl
@[simp] theorem State.setCore_epoch (s : State) (k : Nat) (c : Core) : (s.setCore k c).epoch = s.epoch := rfl
@[simp] theorem State.setCore_pwr (s : State) (k : Nat) (c : Core) : (s.setCore k c).pwr = s.pwr := rfl
@[simp] theorem State.setCore_route (s : State) (k : Nat) (c : Core) : (s.setCore k c).route = s.route := rfl
@[simp] theorem State.setCore_memt (s : State) (k : Nat) (c : Core) : (s.setCore k c).memt = s.memt := rfl
@[simp] theorem State.setCore_io (s : State) (k : Nat) (c : Core) : (s.setCore k c).io = s.io := rfl
@[simp] theorem State.setCore_net (s : State) (k : Nat) (c : Core) : (s.setCore k c).net = s.net := rfl
@[simp] theorem State.setCore_refs (s : State) (k : Nat) (c : Core) : (s.setCore k c).refs = s.refs := rfl
@[simp] theorem State.setCore_amps (s : State) (k : Nat) (c : Core) : (s.setCore k c).amps = s.amps := rfl
@[simp] theorem State.setCore_bell (s : State) (k : Nat) (c : Core) : (s.setCore k c).bell = s.bell := rfl
@[simp] theorem State.setCore_pair (s : State) (k : Nat) (c : Core) : (s.setCore k c).pair = s.pair := rfl
@[simp] theorem State.setCore_board (s : State) (k : Nat) (c : Core) : (s.setCore k c).board = s.board := rfl

@[simp] theorem State.rd_setCore (s : State) (k : Nat) (c : Core) (g : Fld) : (s.setCore k c).rd g = s.rd g := rfl
@[simp] theorem State.on_setCore (s : State) (k : Nat) (c : Core) (g : Fld) : (s.setCore k c).on g = s.on g := rfl
@[simp] theorem State.ctx_setCore (s : State) (k : Nat) (c : Core) (j : Nat) : (s.setCore k c).ctx j = s.ctx j := rfl

@[simp] theorem State.modCore_pending (s : State) (k : Nat) (f : Core → Core) : (s.modCore k f).pending = s.pending := rfl
@[simp] theorem State.modCore_flds (s : State) (k : Nat) (f : Core → Core) : (s.modCore k f).flds = s.flds := rfl
@[simp] theorem State.modCore_staged (s : State) (k : Nat) (f : Core → Core) : (s.modCore k f).staged = s.staged := rfl
@[simp] theorem State.modCore_mem (s : State) (k : Nat) (f : Core → Core) : (s.modCore k f).mem = s.mem := rfl
@[simp] theorem State.modCore_hostMem (s : State) (k : Nat) (f : Core → Core) : (s.modCore k f).hostMem = s.hostMem := rfl
@[simp] theorem State.modCore_poison (s : State) (k : Nat) (f : Core → Core) : (s.modCore k f).poison = s.poison := rfl
@[simp] theorem State.modCore_n (s : State) (k : Nat) (f : Core → Core) : (s.modCore k f).n = s.n := rfl
@[simp] theorem State.modCore_window (s : State) (k : Nat) (f : Core → Core) : (s.modCore k f).window = s.window := rfl
@[simp] theorem State.modCore_bc (s : State) (k : Nat) (f : Core → Core) : (s.modCore k f).bc = s.bc := rfl
@[simp] theorem State.modCore_resp (s : State) (k : Nat) (f : Core → Core) : (s.modCore k f).resp = s.resp := rfl
@[simp] theorem State.modCore_fresh (s : State) (k : Nat) (f : Core → Core) : (s.modCore k f).fresh = s.fresh := rfl
@[simp] theorem State.modCore_sram (s : State) (k : Nat) (f : Core → Core) : (s.modCore k f).sram = s.sram := rfl
@[simp] theorem State.modCore_ctxs (s : State) (k : Nat) (f : Core → Core) : (s.modCore k f).ctxs = s.ctxs := rfl
@[simp] theorem State.modCore_disp (s : State) (k : Nat) (f : Core → Core) : (s.modCore k f).disp = s.disp := rfl
@[simp] theorem State.modCore_integ (s : State) (k : Nat) (f : Core → Core) : (s.modCore k f).integ = s.integ := rfl
@[simp] theorem State.modCore_host (s : State) (k : Nat) (f : Core → Core) : (s.modCore k f).host = s.host := rfl
@[simp] theorem State.modCore_epoch (s : State) (k : Nat) (f : Core → Core) : (s.modCore k f).epoch = s.epoch := rfl
@[simp] theorem State.modCore_pwr (s : State) (k : Nat) (f : Core → Core) : (s.modCore k f).pwr = s.pwr := rfl
@[simp] theorem State.modCore_route (s : State) (k : Nat) (f : Core → Core) : (s.modCore k f).route = s.route := rfl
@[simp] theorem State.modCore_memt (s : State) (k : Nat) (f : Core → Core) : (s.modCore k f).memt = s.memt := rfl
@[simp] theorem State.modCore_io (s : State) (k : Nat) (f : Core → Core) : (s.modCore k f).io = s.io := rfl
@[simp] theorem State.modCore_net (s : State) (k : Nat) (f : Core → Core) : (s.modCore k f).net = s.net := rfl
@[simp] theorem State.modCore_refs (s : State) (k : Nat) (f : Core → Core) : (s.modCore k f).refs = s.refs := rfl
@[simp] theorem State.modCore_amps (s : State) (k : Nat) (f : Core → Core) : (s.modCore k f).amps = s.amps := rfl
@[simp] theorem State.modCore_bell (s : State) (k : Nat) (f : Core → Core) : (s.modCore k f).bell = s.bell := rfl
@[simp] theorem State.modCore_pair (s : State) (k : Nat) (f : Core → Core) : (s.modCore k f).pair = s.pair := rfl
@[simp] theorem State.modCore_board (s : State) (k : Nat) (f : Core → Core) : (s.modCore k f).board = s.board := rfl

@[simp] theorem State.rd_modCore (s : State) (k : Nat) (f : Core → Core) (g : Fld) : (s.modCore k f).rd g = s.rd g := rfl
@[simp] theorem State.on_modCore (s : State) (k : Nat) (f : Core → Core) (g : Fld) : (s.modCore k f).on g = s.on g := rfl
@[simp] theorem State.ctx_modCore (s : State) (k : Nat) (f : Core → Core) (j : Nat) : (s.modCore k f).ctx j = s.ctx j := rfl

@[simp] theorem State.setCtx_pending (s : State) (k : Nat) (c : Ctx) : (s.setCtx k c).pending = s.pending := rfl
@[simp] theorem State.setCtx_flds (s : State) (k : Nat) (c : Ctx) : (s.setCtx k c).flds = s.flds := rfl
@[simp] theorem State.setCtx_staged (s : State) (k : Nat) (c : Ctx) : (s.setCtx k c).staged = s.staged := rfl
@[simp] theorem State.setCtx_mem (s : State) (k : Nat) (c : Ctx) : (s.setCtx k c).mem = s.mem := rfl
@[simp] theorem State.setCtx_hostMem (s : State) (k : Nat) (c : Ctx) : (s.setCtx k c).hostMem = s.hostMem := rfl
@[simp] theorem State.setCtx_poison (s : State) (k : Nat) (c : Ctx) : (s.setCtx k c).poison = s.poison := rfl
@[simp] theorem State.setCtx_n (s : State) (k : Nat) (c : Ctx) : (s.setCtx k c).n = s.n := rfl
@[simp] theorem State.setCtx_window (s : State) (k : Nat) (c : Ctx) : (s.setCtx k c).window = s.window := rfl
@[simp] theorem State.setCtx_bc (s : State) (k : Nat) (c : Ctx) : (s.setCtx k c).bc = s.bc := rfl
@[simp] theorem State.setCtx_resp (s : State) (k : Nat) (c : Ctx) : (s.setCtx k c).resp = s.resp := rfl
@[simp] theorem State.setCtx_fresh (s : State) (k : Nat) (c : Ctx) : (s.setCtx k c).fresh = s.fresh := rfl
@[simp] theorem State.setCtx_sram (s : State) (k : Nat) (c : Ctx) : (s.setCtx k c).sram = s.sram := rfl
@[simp] theorem State.setCtx_cores (s : State) (k : Nat) (c : Ctx) : (s.setCtx k c).cores = s.cores := rfl
@[simp] theorem State.setCtx_disp (s : State) (k : Nat) (c : Ctx) : (s.setCtx k c).disp = s.disp := rfl
@[simp] theorem State.setCtx_integ (s : State) (k : Nat) (c : Ctx) : (s.setCtx k c).integ = s.integ := rfl
@[simp] theorem State.setCtx_host (s : State) (k : Nat) (c : Ctx) : (s.setCtx k c).host = s.host := rfl
@[simp] theorem State.setCtx_epoch (s : State) (k : Nat) (c : Ctx) : (s.setCtx k c).epoch = s.epoch := rfl
@[simp] theorem State.setCtx_pwr (s : State) (k : Nat) (c : Ctx) : (s.setCtx k c).pwr = s.pwr := rfl
@[simp] theorem State.setCtx_route (s : State) (k : Nat) (c : Ctx) : (s.setCtx k c).route = s.route := rfl
@[simp] theorem State.setCtx_memt (s : State) (k : Nat) (c : Ctx) : (s.setCtx k c).memt = s.memt := rfl
@[simp] theorem State.setCtx_io (s : State) (k : Nat) (c : Ctx) : (s.setCtx k c).io = s.io := rfl
@[simp] theorem State.setCtx_net (s : State) (k : Nat) (c : Ctx) : (s.setCtx k c).net = s.net := rfl
@[simp] theorem State.setCtx_refs (s : State) (k : Nat) (c : Ctx) : (s.setCtx k c).refs = s.refs := rfl
@[simp] theorem State.setCtx_amps (s : State) (k : Nat) (c : Ctx) : (s.setCtx k c).amps = s.amps := rfl
@[simp] theorem State.setCtx_bell (s : State) (k : Nat) (c : Ctx) : (s.setCtx k c).bell = s.bell := rfl
@[simp] theorem State.setCtx_pair (s : State) (k : Nat) (c : Ctx) : (s.setCtx k c).pair = s.pair := rfl
@[simp] theorem State.setCtx_board (s : State) (k : Nat) (c : Ctx) : (s.setCtx k c).board = s.board := rfl

@[simp] theorem State.rd_setCtx (s : State) (k : Nat) (c : Ctx) (g : Fld) : (s.setCtx k c).rd g = s.rd g := rfl
@[simp] theorem State.on_setCtx (s : State) (k : Nat) (c : Ctx) (g : Fld) : (s.setCtx k c).on g = s.on g := rfl
@[simp] theorem State.core_setCtx (s : State) (k : Nat) (c : Ctx) (j : Nat) : (s.setCtx k c).core j = s.core j := rfl

@[simp] theorem State.modCtx_pending (s : State) (k : Nat) (f : Ctx → Ctx) : (s.modCtx k f).pending = s.pending := rfl
@[simp] theorem State.modCtx_flds (s : State) (k : Nat) (f : Ctx → Ctx) : (s.modCtx k f).flds = s.flds := rfl
@[simp] theorem State.modCtx_staged (s : State) (k : Nat) (f : Ctx → Ctx) : (s.modCtx k f).staged = s.staged := rfl
@[simp] theorem State.modCtx_mem (s : State) (k : Nat) (f : Ctx → Ctx) : (s.modCtx k f).mem = s.mem := rfl
@[simp] theorem State.modCtx_hostMem (s : State) (k : Nat) (f : Ctx → Ctx) : (s.modCtx k f).hostMem = s.hostMem := rfl
@[simp] theorem State.modCtx_poison (s : State) (k : Nat) (f : Ctx → Ctx) : (s.modCtx k f).poison = s.poison := rfl
@[simp] theorem State.modCtx_n (s : State) (k : Nat) (f : Ctx → Ctx) : (s.modCtx k f).n = s.n := rfl
@[simp] theorem State.modCtx_window (s : State) (k : Nat) (f : Ctx → Ctx) : (s.modCtx k f).window = s.window := rfl
@[simp] theorem State.modCtx_bc (s : State) (k : Nat) (f : Ctx → Ctx) : (s.modCtx k f).bc = s.bc := rfl
@[simp] theorem State.modCtx_resp (s : State) (k : Nat) (f : Ctx → Ctx) : (s.modCtx k f).resp = s.resp := rfl
@[simp] theorem State.modCtx_fresh (s : State) (k : Nat) (f : Ctx → Ctx) : (s.modCtx k f).fresh = s.fresh := rfl
@[simp] theorem State.modCtx_sram (s : State) (k : Nat) (f : Ctx → Ctx) : (s.modCtx k f).sram = s.sram := rfl
@[simp] theorem State.modCtx_cores (s : State) (k : Nat) (f : Ctx → Ctx) : (s.modCtx k f).cores = s.cores := rfl
@[simp] theorem State.modCtx_disp (s : State) (k : Nat) (f : Ctx → Ctx) : (s.modCtx k f).disp = s.disp := rfl
@[simp] theorem State.modCtx_integ (s : State) (k : Nat) (f : Ctx → Ctx) : (s.modCtx k f).integ = s.integ := rfl
@[simp] theorem State.modCtx_host (s : State) (k : Nat) (f : Ctx → Ctx) : (s.modCtx k f).host = s.host := rfl
@[simp] theorem State.modCtx_epoch (s : State) (k : Nat) (f : Ctx → Ctx) : (s.modCtx k f).epoch = s.epoch := rfl
@[simp] theorem State.modCtx_pwr (s : State) (k : Nat) (f : Ctx → Ctx) : (s.modCtx k f).pwr = s.pwr := rfl
@[simp] theorem State.modCtx_route (s : State) (k : Nat) (f : Ctx → Ctx) : (s.modCtx k f).route = s.route := rfl
@[simp] theorem State.modCtx_memt (s : State) (k : Nat) (f : Ctx → Ctx) : (s.modCtx k f).memt = s.memt := rfl
@[simp] theorem State.modCtx_io (s : State) (k : Nat) (f : Ctx → Ctx) : (s.modCtx k f).io = s.io := rfl
@[simp] theorem State.modCtx_net (s : State) (k : Nat) (f : Ctx → Ctx) : (s.modCtx k f).net = s.net := rfl
@[simp] theorem State.modCtx_refs (s : State) (k : Nat) (f : Ctx → Ctx) : (s.modCtx k f).refs = s.refs := rfl
@[simp] theorem State.modCtx_amps (s : State) (k : Nat) (f : Ctx → Ctx) : (s.modCtx k f).amps = s.amps := rfl
@[simp] theorem State.modCtx_bell (s : State) (k : Nat) (f : Ctx → Ctx) : (s.modCtx k f).bell = s.bell := rfl
@[simp] theorem State.modCtx_pair (s : State) (k : Nat) (f : Ctx → Ctx) : (s.modCtx k f).pair = s.pair := rfl
@[simp] theorem State.modCtx_board (s : State) (k : Nat) (f : Ctx → Ctx) : (s.modCtx k f).board = s.board := rfl

@[simp] theorem State.rd_modCtx (s : State) (k : Nat) (f : Ctx → Ctx) (g : Fld) : (s.modCtx k f).rd g = s.rd g := rfl
@[simp] theorem State.on_modCtx (s : State) (k : Nat) (f : Ctx → Ctx) (g : Fld) : (s.modCtx k f).on g = s.on g := rfl
@[simp] theorem State.core_modCtx (s : State) (k : Nat) (f : Ctx → Ctx) (j : Nat) : (s.modCtx k f).core j = s.core j := rfl

@[simp] theorem State.used_pending (s : State) : (s.used).pending = s.pending := rfl
@[simp] theorem State.used_flds (s : State) : (s.used).flds = s.flds := rfl
@[simp] theorem State.used_staged (s : State) : (s.used).staged = s.staged := rfl
@[simp] theorem State.used_mem (s : State) : (s.used).mem = s.mem := rfl
@[simp] theorem State.used_hostMem (s : State) : (s.used).hostMem = s.hostMem := rfl
@[simp] theorem State.used_poison (s : State) : (s.used).poison = s.poison := rfl
@[simp] theorem State.used_n (s : State) : (s.used).n = s.n := rfl
@[simp] theorem State.used_window (s : State) : (s.used).window = s.window := rfl
@[simp] theorem State.used_bc (s : State) : (s.used).bc = s.bc := rfl
@[simp] theorem State.used_resp (s : State) : (s.used).resp = s.resp := rfl
@[simp] theorem State.used_sram (s : State) : (s.used).sram = s.sram := rfl
@[simp] theorem State.used_cores (s : State) : (s.used).cores = s.cores := rfl
@[simp] theorem State.used_ctxs (s : State) : (s.used).ctxs = s.ctxs := rfl
@[simp] theorem State.used_disp (s : State) : (s.used).disp = s.disp := rfl
@[simp] theorem State.used_integ (s : State) : (s.used).integ = s.integ := rfl
@[simp] theorem State.used_host (s : State) : (s.used).host = s.host := rfl
@[simp] theorem State.used_epoch (s : State) : (s.used).epoch = s.epoch := rfl
@[simp] theorem State.used_pwr (s : State) : (s.used).pwr = s.pwr := rfl
@[simp] theorem State.used_route (s : State) : (s.used).route = s.route := rfl
@[simp] theorem State.used_memt (s : State) : (s.used).memt = s.memt := rfl
@[simp] theorem State.used_io (s : State) : (s.used).io = s.io := rfl
@[simp] theorem State.used_net (s : State) : (s.used).net = s.net := rfl
@[simp] theorem State.used_refs (s : State) : (s.used).refs = s.refs := rfl
@[simp] theorem State.used_amps (s : State) : (s.used).amps = s.amps := rfl
@[simp] theorem State.used_bell (s : State) : (s.used).bell = s.bell := rfl
@[simp] theorem State.used_pair (s : State) : (s.used).pair = s.pair := rfl
@[simp] theorem State.used_board (s : State) : (s.used).board = s.board := rfl

@[simp] theorem State.rd_used (s : State) (g : Fld) : (s.used).rd g = s.rd g := rfl
@[simp] theorem State.on_used (s : State) (g : Fld) : (s.used).on g = s.on g := rfl
@[simp] theorem State.core_used (s : State) (j : Nat) : (s.used).core j = s.core j := rfl
@[simp] theorem State.ctx_used (s : State) (j : Nat) : (s.used).ctx j = s.ctx j := rfl

@[simp] theorem State.tell_pending (s : State) (m : PairMsg) : (s.tell m).pending = s.pending := rfl
@[simp] theorem State.tell_flds (s : State) (m : PairMsg) : (s.tell m).flds = s.flds := rfl
@[simp] theorem State.tell_staged (s : State) (m : PairMsg) : (s.tell m).staged = s.staged := rfl
@[simp] theorem State.tell_mem (s : State) (m : PairMsg) : (s.tell m).mem = s.mem := rfl
@[simp] theorem State.tell_hostMem (s : State) (m : PairMsg) : (s.tell m).hostMem = s.hostMem := rfl
@[simp] theorem State.tell_poison (s : State) (m : PairMsg) : (s.tell m).poison = s.poison := rfl
@[simp] theorem State.tell_n (s : State) (m : PairMsg) : (s.tell m).n = s.n := rfl
@[simp] theorem State.tell_window (s : State) (m : PairMsg) : (s.tell m).window = s.window := rfl
@[simp] theorem State.tell_bc (s : State) (m : PairMsg) : (s.tell m).bc = s.bc := rfl
@[simp] theorem State.tell_resp (s : State) (m : PairMsg) : (s.tell m).resp = s.resp := rfl
@[simp] theorem State.tell_fresh (s : State) (m : PairMsg) : (s.tell m).fresh = s.fresh := rfl
@[simp] theorem State.tell_sram (s : State) (m : PairMsg) : (s.tell m).sram = s.sram := rfl
@[simp] theorem State.tell_cores (s : State) (m : PairMsg) : (s.tell m).cores = s.cores := rfl
@[simp] theorem State.tell_ctxs (s : State) (m : PairMsg) : (s.tell m).ctxs = s.ctxs := rfl
@[simp] theorem State.tell_disp (s : State) (m : PairMsg) : (s.tell m).disp = s.disp := rfl
@[simp] theorem State.tell_integ (s : State) (m : PairMsg) : (s.tell m).integ = s.integ := rfl
@[simp] theorem State.tell_host (s : State) (m : PairMsg) : (s.tell m).host = s.host := rfl
@[simp] theorem State.tell_epoch (s : State) (m : PairMsg) : (s.tell m).epoch = s.epoch := rfl
@[simp] theorem State.tell_pwr (s : State) (m : PairMsg) : (s.tell m).pwr = s.pwr := rfl
@[simp] theorem State.tell_route (s : State) (m : PairMsg) : (s.tell m).route = s.route := rfl
@[simp] theorem State.tell_memt (s : State) (m : PairMsg) : (s.tell m).memt = s.memt := rfl
@[simp] theorem State.tell_io (s : State) (m : PairMsg) : (s.tell m).io = s.io := rfl
@[simp] theorem State.tell_net (s : State) (m : PairMsg) : (s.tell m).net = s.net := rfl
@[simp] theorem State.tell_refs (s : State) (m : PairMsg) : (s.tell m).refs = s.refs := rfl
@[simp] theorem State.tell_amps (s : State) (m : PairMsg) : (s.tell m).amps = s.amps := rfl
@[simp] theorem State.tell_bell (s : State) (m : PairMsg) : (s.tell m).bell = s.bell := rfl
@[simp] theorem State.tell_board (s : State) (m : PairMsg) : (s.tell m).board = s.board := rfl

@[simp] theorem State.rd_tell (s : State) (m : PairMsg) (g : Fld) : (s.tell m).rd g = s.rd g := rfl
@[simp] theorem State.on_tell (s : State) (m : PairMsg) (g : Fld) : (s.tell m).on g = s.on g := rfl
@[simp] theorem State.core_tell (s : State) (m : PairMsg) (j : Nat) : (s.tell m).core j = s.core j := rfl
@[simp] theorem State.ctx_tell (s : State) (m : PairMsg) (j : Nat) : (s.tell m).ctx j = s.ctx j := rfl

@[simp] theorem State.setPool_pending (s : State) (c : Nat) (l : List Nat) : (s.setPool c l).pending = s.pending := rfl
@[simp] theorem State.setPool_flds (s : State) (c : Nat) (l : List Nat) : (s.setPool c l).flds = s.flds := rfl
@[simp] theorem State.setPool_staged (s : State) (c : Nat) (l : List Nat) : (s.setPool c l).staged = s.staged := rfl
@[simp] theorem State.setPool_mem (s : State) (c : Nat) (l : List Nat) : (s.setPool c l).mem = s.mem := rfl
@[simp] theorem State.setPool_hostMem (s : State) (c : Nat) (l : List Nat) : (s.setPool c l).hostMem = s.hostMem := rfl
@[simp] theorem State.setPool_poison (s : State) (c : Nat) (l : List Nat) : (s.setPool c l).poison = s.poison := rfl
@[simp] theorem State.setPool_n (s : State) (c : Nat) (l : List Nat) : (s.setPool c l).n = s.n := rfl
@[simp] theorem State.setPool_window (s : State) (c : Nat) (l : List Nat) : (s.setPool c l).window = s.window := rfl
@[simp] theorem State.setPool_bc (s : State) (c : Nat) (l : List Nat) : (s.setPool c l).bc = s.bc := rfl
@[simp] theorem State.setPool_resp (s : State) (c : Nat) (l : List Nat) : (s.setPool c l).resp = s.resp := rfl
@[simp] theorem State.setPool_fresh (s : State) (c : Nat) (l : List Nat) : (s.setPool c l).fresh = s.fresh := rfl
@[simp] theorem State.setPool_cores (s : State) (c : Nat) (l : List Nat) : (s.setPool c l).cores = s.cores := rfl
@[simp] theorem State.setPool_ctxs (s : State) (c : Nat) (l : List Nat) : (s.setPool c l).ctxs = s.ctxs := rfl
@[simp] theorem State.setPool_disp (s : State) (c : Nat) (l : List Nat) : (s.setPool c l).disp = s.disp := rfl
@[simp] theorem State.setPool_integ (s : State) (c : Nat) (l : List Nat) : (s.setPool c l).integ = s.integ := rfl
@[simp] theorem State.setPool_host (s : State) (c : Nat) (l : List Nat) : (s.setPool c l).host = s.host := rfl
@[simp] theorem State.setPool_epoch (s : State) (c : Nat) (l : List Nat) : (s.setPool c l).epoch = s.epoch := rfl
@[simp] theorem State.setPool_pwr (s : State) (c : Nat) (l : List Nat) : (s.setPool c l).pwr = s.pwr := rfl
@[simp] theorem State.setPool_route (s : State) (c : Nat) (l : List Nat) : (s.setPool c l).route = s.route := rfl
@[simp] theorem State.setPool_memt (s : State) (c : Nat) (l : List Nat) : (s.setPool c l).memt = s.memt := rfl
@[simp] theorem State.setPool_io (s : State) (c : Nat) (l : List Nat) : (s.setPool c l).io = s.io := rfl
@[simp] theorem State.setPool_net (s : State) (c : Nat) (l : List Nat) : (s.setPool c l).net = s.net := rfl
@[simp] theorem State.setPool_refs (s : State) (c : Nat) (l : List Nat) : (s.setPool c l).refs = s.refs := rfl
@[simp] theorem State.setPool_amps (s : State) (c : Nat) (l : List Nat) : (s.setPool c l).amps = s.amps := rfl
@[simp] theorem State.setPool_bell (s : State) (c : Nat) (l : List Nat) : (s.setPool c l).bell = s.bell := rfl
@[simp] theorem State.setPool_pair (s : State) (c : Nat) (l : List Nat) : (s.setPool c l).pair = s.pair := rfl
@[simp] theorem State.setPool_board (s : State) (c : Nat) (l : List Nat) : (s.setPool c l).board = s.board := rfl

@[simp] theorem State.rd_setPool (s : State) (c : Nat) (l : List Nat) (g : Fld) : (s.setPool c l).rd g = s.rd g := rfl
@[simp] theorem State.on_setPool (s : State) (c : Nat) (l : List Nat) (g : Fld) : (s.setPool c l).on g = s.on g := rfl
@[simp] theorem State.core_setPool (s : State) (c : Nat) (l : List Nat) (j : Nat) : (s.setPool c l).core j = s.core j := rfl
@[simp] theorem State.ctx_setPool (s : State) (c : Nat) (l : List Nat) (j : Nat) : (s.setPool c l).ctx j = s.ctx j := rfl

@[simp] theorem State.setMark_pending (s : State) (k : Nat) (m : Option Mark) : (s.setMark k m).pending = s.pending := rfl
@[simp] theorem State.setMark_flds (s : State) (k : Nat) (m : Option Mark) : (s.setMark k m).flds = s.flds := rfl
@[simp] theorem State.setMark_staged (s : State) (k : Nat) (m : Option Mark) : (s.setMark k m).staged = s.staged := rfl
@[simp] theorem State.setMark_mem (s : State) (k : Nat) (m : Option Mark) : (s.setMark k m).mem = s.mem := rfl
@[simp] theorem State.setMark_hostMem (s : State) (k : Nat) (m : Option Mark) : (s.setMark k m).hostMem = s.hostMem := rfl
@[simp] theorem State.setMark_poison (s : State) (k : Nat) (m : Option Mark) : (s.setMark k m).poison = s.poison := rfl
@[simp] theorem State.setMark_n (s : State) (k : Nat) (m : Option Mark) : (s.setMark k m).n = s.n := rfl
@[simp] theorem State.setMark_window (s : State) (k : Nat) (m : Option Mark) : (s.setMark k m).window = s.window := rfl
@[simp] theorem State.setMark_bc (s : State) (k : Nat) (m : Option Mark) : (s.setMark k m).bc = s.bc := rfl
@[simp] theorem State.setMark_resp (s : State) (k : Nat) (m : Option Mark) : (s.setMark k m).resp = s.resp := rfl
@[simp] theorem State.setMark_fresh (s : State) (k : Nat) (m : Option Mark) : (s.setMark k m).fresh = s.fresh := rfl
@[simp] theorem State.setMark_cores (s : State) (k : Nat) (m : Option Mark) : (s.setMark k m).cores = s.cores := rfl
@[simp] theorem State.setMark_ctxs (s : State) (k : Nat) (m : Option Mark) : (s.setMark k m).ctxs = s.ctxs := rfl
@[simp] theorem State.setMark_disp (s : State) (k : Nat) (m : Option Mark) : (s.setMark k m).disp = s.disp := rfl
@[simp] theorem State.setMark_integ (s : State) (k : Nat) (m : Option Mark) : (s.setMark k m).integ = s.integ := rfl
@[simp] theorem State.setMark_host (s : State) (k : Nat) (m : Option Mark) : (s.setMark k m).host = s.host := rfl
@[simp] theorem State.setMark_epoch (s : State) (k : Nat) (m : Option Mark) : (s.setMark k m).epoch = s.epoch := rfl
@[simp] theorem State.setMark_pwr (s : State) (k : Nat) (m : Option Mark) : (s.setMark k m).pwr = s.pwr := rfl
@[simp] theorem State.setMark_route (s : State) (k : Nat) (m : Option Mark) : (s.setMark k m).route = s.route := rfl
@[simp] theorem State.setMark_memt (s : State) (k : Nat) (m : Option Mark) : (s.setMark k m).memt = s.memt := rfl
@[simp] theorem State.setMark_io (s : State) (k : Nat) (m : Option Mark) : (s.setMark k m).io = s.io := rfl
@[simp] theorem State.setMark_net (s : State) (k : Nat) (m : Option Mark) : (s.setMark k m).net = s.net := rfl
@[simp] theorem State.setMark_refs (s : State) (k : Nat) (m : Option Mark) : (s.setMark k m).refs = s.refs := rfl
@[simp] theorem State.setMark_amps (s : State) (k : Nat) (m : Option Mark) : (s.setMark k m).amps = s.amps := rfl
@[simp] theorem State.setMark_bell (s : State) (k : Nat) (m : Option Mark) : (s.setMark k m).bell = s.bell := rfl
@[simp] theorem State.setMark_pair (s : State) (k : Nat) (m : Option Mark) : (s.setMark k m).pair = s.pair := rfl
@[simp] theorem State.setMark_board (s : State) (k : Nat) (m : Option Mark) : (s.setMark k m).board = s.board := rfl

@[simp] theorem State.rd_setMark (s : State) (k : Nat) (m : Option Mark) (g : Fld) : (s.setMark k m).rd g = s.rd g := rfl
@[simp] theorem State.on_setMark (s : State) (k : Nat) (m : Option Mark) (g : Fld) : (s.setMark k m).on g = s.on g := rfl
@[simp] theorem State.core_setMark (s : State) (k : Nat) (m : Option Mark) (j : Nat) : (s.setMark k m).core j = s.core j := rfl
@[simp] theorem State.ctx_setMark (s : State) (k : Nat) (m : Option Mark) (j : Nat) : (s.setMark k m).ctx j = s.ctx j := rfl

@[simp] theorem State.answer_pending (s : State) (r : Resp) : (s.answer r).pending = s.pending := rfl
@[simp] theorem State.answer_flds (s : State) (r : Resp) : (s.answer r).flds = s.flds := rfl
@[simp] theorem State.answer_staged (s : State) (r : Resp) : (s.answer r).staged = s.staged := rfl
@[simp] theorem State.answer_mem (s : State) (r : Resp) : (s.answer r).mem = s.mem := rfl
@[simp] theorem State.answer_hostMem (s : State) (r : Resp) : (s.answer r).hostMem = s.hostMem := rfl
@[simp] theorem State.answer_poison (s : State) (r : Resp) : (s.answer r).poison = s.poison := rfl
@[simp] theorem State.answer_n (s : State) (r : Resp) : (s.answer r).n = s.n := rfl
@[simp] theorem State.answer_window (s : State) (r : Resp) : (s.answer r).window = s.window := rfl
@[simp] theorem State.answer_bc (s : State) (r : Resp) : (s.answer r).bc = s.bc := rfl
@[simp] theorem State.answer_fresh (s : State) (r : Resp) : (s.answer r).fresh = s.fresh := rfl
@[simp] theorem State.answer_sram (s : State) (r : Resp) : (s.answer r).sram = s.sram := rfl
@[simp] theorem State.answer_cores (s : State) (r : Resp) : (s.answer r).cores = s.cores := rfl
@[simp] theorem State.answer_ctxs (s : State) (r : Resp) : (s.answer r).ctxs = s.ctxs := rfl
@[simp] theorem State.answer_disp (s : State) (r : Resp) : (s.answer r).disp = s.disp := rfl
@[simp] theorem State.answer_integ (s : State) (r : Resp) : (s.answer r).integ = s.integ := rfl
@[simp] theorem State.answer_host (s : State) (r : Resp) : (s.answer r).host = s.host := rfl
@[simp] theorem State.answer_epoch (s : State) (r : Resp) : (s.answer r).epoch = s.epoch := rfl
@[simp] theorem State.answer_pwr (s : State) (r : Resp) : (s.answer r).pwr = s.pwr := rfl
@[simp] theorem State.answer_route (s : State) (r : Resp) : (s.answer r).route = s.route := rfl
@[simp] theorem State.answer_memt (s : State) (r : Resp) : (s.answer r).memt = s.memt := rfl
@[simp] theorem State.answer_io (s : State) (r : Resp) : (s.answer r).io = s.io := rfl
@[simp] theorem State.answer_net (s : State) (r : Resp) : (s.answer r).net = s.net := rfl
@[simp] theorem State.answer_refs (s : State) (r : Resp) : (s.answer r).refs = s.refs := rfl
@[simp] theorem State.answer_amps (s : State) (r : Resp) : (s.answer r).amps = s.amps := rfl
@[simp] theorem State.answer_bell (s : State) (r : Resp) : (s.answer r).bell = s.bell := rfl
@[simp] theorem State.answer_pair (s : State) (r : Resp) : (s.answer r).pair = s.pair := rfl
@[simp] theorem State.answer_board (s : State) (r : Resp) : (s.answer r).board = s.board := rfl

@[simp] theorem State.rd_answer (s : State) (r : Resp) (g : Fld) : (s.answer r).rd g = s.rd g := rfl
@[simp] theorem State.on_answer (s : State) (r : Resp) (g : Fld) : (s.answer r).on g = s.on g := rfl
@[simp] theorem State.core_answer (s : State) (r : Resp) (j : Nat) : (s.answer r).core j = s.core j := rfl
@[simp] theorem State.ctx_answer (s : State) (r : Resp) (j : Nat) : (s.answer r).ctx j = s.ctx j := rfl

@[simp] theorem State.answerW_pending (s : State) (b : Bool) : (s.answerW b).pending = s.pending := rfl
@[simp] theorem State.answerW_flds (s : State) (b : Bool) : (s.answerW b).flds = s.flds := rfl
@[simp] theorem State.answerW_staged (s : State) (b : Bool) : (s.answerW b).staged = s.staged := rfl
@[simp] theorem State.answerW_mem (s : State) (b : Bool) : (s.answerW b).mem = s.mem := rfl
@[simp] theorem State.answerW_hostMem (s : State) (b : Bool) : (s.answerW b).hostMem = s.hostMem := rfl
@[simp] theorem State.answerW_poison (s : State) (b : Bool) : (s.answerW b).poison = s.poison := rfl
@[simp] theorem State.answerW_n (s : State) (b : Bool) : (s.answerW b).n = s.n := rfl
@[simp] theorem State.answerW_window (s : State) (b : Bool) : (s.answerW b).window = s.window := rfl
@[simp] theorem State.answerW_bc (s : State) (b : Bool) : (s.answerW b).bc = s.bc := rfl
@[simp] theorem State.answerW_fresh (s : State) (b : Bool) : (s.answerW b).fresh = s.fresh := rfl
@[simp] theorem State.answerW_sram (s : State) (b : Bool) : (s.answerW b).sram = s.sram := rfl
@[simp] theorem State.answerW_cores (s : State) (b : Bool) : (s.answerW b).cores = s.cores := rfl
@[simp] theorem State.answerW_ctxs (s : State) (b : Bool) : (s.answerW b).ctxs = s.ctxs := rfl
@[simp] theorem State.answerW_disp (s : State) (b : Bool) : (s.answerW b).disp = s.disp := rfl
@[simp] theorem State.answerW_integ (s : State) (b : Bool) : (s.answerW b).integ = s.integ := rfl
@[simp] theorem State.answerW_host (s : State) (b : Bool) : (s.answerW b).host = s.host := rfl
@[simp] theorem State.answerW_epoch (s : State) (b : Bool) : (s.answerW b).epoch = s.epoch := rfl
@[simp] theorem State.answerW_pwr (s : State) (b : Bool) : (s.answerW b).pwr = s.pwr := rfl
@[simp] theorem State.answerW_route (s : State) (b : Bool) : (s.answerW b).route = s.route := rfl
@[simp] theorem State.answerW_memt (s : State) (b : Bool) : (s.answerW b).memt = s.memt := rfl
@[simp] theorem State.answerW_io (s : State) (b : Bool) : (s.answerW b).io = s.io := rfl
@[simp] theorem State.answerW_net (s : State) (b : Bool) : (s.answerW b).net = s.net := rfl
@[simp] theorem State.answerW_refs (s : State) (b : Bool) : (s.answerW b).refs = s.refs := rfl
@[simp] theorem State.answerW_amps (s : State) (b : Bool) : (s.answerW b).amps = s.amps := rfl
@[simp] theorem State.answerW_bell (s : State) (b : Bool) : (s.answerW b).bell = s.bell := rfl
@[simp] theorem State.answerW_pair (s : State) (b : Bool) : (s.answerW b).pair = s.pair := rfl
@[simp] theorem State.answerW_board (s : State) (b : Bool) : (s.answerW b).board = s.board := rfl

@[simp] theorem State.rd_answerW (s : State) (b : Bool) (g : Fld) : (s.answerW b).rd g = s.rd g := rfl
@[simp] theorem State.on_answerW (s : State) (b : Bool) (g : Fld) : (s.answerW b).on g = s.on g := rfl
@[simp] theorem State.core_answerW (s : State) (b : Bool) (j : Nat) : (s.answerW b).core j = s.core j := rfl
@[simp] theorem State.ctx_answerW (s : State) (b : Bool) (j : Nat) : (s.answerW b).ctx j = s.ctx j := rfl

@[simp] theorem State.setAmp_pending (s : State) (k : Nat) (x : AmpSt) : (s.setAmp k x).pending = s.pending := rfl
@[simp] theorem State.setAmp_flds (s : State) (k : Nat) (x : AmpSt) : (s.setAmp k x).flds = s.flds := rfl
@[simp] theorem State.setAmp_staged (s : State) (k : Nat) (x : AmpSt) : (s.setAmp k x).staged = s.staged := rfl
@[simp] theorem State.setAmp_mem (s : State) (k : Nat) (x : AmpSt) : (s.setAmp k x).mem = s.mem := rfl
@[simp] theorem State.setAmp_hostMem (s : State) (k : Nat) (x : AmpSt) : (s.setAmp k x).hostMem = s.hostMem := rfl
@[simp] theorem State.setAmp_poison (s : State) (k : Nat) (x : AmpSt) : (s.setAmp k x).poison = s.poison := rfl
@[simp] theorem State.setAmp_n (s : State) (k : Nat) (x : AmpSt) : (s.setAmp k x).n = s.n := rfl
@[simp] theorem State.setAmp_window (s : State) (k : Nat) (x : AmpSt) : (s.setAmp k x).window = s.window := rfl
@[simp] theorem State.setAmp_bc (s : State) (k : Nat) (x : AmpSt) : (s.setAmp k x).bc = s.bc := rfl
@[simp] theorem State.setAmp_resp (s : State) (k : Nat) (x : AmpSt) : (s.setAmp k x).resp = s.resp := rfl
@[simp] theorem State.setAmp_fresh (s : State) (k : Nat) (x : AmpSt) : (s.setAmp k x).fresh = s.fresh := rfl
@[simp] theorem State.setAmp_sram (s : State) (k : Nat) (x : AmpSt) : (s.setAmp k x).sram = s.sram := rfl
@[simp] theorem State.setAmp_cores (s : State) (k : Nat) (x : AmpSt) : (s.setAmp k x).cores = s.cores := rfl
@[simp] theorem State.setAmp_ctxs (s : State) (k : Nat) (x : AmpSt) : (s.setAmp k x).ctxs = s.ctxs := rfl
@[simp] theorem State.setAmp_disp (s : State) (k : Nat) (x : AmpSt) : (s.setAmp k x).disp = s.disp := rfl
@[simp] theorem State.setAmp_integ (s : State) (k : Nat) (x : AmpSt) : (s.setAmp k x).integ = s.integ := rfl
@[simp] theorem State.setAmp_host (s : State) (k : Nat) (x : AmpSt) : (s.setAmp k x).host = s.host := rfl
@[simp] theorem State.setAmp_epoch (s : State) (k : Nat) (x : AmpSt) : (s.setAmp k x).epoch = s.epoch := rfl
@[simp] theorem State.setAmp_pwr (s : State) (k : Nat) (x : AmpSt) : (s.setAmp k x).pwr = s.pwr := rfl
@[simp] theorem State.setAmp_route (s : State) (k : Nat) (x : AmpSt) : (s.setAmp k x).route = s.route := rfl
@[simp] theorem State.setAmp_memt (s : State) (k : Nat) (x : AmpSt) : (s.setAmp k x).memt = s.memt := rfl
@[simp] theorem State.setAmp_io (s : State) (k : Nat) (x : AmpSt) : (s.setAmp k x).io = s.io := rfl
@[simp] theorem State.setAmp_net (s : State) (k : Nat) (x : AmpSt) : (s.setAmp k x).net = s.net := rfl
@[simp] theorem State.setAmp_refs (s : State) (k : Nat) (x : AmpSt) : (s.setAmp k x).refs = s.refs := rfl
@[simp] theorem State.setAmp_bell (s : State) (k : Nat) (x : AmpSt) : (s.setAmp k x).bell = s.bell := rfl
@[simp] theorem State.setAmp_pair (s : State) (k : Nat) (x : AmpSt) : (s.setAmp k x).pair = s.pair := rfl
@[simp] theorem State.setAmp_board (s : State) (k : Nat) (x : AmpSt) : (s.setAmp k x).board = s.board := rfl

@[simp] theorem State.rd_setAmp (s : State) (k : Nat) (x : AmpSt) (g : Fld) : (s.setAmp k x).rd g = s.rd g := rfl
@[simp] theorem State.on_setAmp (s : State) (k : Nat) (x : AmpSt) (g : Fld) : (s.setAmp k x).on g = s.on g := rfl
@[simp] theorem State.core_setAmp (s : State) (k : Nat) (x : AmpSt) (j : Nat) : (s.setAmp k x).core j = s.core j := rfl
@[simp] theorem State.ctx_setAmp (s : State) (k : Nat) (x : AmpSt) (j : Nat) : (s.setAmp k x).ctx j = s.ctx j := rfl

@[simp] theorem State.modAmp_pending (s : State) (k : Nat) (f : AmpSt → AmpSt) : (s.modAmp k f).pending = s.pending := rfl
@[simp] theorem State.modAmp_flds (s : State) (k : Nat) (f : AmpSt → AmpSt) : (s.modAmp k f).flds = s.flds := rfl
@[simp] theorem State.modAmp_staged (s : State) (k : Nat) (f : AmpSt → AmpSt) : (s.modAmp k f).staged = s.staged := rfl
@[simp] theorem State.modAmp_mem (s : State) (k : Nat) (f : AmpSt → AmpSt) : (s.modAmp k f).mem = s.mem := rfl
@[simp] theorem State.modAmp_hostMem (s : State) (k : Nat) (f : AmpSt → AmpSt) : (s.modAmp k f).hostMem = s.hostMem := rfl
@[simp] theorem State.modAmp_poison (s : State) (k : Nat) (f : AmpSt → AmpSt) : (s.modAmp k f).poison = s.poison := rfl
@[simp] theorem State.modAmp_n (s : State) (k : Nat) (f : AmpSt → AmpSt) : (s.modAmp k f).n = s.n := rfl
@[simp] theorem State.modAmp_window (s : State) (k : Nat) (f : AmpSt → AmpSt) : (s.modAmp k f).window = s.window := rfl
@[simp] theorem State.modAmp_bc (s : State) (k : Nat) (f : AmpSt → AmpSt) : (s.modAmp k f).bc = s.bc := rfl
@[simp] theorem State.modAmp_resp (s : State) (k : Nat) (f : AmpSt → AmpSt) : (s.modAmp k f).resp = s.resp := rfl
@[simp] theorem State.modAmp_fresh (s : State) (k : Nat) (f : AmpSt → AmpSt) : (s.modAmp k f).fresh = s.fresh := rfl
@[simp] theorem State.modAmp_sram (s : State) (k : Nat) (f : AmpSt → AmpSt) : (s.modAmp k f).sram = s.sram := rfl
@[simp] theorem State.modAmp_cores (s : State) (k : Nat) (f : AmpSt → AmpSt) : (s.modAmp k f).cores = s.cores := rfl
@[simp] theorem State.modAmp_ctxs (s : State) (k : Nat) (f : AmpSt → AmpSt) : (s.modAmp k f).ctxs = s.ctxs := rfl
@[simp] theorem State.modAmp_disp (s : State) (k : Nat) (f : AmpSt → AmpSt) : (s.modAmp k f).disp = s.disp := rfl
@[simp] theorem State.modAmp_integ (s : State) (k : Nat) (f : AmpSt → AmpSt) : (s.modAmp k f).integ = s.integ := rfl
@[simp] theorem State.modAmp_host (s : State) (k : Nat) (f : AmpSt → AmpSt) : (s.modAmp k f).host = s.host := rfl
@[simp] theorem State.modAmp_epoch (s : State) (k : Nat) (f : AmpSt → AmpSt) : (s.modAmp k f).epoch = s.epoch := rfl
@[simp] theorem State.modAmp_pwr (s : State) (k : Nat) (f : AmpSt → AmpSt) : (s.modAmp k f).pwr = s.pwr := rfl
@[simp] theorem State.modAmp_route (s : State) (k : Nat) (f : AmpSt → AmpSt) : (s.modAmp k f).route = s.route := rfl
@[simp] theorem State.modAmp_memt (s : State) (k : Nat) (f : AmpSt → AmpSt) : (s.modAmp k f).memt = s.memt := rfl
@[simp] theorem State.modAmp_io (s : State) (k : Nat) (f : AmpSt → AmpSt) : (s.modAmp k f).io = s.io := rfl
@[simp] theorem State.modAmp_net (s : State) (k : Nat) (f : AmpSt → AmpSt) : (s.modAmp k f).net = s.net := rfl
@[simp] theorem State.modAmp_refs (s : State) (k : Nat) (f : AmpSt → AmpSt) : (s.modAmp k f).refs = s.refs := rfl
@[simp] theorem State.modAmp_bell (s : State) (k : Nat) (f : AmpSt → AmpSt) : (s.modAmp k f).bell = s.bell := rfl
@[simp] theorem State.modAmp_pair (s : State) (k : Nat) (f : AmpSt → AmpSt) : (s.modAmp k f).pair = s.pair := rfl
@[simp] theorem State.modAmp_board (s : State) (k : Nat) (f : AmpSt → AmpSt) : (s.modAmp k f).board = s.board := rfl

@[simp] theorem State.rd_modAmp (s : State) (k : Nat) (f : AmpSt → AmpSt) (g : Fld) : (s.modAmp k f).rd g = s.rd g := rfl
@[simp] theorem State.on_modAmp (s : State) (k : Nat) (f : AmpSt → AmpSt) (g : Fld) : (s.modAmp k f).on g = s.on g := rfl
@[simp] theorem State.core_modAmp (s : State) (k : Nat) (f : AmpSt → AmpSt) (j : Nat) : (s.modAmp k f).core j = s.core j := rfl
@[simp] theorem State.ctx_modAmp (s : State) (k : Nat) (f : AmpSt → AmpSt) (j : Nat) : (s.modAmp k f).ctx j = s.ctx j := rfl

@[simp] theorem State.setPlayer_pending (s : State) (k : Nat) (x : Player) : (s.setPlayer k x).pending = s.pending := rfl
@[simp] theorem State.setPlayer_flds (s : State) (k : Nat) (x : Player) : (s.setPlayer k x).flds = s.flds := rfl
@[simp] theorem State.setPlayer_staged (s : State) (k : Nat) (x : Player) : (s.setPlayer k x).staged = s.staged := rfl
@[simp] theorem State.setPlayer_mem (s : State) (k : Nat) (x : Player) : (s.setPlayer k x).mem = s.mem := rfl
@[simp] theorem State.setPlayer_hostMem (s : State) (k : Nat) (x : Player) : (s.setPlayer k x).hostMem = s.hostMem := rfl
@[simp] theorem State.setPlayer_poison (s : State) (k : Nat) (x : Player) : (s.setPlayer k x).poison = s.poison := rfl
@[simp] theorem State.setPlayer_n (s : State) (k : Nat) (x : Player) : (s.setPlayer k x).n = s.n := rfl
@[simp] theorem State.setPlayer_window (s : State) (k : Nat) (x : Player) : (s.setPlayer k x).window = s.window := rfl
@[simp] theorem State.setPlayer_bc (s : State) (k : Nat) (x : Player) : (s.setPlayer k x).bc = s.bc := rfl
@[simp] theorem State.setPlayer_resp (s : State) (k : Nat) (x : Player) : (s.setPlayer k x).resp = s.resp := rfl
@[simp] theorem State.setPlayer_fresh (s : State) (k : Nat) (x : Player) : (s.setPlayer k x).fresh = s.fresh := rfl
@[simp] theorem State.setPlayer_sram (s : State) (k : Nat) (x : Player) : (s.setPlayer k x).sram = s.sram := rfl
@[simp] theorem State.setPlayer_cores (s : State) (k : Nat) (x : Player) : (s.setPlayer k x).cores = s.cores := rfl
@[simp] theorem State.setPlayer_ctxs (s : State) (k : Nat) (x : Player) : (s.setPlayer k x).ctxs = s.ctxs := rfl
@[simp] theorem State.setPlayer_disp (s : State) (k : Nat) (x : Player) : (s.setPlayer k x).disp = s.disp := rfl
@[simp] theorem State.setPlayer_integ (s : State) (k : Nat) (x : Player) : (s.setPlayer k x).integ = s.integ := rfl
@[simp] theorem State.setPlayer_host (s : State) (k : Nat) (x : Player) : (s.setPlayer k x).host = s.host := rfl
@[simp] theorem State.setPlayer_epoch (s : State) (k : Nat) (x : Player) : (s.setPlayer k x).epoch = s.epoch := rfl
@[simp] theorem State.setPlayer_pwr (s : State) (k : Nat) (x : Player) : (s.setPlayer k x).pwr = s.pwr := rfl
@[simp] theorem State.setPlayer_route (s : State) (k : Nat) (x : Player) : (s.setPlayer k x).route = s.route := rfl
@[simp] theorem State.setPlayer_memt (s : State) (k : Nat) (x : Player) : (s.setPlayer k x).memt = s.memt := rfl
@[simp] theorem State.setPlayer_io (s : State) (k : Nat) (x : Player) : (s.setPlayer k x).io = s.io := rfl
@[simp] theorem State.setPlayer_net (s : State) (k : Nat) (x : Player) : (s.setPlayer k x).net = s.net := rfl
@[simp] theorem State.setPlayer_refs (s : State) (k : Nat) (x : Player) : (s.setPlayer k x).refs = s.refs := rfl
@[simp] theorem State.setPlayer_amps (s : State) (k : Nat) (x : Player) : (s.setPlayer k x).amps = s.amps := rfl
@[simp] theorem State.setPlayer_pair (s : State) (k : Nat) (x : Player) : (s.setPlayer k x).pair = s.pair := rfl
@[simp] theorem State.setPlayer_board (s : State) (k : Nat) (x : Player) : (s.setPlayer k x).board = s.board := rfl

@[simp] theorem State.rd_setPlayer (s : State) (k : Nat) (x : Player) (g : Fld) : (s.setPlayer k x).rd g = s.rd g := rfl
@[simp] theorem State.on_setPlayer (s : State) (k : Nat) (x : Player) (g : Fld) : (s.setPlayer k x).on g = s.on g := rfl
@[simp] theorem State.core_setPlayer (s : State) (k : Nat) (x : Player) (j : Nat) : (s.setPlayer k x).core j = s.core j := rfl
@[simp] theorem State.ctx_setPlayer (s : State) (k : Nat) (x : Player) (j : Nat) : (s.setPlayer k x).ctx j = s.ctx j := rfl

@[simp] theorem State.setDac_pending (s : State) (k : Nat) (x : DacSt) : (s.setDac k x).pending = s.pending := rfl
@[simp] theorem State.setDac_flds (s : State) (k : Nat) (x : DacSt) : (s.setDac k x).flds = s.flds := rfl
@[simp] theorem State.setDac_staged (s : State) (k : Nat) (x : DacSt) : (s.setDac k x).staged = s.staged := rfl
@[simp] theorem State.setDac_mem (s : State) (k : Nat) (x : DacSt) : (s.setDac k x).mem = s.mem := rfl
@[simp] theorem State.setDac_hostMem (s : State) (k : Nat) (x : DacSt) : (s.setDac k x).hostMem = s.hostMem := rfl
@[simp] theorem State.setDac_poison (s : State) (k : Nat) (x : DacSt) : (s.setDac k x).poison = s.poison := rfl
@[simp] theorem State.setDac_n (s : State) (k : Nat) (x : DacSt) : (s.setDac k x).n = s.n := rfl
@[simp] theorem State.setDac_window (s : State) (k : Nat) (x : DacSt) : (s.setDac k x).window = s.window := rfl
@[simp] theorem State.setDac_bc (s : State) (k : Nat) (x : DacSt) : (s.setDac k x).bc = s.bc := rfl
@[simp] theorem State.setDac_resp (s : State) (k : Nat) (x : DacSt) : (s.setDac k x).resp = s.resp := rfl
@[simp] theorem State.setDac_fresh (s : State) (k : Nat) (x : DacSt) : (s.setDac k x).fresh = s.fresh := rfl
@[simp] theorem State.setDac_sram (s : State) (k : Nat) (x : DacSt) : (s.setDac k x).sram = s.sram := rfl
@[simp] theorem State.setDac_cores (s : State) (k : Nat) (x : DacSt) : (s.setDac k x).cores = s.cores := rfl
@[simp] theorem State.setDac_ctxs (s : State) (k : Nat) (x : DacSt) : (s.setDac k x).ctxs = s.ctxs := rfl
@[simp] theorem State.setDac_disp (s : State) (k : Nat) (x : DacSt) : (s.setDac k x).disp = s.disp := rfl
@[simp] theorem State.setDac_integ (s : State) (k : Nat) (x : DacSt) : (s.setDac k x).integ = s.integ := rfl
@[simp] theorem State.setDac_host (s : State) (k : Nat) (x : DacSt) : (s.setDac k x).host = s.host := rfl
@[simp] theorem State.setDac_epoch (s : State) (k : Nat) (x : DacSt) : (s.setDac k x).epoch = s.epoch := rfl
@[simp] theorem State.setDac_pwr (s : State) (k : Nat) (x : DacSt) : (s.setDac k x).pwr = s.pwr := rfl
@[simp] theorem State.setDac_route (s : State) (k : Nat) (x : DacSt) : (s.setDac k x).route = s.route := rfl
@[simp] theorem State.setDac_memt (s : State) (k : Nat) (x : DacSt) : (s.setDac k x).memt = s.memt := rfl
@[simp] theorem State.setDac_io (s : State) (k : Nat) (x : DacSt) : (s.setDac k x).io = s.io := rfl
@[simp] theorem State.setDac_net (s : State) (k : Nat) (x : DacSt) : (s.setDac k x).net = s.net := rfl
@[simp] theorem State.setDac_refs (s : State) (k : Nat) (x : DacSt) : (s.setDac k x).refs = s.refs := rfl
@[simp] theorem State.setDac_amps (s : State) (k : Nat) (x : DacSt) : (s.setDac k x).amps = s.amps := rfl
@[simp] theorem State.setDac_pair (s : State) (k : Nat) (x : DacSt) : (s.setDac k x).pair = s.pair := rfl
@[simp] theorem State.setDac_board (s : State) (k : Nat) (x : DacSt) : (s.setDac k x).board = s.board := rfl

@[simp] theorem State.rd_setDac (s : State) (k : Nat) (x : DacSt) (g : Fld) : (s.setDac k x).rd g = s.rd g := rfl
@[simp] theorem State.on_setDac (s : State) (k : Nat) (x : DacSt) (g : Fld) : (s.setDac k x).on g = s.on g := rfl
@[simp] theorem State.core_setDac (s : State) (k : Nat) (x : DacSt) (j : Nat) : (s.setDac k x).core j = s.core j := rfl
@[simp] theorem State.ctx_setDac (s : State) (k : Nat) (x : DacSt) (j : Nat) : (s.setDac k x).ctx j = s.ctx j := rfl

@[simp] theorem State.modDac_pending (s : State) (k : Nat) (f : DacSt → DacSt) : (s.modDac k f).pending = s.pending := rfl
@[simp] theorem State.modDac_flds (s : State) (k : Nat) (f : DacSt → DacSt) : (s.modDac k f).flds = s.flds := rfl
@[simp] theorem State.modDac_staged (s : State) (k : Nat) (f : DacSt → DacSt) : (s.modDac k f).staged = s.staged := rfl
@[simp] theorem State.modDac_mem (s : State) (k : Nat) (f : DacSt → DacSt) : (s.modDac k f).mem = s.mem := rfl
@[simp] theorem State.modDac_hostMem (s : State) (k : Nat) (f : DacSt → DacSt) : (s.modDac k f).hostMem = s.hostMem := rfl
@[simp] theorem State.modDac_poison (s : State) (k : Nat) (f : DacSt → DacSt) : (s.modDac k f).poison = s.poison := rfl
@[simp] theorem State.modDac_n (s : State) (k : Nat) (f : DacSt → DacSt) : (s.modDac k f).n = s.n := rfl
@[simp] theorem State.modDac_window (s : State) (k : Nat) (f : DacSt → DacSt) : (s.modDac k f).window = s.window := rfl
@[simp] theorem State.modDac_bc (s : State) (k : Nat) (f : DacSt → DacSt) : (s.modDac k f).bc = s.bc := rfl
@[simp] theorem State.modDac_resp (s : State) (k : Nat) (f : DacSt → DacSt) : (s.modDac k f).resp = s.resp := rfl
@[simp] theorem State.modDac_fresh (s : State) (k : Nat) (f : DacSt → DacSt) : (s.modDac k f).fresh = s.fresh := rfl
@[simp] theorem State.modDac_sram (s : State) (k : Nat) (f : DacSt → DacSt) : (s.modDac k f).sram = s.sram := rfl
@[simp] theorem State.modDac_cores (s : State) (k : Nat) (f : DacSt → DacSt) : (s.modDac k f).cores = s.cores := rfl
@[simp] theorem State.modDac_ctxs (s : State) (k : Nat) (f : DacSt → DacSt) : (s.modDac k f).ctxs = s.ctxs := rfl
@[simp] theorem State.modDac_disp (s : State) (k : Nat) (f : DacSt → DacSt) : (s.modDac k f).disp = s.disp := rfl
@[simp] theorem State.modDac_integ (s : State) (k : Nat) (f : DacSt → DacSt) : (s.modDac k f).integ = s.integ := rfl
@[simp] theorem State.modDac_host (s : State) (k : Nat) (f : DacSt → DacSt) : (s.modDac k f).host = s.host := rfl
@[simp] theorem State.modDac_epoch (s : State) (k : Nat) (f : DacSt → DacSt) : (s.modDac k f).epoch = s.epoch := rfl
@[simp] theorem State.modDac_pwr (s : State) (k : Nat) (f : DacSt → DacSt) : (s.modDac k f).pwr = s.pwr := rfl
@[simp] theorem State.modDac_route (s : State) (k : Nat) (f : DacSt → DacSt) : (s.modDac k f).route = s.route := rfl
@[simp] theorem State.modDac_memt (s : State) (k : Nat) (f : DacSt → DacSt) : (s.modDac k f).memt = s.memt := rfl
@[simp] theorem State.modDac_io (s : State) (k : Nat) (f : DacSt → DacSt) : (s.modDac k f).io = s.io := rfl
@[simp] theorem State.modDac_net (s : State) (k : Nat) (f : DacSt → DacSt) : (s.modDac k f).net = s.net := rfl
@[simp] theorem State.modDac_refs (s : State) (k : Nat) (f : DacSt → DacSt) : (s.modDac k f).refs = s.refs := rfl
@[simp] theorem State.modDac_amps (s : State) (k : Nat) (f : DacSt → DacSt) : (s.modDac k f).amps = s.amps := rfl
@[simp] theorem State.modDac_pair (s : State) (k : Nat) (f : DacSt → DacSt) : (s.modDac k f).pair = s.pair := rfl
@[simp] theorem State.modDac_board (s : State) (k : Nat) (f : DacSt → DacSt) : (s.modDac k f).board = s.board := rfl

@[simp] theorem State.rd_modDac (s : State) (k : Nat) (f : DacSt → DacSt) (g : Fld) : (s.modDac k f).rd g = s.rd g := rfl
@[simp] theorem State.on_modDac (s : State) (k : Nat) (f : DacSt → DacSt) (g : Fld) : (s.modDac k f).on g = s.on g := rfl
@[simp] theorem State.core_modDac (s : State) (k : Nat) (f : DacSt → DacSt) (j : Nat) : (s.modDac k f).core j = s.core j := rfl
@[simp] theorem State.ctx_modDac (s : State) (k : Nat) (f : DacSt → DacSt) (j : Nat) : (s.modDac k f).ctx j = s.ctx j := rfl

@[simp] theorem State.setMixer_pending (s : State) (k : Nat) (x : Mixer) : (s.setMixer k x).pending = s.pending := rfl
@[simp] theorem State.setMixer_flds (s : State) (k : Nat) (x : Mixer) : (s.setMixer k x).flds = s.flds := rfl
@[simp] theorem State.setMixer_staged (s : State) (k : Nat) (x : Mixer) : (s.setMixer k x).staged = s.staged := rfl
@[simp] theorem State.setMixer_mem (s : State) (k : Nat) (x : Mixer) : (s.setMixer k x).mem = s.mem := rfl
@[simp] theorem State.setMixer_hostMem (s : State) (k : Nat) (x : Mixer) : (s.setMixer k x).hostMem = s.hostMem := rfl
@[simp] theorem State.setMixer_poison (s : State) (k : Nat) (x : Mixer) : (s.setMixer k x).poison = s.poison := rfl
@[simp] theorem State.setMixer_n (s : State) (k : Nat) (x : Mixer) : (s.setMixer k x).n = s.n := rfl
@[simp] theorem State.setMixer_window (s : State) (k : Nat) (x : Mixer) : (s.setMixer k x).window = s.window := rfl
@[simp] theorem State.setMixer_bc (s : State) (k : Nat) (x : Mixer) : (s.setMixer k x).bc = s.bc := rfl
@[simp] theorem State.setMixer_resp (s : State) (k : Nat) (x : Mixer) : (s.setMixer k x).resp = s.resp := rfl
@[simp] theorem State.setMixer_fresh (s : State) (k : Nat) (x : Mixer) : (s.setMixer k x).fresh = s.fresh := rfl
@[simp] theorem State.setMixer_sram (s : State) (k : Nat) (x : Mixer) : (s.setMixer k x).sram = s.sram := rfl
@[simp] theorem State.setMixer_cores (s : State) (k : Nat) (x : Mixer) : (s.setMixer k x).cores = s.cores := rfl
@[simp] theorem State.setMixer_ctxs (s : State) (k : Nat) (x : Mixer) : (s.setMixer k x).ctxs = s.ctxs := rfl
@[simp] theorem State.setMixer_disp (s : State) (k : Nat) (x : Mixer) : (s.setMixer k x).disp = s.disp := rfl
@[simp] theorem State.setMixer_integ (s : State) (k : Nat) (x : Mixer) : (s.setMixer k x).integ = s.integ := rfl
@[simp] theorem State.setMixer_host (s : State) (k : Nat) (x : Mixer) : (s.setMixer k x).host = s.host := rfl
@[simp] theorem State.setMixer_epoch (s : State) (k : Nat) (x : Mixer) : (s.setMixer k x).epoch = s.epoch := rfl
@[simp] theorem State.setMixer_pwr (s : State) (k : Nat) (x : Mixer) : (s.setMixer k x).pwr = s.pwr := rfl
@[simp] theorem State.setMixer_route (s : State) (k : Nat) (x : Mixer) : (s.setMixer k x).route = s.route := rfl
@[simp] theorem State.setMixer_memt (s : State) (k : Nat) (x : Mixer) : (s.setMixer k x).memt = s.memt := rfl
@[simp] theorem State.setMixer_io (s : State) (k : Nat) (x : Mixer) : (s.setMixer k x).io = s.io := rfl
@[simp] theorem State.setMixer_net (s : State) (k : Nat) (x : Mixer) : (s.setMixer k x).net = s.net := rfl
@[simp] theorem State.setMixer_refs (s : State) (k : Nat) (x : Mixer) : (s.setMixer k x).refs = s.refs := rfl
@[simp] theorem State.setMixer_amps (s : State) (k : Nat) (x : Mixer) : (s.setMixer k x).amps = s.amps := rfl
@[simp] theorem State.setMixer_pair (s : State) (k : Nat) (x : Mixer) : (s.setMixer k x).pair = s.pair := rfl
@[simp] theorem State.setMixer_board (s : State) (k : Nat) (x : Mixer) : (s.setMixer k x).board = s.board := rfl

@[simp] theorem State.rd_setMixer (s : State) (k : Nat) (x : Mixer) (g : Fld) : (s.setMixer k x).rd g = s.rd g := rfl
@[simp] theorem State.on_setMixer (s : State) (k : Nat) (x : Mixer) (g : Fld) : (s.setMixer k x).on g = s.on g := rfl
@[simp] theorem State.core_setMixer (s : State) (k : Nat) (x : Mixer) (j : Nat) : (s.setMixer k x).core j = s.core j := rfl
@[simp] theorem State.ctx_setMixer (s : State) (k : Nat) (x : Mixer) (j : Nat) : (s.setMixer k x).ctx j = s.ctx j := rfl

@[simp] theorem State.modBoard_pending (s : State) (f : BoardSt → BoardSt) : (s.modBoard f).pending = s.pending := rfl
@[simp] theorem State.modBoard_flds (s : State) (f : BoardSt → BoardSt) : (s.modBoard f).flds = s.flds := rfl
@[simp] theorem State.modBoard_staged (s : State) (f : BoardSt → BoardSt) : (s.modBoard f).staged = s.staged := rfl
@[simp] theorem State.modBoard_mem (s : State) (f : BoardSt → BoardSt) : (s.modBoard f).mem = s.mem := rfl
@[simp] theorem State.modBoard_hostMem (s : State) (f : BoardSt → BoardSt) : (s.modBoard f).hostMem = s.hostMem := rfl
@[simp] theorem State.modBoard_poison (s : State) (f : BoardSt → BoardSt) : (s.modBoard f).poison = s.poison := rfl
@[simp] theorem State.modBoard_n (s : State) (f : BoardSt → BoardSt) : (s.modBoard f).n = s.n := rfl
@[simp] theorem State.modBoard_window (s : State) (f : BoardSt → BoardSt) : (s.modBoard f).window = s.window := rfl
@[simp] theorem State.modBoard_bc (s : State) (f : BoardSt → BoardSt) : (s.modBoard f).bc = s.bc := rfl
@[simp] theorem State.modBoard_resp (s : State) (f : BoardSt → BoardSt) : (s.modBoard f).resp = s.resp := rfl
@[simp] theorem State.modBoard_fresh (s : State) (f : BoardSt → BoardSt) : (s.modBoard f).fresh = s.fresh := rfl
@[simp] theorem State.modBoard_sram (s : State) (f : BoardSt → BoardSt) : (s.modBoard f).sram = s.sram := rfl
@[simp] theorem State.modBoard_cores (s : State) (f : BoardSt → BoardSt) : (s.modBoard f).cores = s.cores := rfl
@[simp] theorem State.modBoard_ctxs (s : State) (f : BoardSt → BoardSt) : (s.modBoard f).ctxs = s.ctxs := rfl
@[simp] theorem State.modBoard_disp (s : State) (f : BoardSt → BoardSt) : (s.modBoard f).disp = s.disp := rfl
@[simp] theorem State.modBoard_integ (s : State) (f : BoardSt → BoardSt) : (s.modBoard f).integ = s.integ := rfl
@[simp] theorem State.modBoard_host (s : State) (f : BoardSt → BoardSt) : (s.modBoard f).host = s.host := rfl
@[simp] theorem State.modBoard_epoch (s : State) (f : BoardSt → BoardSt) : (s.modBoard f).epoch = s.epoch := rfl
@[simp] theorem State.modBoard_pwr (s : State) (f : BoardSt → BoardSt) : (s.modBoard f).pwr = s.pwr := rfl
@[simp] theorem State.modBoard_route (s : State) (f : BoardSt → BoardSt) : (s.modBoard f).route = s.route := rfl
@[simp] theorem State.modBoard_memt (s : State) (f : BoardSt → BoardSt) : (s.modBoard f).memt = s.memt := rfl
@[simp] theorem State.modBoard_io (s : State) (f : BoardSt → BoardSt) : (s.modBoard f).io = s.io := rfl
@[simp] theorem State.modBoard_net (s : State) (f : BoardSt → BoardSt) : (s.modBoard f).net = s.net := rfl
@[simp] theorem State.modBoard_refs (s : State) (f : BoardSt → BoardSt) : (s.modBoard f).refs = s.refs := rfl
@[simp] theorem State.modBoard_amps (s : State) (f : BoardSt → BoardSt) : (s.modBoard f).amps = s.amps := rfl
@[simp] theorem State.modBoard_bell (s : State) (f : BoardSt → BoardSt) : (s.modBoard f).bell = s.bell := rfl
@[simp] theorem State.modBoard_pair (s : State) (f : BoardSt → BoardSt) : (s.modBoard f).pair = s.pair := rfl

@[simp] theorem State.rd_modBoard (s : State) (f : BoardSt → BoardSt) (g : Fld) : (s.modBoard f).rd g = s.rd g := rfl
@[simp] theorem State.on_modBoard (s : State) (f : BoardSt → BoardSt) (g : Fld) : (s.modBoard f).on g = s.on g := rfl
@[simp] theorem State.core_modBoard (s : State) (f : BoardSt → BoardSt) (j : Nat) : (s.modBoard f).core j = s.core j := rfl
@[simp] theorem State.ctx_modBoard (s : State) (f : BoardSt → BoardSt) (j : Nat) : (s.modBoard f).ctx j = s.ctx j := rfl

@[simp] theorem State.modPair_pending (s : State) (f : PairSt → PairSt) : (s.modPair f).pending = s.pending := rfl
@[simp] theorem State.modPair_flds (s : State) (f : PairSt → PairSt) : (s.modPair f).flds = s.flds := rfl
@[simp] theorem State.modPair_staged (s : State) (f : PairSt → PairSt) : (s.modPair f).staged = s.staged := rfl
@[simp] theorem State.modPair_mem (s : State) (f : PairSt → PairSt) : (s.modPair f).mem = s.mem := rfl
@[simp] theorem State.modPair_hostMem (s : State) (f : PairSt → PairSt) : (s.modPair f).hostMem = s.hostMem := rfl
@[simp] theorem State.modPair_poison (s : State) (f : PairSt → PairSt) : (s.modPair f).poison = s.poison := rfl
@[simp] theorem State.modPair_n (s : State) (f : PairSt → PairSt) : (s.modPair f).n = s.n := rfl
@[simp] theorem State.modPair_window (s : State) (f : PairSt → PairSt) : (s.modPair f).window = s.window := rfl
@[simp] theorem State.modPair_bc (s : State) (f : PairSt → PairSt) : (s.modPair f).bc = s.bc := rfl
@[simp] theorem State.modPair_resp (s : State) (f : PairSt → PairSt) : (s.modPair f).resp = s.resp := rfl
@[simp] theorem State.modPair_fresh (s : State) (f : PairSt → PairSt) : (s.modPair f).fresh = s.fresh := rfl
@[simp] theorem State.modPair_sram (s : State) (f : PairSt → PairSt) : (s.modPair f).sram = s.sram := rfl
@[simp] theorem State.modPair_cores (s : State) (f : PairSt → PairSt) : (s.modPair f).cores = s.cores := rfl
@[simp] theorem State.modPair_ctxs (s : State) (f : PairSt → PairSt) : (s.modPair f).ctxs = s.ctxs := rfl
@[simp] theorem State.modPair_disp (s : State) (f : PairSt → PairSt) : (s.modPair f).disp = s.disp := rfl
@[simp] theorem State.modPair_integ (s : State) (f : PairSt → PairSt) : (s.modPair f).integ = s.integ := rfl
@[simp] theorem State.modPair_host (s : State) (f : PairSt → PairSt) : (s.modPair f).host = s.host := rfl
@[simp] theorem State.modPair_epoch (s : State) (f : PairSt → PairSt) : (s.modPair f).epoch = s.epoch := rfl
@[simp] theorem State.modPair_pwr (s : State) (f : PairSt → PairSt) : (s.modPair f).pwr = s.pwr := rfl
@[simp] theorem State.modPair_route (s : State) (f : PairSt → PairSt) : (s.modPair f).route = s.route := rfl
@[simp] theorem State.modPair_memt (s : State) (f : PairSt → PairSt) : (s.modPair f).memt = s.memt := rfl
@[simp] theorem State.modPair_io (s : State) (f : PairSt → PairSt) : (s.modPair f).io = s.io := rfl
@[simp] theorem State.modPair_net (s : State) (f : PairSt → PairSt) : (s.modPair f).net = s.net := rfl
@[simp] theorem State.modPair_refs (s : State) (f : PairSt → PairSt) : (s.modPair f).refs = s.refs := rfl
@[simp] theorem State.modPair_amps (s : State) (f : PairSt → PairSt) : (s.modPair f).amps = s.amps := rfl
@[simp] theorem State.modPair_bell (s : State) (f : PairSt → PairSt) : (s.modPair f).bell = s.bell := rfl
@[simp] theorem State.modPair_board (s : State) (f : PairSt → PairSt) : (s.modPair f).board = s.board := rfl

@[simp] theorem State.rd_modPair (s : State) (f : PairSt → PairSt) (g : Fld) : (s.modPair f).rd g = s.rd g := rfl
@[simp] theorem State.on_modPair (s : State) (f : PairSt → PairSt) (g : Fld) : (s.modPair f).on g = s.on g := rfl
@[simp] theorem State.core_modPair (s : State) (f : PairSt → PairSt) (j : Nat) : (s.modPair f).core j = s.core j := rfl
@[simp] theorem State.ctx_modPair (s : State) (f : PairSt → PairSt) (j : Nat) : (s.modPair f).ctx j = s.ctx j := rfl

@[simp] theorem State.setPort_pending (s : State) (k : Nat) (x : PortSt) : (s.setPort k x).pending = s.pending := rfl
@[simp] theorem State.setPort_flds (s : State) (k : Nat) (x : PortSt) : (s.setPort k x).flds = s.flds := rfl
@[simp] theorem State.setPort_staged (s : State) (k : Nat) (x : PortSt) : (s.setPort k x).staged = s.staged := rfl
@[simp] theorem State.setPort_mem (s : State) (k : Nat) (x : PortSt) : (s.setPort k x).mem = s.mem := rfl
@[simp] theorem State.setPort_hostMem (s : State) (k : Nat) (x : PortSt) : (s.setPort k x).hostMem = s.hostMem := rfl
@[simp] theorem State.setPort_poison (s : State) (k : Nat) (x : PortSt) : (s.setPort k x).poison = s.poison := rfl
@[simp] theorem State.setPort_n (s : State) (k : Nat) (x : PortSt) : (s.setPort k x).n = s.n := rfl
@[simp] theorem State.setPort_window (s : State) (k : Nat) (x : PortSt) : (s.setPort k x).window = s.window := rfl
@[simp] theorem State.setPort_bc (s : State) (k : Nat) (x : PortSt) : (s.setPort k x).bc = s.bc := rfl
@[simp] theorem State.setPort_resp (s : State) (k : Nat) (x : PortSt) : (s.setPort k x).resp = s.resp := rfl
@[simp] theorem State.setPort_fresh (s : State) (k : Nat) (x : PortSt) : (s.setPort k x).fresh = s.fresh := rfl
@[simp] theorem State.setPort_sram (s : State) (k : Nat) (x : PortSt) : (s.setPort k x).sram = s.sram := rfl
@[simp] theorem State.setPort_cores (s : State) (k : Nat) (x : PortSt) : (s.setPort k x).cores = s.cores := rfl
@[simp] theorem State.setPort_ctxs (s : State) (k : Nat) (x : PortSt) : (s.setPort k x).ctxs = s.ctxs := rfl
@[simp] theorem State.setPort_disp (s : State) (k : Nat) (x : PortSt) : (s.setPort k x).disp = s.disp := rfl
@[simp] theorem State.setPort_integ (s : State) (k : Nat) (x : PortSt) : (s.setPort k x).integ = s.integ := rfl
@[simp] theorem State.setPort_host (s : State) (k : Nat) (x : PortSt) : (s.setPort k x).host = s.host := rfl
@[simp] theorem State.setPort_epoch (s : State) (k : Nat) (x : PortSt) : (s.setPort k x).epoch = s.epoch := rfl
@[simp] theorem State.setPort_pwr (s : State) (k : Nat) (x : PortSt) : (s.setPort k x).pwr = s.pwr := rfl
@[simp] theorem State.setPort_route (s : State) (k : Nat) (x : PortSt) : (s.setPort k x).route = s.route := rfl
@[simp] theorem State.setPort_memt (s : State) (k : Nat) (x : PortSt) : (s.setPort k x).memt = s.memt := rfl
@[simp] theorem State.setPort_net (s : State) (k : Nat) (x : PortSt) : (s.setPort k x).net = s.net := rfl
@[simp] theorem State.setPort_refs (s : State) (k : Nat) (x : PortSt) : (s.setPort k x).refs = s.refs := rfl
@[simp] theorem State.setPort_amps (s : State) (k : Nat) (x : PortSt) : (s.setPort k x).amps = s.amps := rfl
@[simp] theorem State.setPort_bell (s : State) (k : Nat) (x : PortSt) : (s.setPort k x).bell = s.bell := rfl
@[simp] theorem State.setPort_pair (s : State) (k : Nat) (x : PortSt) : (s.setPort k x).pair = s.pair := rfl
@[simp] theorem State.setPort_board (s : State) (k : Nat) (x : PortSt) : (s.setPort k x).board = s.board := rfl

@[simp] theorem State.rd_setPort (s : State) (k : Nat) (x : PortSt) (g : Fld) : (s.setPort k x).rd g = s.rd g := rfl
@[simp] theorem State.on_setPort (s : State) (k : Nat) (x : PortSt) (g : Fld) : (s.setPort k x).on g = s.on g := rfl
@[simp] theorem State.core_setPort (s : State) (k : Nat) (x : PortSt) (j : Nat) : (s.setPort k x).core j = s.core j := rfl
@[simp] theorem State.ctx_setPort (s : State) (k : Nat) (x : PortSt) (j : Nat) : (s.setPort k x).ctx j = s.ctx j := rfl

@[simp] theorem State.setCand_pending (s : State) (k : Nat) (x : CandSt) : (s.setCand k x).pending = s.pending := rfl
@[simp] theorem State.setCand_flds (s : State) (k : Nat) (x : CandSt) : (s.setCand k x).flds = s.flds := rfl
@[simp] theorem State.setCand_staged (s : State) (k : Nat) (x : CandSt) : (s.setCand k x).staged = s.staged := rfl
@[simp] theorem State.setCand_mem (s : State) (k : Nat) (x : CandSt) : (s.setCand k x).mem = s.mem := rfl
@[simp] theorem State.setCand_hostMem (s : State) (k : Nat) (x : CandSt) : (s.setCand k x).hostMem = s.hostMem := rfl
@[simp] theorem State.setCand_poison (s : State) (k : Nat) (x : CandSt) : (s.setCand k x).poison = s.poison := rfl
@[simp] theorem State.setCand_n (s : State) (k : Nat) (x : CandSt) : (s.setCand k x).n = s.n := rfl
@[simp] theorem State.setCand_window (s : State) (k : Nat) (x : CandSt) : (s.setCand k x).window = s.window := rfl
@[simp] theorem State.setCand_bc (s : State) (k : Nat) (x : CandSt) : (s.setCand k x).bc = s.bc := rfl
@[simp] theorem State.setCand_resp (s : State) (k : Nat) (x : CandSt) : (s.setCand k x).resp = s.resp := rfl
@[simp] theorem State.setCand_fresh (s : State) (k : Nat) (x : CandSt) : (s.setCand k x).fresh = s.fresh := rfl
@[simp] theorem State.setCand_sram (s : State) (k : Nat) (x : CandSt) : (s.setCand k x).sram = s.sram := rfl
@[simp] theorem State.setCand_cores (s : State) (k : Nat) (x : CandSt) : (s.setCand k x).cores = s.cores := rfl
@[simp] theorem State.setCand_ctxs (s : State) (k : Nat) (x : CandSt) : (s.setCand k x).ctxs = s.ctxs := rfl
@[simp] theorem State.setCand_disp (s : State) (k : Nat) (x : CandSt) : (s.setCand k x).disp = s.disp := rfl
@[simp] theorem State.setCand_integ (s : State) (k : Nat) (x : CandSt) : (s.setCand k x).integ = s.integ := rfl
@[simp] theorem State.setCand_host (s : State) (k : Nat) (x : CandSt) : (s.setCand k x).host = s.host := rfl
@[simp] theorem State.setCand_epoch (s : State) (k : Nat) (x : CandSt) : (s.setCand k x).epoch = s.epoch := rfl
@[simp] theorem State.setCand_pwr (s : State) (k : Nat) (x : CandSt) : (s.setCand k x).pwr = s.pwr := rfl
@[simp] theorem State.setCand_route (s : State) (k : Nat) (x : CandSt) : (s.setCand k x).route = s.route := rfl
@[simp] theorem State.setCand_memt (s : State) (k : Nat) (x : CandSt) : (s.setCand k x).memt = s.memt := rfl
@[simp] theorem State.setCand_io (s : State) (k : Nat) (x : CandSt) : (s.setCand k x).io = s.io := rfl
@[simp] theorem State.setCand_net (s : State) (k : Nat) (x : CandSt) : (s.setCand k x).net = s.net := rfl
@[simp] theorem State.setCand_amps (s : State) (k : Nat) (x : CandSt) : (s.setCand k x).amps = s.amps := rfl
@[simp] theorem State.setCand_bell (s : State) (k : Nat) (x : CandSt) : (s.setCand k x).bell = s.bell := rfl
@[simp] theorem State.setCand_pair (s : State) (k : Nat) (x : CandSt) : (s.setCand k x).pair = s.pair := rfl
@[simp] theorem State.setCand_board (s : State) (k : Nat) (x : CandSt) : (s.setCand k x).board = s.board := rfl

@[simp] theorem State.rd_setCand (s : State) (k : Nat) (x : CandSt) (g : Fld) : (s.setCand k x).rd g = s.rd g := rfl
@[simp] theorem State.on_setCand (s : State) (k : Nat) (x : CandSt) (g : Fld) : (s.setCand k x).on g = s.on g := rfl
@[simp] theorem State.core_setCand (s : State) (k : Nat) (x : CandSt) (j : Nat) : (s.setCand k x).core j = s.core j := rfl
@[simp] theorem State.ctx_setCand (s : State) (k : Nat) (x : CandSt) (j : Nat) : (s.setCand k x).ctx j = s.ctx j := rfl

@[simp] theorem State.setPll_pending (s : State) (k : Nat) (x : PllSt) : (s.setPll k x).pending = s.pending := rfl
@[simp] theorem State.setPll_flds (s : State) (k : Nat) (x : PllSt) : (s.setPll k x).flds = s.flds := rfl
@[simp] theorem State.setPll_staged (s : State) (k : Nat) (x : PllSt) : (s.setPll k x).staged = s.staged := rfl
@[simp] theorem State.setPll_mem (s : State) (k : Nat) (x : PllSt) : (s.setPll k x).mem = s.mem := rfl
@[simp] theorem State.setPll_hostMem (s : State) (k : Nat) (x : PllSt) : (s.setPll k x).hostMem = s.hostMem := rfl
@[simp] theorem State.setPll_poison (s : State) (k : Nat) (x : PllSt) : (s.setPll k x).poison = s.poison := rfl
@[simp] theorem State.setPll_n (s : State) (k : Nat) (x : PllSt) : (s.setPll k x).n = s.n := rfl
@[simp] theorem State.setPll_window (s : State) (k : Nat) (x : PllSt) : (s.setPll k x).window = s.window := rfl
@[simp] theorem State.setPll_bc (s : State) (k : Nat) (x : PllSt) : (s.setPll k x).bc = s.bc := rfl
@[simp] theorem State.setPll_resp (s : State) (k : Nat) (x : PllSt) : (s.setPll k x).resp = s.resp := rfl
@[simp] theorem State.setPll_fresh (s : State) (k : Nat) (x : PllSt) : (s.setPll k x).fresh = s.fresh := rfl
@[simp] theorem State.setPll_sram (s : State) (k : Nat) (x : PllSt) : (s.setPll k x).sram = s.sram := rfl
@[simp] theorem State.setPll_cores (s : State) (k : Nat) (x : PllSt) : (s.setPll k x).cores = s.cores := rfl
@[simp] theorem State.setPll_ctxs (s : State) (k : Nat) (x : PllSt) : (s.setPll k x).ctxs = s.ctxs := rfl
@[simp] theorem State.setPll_disp (s : State) (k : Nat) (x : PllSt) : (s.setPll k x).disp = s.disp := rfl
@[simp] theorem State.setPll_integ (s : State) (k : Nat) (x : PllSt) : (s.setPll k x).integ = s.integ := rfl
@[simp] theorem State.setPll_host (s : State) (k : Nat) (x : PllSt) : (s.setPll k x).host = s.host := rfl
@[simp] theorem State.setPll_epoch (s : State) (k : Nat) (x : PllSt) : (s.setPll k x).epoch = s.epoch := rfl
@[simp] theorem State.setPll_pwr (s : State) (k : Nat) (x : PllSt) : (s.setPll k x).pwr = s.pwr := rfl
@[simp] theorem State.setPll_route (s : State) (k : Nat) (x : PllSt) : (s.setPll k x).route = s.route := rfl
@[simp] theorem State.setPll_memt (s : State) (k : Nat) (x : PllSt) : (s.setPll k x).memt = s.memt := rfl
@[simp] theorem State.setPll_io (s : State) (k : Nat) (x : PllSt) : (s.setPll k x).io = s.io := rfl
@[simp] theorem State.setPll_net (s : State) (k : Nat) (x : PllSt) : (s.setPll k x).net = s.net := rfl
@[simp] theorem State.setPll_amps (s : State) (k : Nat) (x : PllSt) : (s.setPll k x).amps = s.amps := rfl
@[simp] theorem State.setPll_bell (s : State) (k : Nat) (x : PllSt) : (s.setPll k x).bell = s.bell := rfl
@[simp] theorem State.setPll_pair (s : State) (k : Nat) (x : PllSt) : (s.setPll k x).pair = s.pair := rfl
@[simp] theorem State.setPll_board (s : State) (k : Nat) (x : PllSt) : (s.setPll k x).board = s.board := rfl

@[simp] theorem State.rd_setPll (s : State) (k : Nat) (x : PllSt) (g : Fld) : (s.setPll k x).rd g = s.rd g := rfl
@[simp] theorem State.on_setPll (s : State) (k : Nat) (x : PllSt) (g : Fld) : (s.setPll k x).on g = s.on g := rfl
@[simp] theorem State.core_setPll (s : State) (k : Nat) (x : PllSt) (j : Nat) : (s.setPll k x).core j = s.core j := rfl
@[simp] theorem State.ctx_setPll (s : State) (k : Nat) (x : PllSt) (j : Nat) : (s.setPll k x).ctx j = s.ctx j := rfl

@[simp] theorem State.setTb_pending (s : State) (k : Nat) (x : TbSt) : (s.setTb k x).pending = s.pending := rfl
@[simp] theorem State.setTb_flds (s : State) (k : Nat) (x : TbSt) : (s.setTb k x).flds = s.flds := rfl
@[simp] theorem State.setTb_staged (s : State) (k : Nat) (x : TbSt) : (s.setTb k x).staged = s.staged := rfl
@[simp] theorem State.setTb_mem (s : State) (k : Nat) (x : TbSt) : (s.setTb k x).mem = s.mem := rfl
@[simp] theorem State.setTb_hostMem (s : State) (k : Nat) (x : TbSt) : (s.setTb k x).hostMem = s.hostMem := rfl
@[simp] theorem State.setTb_poison (s : State) (k : Nat) (x : TbSt) : (s.setTb k x).poison = s.poison := rfl
@[simp] theorem State.setTb_n (s : State) (k : Nat) (x : TbSt) : (s.setTb k x).n = s.n := rfl
@[simp] theorem State.setTb_window (s : State) (k : Nat) (x : TbSt) : (s.setTb k x).window = s.window := rfl
@[simp] theorem State.setTb_bc (s : State) (k : Nat) (x : TbSt) : (s.setTb k x).bc = s.bc := rfl
@[simp] theorem State.setTb_resp (s : State) (k : Nat) (x : TbSt) : (s.setTb k x).resp = s.resp := rfl
@[simp] theorem State.setTb_fresh (s : State) (k : Nat) (x : TbSt) : (s.setTb k x).fresh = s.fresh := rfl
@[simp] theorem State.setTb_sram (s : State) (k : Nat) (x : TbSt) : (s.setTb k x).sram = s.sram := rfl
@[simp] theorem State.setTb_cores (s : State) (k : Nat) (x : TbSt) : (s.setTb k x).cores = s.cores := rfl
@[simp] theorem State.setTb_ctxs (s : State) (k : Nat) (x : TbSt) : (s.setTb k x).ctxs = s.ctxs := rfl
@[simp] theorem State.setTb_disp (s : State) (k : Nat) (x : TbSt) : (s.setTb k x).disp = s.disp := rfl
@[simp] theorem State.setTb_integ (s : State) (k : Nat) (x : TbSt) : (s.setTb k x).integ = s.integ := rfl
@[simp] theorem State.setTb_host (s : State) (k : Nat) (x : TbSt) : (s.setTb k x).host = s.host := rfl
@[simp] theorem State.setTb_epoch (s : State) (k : Nat) (x : TbSt) : (s.setTb k x).epoch = s.epoch := rfl
@[simp] theorem State.setTb_pwr (s : State) (k : Nat) (x : TbSt) : (s.setTb k x).pwr = s.pwr := rfl
@[simp] theorem State.setTb_route (s : State) (k : Nat) (x : TbSt) : (s.setTb k x).route = s.route := rfl
@[simp] theorem State.setTb_memt (s : State) (k : Nat) (x : TbSt) : (s.setTb k x).memt = s.memt := rfl
@[simp] theorem State.setTb_io (s : State) (k : Nat) (x : TbSt) : (s.setTb k x).io = s.io := rfl
@[simp] theorem State.setTb_refs (s : State) (k : Nat) (x : TbSt) : (s.setTb k x).refs = s.refs := rfl
@[simp] theorem State.setTb_amps (s : State) (k : Nat) (x : TbSt) : (s.setTb k x).amps = s.amps := rfl
@[simp] theorem State.setTb_bell (s : State) (k : Nat) (x : TbSt) : (s.setTb k x).bell = s.bell := rfl
@[simp] theorem State.setTb_pair (s : State) (k : Nat) (x : TbSt) : (s.setTb k x).pair = s.pair := rfl
@[simp] theorem State.setTb_board (s : State) (k : Nat) (x : TbSt) : (s.setTb k x).board = s.board := rfl

@[simp] theorem State.rd_setTb (s : State) (k : Nat) (x : TbSt) (g : Fld) : (s.setTb k x).rd g = s.rd g := rfl
@[simp] theorem State.on_setTb (s : State) (k : Nat) (x : TbSt) (g : Fld) : (s.setTb k x).on g = s.on g := rfl
@[simp] theorem State.core_setTb (s : State) (k : Nat) (x : TbSt) (j : Nat) : (s.setTb k x).core j = s.core j := rfl
@[simp] theorem State.ctx_setTb (s : State) (k : Nat) (x : TbSt) (j : Nat) : (s.setTb k x).ctx j = s.ctx j := rfl

@[simp] theorem State.setRxs_pending (s : State) (k : Nat) (x : RxSt) : (s.setRxs k x).pending = s.pending := rfl
@[simp] theorem State.setRxs_flds (s : State) (k : Nat) (x : RxSt) : (s.setRxs k x).flds = s.flds := rfl
@[simp] theorem State.setRxs_staged (s : State) (k : Nat) (x : RxSt) : (s.setRxs k x).staged = s.staged := rfl
@[simp] theorem State.setRxs_mem (s : State) (k : Nat) (x : RxSt) : (s.setRxs k x).mem = s.mem := rfl
@[simp] theorem State.setRxs_hostMem (s : State) (k : Nat) (x : RxSt) : (s.setRxs k x).hostMem = s.hostMem := rfl
@[simp] theorem State.setRxs_poison (s : State) (k : Nat) (x : RxSt) : (s.setRxs k x).poison = s.poison := rfl
@[simp] theorem State.setRxs_n (s : State) (k : Nat) (x : RxSt) : (s.setRxs k x).n = s.n := rfl
@[simp] theorem State.setRxs_window (s : State) (k : Nat) (x : RxSt) : (s.setRxs k x).window = s.window := rfl
@[simp] theorem State.setRxs_bc (s : State) (k : Nat) (x : RxSt) : (s.setRxs k x).bc = s.bc := rfl
@[simp] theorem State.setRxs_resp (s : State) (k : Nat) (x : RxSt) : (s.setRxs k x).resp = s.resp := rfl
@[simp] theorem State.setRxs_fresh (s : State) (k : Nat) (x : RxSt) : (s.setRxs k x).fresh = s.fresh := rfl
@[simp] theorem State.setRxs_sram (s : State) (k : Nat) (x : RxSt) : (s.setRxs k x).sram = s.sram := rfl
@[simp] theorem State.setRxs_cores (s : State) (k : Nat) (x : RxSt) : (s.setRxs k x).cores = s.cores := rfl
@[simp] theorem State.setRxs_ctxs (s : State) (k : Nat) (x : RxSt) : (s.setRxs k x).ctxs = s.ctxs := rfl
@[simp] theorem State.setRxs_disp (s : State) (k : Nat) (x : RxSt) : (s.setRxs k x).disp = s.disp := rfl
@[simp] theorem State.setRxs_integ (s : State) (k : Nat) (x : RxSt) : (s.setRxs k x).integ = s.integ := rfl
@[simp] theorem State.setRxs_host (s : State) (k : Nat) (x : RxSt) : (s.setRxs k x).host = s.host := rfl
@[simp] theorem State.setRxs_epoch (s : State) (k : Nat) (x : RxSt) : (s.setRxs k x).epoch = s.epoch := rfl
@[simp] theorem State.setRxs_pwr (s : State) (k : Nat) (x : RxSt) : (s.setRxs k x).pwr = s.pwr := rfl
@[simp] theorem State.setRxs_route (s : State) (k : Nat) (x : RxSt) : (s.setRxs k x).route = s.route := rfl
@[simp] theorem State.setRxs_memt (s : State) (k : Nat) (x : RxSt) : (s.setRxs k x).memt = s.memt := rfl
@[simp] theorem State.setRxs_io (s : State) (k : Nat) (x : RxSt) : (s.setRxs k x).io = s.io := rfl
@[simp] theorem State.setRxs_refs (s : State) (k : Nat) (x : RxSt) : (s.setRxs k x).refs = s.refs := rfl
@[simp] theorem State.setRxs_amps (s : State) (k : Nat) (x : RxSt) : (s.setRxs k x).amps = s.amps := rfl
@[simp] theorem State.setRxs_bell (s : State) (k : Nat) (x : RxSt) : (s.setRxs k x).bell = s.bell := rfl
@[simp] theorem State.setRxs_pair (s : State) (k : Nat) (x : RxSt) : (s.setRxs k x).pair = s.pair := rfl
@[simp] theorem State.setRxs_board (s : State) (k : Nat) (x : RxSt) : (s.setRxs k x).board = s.board := rfl

@[simp] theorem State.rd_setRxs (s : State) (k : Nat) (x : RxSt) (g : Fld) : (s.setRxs k x).rd g = s.rd g := rfl
@[simp] theorem State.on_setRxs (s : State) (k : Nat) (x : RxSt) (g : Fld) : (s.setRxs k x).on g = s.on g := rfl
@[simp] theorem State.core_setRxs (s : State) (k : Nat) (x : RxSt) (j : Nat) : (s.setRxs k x).core j = s.core j := rfl
@[simp] theorem State.ctx_setRxs (s : State) (k : Nat) (x : RxSt) (j : Nat) : (s.setRxs k x).ctx j = s.ctx j := rfl

@[simp] theorem State.setDest_pending (s : State) (k : Nat) (x : Dest) : (s.setDest k x).pending = s.pending := rfl
@[simp] theorem State.setDest_flds (s : State) (k : Nat) (x : Dest) : (s.setDest k x).flds = s.flds := rfl
@[simp] theorem State.setDest_staged (s : State) (k : Nat) (x : Dest) : (s.setDest k x).staged = s.staged := rfl
@[simp] theorem State.setDest_mem (s : State) (k : Nat) (x : Dest) : (s.setDest k x).mem = s.mem := rfl
@[simp] theorem State.setDest_hostMem (s : State) (k : Nat) (x : Dest) : (s.setDest k x).hostMem = s.hostMem := rfl
@[simp] theorem State.setDest_poison (s : State) (k : Nat) (x : Dest) : (s.setDest k x).poison = s.poison := rfl
@[simp] theorem State.setDest_n (s : State) (k : Nat) (x : Dest) : (s.setDest k x).n = s.n := rfl
@[simp] theorem State.setDest_window (s : State) (k : Nat) (x : Dest) : (s.setDest k x).window = s.window := rfl
@[simp] theorem State.setDest_bc (s : State) (k : Nat) (x : Dest) : (s.setDest k x).bc = s.bc := rfl
@[simp] theorem State.setDest_resp (s : State) (k : Nat) (x : Dest) : (s.setDest k x).resp = s.resp := rfl
@[simp] theorem State.setDest_fresh (s : State) (k : Nat) (x : Dest) : (s.setDest k x).fresh = s.fresh := rfl
@[simp] theorem State.setDest_sram (s : State) (k : Nat) (x : Dest) : (s.setDest k x).sram = s.sram := rfl
@[simp] theorem State.setDest_cores (s : State) (k : Nat) (x : Dest) : (s.setDest k x).cores = s.cores := rfl
@[simp] theorem State.setDest_ctxs (s : State) (k : Nat) (x : Dest) : (s.setDest k x).ctxs = s.ctxs := rfl
@[simp] theorem State.setDest_disp (s : State) (k : Nat) (x : Dest) : (s.setDest k x).disp = s.disp := rfl
@[simp] theorem State.setDest_integ (s : State) (k : Nat) (x : Dest) : (s.setDest k x).integ = s.integ := rfl
@[simp] theorem State.setDest_host (s : State) (k : Nat) (x : Dest) : (s.setDest k x).host = s.host := rfl
@[simp] theorem State.setDest_epoch (s : State) (k : Nat) (x : Dest) : (s.setDest k x).epoch = s.epoch := rfl
@[simp] theorem State.setDest_pwr (s : State) (k : Nat) (x : Dest) : (s.setDest k x).pwr = s.pwr := rfl
@[simp] theorem State.setDest_memt (s : State) (k : Nat) (x : Dest) : (s.setDest k x).memt = s.memt := rfl
@[simp] theorem State.setDest_io (s : State) (k : Nat) (x : Dest) : (s.setDest k x).io = s.io := rfl
@[simp] theorem State.setDest_net (s : State) (k : Nat) (x : Dest) : (s.setDest k x).net = s.net := rfl
@[simp] theorem State.setDest_refs (s : State) (k : Nat) (x : Dest) : (s.setDest k x).refs = s.refs := rfl
@[simp] theorem State.setDest_amps (s : State) (k : Nat) (x : Dest) : (s.setDest k x).amps = s.amps := rfl
@[simp] theorem State.setDest_bell (s : State) (k : Nat) (x : Dest) : (s.setDest k x).bell = s.bell := rfl
@[simp] theorem State.setDest_pair (s : State) (k : Nat) (x : Dest) : (s.setDest k x).pair = s.pair := rfl
@[simp] theorem State.setDest_board (s : State) (k : Nat) (x : Dest) : (s.setDest k x).board = s.board := rfl

@[simp] theorem State.rd_setDest (s : State) (k : Nat) (x : Dest) (g : Fld) : (s.setDest k x).rd g = s.rd g := rfl
@[simp] theorem State.on_setDest (s : State) (k : Nat) (x : Dest) (g : Fld) : (s.setDest k x).on g = s.on g := rfl
@[simp] theorem State.core_setDest (s : State) (k : Nat) (x : Dest) (j : Nat) : (s.setDest k x).core j = s.core j := rfl
@[simp] theorem State.ctx_setDest (s : State) (k : Nat) (x : Dest) (j : Nat) : (s.setDest k x).ctx j = s.ctx j := rfl

/-! ## Register fields -/

/-- A field reads the low bits of what was written to it. -/
@[simp] theorem State.rd_wr_same (s : State) (f : Fld) (v : Nat) : (s.wr f v).rd f = v % 2 ^ f.w := by
  simp [State.rd, State.wr]

/-- The later of two writes of a field stands. -/
@[simp] theorem State.wr_wr (s : State) (f : Fld) (v w : Nat) : (s.wr f v).wr f w = s.wr f w := by
  simp [State.wr]

/-- A field at another number or index reads as before. -/
theorem State.rd_wr_other (s : State) (f g : Fld) (v : Nat) (h : g.no ≠ f.no ∨ g.idx ≠ f.idx) : (s.wr f v).rd g = s.rd g := by
  simp only [State.rd, State.wr]
  by_cases hn : g.no = f.no
  · have hi : g.idx ≠ f.idx := h.resolve_left fun k => k hn
    rw [hn, tget_tput_same, tget_tput_other _ _ _ _ hi]
  · rw [tget_tput_other _ _ _ _ hn]

/-- A one-bit field that was written is on where the value is odd. -/
theorem State.on_wr_same (s : State) (f : Fld) (v : Nat) : (s.wr f v).on f = (v % 2 ^ f.w == 1) := by
  simp [State.on]

theorem State.on_wr_other (s : State) (f g : Fld) (v : Nat) (h : g.no ≠ f.no ∨ g.idx ≠ f.idx) : (s.wr f v).on g = s.on g := by
  simp [State.on, State.rd_wr_other s f g v h]

@[simp] theorem State.core_setCore_same (s : State) (k : Nat) (c : Core) : (s.setCore k c).core k = c := by
  simp [State.core, State.setCore]

theorem State.core_setCore_other (s : State) (k : Nat) (c : Core) {j : Nat} (h : j ≠ k) : (s.setCore k c).core j = s.core j :=
  tget_tput_other _ _ _ _ h

@[simp] theorem State.core_modCore_same (s : State) (k : Nat) (f : Core → Core) : (s.modCore k f).core k = f (s.core k) := by
  simp [State.modCore]

@[simp] theorem State.ctx_setCtx_same (s : State) (k : Nat) (c : Ctx) : (s.setCtx k c).ctx k = c := by
  simp [State.ctx, State.setCtx]

theorem State.ctx_setCtx_other (s : State) (k : Nat) (c : Ctx) {j : Nat} (h : j ≠ k) : (s.setCtx k c).ctx j = s.ctx j :=
  tget_tput_other _ _ _ _ h

@[simp] theorem State.ctx_modCtx_same (s : State) (k : Nat) (f : Ctx → Ctx) : (s.modCtx k f).ctx k = f (s.ctx k) := by
  simp [State.modCtx]

end Sys2Proof.Machine
end

