-- ==== Sys2Proof/Laws/Bundle.lean ====
section
/-! SUPPORT. What executing a bundle does where nothing keeps it from executing. -/
namespace Sys2Proof.Machine

theorem foldl_fixed {α β : Type} (f : β → α → β) (x : β) (h : ∀ a, f x a = x) (l : List α) : l.foldl f x = x := by
  induction l with
  | nil => rfl
  | cons a l ih => rw [List.foldl_cons, h, ih]

/-- With no poisoned word and no injected error, the near reads of a bundle meet no ECC error (R56). -/
theorem State.nearRead_clean {s : State} (hp : s.poison = []) (hf : s.integ.flips = []) (k a n : Nat) :
    s.nearRead k a n = (s, false, false) := by
  unfold State.nearRead
  apply foldl_fixed
  intro i
  simp [hp, hf]

/-- The near reads of a bundle's memory operations find nothing then. -/
theorem State.nearEcc_clean {s : State} (hp : s.poison = []) (hf : s.integ.flips = []) (k : Nat) (c : Core) (ms : List MemOp) :
    s.nearEcc k c ms = (s, false, false) := by
  unfold State.nearEcc
  apply foldl_fixed
  intro m
  split
  · rfl
  · simp only [State.nearRead_clean hp hf, Bool.or_self, ite_self]

theorem head_filterMap_none {α β : Type} (f : α → Option β) (l : List α) (h : (l.all fun x => (f x).isNone) = true) :
    (l.filterMap f).head? = none := by
  have : l.filterMap f = [] := by
    apply List.filterMap_eq_nil_iff.mpr
    intro x hx
    have := List.all_eq_true.mp h x hx
    simpa using this
  rw [this]; rfl

/-- A bundle that may execute runs as its form says. -/
theorem State.runBundle_open {s : State} {k : Nat} {b : Bundle} (h : s.runs k b) :
    s.runBundle k b false = (match b with
      | .arith u0 u1 m0 m1 => s.runArith k (s.core k).tid u0 u1 m0 m1
      | .move op => s.runMove k (s.core k).tid op
      | .ctrl op => s.runCtrl k op) := by
  obtain ⟨h1, h2, h3, h4, h5, h6, h7, h10, h11, h8⟩ := h
  have h9 := head_filterMap_none _ _ h8
  unfold State.runBundle State.fetchEcc
  dsimp only
  rw [if_neg (by rw [h1]; decide), if_neg (by rw [h2]; decide), State.nearRead_clean h6 h7]
  dsimp only
  rw [if_neg (by rw [h4]; decide), if_neg (by decide), if_neg (by rw [h10]; decide), if_neg (by rw [h11]; decide),
    State.nearEcc_clean h6 h7, ite_self]
  dsimp only
  rw [if_neg (by rw [h3]; decide), if_neg (by rw [h5]; decide)]
  split
  · rename_i f hf
    exact absurd (hf.symm.trans h9) (by simp)
  · cases b <;> rfl

/-- An ARITH bundle that may execute runs. -/
theorem State.runBundle_arith {s : State} {k : Nat} {u0 u1 : UnitOp} {m0 m1 : MemOp} (h : s.runs k (.arith u0 u1 m0 m1)) :
    s.runBundle k (.arith u0 u1 m0 m1) false = s.runArith k (s.core k).tid u0 u1 m0 m1 := State.runBundle_open h

/-- A MOVE bundle that may execute runs. -/
theorem State.runBundle_move {s : State} {k : Nat} {op : MoveOp} (h : s.runs k (.move op)) :
    s.runBundle k (.move op) false = s.runMove k (s.core k).tid op := State.runBundle_open h

/-- A CTRL bundle that may execute runs. -/
theorem State.runBundle_ctrl {s : State} {k : Nat} {op : CtrlOp} (h : s.runs k (.ctrl op)) :
    s.runBundle k (.ctrl op) false = s.runCtrl k op := State.runBundle_open h

end Sys2Proof.Machine
end

