-- ==== Sys2Proof/Laws/Memory.lean ====
section
/-! SUPPORT. Memory: a byte read after a write, and that every memory operation keeps the canonical form (log entry 7). -/
namespace Sys2Proof.Machine

@[simp] theorem byteAt_putByte_same (m : List Host.Cell) (a : Nat) (v : Byte) : byteAt (putByte m a v) a = v := by
  simp [byteAt, putByte]

theorem byteAt_putByte_other (m : List Host.Cell) {a b : Nat} (v : Byte) (h : b ≠ a) : byteAt (putByte m a v) b = byteAt m b :=
  tget_tput_other 0 0 m v h

theorem memWf_putByte (m : List Host.Cell) (a : Nat) (v : Byte) (h : memWf m = true) : memWf (putByte m a v) = true :=
  tabWf_tput 0 m a v h

theorem memWf_putBytes (vs : List Byte) (m : List Host.Cell) (a : Nat) (h : memWf m = true) : memWf (putBytes m a vs) = true := by
  induction vs generalizing m a with
  | nil => exact h
  | cons v vs ih => exact ih _ _ (memWf_putByte m a v h)

/-- A byte outside those written reads as before. -/
theorem byteAt_putBytes_out (vs : List Byte) (m : List Host.Cell) (a b : Nat) (h : b < a ∨ a + vs.length ≤ b) :
    byteAt (putBytes m a vs) b = byteAt m b := by
  induction vs generalizing m a with
  | nil => rfl
  | cons v vs ih =>
    simp only [List.length_cons] at h
    rw [putBytes, ih _ _ (by omega), byteAt_putByte_other m v (by omega)]

/-- A byte that was written reads as written. -/
theorem byteAt_putBytes_in (vs : List Byte) (m : List Host.Cell) (a i : Nat) (h : i < vs.length) :
    byteAt (putBytes m a vs) (a + i) = vs[i] := by
  induction vs generalizing m a i with
  | nil => simp at h
  | cons v vs ih =>
    cases i with
    | zero => rw [putBytes, byteAt_putBytes_out _ _ _ _ (by omega)]; simp
    | succ i =>
      have := ih (putByte m a v) (a + 1) i (by simpa using h)
      rw [putBytes, show a + (i + 1) = a + 1 + i by omega, this]
      rfl

theorem leBytes_length (v n : Nat) : (leBytes v n).length = n := by
  induction n generalizing v with
  | zero => rfl
  | succ n ih => simp [leBytes, ih]

theorem leNat_leBytes (v n : Nat) : leNat (leBytes v n) = v % 256 ^ n := by
  induction n generalizing v with
  | zero => simp [leBytes, leNat, Nat.mod_one]
  | succ n ih =>
    simp only [leBytes, leNat, ih, BitVec.toNat_ofNat]
    rw [show 256 ^ (n + 1) = 256 * 256 ^ n by rw [Nat.pow_succ, Nat.mul_comm], Nat.mod_mul]

theorem bytesAt_putBytes (vs : List Byte) (m : List Host.Cell) (a : Nat) : bytesAt (putBytes m a vs) a vs.length = vs := by
  have key : ∀ n b, (∀ i, i < n → b + i < a + vs.length ∧ a ≤ b + i) →
      bytesAt (putBytes m a vs) b n = (List.range n).map fun i => byteAt (putBytes m a vs) (b + i) := by
    intro n
    induction n with
    | zero => intro b _; rfl
    | succ n ih =>
      intro b hb
      rw [bytesAt, ih (b + 1) fun i hi => by have := hb (i + 1) (by omega); omega]
      rw [List.range_succ_eq_map]
      simp only [List.map_cons, List.map_map, Nat.add_zero]
      congr 1
      apply List.map_congr_left
      intro i _
      simp only [Function.comp]
      congr 1
      omega
  rw [key vs.length a fun i hi => by omega]
  apply List.ext_getElem
  · simp
  · intro i h1 h2
    simp only [List.getElem_map, List.getElem_range]
    exact byteAt_putBytes_in vs m a i h2

end Sys2Proof.Machine
end

