-- ==== Sys2Proof/Laws/Canonical.lean ====
section
/-! SUPPORT. Every operation that writes device memory or host memory keeps their canonical form (log entry 7). -/
namespace Sys2Proof.Machine

theorem State.memOk_iff (s : State) : s.memOk = true ↔ memWf s.mem = true ∧ memWf s.hostMem = true := by
  simp [State.memOk]

/-- A step that leaves both memories alone keeps their form. -/
theorem State.memOk_same {s t : State} (h : s.memOk = true) (h1 : t.mem = s.mem) (h2 : t.hostMem = s.hostMem) : t.memOk = true := by
  rw [State.memOk_iff] at h ⊢
  rwa [h1, h2]

/-- A step that writes bytes to device memory keeps the form. -/
theorem State.memOk_put {s t : State} {a : Nat} {vs : List Byte} (h : s.memOk = true) (h1 : t.mem = putBytes s.mem a vs)
    (h2 : t.hostMem = s.hostMem) : t.memOk = true := by
  rw [State.memOk_iff] at h ⊢
  exact ⟨h1 ▸ memWf_putBytes vs _ a h.1, h2 ▸ h.2⟩

theorem State.memOk_bytes (s : State) (a : Nat) (vs : List Byte) (h : s.memOk = true) :
    State.memOk { s with mem := putBytes s.mem a vs } = true := State.memOk_put h rfl rfl

/-- A step that writes bytes to host memory keeps the form. -/
theorem State.memOk_hostPut {s t : State} {a : Nat} {vs : List Byte} (h : s.memOk = true) (h1 : t.mem = s.mem)
    (h2 : t.hostMem = putBytes s.hostMem a vs) : t.memOk = true := by
  rw [State.memOk_iff] at h ⊢
  exact ⟨h1 ▸ h.1, h2 ▸ memWf_putBytes vs _ a h.2⟩

/-- A fold of operations that keep the form keeps it. -/
theorem State.memOk_foldl {β : Type} (f : State → β → State) (hf : ∀ s x, s.memOk = true → (f s x).memOk = true) (l : List β)
    (s : State) (h : s.memOk = true) : (l.foldl f s).memOk = true := by
  induction l generalizing s with
  | nil => exact h
  | cons x l ih => exact ih _ (hf s x h)

/-- Taking entries out keeps the form. -/
theorem memWf_filter (m : List Host.Cell) (p : Host.Cell → Bool) (h : memWf m = true) : memWf (m.filter p) = true := by
  have h := (tabWf_iff (0 : Byte) m).mp h
  exact (tabWf_iff (0 : Byte) (m.filter p)).mpr ⟨h.1.filter p, fun q hq => h.2 q (List.mem_filter.mp hq).1⟩

theorem State.memOk_wr (s : State) (f : Fld) (v : Nat) (h : s.memOk = true) : (s.wr f v).memOk = true := h

theorem State.memOk_injDone (s : State) (h : s.memOk = true) : s.injDone.memOk = true := by
  unfold State.injDone
  split
  · exact h
  · dsimp only
    split <;> exact h

theorem State.memOk_unflip (s : State) (w : Nat) (h : s.memOk = true) : (s.unflip w).memOk = true := by
  unfold State.unflip
  split
  · exact h
  · dsimp only
    split <;> exact State.memOk_injDone s h

theorem State.memOk_touchWord (s : State) (w : Nat) (h : s.memOk = true) : (s.touchWord w).memOk = true := by
  have h := State.memOk_unflip s w h
  unfold State.touchWord
  dsimp only
  split
  · exact State.memOk_put h rfl rfl
  · exact h

/-- Stores of a core, of 1 to 8 bytes. -/
theorem State.memOk_st (s : State) (a n v : Nat) (h : s.memOk = true) : (s.st a n v).memOk = true := by
  unfold State.st
  exact State.memOk_put (State.memOk_foldl _ (fun s i h => State.memOk_touchWord s _ h) _ s h) rfl rfl

theorem State.memOk_copyMem (s : State) (dst src n : Nat) (h : s.memOk = true) : (s.copyMem dst src n).memOk = true :=
  State.memOk_put h rfl rfl

/-- Writes at a device address, by any accessor. -/
theorem State.memOk_devPut (l : List Byte) (s : State) (a : Nat) (h : s.memOk = true) : (s.devPut a l).memOk = true := by
  induction l generalizing s a with
  | nil => exact h
  | cons v vs ih =>
    rw [State.devPut]
    have h := State.memOk_touchWord s (s.phys a / 8) h
    refine ih _ _ ?_
    rw [State.memOk_iff] at h ⊢
    exact ⟨memWf_putByte _ _ v h.1, h.2⟩

/-- The entries of an ERROR ring. -/
theorem State.memOk_ringPutQuiet (s : State) (r a : Nat) (l : List Byte) (h : s.memOk = true) : (s.ringPutQuiet r a l).memOk = true := by
  unfold State.ringPutQuiet
  split
  · exact State.memOk_hostPut h rfl rfl
  · refine State.memOk_foldl _ (fun s q h => ?_) _ s h
    split
    · exact State.memOk_devPut _ s _ h
    · split <;> exact h

theorem State.memOk_ringSignal (s : State) (r : Nat) (h : s.memOk = true) : (s.ringSignal r).memOk = true := by
  unfold State.ringSignal
  split <;> exact h

theorem State.memOk_latchFatal (s : State) (bs : List Byte) (h : s.memOk = true) : (s.latchFatal bs).memOk = true := by
  have key : ∀ l : List (Nat × Nat),
      (l.foldl (fun (s : State) (q : Nat × Nat) => s.wr (INTG_FATREC_WORD q.2) q.1) s).memOk = true :=
    fun l => State.memOk_foldl (fun (s : State) (q : Nat × Nat) => s.wr (INTG_FATREC_WORD q.2) q.1) (fun s _ h => State.memOk_wr s _ _ h) l s h
  unfold State.latchFatal
  split
  · exact h
  · dsimp only
    split
    · unfold State.uartLine
      split <;> exact key _
    · exact key _

/-- An entry that is pushed into an ERROR ring. -/
theorem State.memOk_ringPushBy (s : State) (r : Nat) (e : List Byte) (h : s.memOk = true) :
    (State.ringPushBy State.ringPutQuiet s r e).memOk = true := by
  unfold State.ringPushBy
  dsimp only
  generalize s.ringBase r + s.rd (HOST_RPI_INDEX r) % s.ringSize r * 64 = a
  have h1 := State.memOk_ringPutQuiet s r a e h
  generalize s.ringPutQuiet r a e = s1 at h1
  exact State.memOk_ringSignal _ r h1

/-- A record that is written to its ring. -/
theorem State.memOk_writeRec (s : State) (r : Rec) (h : s.memOk = true) : (s.writeRec r).memOk = true := by
  unfold State.writeRec
  dsimp only
  generalize h1 : (s.inc INTG_SEQ_NEXT 1).wr INTG_SUMMARY_CLASS (setBit (s.rd INTG_SUMMARY_CLASS) r.cls true) = s1
  have e1 : s1.memOk = true := h1 ▸ h
  generalize h2 : (if r.nested = true then s1.incSat INTG_NEST_NESTED 1 else s1) = s2
  have e2 : s2.memOk = true := by rw [← h2]; split <;> exact e1
  generalize h3 : (if r.escalated = true then s2.incSat INTG_NEST_ESC 1 else s2) = s3
  have e3 : s3.memOk = true := by rw [← h3]; split <;> exact e2
  generalize h4 : (if r.cls = 4 then (s3.latchFatal _).noteFatal else s3) = s4
  have e4 : s4.memOk = true := by
    rw [← h4]
    split
    · exact State.memOk_latchFatal s3 _ e3
    · exact e3
  split
  · exact e4
  · split
    · exact e4
    · rename_i g _ _
      generalize padTo 64 _ = e
      have e5 : (s4.inc (INTG_RCNT_COUNT r.cls) 1).memOk = true := e4
      have e6 := State.memOk_ringPushBy (s4.inc (INTG_RCNT_COUNT r.cls) 1) g e e5
      generalize State.ringPushBy State.ringPutQuiet (s4.inc (INTG_RCNT_COUNT r.cls) 1) g e = s5 at e6
      exact e6

theorem State.memOk_emit (s : State) (r : Rec) (h : s.memOk = true) : (s.emit r).memOk = true := by
  unfold State.emit
  dsimp only
  split <;> split
  · exact h
  · exact State.memOk_writeRec _ _ h
  · exact h
  · exact State.memOk_writeRec _ _ h

/-- Rows that stay in service while they fail (R163). -/
theorem State.memOk_exhaust (s : State) (m row : Nat) (fs : List TestFail) (esc : Bool) (h : s.memOk = true) :
    (s.exhaust m row fs esc).memOk = true := by
  unfold State.exhaust
  refine State.memOk_foldl _ (fun s f h => ?_) _ _ (State.memOk_emit _ _ h)
  split
  · split <;> exact h
  · exact h

theorem State.memOk_noSpare (s : State) (q : BankReq) (h : s.memOk = true) : (s.noSpare q).memOk = true := by
  unfold State.noSpare
  dsimp only
  generalize h1 : (if (s.wr MEMT_BANKMAP_NOSPARE 1).memt.go = some q.bank then _ else s.wr MEMT_BANKMAP_NOSPARE 1) = s1
  have e1 : s1.memOk = true := by rw [← h1]; split <;> exact h
  rcases q.why with _ | ⟨m, row, fs⟩ <;> dsimp only
  · split <;> exact e1
  · have e2 := State.memOk_exhaust s1 m row fs (s1.memt.esc.contains q.bank) e1
    split <;> exact e2

theorem State.memOk_retireBank (s : State) (q : BankReq) (h : s.memOk = true) : (s.retireBank q).memOk = true := by
  unfold State.retireBank State.beginHandling
  split
  · exact h
  · split
    · exact h
    · split
      · dsimp only
        split <;> exact h
      · exact State.memOk_noSpare s q h

theorem State.memOk_bankError (s : State) (w : Nat) (h : s.memOk = true) : (s.bankError w).memOk = true := by
  unfold State.bankError
  split
  · exact h
  · dsimp only
    split <;> split
    · exact State.memOk_retireBank _ _ h
    · exact h
    · exact State.memOk_retireBank _ _ h
    · exact h

/-- A read of a word, with the records of its errors. -/
theorem State.memOk_readWord (s : State) (w a master qos : Nat) (h : s.memOk = true) : (s.readWord w a master qos).memOk = true := by
  have hu := State.memOk_unflip s w h
  have hc : ∀ (u : Nat × Nat) (t : State) (one : Bool), t.memOk = true →
      (if u.1 = uMacro ∧ u.2 < 768 then
        (if one = true then t.incSat (CORECTL_CCOUNT_ECCC (if u.2 < 256 then u.2 else (u.2 - 256) / 2)) 1 else t)
      else if u.1 = uDram then (if one = true then t.incSat (DRAMC_ECC_CORR u.2) 1 else t.incSat (DRAMC_ECC_UNCORR u.2) 1) else t).memOk = true := by
    intro u t one ht
    split
    · split <;> exact ht
    · split
      · split <;> exact ht
      · exact ht
  unfold State.readWord
  dsimp only
  generalize s.unitOf (w * 8) = u
  split
  · split
    · exact State.memOk_emit _ _ (hc u _ true hu)
    · exact State.memOk_emit _ _ (hc u _ false hu)
  · split
    · split
      · exact State.memOk_bankError _ _ (State.memOk_emit _ _ (hc u _ false h))
      · exact State.memOk_emit _ _ (hc u _ false h)
    · split
      · exact State.memOk_emit _ _ (hc u _ true h)
      · exact h

/-- A write of bytes that answers. -/
theorem State.memOk_memPut (s : State) (master qos a : Nat) (l : List Byte) (h : s.memOk = true) : (s.memPut master qos a l).memOk = true :=
  State.memOk_devPut _ _ _ (State.memOk_foldl _ (fun s w h => State.memOk_readWord s w a master qos h) _ s h)

theorem State.memOk_noAnswer (s : State) (master qos a : Nat) (write : Bool) (h : s.memOk = true) :
    (s.noAnswer master qos a write).memOk = true := by
  unfold State.noAnswer
  split
  · exact State.memOk_emit _ _ h
  · exact State.memOk_emit _ _ h
  · exact h

/-- A fold of operations that keep the form of their first component keeps it. -/
theorem State.memOk_foldl1 {α β : Type} (f : State × α → β → State × α) (hf : ∀ q x, q.1.memOk = true → (f q x).1.memOk = true)
    (l : List β) (q : State × α) (h : q.1.memOk = true) : (l.foldl f q).1.memOk = true := by
  induction l generalizing q with
  | nil => exact h
  | cons x l ih => exact ih _ (hf q x h)

/-- A write of an engine. -/
theorem State.memOk_engineWrite (s : State) (master qos a : Nat) (l : List Byte) (h : s.memOk = true) :
    (s.engineWrite master qos a l).1.memOk = true := by
  refine State.memOk_foldl1 _ (fun q x h => ?_) _ _ h
  split
  · exact State.memOk_memPut _ _ _ _ _ h
  · exact State.memOk_noAnswer _ _ _ _ _ h

/-- Writes to a ring, in device memory or host memory. -/
theorem State.memOk_ringPut (s : State) (r a : Nat) (l : List Byte) (h : s.memOk = true) : (s.ringPut r a l).memOk = true := by
  unfold State.ringPut
  split
  · exact State.memOk_hostPut h rfl rfl
  · exact State.memOk_engineWrite s _ _ a l h

/-- The frame of a new shadow, copied or zeroed. -/
theorem State.memOk_newShadow (s t : State) (c p cls f : Nat) (h : s.memOk = true) (ht : s.newShadow c p cls = some (f, t)) : t.memOk = true := by
  unfold State.newShadow at ht
  split at ht
  · simp at ht
  · rename_i g l _
    have h0 : ((s.setPool c l).poolUse c (s.rd (XBAR_CSPOOL_POOL c) - l.length)).memOk = true := by
      unfold State.poolUse
      dsimp only
      split <;> exact h
    dsimp only at ht
    generalize (s.setPool c l).poolUse c (s.rd (XBAR_CSPOOL_POOL c) - l.length) = s0 at ht h0
    generalize List.range 64 = ws at ht
    have h1 := State.memOk_foldl (fun (s : State) i => s.touchWord (frameAddr c g / 8 + i)) (fun s i h => State.memOk_touchWord s _ h)
      ws s0 h0
    generalize ws.foldl (fun (s : State) i => s.touchWord (frameAddr c g / 8 + i)) s0 = s1 at ht h1
    simp only [Option.some.injEq, Prod.mk.injEq] at ht
    obtain ⟨-, rfl⟩ := ht
    split
    · exact State.memOk_copyMem _ _ _ _ h1
    · exact State.memOk_bytes _ _ _ h1

/-- The end of training, which zeroes the controller's range. -/
theorem State.memOk_dramTrained (s : State) (d err : Nat) (h : s.memOk = true) : (s.dramTrained d err).memOk = true := by
  unfold State.dramTrained
  split
  · exact h
  · split
    · exact h
    · rw [State.memOk_iff] at h ⊢
      exact ⟨memWf_filter _ _ h.1, h.2⟩

/-- Power-up of a memory with unspecified content. -/
theorem State.memOk_scramble (s : State) (a n : Nat) (h : s.memOk = true) : (s.scramble a n).memOk = true := by
  rw [State.memOk_iff] at h ⊢
  refine ⟨?_, h.2⟩
  obtain ⟨hp, hv⟩ := (tabWf_iff (0 : Byte) s.mem).mp h.1
  refine (tabWf_iff (0 : Byte) (s.scramble a n).mem).mpr ?_
  unfold State.scramble
  dsimp only
  have hm : ∀ q ∈ (List.range n).filterMap fun i =>
      if ((Config.freeValue (s.fresh + i)).setWidth 8 : Byte) = 0 then none else some (a + i, ((Config.freeValue (s.fresh + i)).setWidth 8 : Byte)),
      a ≤ q.1 ∧ q.1 < a + n ∧ q.2 ≠ 0 := by
    intro q hq
    obtain ⟨i, hi, he⟩ := List.mem_filterMap.mp hq
    have := List.mem_range.mp hi
    split at he
    · simp at he
    · obtain rfl := Option.some.inj he
      refine ⟨by simp, by simpa using this, by assumption⟩
  refine ⟨?_, ?_⟩
  · rw [List.pairwise_append, List.pairwise_append]
    refine ⟨⟨hp.filter _, ?_, ?_⟩, hp.filter _, ?_⟩
    · rw [List.pairwise_filterMap]
      refine List.pairwise_lt_range.imp ?_
      intro i j hij x hx y hy
      split at hx <;> simp at hx
      split at hy <;> simp at hy
      subst hx hy
      simpa using hij
    · intro x hx y hy
      have h1 := (List.mem_filter.mp hx).2
      have h2 := hm y hy
      simp at h1
      omega
    · intro x hx y hy
      have h2 := (List.mem_filter.mp hy).2
      simp at h2
      rcases List.mem_append.mp hx with hx | hx
      · have h1 := (List.mem_filter.mp hx).2
        simp at h1
        omega
      · have h1 := hm x hx
        omega
  · intro q hq
    rcases List.mem_append.mp hq with hq | hq
    · rcases List.mem_append.mp hq with hq | hq
      · exact hv q (List.mem_filter.mp hq).1
      · exact (hm q hq).2.2
    · exact hv q (List.mem_filter.mp hq).1

/-- Reads of an engine, with the records of their errors. -/
theorem State.memOk_memGet (s : State) (master qos a n : Nat) (h : s.memOk = true) : (s.memGet master qos a n).1.memOk = true := by
  have hb : ∀ (f : State → State) (s : State), (∀ t : State, t.memOk = true → (f t).memOk = true) → s.memOk = true →
      (State.batched f s).memOk = true := by
    intro f s hf h
    unfold State.batched
    split
    · exact hf s h
    · dsimp only
      have h1 := hf { s with integ := { s.integ with batching := true } } h
      generalize f { s with integ := { s.integ with batching := true } } = s1 at h1
      exact State.memOk_foldl _ (fun s r h => State.memOk_writeRec s r h) _ _ h1
  have key : ∀ (ws : List Nat) (t : State), t.memOk = true → (ws.foldl (fun s w => s.readWord w a master qos) t).memOk = true :=
    fun ws t h => State.memOk_foldl _ (fun s w h => State.memOk_readWord s w a master qos h) ws t h
  unfold State.memGet State.eccRead
  dsimp only
  generalize ((List.range n).map fun i => s.phys (a + i) / 8).eraseDups = ws
  generalize hs : (if n ≤ 8 then ws.foldl (fun s w => s.readWord w a master qos) s else State.batched _ s) = s1
  have h1 : s1.memOk = true := by
    rw [← hs]
    split
    · exact key ws s h
    · exact hb _ s (key ws) h
  split <;> exact h1

/-- The engine copies one bank to another. -/
theorem State.memOk_bankCopy (s : State) (dst src : Nat) (h : s.memOk = true) : (s.bankCopy dst src).memOk = true := by
  unfold State.bankCopy State.bankRead
  have h1 := State.memOk_memGet s 22 0 src 1024 h
  generalize s.memGet 22 0 src 1024 = q at h1
  exact State.memOk_devPut q.2 q.1 dst h1

end Sys2Proof.Machine
end

