-- ==== Sys2Proof/Laws/Host.lean ====
section
/-! SUPPORT. Register writes of host ports: what an accepted write and a refused write leave (R9, R389, R395, R405). -/
namespace Sys2Proof.Machine

/-- A write that passes the checks, and that the register's own rules accept. -/
theorem State.writeRow_open {hook : Hook} {s u : State} {w : Who} {r : RegRow} {i v : Nat}
    (hm : s.mayReach w (blockOf (r.at_ i)) true = true)
    (hw : s.changesRww r i v = true → w.q = warden ∧ (s.journalFull = false ∨ isArm r v = true ∨ r.addr = 0x0A160024))
    (hk : hook s w r i v (s.wrRow r i v) = (u, true)) :
    s.writeRow hook w r i v = (if s.changesRww r i v then
      (if u.journalFull then u.incSat WARD_JSTAT_LOST 1
        else u.journal (r.at_ i % 2 ^ 31) (s.rowVal r i) (s.rowNew r i v) 0 w.code 0) else u, true) := by
  cases hc : s.changesRww r i v with
  | false => simp [State.writeRow, hm, hk, hc]
  | true =>
    obtain ⟨hq, hf⟩ := hw hc
    have hf' : (s.journalFull && !isArm r v && !(r.addr == 0x0A160024)) = false := by
      rcases hf with h | h | h <;> simp [h]
    simp only [State.writeRow, hm, hk, hc, hq]
    simp only [hf', Bool.true_and, bne_self_eq_false, Bool.not_true, Bool.false_eq_true, if_false, if_true]
    split <;> rfl

/-- A host port's write of a register that passes the checks and that the register's own rules accept. -/
theorem State.hostReg_open {s u : State} {p : Port} {r : RegRow} {i v : Nat} (h : s.writeOpen p r i v)
    (hk : regHooks s (s.whoOf p) r i v (s.wrRow r i v) = (u, true)) (hr : r.addr ≠ 0x0A000018) :
    s.hostReg p r i v = s.written p r i v u := by
  obtain ⟨hb, ha, hm, hw⟩ := h
  have h1 : ((s.whoOf p).host && !s.on SYS_BOOTSTAT_DONE) = false := by
    cases hh : (s.whoOf p).host <;> simp_all
  have h2 : ((s.whoOf p).host && !s.authority && (s.changesRwe r i v || r.addr == 0x0A010008)) = false := by
    cases hh : (s.whoOf p).host
    · rfl
    · rcases ha hh with h | ⟨h, h'⟩ <;> simp [h]
      intro; exact h'
  simp only [State.hostReg, State.regWrite, h1, h2, State.writeRow_open hm hw hk, hr, State.written]
  simp

/-- A host port's write that passes the checks of every write and that the register's own rules refuse. -/
theorem State.hostReg_ruled {s u : State} {p : Port} {r : RegRow} {i v : Nat} (h : s.writeOpen p r i v)
    (hk : regHooks s (s.whoOf p) r i v (s.wrRow r i v) = (u, false)) :
    s.hostReg p r i v = State.turnedAway p u := by
  obtain ⟨hb, ha, hm, hw⟩ := h
  have h1 : ((s.whoOf p).host && !s.on SYS_BOOTSTAT_DONE) = false := by
    cases hh : (s.whoOf p).host <;> simp_all
  have h2 : ((s.whoOf p).host && !s.authority && (s.changesRwe r i v || r.addr == 0x0A010008)) = false := by
    cases hh : (s.whoOf p).host
    · rfl
    · rcases ha hh with h | ⟨h, h'⟩ <;> simp [h]
      intro; exact h'
  have h3 : s.writeRow regHooks (s.whoOf p) r i v = (u, false) := by
    cases hc : s.changesRww r i v with
    | false => simp [State.writeRow, hm, hk, hc]
    | true =>
      obtain ⟨hq, hf⟩ := hw hc
      have hf' : (s.journalFull && !isArm r v && !(r.addr == 0x0A160024)) = false := by
        rcases hf with h | h | h <;> simp [h]
      simp only [State.writeRow, hm, hk, hc, hq]
      simp only [hf', Bool.true_and, bne_self_eq_false, Bool.not_true, Bool.false_eq_true, if_false]
  simp only [State.hostReg, State.regWrite, h1, h2, h3, State.turnedAway]
  cases p <;> simp

/-- A journal entry changes JDATA and JPI alone. -/
theorem State.rd_journal_other (s : State) (a o n k p r : Nat) (f : Fld) (h1 : f.no ≠ (WARD_JDATA_WORD 0).no) (h2 : f.no ≠ WARD_JPI_INDEX.no) :
    (s.journal a o n k p r).rd f = s.rd f := by
  simp only [State.journal, State.inc]
  rw [State.rd_wr_other _ _ _ _ (.inl h2)]
  generalize ([s.rd WARD_JPI_INDEX, s.frame % 2 ^ 32, a, o, n, k + 2 ^ 8 * p + 2 ^ 16 * r, s.bc % 2 ^ 32, s.bc / 2 ^ 32 % 2 ^ 32].zipIdx) = l
  generalize s.rd WARD_JPI_INDEX % 256 * 8 = e
  induction l generalizing s with
  | nil => rfl
  | cons q l ih =>
    rw [List.foldl_cons, ih]
    exact State.rd_wr_other _ _ _ _ (.inl h1)

/-- A fold that writes register fields leaves the rest. -/
theorem foldl_wr_rest {α β : Type} (g : State → β) (hg : ∀ (s : State) (f : Fld) (v : Nat), g (s.wr f v) = g s)
    (f : α → Fld) (v : α → Nat) (l : List α) (s : State) : g (l.foldl (fun s q => s.wr (f q) (v q)) s) = g s := by
  induction l generalizing s with
  | nil => rfl
  | cons q l ih => rw [List.foldl_cons, ih, hg]

/-- A journal entry changes no part of the state but registers. -/
theorem State.journal_rest {β : Type} (g : State → β) (hg : ∀ (s : State) (f : Fld) (v : Nat), g (s.wr f v) = g s) (s : State)
    (a o n k p r : Nat) : g (s.journal a o n k p r) = g s := by
  simp only [State.journal, State.inc]
  rw [hg]
  exact foldl_wr_rest g hg _ _ _ _

/-- What a whole-device reset leaves depends on what survives it alone. -/
theorem State.wholeReset_congr {s t : State} (c : Nat) (h1 : s.pending = t.pending) (h2 : s.hostMem = t.hostMem) (h3 : s.fresh = t.fresh)
    (h4 : s.board.held = t.board.held) (h5 : s.bell.pins = t.bell.pins)
    (h6 : ∀ f ∈ [SYS_RSTCAUSE_CAUSE, SYS_UIDL_UID, SYS_UIDH_UID, SYS_STRAP_BOOT, SYS_STRAP_WARDSEL, SYS_STRAP_SDOZ], s.rd f = t.rd f) :
    s.wholeReset c = t.wholeReset c := by
  simp only [List.mem_cons, List.not_mem_nil, or_false, forall_eq_or_imp, forall_eq] at h6
  obtain ⟨a, b, d, e, f, g⟩ := h6
  simp only [State.wholeReset, h1, h2, h3, h4, h5, a, b, d, e, f, g]

end Sys2Proof.Machine
end

