-- ==== Sys2Proof/Laws/Records.lean ====
section
/-! SUPPORT. What the events and the records leave: the register fields they may change, and the parts of the state they
never touch (R363, R368 to R371, R380, R386, R417). -/
namespace Sys2Proof.Machine

theorem State.rd_wr_note (s : State) (g f : Fld) (v : Nat) (hg : g.no ∈ noteFields) (hf : f.no ∉ noteFields) :
    (s.wr g v).rd f = s.rd f :=
  State.rd_wr_other _ _ _ _ (.inl fun h => hf (h ▸ hg))

theorem State.rd_inc_note (s : State) (g f : Fld) (v : Nat) (hg : g.no ∈ noteFields) (hf : f.no ∉ noteFields) :
    (s.inc g v).rd f = s.rd f := State.rd_wr_note s g f _ hg hf

theorem State.rd_incSat_note (s : State) (g f : Fld) (v : Nat) (hg : g.no ∈ noteFields) (hf : f.no ∉ noteFields) :
    (s.incSat g v).rd f = s.rd f := State.rd_wr_note s g f _ hg hf

variable {f : Fld}

theorem State.rd_injDone (s : State) (hf : f.no ∉ noteFields) : s.injDone.rd f = s.rd f := by
  unfold State.injDone
  split
  · rfl
  · dsimp only
    split
    · rw [State.rd_wr_note _ _ _ _ (by decide) hf, State.rd_wr_note _ _ _ _ (by decide) hf]
      exact State.rd_inc_note s _ f _ (by decide) hf
    · exact State.rd_inc_note s _ f _ (by decide) hf

theorem State.rd_unflip (s : State) (w : Nat) (hf : f.no ∉ noteFields) : (s.unflip w).rd f = s.rd f := by
  unfold State.unflip
  split
  · rfl
  · have h := State.rd_injDone s hf
    dsimp only
    split
    · exact h
    · exact h

theorem State.rd_touchWord (s : State) (w : Nat) (hf : f.no ∉ noteFields) : (s.touchWord w).rd f = s.rd f := by
  have h := State.rd_unflip s w hf
  unfold State.touchWord
  dsimp only
  split <;> exact h

theorem State.rd_devPut (l : List Byte) (s : State) (a : Nat) (hf : f.no ∉ noteFields) : (s.devPut a l).rd f = s.rd f := by
  induction l generalizing s a with
  | nil => rfl
  | cons v l ih =>
    rw [State.devPut, ih]
    exact State.rd_touchWord s _ hf

theorem State.rd_noteDefault (s : State) (a master qos : Nat) (write : Bool) (hf : f.no ∉ noteFields) :
    (s.noteDefault a master qos write).rd f = s.rd f := by
  unfold State.noteDefault
  dsimp only
  rw [State.rd_incSat_note _ _ _ _ (by decide) hf, State.rd_wr_note _ _ _ _ (by decide) hf, State.rd_wr_note _ _ _ _ (by decide) hf,
    State.rd_wr_note _ _ _ _ (by decide) hf, State.rd_wr_note _ _ _ _ (by decide) hf, State.rd_wr_note _ _ _ _ (by decide) hf]

/-- What writes the entries of an ERROR ring changes no register but DEFREC and DEFCNT (and those of an injection it ends). -/
theorem State.rd_ringPutQuiet (s : State) (r a : Nat) (l : List Byte) (hf : f.no ∉ noteFields) :
    (s.ringPutQuiet r a l).rd f = s.rd f := by
  unfold State.ringPutQuiet
  split
  · rfl
  · rename_i h; clear h
    generalize spans a l.length = bs
    induction bs generalizing s with
    | nil => rfl
    | cons q bs ih =>
      rw [List.foldl_cons, ih]
      split
      · exact State.rd_devPut _ s _ hf
      · split
        · exact State.rd_noteDefault s _ _ _ _ hf
        · rfl

theorem State.rd_ringSignal (s : State) (r : Nat) : (s.ringSignal r).rd f = s.rd f := by
  unfold State.ringSignal
  split <;> rfl

/-- Pushing an entry changes RPI and what the write of the entry changes (R380). -/
theorem State.rd_ringPushBy (put : State → Nat → Nat → List Byte → State) (s : State) (r : Nat) (l : List Byte)
    (hp : ∀ a, (put s r a l).rd f = s.rd f) (hf : f.no ∉ noteFields) : (State.ringPushBy put s r l).rd f = s.rd f := by
  unfold State.ringPushBy
  dsimp only
  rw [State.rd_ringSignal, State.rd_inc_note _ _ _ _ (show (HOST_RPI_INDEX r).no ∈ noteFields by simp [noteFields, HOST_RPI_INDEX]) hf]
  exact hp _

theorem State.rd_uartQueue (s : State) (own : Bool) (l : List Nat) (hf : f.no ∉ noteFields) : (s.uartQueue own l).rd f = s.rd f := by
  unfold State.uartQueue
  dsimp only
  rw [State.rd_wr_note _ _ _ _ (by decide) hf, State.rd_wr_note _ _ _ _ (by decide) hf]
  rfl

theorem State.rd_latchFatal (s : State) (bs : List Byte) (hf : f.no ∉ noteFields) : (s.latchFatal bs).rd f = s.rd f := by
  have key : ∀ (l : List (Nat × Nat)) (s : State),
      (l.foldl (fun (s : State) (q : Nat × Nat) => s.wr (INTG_FATREC_WORD q.2) q.1) s).rd f = s.rd f := by
    intro l
    induction l with
    | nil => intro s; rfl
    | cons q l ih =>
      intro s
      rw [List.foldl_cons, ih, State.rd_wr_note _ _ _ _ (by simp [noteFields, INTG_FATREC_WORD]) hf]
  unfold State.latchFatal
  split
  · rfl
  · dsimp only
    split
    · unfold State.uartLine
      split
      · rw [State.rd_uartQueue _ _ _ hf]
        exact key _ s
      · exact key _ s
    · exact key _ s

/-- The integrity block's own state holds no register field. -/
theorem State.rd_integ (s : State) (g : Integ) : State.rd { s with integ := g } f = s.rd f := rfl

/-- A record changes no register but those of rings, of INTG's counts and, for a FATAL one, FATREC and the UART's status. -/
theorem State.rd_writeRec (s : State) (r : Rec) (hf : f.no ∉ noteFields) : (s.writeRec r).rd f = s.rd f := by
  unfold State.writeRec
  have hin : INTG_SEQ_NEXT.no ∈ noteFields ∧ INTG_SUMMARY_CLASS.no ∈ noteFields ∧ INTG_NEST_NESTED.no ∈ noteFields
      ∧ INTG_NEST_ESC.no ∈ noteFields := by decide
  have ovf : (INTG_OVF_COUNT r.cls).no ∈ noteFields := by simp [noteFields, INTG_OVF_COUNT]
  have rcnt : (INTG_RCNT_COUNT r.cls).no ∈ noteFields := by simp [noteFields, INTG_RCNT_COUNT]
  dsimp only
  generalize h1 : (s.inc INTG_SEQ_NEXT 1).wr INTG_SUMMARY_CLASS (setBit (s.rd INTG_SUMMARY_CLASS) r.cls true) = s1
  have e1 : s1.rd f = s.rd f := by
    rw [← h1, State.rd_wr_note _ _ _ _ hin.2.1 hf, State.rd_inc_note _ _ _ _ hin.1 hf]
  generalize h2 : (if r.nested = true then s1.incSat INTG_NEST_NESTED 1 else s1) = s2
  have e2 : s2.rd f = s.rd f := by
    rw [← h2, ← e1]
    split
    · exact State.rd_incSat_note _ _ _ _ hin.2.2.1 hf
    · rfl
  generalize h3 : (if r.escalated = true then s2.incSat INTG_NEST_ESC 1 else s2) = s3
  have e3 : s3.rd f = s.rd f := by
    rw [← h3, ← e2]
    split
    · exact State.rd_incSat_note _ _ _ _ hin.2.2.2 hf
    · rfl
  generalize h4 : (if r.cls = 4 then (s3.latchFatal _).noteFatal else s3) = s4
  have e4 : s4.rd f = s.rd f := by
    rw [← h4, ← e3]
    split
    · exact State.rd_latchFatal s3 _ hf
    · rfl
  split
  · rw [State.rd_incSat_note _ _ _ _ ovf hf, e4]
  · split
    · show (s4.incSat (INTG_OVF_COUNT r.cls) 1).rd f = s.rd f
      rw [State.rd_incSat_note _ _ _ _ ovf hf, e4]
    · rw [State.rd_integ, State.rd_ringPushBy _ _ _ _ (fun a => State.rd_ringPutQuiet _ _ a _ hf) hf,
        State.rd_inc_note _ _ _ _ rcnt hf, e4]

/-- A record that is produced, written at once or at the end of its step. -/
theorem State.rd_emit (s : State) (r : Rec) (hf : f.no ∉ noteFields) : (s.emit r).rd f = s.rd f := by
  unfold State.emit
  dsimp only
  split <;> split
  · rfl
  · rw [State.rd_writeRec _ _ hf, State.rd_integ]
  · rfl
  · rw [State.rd_writeRec _ _ hf]

end Sys2Proof.Machine
end

