-- ==== Sys2Proof/Tests/Slice0.lean ====
section
/-! SUPPORT. Tests of the model, and a witness for each statement that has hypotheses. -/
namespace Sys2Proof.Tests
open Sys2Proof Sys2Proof.Machine

/-- A device that has left reset and ended its boot. -/
def up : State :=
  { State.reset with board := { State.reset.board with held := false } }.wr SYS_BOOTSTAT_DONE 1

/-- The registers of that device read their reset values but for BOOTSTAT. -/
theorem up_rd (no idx w r : Nat) (h : no ≠ SYS_BOOTSTAT_DONE.no) : up.rd ⟨no, idx, w, r⟩ = r :=
  (State.rd_wr_other _ _ _ _ (.inl h)).trans (by simp [State.rd, State.reset, tget])

/-- The device with amplifier channel `k` in state `st`, its sense scaling set. -/
def chan (k st : Nat) : State := ((up.wr (AMP_STAT_STATE k) st).wr (AMP_SCALE_VFS k) 100).wr (AMP_SCALE_IFS k) 10

theorem test_reset_safe : State.reset.memOk = true ∧ State.reset.queueOk = true := by decide

/-! ## Well-formed commands: for each check a command it refuses, and one it accepts -/

/-- A command of a bundle that fills no other slot. -/
def alone : Rest := ⟨.nop, .none, .none, false⟩

/-- An odd register where an operation names a pair (R80, R82, R83). -/
theorem smoke_pair : Instr.wellFormed (.rndx 0 0 3 0 alone) = false ∧ Instr.wellFormed (.rndx 0 0 4 0 alone) = true
    ∧ Instr.wellFormed (.ld64 0 0 .postInc 3 (.move false)) = false ∧ Instr.wellFormed (.ld64 0 0 .postInc 4 (.move false)) = true := by decide

/-- Two stores in one bundle (R80). -/
theorem smoke_two_stores : Instr.wellFormed (.st32 0 0 .ind 1 (.slot 0 .nop .nop (.st32 2 .ind 3) false)) = false
    ∧ Instr.wellFormed (.st32 0 0 .ind 1 (.slot 0 .nop .nop (.ld32 2 .ind 3) false)) = true := by decide

/-- Two operations with one destination (R80), and the fused pairs that R84 allows. -/
theorem smoke_two_dests : Instr.wellFormed (.mac 0 0 1 2 3 ⟨.mpy 1 4 5, .none, .none, false⟩) = false
    ∧ Instr.wellFormed (.mac 0 0 1 2 3 ⟨.adds 1 4, .none, .none, false⟩) = true
    ∧ Instr.wellFormed (.rnd 0 0 5 1 ⟨.nop, .ld32 0 .ind 5, .none, false⟩) = false
    ∧ Instr.wellFormed (.rnd 0 0 5 1 ⟨.nop, .ld32 0 .ind 6, .none, false⟩) = true := by decide

/-- Modes: none is indexed in an ARITH slot (R81), none plain indirect in the MOVE form (R86). -/
theorem smoke_modes : Instr.wellFormed (.ld32 0 0 (.indexed 4) 1 (.slot 0 .nop .nop .none false)) = false
    ∧ Instr.wellFormed (.ld32 0 0 .ind 1 (.slot 0 .nop .nop .none false)) = true
    ∧ Instr.wellFormed (.ld32 0 0 .ind 1 (.move false)) = false ∧ Instr.wellFormed (.ld32 0 0 (.indexed 0) 1 (.move false)) = true := by decide

/-- MOV and LDI may not name A0 to A3 (R87); a target has twelve bits (R92). -/
theorem smoke_registers : Instr.wellFormed (.mov 0 0x10 1) = false ∧ Instr.wellFormed (.mov 0 0x14 1) = true
    ∧ Instr.wellFormed (.ldi 0 0x13 1) = false ∧ Instr.wellFormed (.ldi 0 0x18 1) = true
    ∧ Instr.wellFormed (.post 0 (.imm 4096) 1) = false ∧ Instr.wellFormed (.post 0 (.imm 4095) 1) = true := by decide

/-- Lists as long as the message's spec gives, and accesses that the crossbar can issue (R153). -/
theorem smoke_lengths : Instr.wellFormed (.downbeat [] [] [] [] [] ⟨List.replicate 17 0, [], []⟩) = false
    ∧ Instr.wellFormed (.downbeat [] [] [] [] [(4096, 0, 0)] ⟨[], [], []⟩) = false
    ∧ Instr.wellFormed (.downbeat [] [] [] [] [(4095, 0, 0)] ⟨[0], [], []⟩) = true
    ∧ Instr.wellFormed (.frameReceived 0 0 true (List.replicate 13 0)) = false
    ∧ Instr.wellFormed (.frameReceived 0 0 true (List.replicate 14 0)) = true
    ∧ Instr.wellFormed (.digest 0 [0]) = false ∧ Instr.wellFormed (.digest 0 (List.replicate 16 0)) = true
    ∧ Instr.wellFormed (.mirrorSamples 0 0 0 (List.replicate 33 0)) = false ∧ Instr.wellFormed (.mirrorSamples 0 0 0 [1]) = true := by decide

/-- The bits of a frame that a port or a microphone brings (R224, R241). -/
theorem smoke_bits (l : List Bool) :
    (l.length = 1025 → Instr.wellFormed (.portFrame 0 0 l) = true) ∧ (l.length = 1026 → Instr.wellFormed (.portFrame 0 0 l) = false)
    ∧ (l.length = 2048 → Instr.wellFormed (.downbeat [] [] [] [] [] ⟨[], [], [(5, l)]⟩) = true)
    ∧ (l.length = 2049 → Instr.wellFormed (.downbeat [] [] [] [] [] ⟨[], [], [(5, l)]⟩) = false) := by
  refine ⟨?_, ?_, ?_, ?_⟩ <;> intro h <;> simp [Instr.wellFormed, h]

theorem smoke_accesses : Instr.wellFormed (.hostBarAccess 0 false 0 (.write [1, 2]) false false) = false
    ∧ Instr.wellFormed (.hostBarAccess 0 false 0 (.write [1, 2, 3, 4]) false false) = true
    ∧ Instr.wellFormed (.hostBarAccess 0 false 0 (.read 24) false false) = false
    ∧ Instr.wellFormed (.hostBarAccess 0 false 0 (.read 48) false false) = true
    ∧ Instr.wellFormed (.spiWrite 2 [0] false) = false ∧ Instr.wellFormed (.spiWrite 4 [] false) = false
    ∧ Instr.wellFormed (.spiWrite 4 [0] false) = true
    ∧ Instr.wellFormed (.spiRead 2 [false] false) = false ∧ Instr.wellFormed (.spiRead 4 [] false) = false
    ∧ Instr.wellFormed (.spiRead 4 [false] false) = true
    ∧ Instr.wellFormed (.bootPhaseEnd [] []) = false ∧ Instr.wellFormed (.bootPhaseEnd (List.replicate 32 0) []) = true
    ∧ Instr.wellFormed (.pageCopy (.sram 16 0 [])) = false ∧ Instr.wellFormed (.pageCopy .joinEnd) = true := by decide

/-! ## Bundle words (the worked example that follows R85, and words from the tables of R86, R90) -/

theorem test_word_fir : decodeBundle 0x110045234104A200 =
    some (.arith (.mac 0 0 1) (.mac 1 2 3) (.ld64 0 .postInc 0) (.ld64 2 .postMod 2)) := by decide

/-- FORM 2, OP 0x08, DST 7, SA 1, SB 0, I 1, IMM 0xFFFFFFFF. -/
theorem test_word_add : decodeBundle 0b0010_001000_0000111_0000001_0000000_1_11111111111111111111111111111111
    = some (.move (.alu .add 7 1 (.imm 0xFFFFFFFF))) := by decide

/-- FORM 3, OP 0x18, code 0xA5. -/
theorem test_word_trap : decodeBundle 0b0011_011000_0000000_0000000_0000_00_0_0_00000000000000000000000010100101
    = some (.ctrl (.trap 0xA5)) := by decide

/-! ## Worked examples of the spec -/

/-- The rescue of chapter 5's guard-bit test, MIX number 10,923, and the exports after it. -/
theorem test_rescue : rescueAdd 0x7FFE0000000000000000 0 0x00030000000000000000 = ⟨0x40008000000000000000, 1, false⟩
    ∧ exportAcc 0x46500000000000000000 1 0 = (0x46500000, 17) ∧ roundQ131 0x46500000000000000000 1 0 = (0x7FFFFFFF, true) := by decide

/-- The table of rounding modes after R111. -/
theorem test_rounding : roundQ131 0x28000_0000 0 0 = (2, false) ∧ roundQ131 0x28000_0000 0 1 = (3, false)
    ∧ roundQ131 0x28000_0000 0 2 = (2, false) ∧ roundQ131 (-0x28000_0000) 0 0 = (-2, false)
    ∧ roundQ131 (-0x28000_0000) 0 1 = (-3, false) ∧ roundQ131 (-0x28000_0000) 0 2 = (-3, false) := by decide

/-- Bus 17 of chapter 5: the factor, the scaled sum and its rounding. -/
theorem test_bus_scale : busFactor 1 3 = 0x05555555 ∧ scaleAcc (5 * 2 ^ 61) 0x05555555 = 447392425 * 2 ^ 33
    ∧ roundQ131 (447392425 * 2 ^ 33) 0 0 = (0x35555552, false) := by decide

/-- The post-modify access of chapter 3 wraps in its buffer. -/
theorem test_modulo : ptrMove 0x20F8 0x2000 0x100 0x10 = 0x2008 := by decide

/-- The half-time scene of chapter 8: GLD at k = 32 and 12,000, XFADE at 12,000. -/
theorem test_glide : glideWord 0x08000000 0x10000000 true 480000032 24000 480000064 = 0x0802BB0C
    ∧ glideWord 0x08000000 0x10000000 true 480000032 24000 480012032 = 0x0C000000
    ∧ glideWord 0x08000000 0x10000000 true 480000032 24000 480024032 = 0x10000000
    ∧ xfadeAt true 480000032 24000 480012032 = 0x3FFFFFFF := by decide

/-- The DRAM address of chapter 7, with both controllers of 8 GiB. -/
theorem test_dram : ((up.wr (DRAMC_CFG_DENS 0) 2).wr (DRAMC_CFG_DENS 1) 2).dramAt 0x0123456789 = some (1, 0x11A2B389)
    ∧ ((up.wr (DRAMC_CFG_DENS 0) 2).wr (DRAMC_CFG_DENS 1) 2).dramAt 0x0480000000 = none
    ∧ ((up.wr (DRAMC_CFG_DENS 0) 2).wr (DRAMC_CFG_DENS 1) 2).dramU 0 = 7 * 2 ^ 30 := by decide

/-- Core 37's fault register and CDSEL as chapter 3 addresses them; instruction memory B of core 37 (chapter 0). -/
theorem test_addresses : row_CORECTL_CFAULT.at_ 37 = 0x0A1A9290 ∧ row_CORECTL_CDSEL.at_ 37 = 0x0A1A929C
    ∧ State.reset.target 0x04964000 = .instr 37 true ∧ State.reset.target 0x0497FFFF = .none ∧ State.reset.target 0x0A1B0000 = .none :=
  ⟨by decide, by decide, by rfl, by rfl, by rfl⟩

/-- A store, and the words around it; a write of the byte an unlisted address reads as lists nothing. -/
theorem test_memory : (up.st 0x100 4 0x11223344).ld 0x100 4 = 0x11223344 ∧ (up.st 0x100 4 0x11223344).ld 0x104 4 = 0
    ∧ byteAt (up.st 0x100 4 0x11223344).mem 0x100 = 0x44 ∧ ((up.st 0x100 4 0x11223344).st 0x100 4 0).mem = [] := by decide

/-- ABS, NEG and the shifts at the ends of their ranges (R87). -/
theorem test_alu_ends : absEval 0x80000000 = (0x7FFFFFFF, true) ∧ negEval 0x80000000 = (0x7FFFFFFF, true)
    ∧ aluEval .shl 1 32 = 0 ∧ aluEval .shra 0x80000000 40 = 0xFFFFFFFF ∧ aluEval .shrl 0x80000000 32 = 0
    ∧ aluEval .shl 1 64 = 1 ∧ aluEval .sub 0 1 = 0xFFFFFFFF ∧ aluEval .min 0x80000000 1 = 0x80000000 := by decide

/-- CRC-32 over the digits 1 to 9 (R402 names the CRC; the value is the usual check value of IEEE 802.3). -/
theorem test_crc32 : crc32 [0x31, 0x32, 0x33, 0x34, 0x35, 0x36, 0x37, 0x38, 0x39] = 0xCBF43926 := by decide +kernel


/-! ## Witnesses: states and operands that meet the hypotheses of the statements -/

theorem witness_EmptyQueueTick : State.reset.pending = [] ∧ State.reset.board.held = true
    ∧ up.pending = [] ∧ up.board.held = false := by decide

theorem witness_WholeDeviceResets : ((Instr.powerOnReset = .powerOnReset ∧ 0 = 0) ∨ (Instr.powerOnReset = .pinReset ∧ 0 = 1))
    ∧ ((Instr.pinReset = .powerOnReset ∧ 1 = 0) ∨ (Instr.pinReset = .pinReset ∧ 1 = 1)) := by decide

theorem witness_FieldReadBack : (OVR_SWACT_ACT.no ≠ SYS_NODE_ID.no ∨ OVR_SWACT_ACT.idx ≠ SYS_NODE_ID.idx)
    ∧ ((AMP_STAT_STATE 1).no ≠ (AMP_STAT_STATE 0).no ∨ (AMP_STAT_STATE 1).idx ≠ (AMP_STAT_STATE 0).idx) := by decide

theorem witness_AccessCodes : (row_OVR_CTRL.flds 0).Pairwise (fun a b => a.2.1.no ≠ b.2.1.no ∨ a.2.1.idx ≠ b.2.1.idx)
    ∧ (row_EPOCH_STATUS.flds 0).Pairwise (fun a b => a.2.1.no ≠ b.2.1.no ∨ a.2.1.idx ≠ b.2.1.idx) := by decide

theorem witness_ArithmeticShifts :
    in80 ((Core.reset.accIn 1 none).1 + shr (16 * (Core.reset.ds 0 * Core.reset.ds 1)) (Core.reset.accIn 1 none).2) = true
    ∧ in80 ((Core.reset.accIn 1 none).1 - shr (16 * (Core.reset.ds 0 * Core.reset.ds 1)) (Core.reset.accIn 1 none).2) = true
    ∧ in80 ((Core.reset.accIn 1 none).1 + shr (Core.reset.ds 0 * 2 ^ 32) (Core.reset.accIn 1 none).2) = true := by decide

theorem witness_ArithmeticShifts_negative : (-1 : Int) < 0 ∧ (-2 ^ 5 : Int) ≤ -1 ∧ (0 : Int) ≤ 31 ∧ (31 : Int) < 2 ^ 5 := by decide

theorem witness_Saturation : (2 : Int) ^ 79 - 1 < 2 ^ 79 ∧ (-2 ^ 79 - 1 : Int) < -2 ^ 79 ∧ bit 0b0100 2 = true := by decide

theorem witness_RangeRescue : (0 : Int) ≤ (Core.reset.accIn 1 none).1 ∧ (Core.reset.accIn 1 none).2 = 0 := by decide

/-- A core whose A0 is the largest value, with D0 × D1 of the largest product, AE0 being `ae`. -/
def fullCore (ae : Nat) : Core :=
  ((((Core.reset.force (xA 0) (2 ^ 79 - 1)).force (xAE 0) ae).force (xD 0) (2 ^ 31)).force (xD 1) (2 ^ 31))

theorem witness_RangeRescue_overflow : ∀ e ∈ [0, 1, 62, 63],
    ((fullCore e).accIn 0 none).2 = e
    ∧ 2 ^ 79 - 1 < ((fullCore e).accIn 0 none).1 + shr (16 * ((fullCore e).ds 0 * (fullCore e).ds 1)) ((fullCore e).accIn 0 none).2 := by decide

theorem witness_RoundingAccuracy : (∀ rm ∈ [0, 1, 2, 3], (roundQ131 0x28000 16 rm).2 = false ∧ (roundQ131 (2 ^ 79) 16 rm).2 = true)
    ∧ 2 * ((roundQ131 0x28000 16 1).1 * 2 ^ 16 - 0x28000) = 2 ^ 16 ∧ 2 * ((roundQ131 (-0x28000) 16 1).1 * 2 ^ 16 - -0x28000) = -2 ^ 16
    ∧ 2 * ((roundQ131 0x28000 16 0).1 * 2 ^ 16 - 0x28000) = -2 ^ 16 := by decide

theorem witness_NormalisingShifts : (∀ a ∈ [(1 : Int), -1, 2 ^ 79 - 1, -2 ^ 79], a ≠ 0 ∧ -2 ^ 79 ≤ a ∧ a < 2 ^ 79)
    ∧ normD (sx 32 0x00008000) = 15 ∧ normR (-2 ^ 79) = 0 ∧ normR (-1) = 79 := by decide

theorem witness_BusScaling : busFactor 1 3 = 0x05555555 ∧ busFactor 2 2 = 0x0B504F33 ∧ busFactor 2 3 = 0x093CD3A3 ∧ busFactor 2 4 = 0x08000000
    ∧ (0 : Int) ≤ 3 ∧ (3 : Int) < (4 : Nat) := by decide

/-- A core with a near load of D0 issued one bundle ago. -/
def loadingCore : Core := (Core.reset.push (xD 0) 5 .nearLoad).tick 1

theorem witness_ResultDistances : (∀ w ∈ loadingCore.pend, w.at_ ≤ loadingCore.bn)
    ∧ loadingCore.pend.Pairwise (fun a b => a.at_ ≤ b.at_)
    ∧ loadingCore.pend ≠ [] := by decide

/-- A core 3 that runs task 5 at bundle `pc` of a released device, with P0 and P2 at 8 and 16 in operand memory. -/
def running (pc : Nat) : State :=
  (up.wr (CORECTL_CSTAT_STATE 3) stRun).setCore 3
    { ((Core.reset.force (xP 0) 8).force (xP 2) 16) with pc, run := some ⟨5, false, [], [], false⟩ }

theorem witness_ArithBundles :
    (running 20).runs 3 (.arith (.mac 0 1 2) (.rnd 5 1) (.ld32 0 .postInc 6) (.st32 2 .ind 7))
    ∧ (running 20).runs 3 (.arith .nop .nop .none .none)
    ∧ (running 20).runs 3 (.move (.mem (.st64 0 .ind 4)))
    ∧ ((running 20).core 3).ea 0 .ind < 0x10000 ∧ ((running 20).core 3).ea 2 .ind < 0x10000 := by decide

theorem witness_MoveBundles : ∀ op ∈ [MoveOp.mov 5 62, .mov 62 5, .mov 0x14 3, .ldi 0x38 7, .mval 3 1 2, .mvla 1 3 0, .normd 1 2, .exp 1 2, .nop,
      .cmp 3 (.imm 4), .tst 3 (.reg 4), .abs 1 2, .neg 1 2, .alu .add 1 2 (.imm 7), .alu .shra 1 2 (.reg 3)],
    (running 20).runs 3 (.move op) := by decide

theorem witness_MoveBundles_corner :
    (((running 20).setCore 3 (((running 20).core 3).force (xD 2) (2 ^ 31))).core 3).d 2 = 2 ^ 31
    ∧ ((running 20).core 3).d 2 ≠ 2 ^ 31 ∧ ((running 20).core 3).sr < 2 ^ 32 := by decide

/-- Core 3 as in `running`, with P1 at a far address that the task's only map entry covers with class `cls`. -/
def farRunning (cls : Nat) : State :=
  let s := ((((running 20).wr (DISP_CTXDATA_WORD (5 * 16 + 9)) 65536).wr (DISP_MAPDATA_WORD 0) 0x10000).wr (DISP_MAPDATA_WORD 1) 0x1000).wr
    (DISP_MAPDATA_WORD 2) 0x01000000
  let s := (s.wr (DISP_MAPDATA_WORD 3) (cls * 65536)).wr (XBAR_CSPOOL_POOL 0) 8
  s.setCore 3 ((s.core 3).force (xP 1) 0x10008)

theorem witness_MemoryOperations :
    ((running 20).core 3).ea 0 .ind < 0x10000
    ∧ (∀ q ∈ [1, 2, 3, 4], (farRunning q).translate 5 0x10008 = some (q, 0x01000008))
    ∧ 0x10000 ≤ ((farRunning 4).core 3).ea 1 .ind ∧ ((farRunning 4).core 3).tid = 5
    ∧ (farRunning 4).runs 3 (.move (.mem (.st32 1 .ind 7))) := by decide

theorem witness_MemoryOperations_shadow :
    ((farRunning 2).sramPage 0x01000008 = some (0, 0)) ∧ ((farRunning 2).newShadow 0 0 clState).isSome = true
    ∧ (((farRunning 2).setPool 0 []).newShadow 0 0 clState).isNone = true ∧ (farRunning 2).poison = [] ∧ (farRunning 2).integ.flips = [] := by decide

theorem witness_ModuloAddresses : 0 < 0x100 ∧ 0x2000 + 0x100 ≤ 2 ^ 32 ∧ (-2 ^ 31 : Int) ≤ 0x20F8 - 0x2000 ∧ (0x20F8 - 0x2000 : Int) < 2 ^ 31 := by decide

theorem witness_ParameterReads :
    (farRunning 1).runs 3 (.move (.gld 2 1 4)) ∧ (farRunning 1).runs 3 (.move (.xfade 2 1 4)) ∧ (farRunning 1).runs 3 (.move (.bscl 2 4))
    ∧ 0x10000 ≤ ((farRunning 1).core 3).seeN (xP 1) ∧ (farRunning 1).translate 5 0x10008 = some (clParam, 0x01000008)
    ∧ ((farRunning 1).core 3).seeN (xP 0) < 0x10000 ∧ (farRunning 2).translate 5 0x10008 = some (clState, 0x01000008) := by decide

theorem witness_ControlBundles : ∀ op ∈ [CtrlOp.nop, .br .al 40, .br .eq 40, .brr .ne 3, .jl 5 60, .loop 0 (.imm 0) 30, .loop 1 (.imm 9) 30, .loop 1 (.reg 2) 30],
    (running 20).runs 3 (.ctrl op) ∧ ((running 20).core 3).delay = none := by decide

/-- A core at bundle 30, the end of both loops, both active, with LC0 and LC1 at the given counts. -/
def loopCore (n0 n1 : Nat) : Core :=
  { ((((((Core.reset.force (xLC 0) n0).force (xLC 1) n1).force (xLE 0) 30).force (xLE 1) 30).force (xLS 0) 25).force (xLS 1) 22).force xSR 0x30000
    with pc := 30 }

theorem witness_LoopEndsAndCompletion : ∀ q ∈ [(1, 1), (1, 5), (5, 1), (0, 0)],
    (loopCore q.1 q.2).la 0 = true ∧ (loopCore q.1 q.2).la 1 = true ∧ (loopCore q.1 q.2).seeN (xLE 0) = 30 ∧ (loopCore q.1 q.2).seeN (xLE 1) = 30
    ∧ (loopCore q.1 q.2).seeN (xLC 0) = q.1 ∧ (loopCore q.1 q.2).seeN (xLC 1) = q.2 ∧ (loopCore q.1 q.2).delay = none := by decide

theorem witness_LoopEndsAndCompletion_modes : ((running 20).core 3).settle.tm = false
    ∧ (((running 20).core 3).force xSR 0x400).settle.tm = true := by decide

theorem witness_RunEnds : (running 20).runs 3 (.ctrl (.done false)) ∧ (running 20).runs 3 (.ctrl (.done true)) ∧ (running 20).runs 3 (.ctrl .fetch)
    ∧ ((running 20).core 3).stores = [] ∧ ((running 20).core 3).tm = false
    ∧ (((running 20).finish 3 ((running 20).core 3) 20 1 none false).core 3).run = some ⟨5, false, [], [], false⟩ := by decide

/-- Core 3 as in `running`, in the handler of a trap of cause 2. -/
def handling : State :=
  ((running 20).wr (CORECTL_CSTAT_STATE 3) stTrap).setCore 3 ((((running 20).core 3).force xSR 0x400).force xTCS 2)

theorem witness_RunEnds_handler : handling.runs 3 (.ctrl .fetch) ∧ (handling.core 3).tm = true ∧ handling.runs 3 (.ctrl (.done true)) := by decide

theorem witness_RunEnds_waiting : ((running 20).setCore 3 { (running 20).core 3 with stores := [⟨5, 4, 0x01000000, 4, 1, 19, 0⟩] }).runs 3 (.ctrl (.done false))
    ∧ ((running 20).setCore 3 { (running 20).core 3 with stores := [⟨5, 4, 0x01000000, 4, 1, 19, 0⟩] }).runs 3 (.ctrl (.done true)) := by decide

theorem witness_CommitTakesEffect : (Run.mk 5 false [(7, 3000), (pageKey 1 9, 3001)] [.post 6 1] false).reexec = false
    ∧ ((Run.mk 5 false [(7, 3000), (pageKey 1 9, 3001)] [.post 6 1] false).shadows.map (·.1)).Nodup := by decide

theorem witness_PostBuffers : (running 20).runs 3 (.ctrl (.post (.imm 9) 3)) ∧ (running 20).runs 3 (.ctrl (.matchOp (.imm 4096) 2 5))
    ∧ ((running 20).core 3).run = some ⟨5, false, [], [], false⟩
    ∧ ((running 20).core 3).sel (.imm 4096) % 4096 = 0 ∧ ((running 20).core 3).sel (.imm 9) % 4096 = 9
    ∧ ((running 20).setCore 3 { (running 20).core 3 with run := some ⟨5, false, [], List.replicate 64 (.post 7 1), false⟩ }).runs 3 (.ctrl (.post (.imm 9) 3)) := by decide

theorem witness_TrapEntry : ((running 20).core 3).settle.sr < 2 ^ 32 ∧ (0x30 < 256) ∧ (2047 < 2048) := by decide

theorem witness_TrapBundles : (running 20).runs 3 (.ctrl (.trap 7)) ∧ (running 20).runs 3 (.ctrl .rett) ∧ ((running 20).core 3).tm = false
    ∧ handling.runs 3 (.ctrl .rett) ∧ (handling.core 3).tm = true ∧ ((handling.core 3).leaveTm).aside = none
    ∧ (running 20).runs 3 (.ctrl (.savelp 0)) ∧ (running 20).runs 3 (.ctrl (.rstlp 2)) ∧ ((running 20).core 3).seeN (xP 0) = 8 := by decide

theorem witness_TrapBundles_corner : ∀ a ∈ [4, 0xFFF8], (((running 20).setCore 3 (((running 20).core 3).force (xP 0) a)).core 3).seeN (xP 0) = a
    ∧ ((running 20).setCore 3 (((running 20).core 3).force (xP 0) a)).runs 3 (.ctrl (.savelp 0))
    ∧ ((running 20).setCore 3 (((running 20).core 3).force (xP 0) a)).runs 3 (.ctrl (.rstlp 0)) := by decide

/-- Core 3 in trap mode after an urgent run, the preempted run held aside, abandoned or not. -/
def preempted (dead : Bool) : State :=
  handling.setCore 3 { handling.core 3 with run := none, aside := some ⟨⟨5, false, [], [], false⟩, [(xTID, 5)], [], dead⟩ }

theorem witness_TrapBundles_aside : ∀ d ∈ [true, false], (preempted d).runs 3 (.ctrl .rett) ∧ ((preempted d).core 3).tm = true
    ∧ ((((preempted d).core 3).leaveTm).aside.map (·.dead)) = some d := by decide

theorem witness_RestoredLoops : (∀ x, (loopCore 3 4).seeN (xLC x) < 2 ^ 16 ∧ (loopCore 3 4).seeN (xLS x) < 2 ^ 11 ∧ (loopCore 3 4).seeN (xLE x) < 2 ^ 11)
    ∧ Core.reset.settle.sr < 2 ^ 32 ∧ ((Core.reset.loadArea (loopCore 3 4).saveArea.1 (loopCore 3 4).saveArea.2).seeN (xLE 1)) = 30 := by decide

theorem witness_BundleFaults : (running 20).canRun 3 = true ∧ (running 20).canRun 4 = false ∧ ((running 20).core 3).entry = false
    ∧ bundleOk 20 (.move (.mov 0x10 3)) = false ∧ bundleOk 20 (.move (.mov 0x3F 3)) = true ∧ illegalHere ((running 20).core 3) (.move (.mov 0x3F 3)) = true
    ∧ bundleOk 20 (.move (.mem (.ld32 0 (.indexed 2) 1))) = true
    ∧ (running 20).memFault ((running 20).core 3) 5 (.ld32 0 (.indexed 2) 1) = some 2
    ∧ (running 20).memFault ((running 20).core 3) 5 (.ld64 0 (.indexed (-16)) 2) = some 1 := by decide

theorem witness_BundleFaults_more : ({ running 20 with poison := [(((running 20).core 3).bundleAddr 3) / 8] }).poison.contains (((running 20).core 3).bundleAddr 3 / 8) = true
    ∧ ((running 20).core 3).bundleAddr 3 % 8 = 0 ∧ (handling.core 3).settle.tm = true ∧ genOf 2 = genOf 3 := by decide

theorem witness_BundleFrame : ((running 20).runs 3 (.move (.ldi 5 7))) ∧ ((running 20).runs 3 (.ctrl (.loop 1 (.imm 3) 40))) ∧ ((running 20).core 3).pc < 2047
    ∧ (∀ x, ((running 20).core 3).seeN (xLS x) < 2048) ∧ ((running 20).core 3).delay = none := by decide

theorem witness_EncodeDecode : ∀ b ∈ [Bundle.arith (.mac 3 15 14) (.rndx 4 2) (.ld64 7 .postMod 6) (.str 1 .postInc 3),
      .move (.ldi 0x3E 0x1A05), .move (.alu .shra 15 14 (.imm 0xFFFFFFFF)), .move (.mem (.st64 7 (.indexed 0xFF8) 14)),
      .ctrl (.loop 1 (.imm 0xFFFF) 0x7FF), .ctrl (.matchOp (.imm 0xFFF) 7 15), .ctrl (.br .sv 0x7FF)], encodable b = true := by decide

theorem witness_DecodeEncode : decodeBundle 0x100000000000000 = none ∧ decodeBundle 0x4000000000000000 = none
    ∧ (decodeBundle 0x3440000000000000).isSome = true := by decide

/-- Core 3 of a device whose windows let partition 0 reach global SRAM, with a DIRECT load and a DIRECT store in flight. -/
def farBusy : State :=
  let s := farRunning 4
  let s := s.setCore 3 { s.core 3 with loads := [⟨5, [xD 6], 0, .mem clDirect 0x100 4, [], 19, 0⟩], stores := [⟨5, clDirect, 0x200, 4, 7, 18, 1⟩], bn := 5 }
  (s.setCfg 0x401 (2 ^ 31 + 3 * 2 ^ 16)).setCfg 0x402 0x1000000

theorem witness_FarAccessesEnd : farBusy.board.held = false ∧ (farBusy.core 3).loads.length = 1
    ∧ ((farBusy.core 3).posted 0).map (·.2.1.pc) = some 18 ∧ (farBusy.core 3).aside = none ∧ (farBusy.core 3).pend = []
    ∧ (farBusy.core 3).run = some ⟨5, false, [], [], false⟩ := by decide

theorem witness_FarAccessesEnd_order : farBusy.behind 3 0 (farBusy.readTarget (.mem clDirect 0x100 4)).1 = false
    ∧ farBusy.behind 3 2 (farBusy.readTarget (.mem clDirect 0x100 4)).1 = true := by decide

theorem witness_FarAccessesEnd_load :
    (match (farBusy.errored 0 false).farRead 3 ⟨5, false, [], [], false⟩ 5 0 0 (.mem clDirect 0x100 4) with | (_, .data _) => true | _ => false) = true := by decide

theorem witness_FarAccessesEnd_error :
    (match (farBusy.errored 0 false).farRead 3 ⟨5, false, [], [], false⟩ 5 0 0 (.mem clDirect 0x5000000 4) with | (_, .error) => true | _ => false) = true := by decide

theorem witness_FarAccessesEnd_store :
    ((farBusy.errored 0 false).farStoreAt 3 [] ⟨5, clDirect, 0x200, 4, 7, 18, 1⟩ 1).2 = true
    ∧ ((farBusy.errored 0 false).farStoreAt 3 [] ⟨5, clDirect, 0x5000000, 4, 7, 18, 1⟩ 0).2 = false := by decide

/-- Core 3 as in `running` with the debug port on, a breakpoint at its bundle, HOLD set and a step due. -/
def debugged : State :=
  let s := ((((running 20).wr CORECTL_DBG_EN 1).wr (CORECTL_CBRK_EN 3) 1).wr (CORECTL_CBRK_ADDR 3) 20).wr (CORECTL_CCTRL_HOLD 3) 1
  s.setCore 3 { s.core 3 with wantStep := true }

theorem witness_CoreEvents : debugged.board.held = false ∧ debugged.breakHere 3 = true ∧ (debugged.core 3).safePoint = true ∧ (debugged.core 3).tm = false
    ∧ (debugged.core 3).wantStep = true ∧ debugged.on CORECTL_DBG_EN = true ∧ debugged.on (CORECTL_CCTRL_HOLD 3) = true
    ∧ debugged.rd (CORECTL_CSTAT_STATE 3) = stRun ∧ reservedWord 20 0 = true ∧ debugged.canRun 3 = true
    ∧ (loadingCore.safePoint = false) := by decide

theorem witness_CoreEvents_steps : (debugged.core 3).run.isSome = true ∧ debugged.poison = [] ∧ debugged.integ.flips = [] ∧ (debugged.core 3).badEntry = false := by decide

/-- Core 3 asked to preempt for task 6, which is READY, with PE as given. -/
def urgentDue (pe : Nat) : State :=
  let s := (((running 20).wr DISP_CTRL_EN 1).wr (DISP_CTXSTAT_STATE 6) cxReady)
  s.setCore 3 { (s.core 3).force xSR (pe * 512) with wantUrgent := some 6 }

theorem witness_CoreEvents_urgent : (urgentDue 1).ctxState 6 = cxReady ∧ bit ((urgentDue 1).core 3).sr 9 = true ∧ ((urgentDue 1).core 3).safePoint = true
    ∧ (urgentDue 1).mayGrant 6 = true ∧ bit ((urgentDue 0).core 3).sr 9 = false ∧ ((urgentDue 1).core 3).wantUrgent = some 6 := by decide

theorem witness_CoreEvents_step : (let s := up.wr (CORECTL_CSTAT_STATE 3) stHeld
    ∀ q ∈ [Port.image], s.writeOpen q row_CORECTL_CCTRL 3 (withBits 0 1 1 1) ∧ bit (withBits 0 1 1 1) 1 = true) := by decide

theorem witness_DispatcherCommands : ∀ q ∈ [Port.image, .pcie 0], up.writeOpen q row_DISP_CMD 0 (1 + 0 * 16 + 6 * 65536 + b2n true * 2147483648) := by decide

theorem witness_DispatcherCommands_regs : ∀ q ∈ [(row_DISP_CORECMD, 5 + 256), (row_DISP_CORECMD, 5 + 512), (row_DISP_SWEV, 7), (row_DISP_SLACKMAX, 2147483648)],
    up.writeOpen .image q.1 0 q.2 := by decide

theorem witness_DispatcherCommands_states : up.ctxState 6 = cxDisarmed ∧ up.badCfg 6 = true ∧ (up.wr (DISP_CTXSTAT_STATE 6) cxRunning).ctxState 6 = cxRunning
    ∧ (up.whoOf .image).q = warden ∧ (up.whoOf (.pcie 1)).q = 0 ∧ up.partCtx 6 = 0
    ∧ ((up.setCfg 0x100 0x11111111).partCtx 6 = 1) ∧ up.on DISP_STATUS_BUSY = false ∧ (up.wr DISP_STATUS_BUSY 1).on DISP_STATUS_BUSY = true := by decide

/-- A context 6 whose record ARM accepts. -/
def armable : State :=
  ((up.wr (DISP_CTXDATA_WORD (6 * 16)) (56 * 2 ^ 19)).wr (DISP_CTXDATA_WORD (6 * 16 + 1)) 16).wr (DISP_CTXDATA_WORD (6 * 16 + 2)) 1

theorem witness_DispatcherCommands_armable : armable.badCfg 6 = false ∧ armable.ctxState 6 = cxDisarmed := by decide

/-- A matching context 7 with slot 0 in use, and a context 8 that counts flag 3. -/
def waitingTasks : State :=
  ((up.wr (DISP_CTXDATA_WORD (7 * 16)) 65536).wr (DISP_CTXDATA_WORD (7 * 16 + 1)) 65536).wr (DISP_CTXDATA_WORD (8 * 16 + 3)) 8

theorem witness_FlagsAndReadiness : waitingTasks.matching 7 = true ∧ bit (waitingTasks.slotMask 7) 0 = true ∧ bit (waitingTasks.slotMask 7) 1 = false
    ∧ waitingTasks.rd DISP_MSUSE_INUSE < 512 ∧ 512 ≤ (waitingTasks.wr DISP_MSUSE_INUSE 512).rd DISP_MSUSE_INUSE
    ∧ waitingTasks.counting 8 3 = true ∧ waitingTasks.counting 8 2 = false ∧ tget 0 (waitingTasks.ctx 8).counts 3 < 255
    ∧ (waitingTasks.ctx 8).flags < 2 ^ 32 ∧ (up.modCtx 8 fun c => { c with counts := tput 0 c.counts 3 255 }).ctx 8 ≠ up.ctx 8
    ∧ waitingTasks.matching 8 = false ∧ waitingTasks.ctxF 8 15 1 ≠ 1 ∧ (up.wr (DISP_CTXDATA_WORD (8 * 16)) 32768).ctxF 8 15 1 = 1 := by decide

/-- Cluster 0 with task 6 at level 2 and task 9 at level 5 on its lists. -/
def readyTasks : State :=
  let s := up.wr DISP_CTRL_EN 1
  { s with disp := { s.disp with ready := [⟨9, 0, 5, 0, false⟩, ⟨6, 0, 2, 1, false⟩] } }

theorem witness_TaskEntry : (readyTasks.ownPick 3).map (·.tid) = some 6 ∧ readyTasks.matching 6 = false := by decide

/-- The device of `up` in frame 0, whose last deadline task ended 100 µs after the downbeat. -/
def endedTask : State := { up with n := 1, bc := 200000, io := { up.io with dbAt := 1000 }, disp := { up.disp with lastEnd := some 101000 } }

theorem witness_DispatcherSteps : up.board.held = false ∧ up.disp.downbeat = false ∧ up.disp.due = [] ∧ up.window = false ∧ ({ up with n := 1 }).n ≠ 0
    ∧ up.background 6 = false ∧ (running 20).coreOf 5 = some 3 ∧ up.coreOf 6 = none ∧ (up.wr (DISP_CTXSTAT_STATE 6) cxReady).ctxState 6 = cxReady
    ∧ ((running 20).wr (DISP_CTXSTAT_STATE 5) cxRunning).ctxState 5 = cxRunning ∧ (running 20).background 5 = false
    ∧ ((running 20).wr (DISP_CTXSTAT_STATE 5) cxCancelling).ctxState 5 = cxCancelling ∧ up.epoch.snap = false
    ∧ ({ up with refs := { up.refs with align := false } }).refs.align = false := by decide

theorem witness_DispatcherSteps_slack : endedTask.disp.lastEnd = some 101000 ∧ endedTask.io.dbAt ≤ 101000
    ∧ 3 * (101000 - endedTask.io.dbAt) = 1000 * 300 ∧ min 300 1023 ≤ (endedTask.wr DISP_SLACKTHR_THR 500).rd DISP_SLACKTHR_THR
    ∧ (endedTask.wr DISP_SLACKTHR_THR 200).rd DISP_SLACKTHR_THR < min 300 1023 := by decide

theorem witness_HostRegisterWrites : ∀ q ∈ [(row_HOST_RPI, 255, 16), (row_HOST_RCI, 255, 0), (row_WARD_CFGSTG, 0, 5), (row_WARD_APPLY, 0, 1)],
    up.writeOpen .image q.1 q.2.1 q.2.2 := by decide

theorem witness_HostRegisterWrites_more : (∀ q ∈ [(row_WARD_JCI, 0, 0), (row_SYS_RATE, 0, 0)], up.writeOpen .image q.1 q.2.1 q.2.2)
    ∧ up.writeOpen (.pcie 1) row_HOST_RPI 3 16 ∧ (up.whoOf (.pcie 1)).q = 0 ∧ up.partRing 3 = 0 ∧ (up.setCfg 0x10 0x1000).partRing 3 = 1
    ∧ cfgListed 0x30 = false ∧ cfgListed 0x2F = true ∧ up.on WARD_APPLY_GO = false := by decide

theorem witness_HostRegisterWrites_rate : up.rd SYS_RATE_FS = 1 ∧ up.on DISP_CTRL_EN = false ∧ up.on ROUTE_CTRL_ENACT = false
    ∧ (∀ d < 8, up.on (BELL_CFG_EN d) = false) ∧ up.rd OVR_ASTAT_ACTIVE = 0
    ∧ (up.wr DISP_CTRL_EN 1).on DISP_CTRL_EN = true := by decide

theorem witness_HostRegisterWrites_silent : up.audioIdle = true ∧ (∀ c < 128, up.ampState c = amOff) := by
  refine ⟨?_, fun c _ => up_rd _ _ _ _ (by unfold SYS_BOOTSTAT_DONE; decide)⟩
  simp only [State.audioIdle, State.rsWord, State.tsWord, State.on]
  simp [SPORT_CFG_EN, PDM_CLK_EN, NET_RSDATA_WORD, NET_TSDATA_WORD, SPORT_ASRC_EN, bit, bits]
  refine ⟨⟨⟨fun x _ => ?_, fun x _ => ?_⟩, fun x _ => ⟨?_, ?_⟩⟩, fun x _ => ?_⟩ <;> rw [up_rd _ _ _ _ (by decide)] <;> decide

/-- A ring of type `ty` with 16 entries, its indices at `rpi` and `rci`. -/
def ringAt (ty rpi rci : Nat) : State :=
  (((up.wr (HOST_RCFG_TYPE 3) ty).wr (HOST_RCFG_LOG2SIZE 3) 4).wr (HOST_RPI_INDEX 3) rpi).wr (HOST_RCI_INDEX 3) rci

theorem witness_HostRegisterWrites_rings : (ringAt ringCmd 0 0xFFFFFFFF).ringSize 3 = 16 ∧ (ringAt ringCmd 0 0xFFFFFFFF).ringUsed 3 = 1
    ∧ (ringAt ringCmd 0 0xFFFFFFFF).rd (HOST_RCFG_TYPE 3) = ringCmd ∧ (15 + 2 ^ 32 - 0xFFFFFFFF) % 2 ^ 32 = 16 ∧ (16 + 2 ^ 32 - 0xFFFFFFFF) % 2 ^ 32 = 17
    ∧ ¬ ((ringAt ringCpl 7 5).rd (HOST_RCFG_TYPE 3) = ringCmd ∨ (ringAt ringCpl 7 5).rd (HOST_RCFG_TYPE 3) = ringNettx)
    ∧ (ringAt ringCpl 7 5).ringUsed 3 = 2 := by decide

theorem witness_HostWriteRefusals_boot : (State.reset.whoOf (.pcie 1)).host = true ∧ State.reset.on SYS_BOOTSTAT_DONE = false
    ∧ (up.whoOf .spi).host = true ∧ (up.wr PAIR_STAT_ROLE 2).authority = false ∧ row_DISP_CMD.addr = 0x0A010008 := by decide

theorem witness_HostWriteRefusals_blocks : (up.whoOf (.pcie 1)).q = 0 ∧ ¬ (up.setCfg 0x4 0x1).mayReach ((up.setCfg 0x4 0x1).whoOf (.pcie 1)) 0 true = true
    ∧ up.changesRww row_SYS_RATE 0 0 = true ∧ (up.whoOf (.pcie 1)).q ≠ warden := by decide

theorem witness_HostWriteRefusals_journal : (up.wr WARD_JPI_INDEX 256).journalFull = true ∧ ((up.wr WARD_JPI_INDEX 256).whoOf .image).q = warden
    ∧ (up.wr WARD_JPI_INDEX 256).changesRww row_SYS_RATE 0 0 = true ∧ isArm row_SYS_RATE 0 = false ∧ row_SYS_RATE.addr ≠ 0x0A160024
    ∧ SYS_RATE_FS.no ∉ noteFields ∧ SYS_RATE_FS.no ≠ HOST_SPISTAT_ERR.no := by decide

theorem witness_HostAccesses : up.board.held = false ∧ up.on SYS_BOOTSTAT_DONE = true ∧ up.integ.inj = none ∧ issuable 0xFFFFFC 4 = true ∧ issuable 0x100 256 = true
    ∧ (up.whoOf (.pcie 0)).q = warden ∧ (up.whoOf (.pcie 1)).q = 0 ∧ up.windowed 0 0x100 256 true = false
    ∧ (((up.setCfg 0x401 0x80030000).setCfg 0x402 0x1000)).windowed 0 0xF00 256 true = true
    ∧ (((up.setCfg 0x401 0x80030000).setCfg 0x402 0x1000)).windowed 0 0xF00 256 false = true
    ∧ (((up.setCfg 0x401 0x80030000).setCfg 0x402 0x1000)).windowed 0 0x1000 4 false = false
    ∧ (up.whoOf .spi).q = 0 ∧ up.poison = [] ∧ up.integ.flips = [] ∧ up.integ.stuck = [] ∧ up.integ.batching = false ∧ up.integ.batch = [] := by decide

theorem witness_HostAccesses_waits : barAddr false 0 = some 0 ∧ (up.passChecks (up.whoOf (.pcie 0)) 0 256 0 true).2 = true
    ∧ (up.target 0).num = 16 ∧ (up.barWaits (.pcie 0) false 0 (.write [0, 0, 0, 0]) 0 true).rd (XBAR_CONFCNT_COUNT 368) = 1 := by decide

theorem witness_HostAccesses_registers : up.mayReach (up.whoOf .spi) 0 true = true ∧ blockOf 0x0A000028 = 0
    ∧ findRow 0x0A000028 = some (row_SYS_RATE, 0) ∧ up.windowIx row_SYS_RATE 0 = some 0 ∧ findRow 0x0A00001C = none := by
  refine ⟨by decide, by decide, rfl, rfl, by decide +kernel⟩

/-- A device whose ring 0 holds one command, the bytes given, and whose completions nothing takes. -/
def oneCommand (bytes : List Nat) : State :=
  let s := (((up.wr (HOST_RCFG_TYPE 0) ringCmd).wr (HOST_RCFG_LOG2SIZE 0) 4).wr (HOST_RCFG_EN 0) 1).wr (HOST_RPI_INDEX 0) 1
  { s with mem := putBytes [] 0 (bytes.map (BitVec.ofNat 8)) }

theorem witness_RingCommands : ∀ q ∈ [(0, []), (9, []), (3, [0, 0, 0, 0, 0, 0, 0, 0, 0, 0, 0, 0, 4])],
    let s := oneCommand ([q.1, 0, 0, 0, 1, 0, 0, 0] ++ List.replicate 12 0 ++ q.2)
    s.board.held = false ∧ s.epoch.waiting.contains 0 = false ∧ s.cmdReady 0 = true ∧ entN (s.ringEntry 0) 0 1 = q.1
    ∧ entN (s.ringEntry 0) 4 4 = 1 ∧ reservedSet (s.ringEntry 0) = false := by decide

theorem witness_RingCommands_old : entN ((oneCommand [0]).ringEntry 0) 4 4 = 0 ∧ (oneCommand [0]).rd (HOST_RSEQ_SEQ 0) = 0
    ∧ reservedSet ((oneCommand [0, 1]).ringEntry 0) = true ∧ entN ((oneCommand [2, 0, 0, 0, 1]).ringEntry 0) 20 44 = 0
    ∧ (oneCommand [2, 0, 0, 0, 1]).authority = true ∧ ((oneCommand [2]).wr PAIR_STAT_ROLE 2).authority = false
    ∧ ((oneCommand [1]).wr PAIR_STAT_ROLE roLead).role = roLead := by decide

/-- A COMMIT entry of epoch `ep`: the bytes 20 to 23, AT, GLIDE, and what follows. -/
def commitOf (ep : Nat) (mode : List Nat) (at_ glide : Nat) (rest : List Nat) : List Byte :=
  ([1, 0, 0, 0, 1, 0, 0, 0] ++ List.replicate 8 0).map (BitVec.ofNat 8) ++ leBytes ep 4 ++ mode.map (BitVec.ofNat 8) ++ leBytes at_ 8 ++ leBytes glide 4
    ++ padTo 28 (rest.map (BitVec.ofNat 8))

/-- The entry `e` names the pages `ps` and holds no reserved value. -/
def lawful (s : State) (e : List Byte) (ps : List Nat) : Bool := s.authority && !commitBad e && decide (s.commitPages e = some ps)

/-- A device whose page 3 is a page of partition 0. -/
def paged : State := up.wr (EPOCH_PDDATA_VALID 3) 1

theorem witness_CommitsJudged : lawful paged (commitOf 1 [0, 0, 1, 0] 0 96000 [3]) [3] = true ∧ lawful paged (commitOf 1 [1, 1, 2, 0] 5 0 [3]) [3, 4] = true
    ∧ lawful paged (commitOf 1 [2, 0, 1, 0] 5 0 [0, 8]) [2048] = true ∧ lawful paged (commitOf 1 [0x80, 0, 1, 0] 0 0x1FFFF [3]) [3] = true
    ∧ commitBad (commitOf 1 [0, 0, 1, 0] 0 96001 [3]) = true ∧ commitBad (commitOf 1 [3, 0, 1, 0] 0 0 [3]) = true
    ∧ paged.commitPages (commitOf 1 [0, 0, 0, 0] 0 0 []) = none ∧ paged.commitPages (commitOf 1 [0, 0, 15, 0] 0 0 []) = none := by decide

theorem witness_CommitsJudged_cases : paged.pageValid 3 = true ∧ paged.pageValid 4 = false ∧ paged.pageOwner 3 = 0 ∧ (paged.wr (EPOCH_PDDATA_OWNER 3) 7).pageOwner 3 ≠ 0
    ∧ (0 : Nat) ≠ warden ∧ paged.authority = true ∧ (paged.wr PAIR_STAT_ROLE 2).authority = false ∧ paged.epoch.accepted = []
    ∧ (1 + 2 ^ 32 - paged.rd EPOCH_HIGH_EPOCH) % 2 ^ 32 = 1 ∧ (2 ^ 31 + 2 ^ 32 - paged.rd EPOCH_HIGH_EPOCH) % 2 ^ 32 = 2 ^ 31 ∧ paged.window = false
    ∧ (paged.acceptCommit ⟨1, 0, false, 0, false, [3], 0⟩).epoch.accepted = [1]
    ∧ 16 ≤ (({ paged with epoch := { paged.epoch with pend := List.replicate 16 ⟨1, 0, false, 0, false, [3], 0⟩ } }).epoch.pend.filter fun (c : Commit) => !c.imm).length := by decide

theorem witness_ParameterPages_change : up.poison = [] ∧ up.integ.flips = [] ∧ up.integ.stuck = [] ∧ up.integ.batch = [] ∧ up.integ.batching = false
    ∧ up.changing 3 = false ∧ up.glide 3 = false ∧ up.paramFrame (activeV 3) ≠ up.paramFrame (targetV 3) ∧ up.poolFrames.head? = some 1792
    ∧ ((up.wr (EPOCH_PGSTAT_CHG 3) 1).wr (EPOCH_PDDATA_KIND 3) 1).changing 3 = true ∧ (up.wr (EPOCH_PDDATA_KIND 3) 1).glide 3 = true := by decide

theorem witness_ParameterPages : up.board.held = false ∧ up.on SYS_BOOTSTAT_DONE = true ∧ up.integ.inj = none ∧ up.authority = true ∧ up.role ≠ roLead
    ∧ (up.whoOf .image).q = warden ∧ up.pageHeld 1791 = false ∧ (up.whoOf (.pcie 1)).q = 0 ∧ up.pageOwner 3 = 0
    ∧ ((up.setCfg 0x400 0x08000000).setCfg 0x401 0x80020000 |>.setCfg 0x402 0x08200000).windowed 0 0x08000C04 4 true = true := by decide

/-- A device whose background run of context 5, granted at D(1), maps page 2 and still goes on; the page was changed at D(2). -/
def holding : State :=
  (((((up.wr (DISP_CTXDATA_WORD 80) 1).wr (DISP_CTXDATA_WORD 89) 0x10000).wr (DISP_MAPDATA_WORD 0) 0x08200800).wr (DISP_MAPDATA_WORD 2) 0x400).modCtx 5
    fun c => { c with live := true, frame := 1 }).setPage 2 { PageSt.reset with appliedAt := some 2 }

theorem witness_ParameterPages_registers : (∀ q ∈ [(row_EPOCH_SNAPCTL, 1 + 31 * 16), (row_EPOCH_POOL, 2147483648)], up.writeOpen (.pcie 1) q.1 0 q.2)
    ∧ up.on EPOCH_SNAPSTAT_BUSY = false ∧ (up.wr EPOCH_SNAPSTAT_BUSY 1).on EPOCH_SNAPSTAT_BUSY = true := by decide

/-- A device whose warden has staged value `v` for word 4 and asked for an apply. -/
def asked (v : Nat) : State := (up.wr (WARD_CFGSTG_WORD 4) v).wr WARD_APPLY_GO 1

theorem witness_ConfigurationApply : (asked 0).on WARD_APPLY_GO = true ∧ up.on WARD_APPLY_GO = false ∧ up.on WARD_STAT_FROZEN = false
    ∧ (up.wr WARD_STAT_FROZEN 1).on WARD_STAT_FROZEN = true ∧ (up.wr WARD_JPI_INDEX 256).journalFree = 0 ∧ up.journalFree = 256
    ∧ (asked 8).cfgStaged 4 ≠ (asked 8).cfgWord 4 ∧ cfgBad 4 ((asked 8).cfgStaged 4) = true ∧ (asked 8).cfgUnsafe 4 = false
    ∧ cfgBad 4 ((asked 0x77777777).cfgStaged 4) = false ∧ (asked 1).cfgInUse 4 = false
    ∧ (up.wr (WARD_CFGSTG_WORD 6) 0x100).cfgUnsafe 6 = true
    ∧ ((up.wr (WARD_CFGSTG_WORD 0x10) 1).wr (HOST_RCFG_EN 0) 1).cfgInUse 0x10 = true := by decide

/-- Engine 18 at phase `ph` of its last region. -/
def testing (ph : Nat) : State := (up.wr (MEMT_EPOS_PHASE 18) ph).wr (MEMT_EPOS_REGION 18) (memtRegions 18 - 1)

theorem witness_TestsAndInjections : (∀ ph ∈ [1, 2, 3], (testing ph).rd (MEMT_EPOS_PHASE 18) = ph) ∧ (testing 0).board.held = false
    ∧ ((testing 0).wr MEMT_CTRL_EN 1).on MEMT_CTRL_EN = true ∧ ((testing 0).wr MEMT_CTRL_EN 0).on MEMT_CTRL_EN = false ∧ (testing 2).integ.inj = none
    ∧ up.poison = [] ∧ up.integ.flips = [] ∧ up.integ.stuck = [] ∧ (testing 5).rd (MEMT_EPOS_PHASE 18) = 5 ∧ (testing 3).rd (MEMT_EPOS_REGION 18) + 1 = memtRegions 18 ∧ up.rd (MEMT_EPOS_REGION 18) + 1 ≠ memtRegions 18 := by decide

theorem witness_TestsAndInjections_plans : planRepair 4 false [⟨0, 0, false⟩] = some (none, [0]) ∧ planRepair 0 true [⟨0, 0, false⟩] = none
    ∧ planRepair 0 false [⟨0, 7, true⟩, ⟨3, 7, false⟩] = some (some 7, [])
    ∧ (({ testing 1 with poison := [((testing 1).memtWords 18).head! / 8] } : State).memtWords 18).any (fun a => decide (a / 8 ∈ [((testing 1).memtWords 18).head! / 8])) = true := by decide

theorem witness_TestsAndInjections_registers : ∀ q ∈ [(row_MEMT_BRETIRE, withBits 0x1F#32 31 1 1), (row_INTG_INJCTRL, withBits 0x106#32 0 1 1), (row_INTG_FATCLR, 1)],
    up.writeOpen .image q.1 0 q.2 := by decide

theorem witness_TestsAndInjections_targets : up.memt.copy = none ∧ up.memt.queue = [] ∧ up.memt.waitBank = none ∧ up.spareBank = some 32 ∧ up.rd MEMT_BANKMAP_SPARE32 = 0x3F
    ∧ ((up.wr MEMT_BANKMAP_SPARE32 5).wr MEMT_BANKMAP_SPARE33 6).spareBank = none ∧ (up.wr MEMT_BANKMAP_SPARE32 5).rd MEMT_BANKMAP_SPARE33 = 0x3F
    ∧ (up.wr MEMT_BANKMAP_COPY 1).rd MEMT_BANKMAP_COPY = 1 ∧ (up.wr MEMT_BANKMAP_SPARE32 5).rd MEMT_BANKMAP_SPARE32 ≠ 0x3F
    ∧ up.on INTG_INJCTRL_BUSY = false ∧ (up.wr INTG_INJCTRL_BUSY 1).changesRww row_INTG_INJCTRL 0 (withBits 6#32 0 1 1) = true ∧ injBits 0x47 = 1 ∧ injBits 0x48 = 0 ∧ bits (withBits 6#32 0 1 1) 8 8 = 0 ∧ bits (withBits 0x106#32 0 1 1) 8 8 = 1
    ∧ (injTypes 3).contains uMaster = true ∧ 23 < unitCount uMaster ∧ up.anyPlan = false ∧ up.injAway 3 uMaster 23 0 = false
    ∧ (injTypes 4).contains uCore = true ∧ up.injAway 4 uCore 255 0 = true ∧ (injTypes 2).contains uCore = false := by decide

theorem witness_MemoriesAndDram : up.board.held = false ∧ up.on SYS_BOOTSTAT_DONE = true ∧ up.integ.inj = none ∧ (up.whoOf .image).q = warden
    ∧ up.rd CORECTL_IMSTAT_ACT = 0 ∧ up.runsFrom true = false ∧ b2n true ≠ up.rd CORECTL_IMSTAT_ACT ∧ b2n false = up.rd CORECTL_IMSTAT_ACT ∧ up.poison = []
    ∧ ¬ (up.rd (CORECTL_CSTAT_STATE 255) = stRun ∨ up.rd (CORECTL_CSTAT_STATE 255) = stTrap ∨ up.rd (CORECTL_CSTAT_STATE 255) = stStopped)
    ∧ (up.wr (CORECTL_CSTAT_STATE 255) stStopped).rd (CORECTL_CSTAT_STATE 255) = stStopped
    ∧ ¬ ((up.whoOf (.pcie 1)).q = warden ∨ up.windowed (up.whoOf (.pcie 1)).q 0x04020000 4 true = true) := by decide

theorem witness_MemoriesAndDram_registers : ∀ q ∈ [(row_XBAR_CSPOOL, 15, 1024), (row_XBAR_CONFCLR, 0, 1), (row_XBAR_CSHIGH, 15, 2147483648), (row_DRAMC_TRAIN, 1, 1), (row_DRAMC_PWR, 1, 1)],
    up.writeOpen (.pcie 1) q.1 q.2.1 q.2.2 := by decide

theorem witness_MemoriesAndDram_states : (∀ q ∈ [0, 1, 2, 3, 4], (up.wr (DRAMC_STAT_STATE 1) q).rd (DRAMC_STAT_STATE 1) = q)
    ∧ up.rd (XBAR_CSPOOL_INUSE 15) = 0 ∧ ({ up with pwr := { up.pwr with act := [(15, 0)] } } : State).power 15 = 0 ∧ 1024 % 16 = 0 ∧ 1024 ≠ (up.wr (XBAR_CSPOOL_POOL 15) 0).rd (XBAR_CSPOOL_POOL 15)
    ∧ (up.wr (XBAR_CSPOOL_INUSE 15) 1).rd (XBAR_CSPOOL_INUSE 15) ≠ 0 := by decide

/-- MAC 3 enabled and locked. -/
def linked : State := (up.wr (NET_CTRL_EN 3) 1).wr (NET_STAT_LINK 3) 1

theorem witness_EthernetAndStreams : (∀ x ∈ [0, 1, 7, 8, 12], up.writeOpen (.pcie 1) row_NET_CTRL 3 x) ∧ linked.board.held = false
    ∧ linked.on (NET_CTRL_EN 3) = true ∧ linked.on (NET_STAT_LINK 3) = true ∧ up.on (NET_CTRL_EN 3) = false ∧ linked.rd (NET_CTRL_SPEED 3) ≠ bits 3 1 1
    ∧ ((linked.wr (NET_STAT_LINK 3) 0).on (NET_STAT_LINK 3) = false) := by decide

theorem witness_EthernetAndStreams_frames : let b := List.replicate 60 (255 : Byte)
    (parseEth b).tags = 0 ∧ (ptpOf (parseEth b)).isNone = true ∧ linked.accepts 3 (parseEth b).dst = true ∧ linked.accepts 3 5 = false
    ∧ (parseEth (List.replicate 12 (0 : Byte) ++ [0x81, 0, 0, 0, 0x81, 0] ++ List.replicate 42 0)).tags = 2
    ∧ linked.rsMatch 1023 3 (parseEth b) = false ∧ (linked.rsCheck 0 (parseEth b)).isNone = true := by decide

theorem witness_EthernetAndStreams_streams : up.writeOpen .image row_NET_RSDATA 0 (withBits 4#32 0 1 1) ∧ up.writeOpen .image row_NET_TSDATA 0 (withBits 4#32 0 1 1)
    ∧ up.rd NET_RSSEL_INDEX = 0 ∧ up.rd (NET_RSSTAT_STATE 0) = 0 ∧ up.on (NET_TSSTAT_RUN 0) = false ∧ (up.wr (NET_RSDATA_WORD 0) 1).rsErr 0 = 1
    ∧ (up.wr (NET_RSDATA_WORD 0) 5).rd (NET_RSDATA_WORD 0) = withBits 4#32 0 1 0 + 1 ∧ (up.wr (NET_TSSTAT_RUN 0) 1).on (NET_TSSTAT_RUN 0) = true
    ∧ up.role ≠ roHeel ∧ up.net.tx.lookup 1023 = none ∧ up.txBehind 1023 3 = false
    ∧ ({ up with net := { up.net with tx := [(0, 0)] } } : State).net.tx.lookup 0 = some 0 := by decide

/-- A device whose NETTX ring 0 holds one entry for a frame of `len` bytes on MAC 3, with byte 11 as given. -/
def toSend (len flags : Nat) : State :=
  let s := (((linked.wr (HOST_RCFG_TYPE 0) ringNettx).wr (HOST_RCFG_LOG2SIZE 0) 4).wr (HOST_RCFG_EN 0) 1).wr (HOST_RPI_INDEX 0) 1
  { s with mem := putBytes [] 0 ([0, 0, 0, 0, 0, 0, 0, 0, len, 0, 3, flags].map (BitVec.ofNat 8)) }

theorem witness_EthernetAndStreams_ring : ∀ q ∈ [(60, 0, 60), (59, 0, 59), (60, 64, 60)], let s := toSend q.1 q.2.1
    s.ringIs 0 ringNettx = true ∧ s.ringUsed 0 ≠ 0 ∧ (s.ringIs (s.peerOf 0) ringCpl && s.ringFull (s.peerOf 0)) = false
    ∧ entN (s.ringFetch 0).2 8 2 = q.2.2 ∧ entN (s.ringFetch 0).2 10 1 = 3 ∧ entN (s.ringFetch 0).2 11 1 = q.2.1 ∧ (s.ringFetch 0).1.authority = true
    ∧ (s.ringFetch 0).1.on (NET_CTRL_EN 3) = true ∧ (s.ringFetch 0).1.on (NET_STAT_LINK 3) = true := by decide

theorem witness_EthernetAndStreams_lawful : (up.wr (NET_RSDATA_WORD 0) 5).rsErr 0 = 0 := by
  have hz : ∀ n, n ≠ 0 → (up.wr (NET_RSDATA_WORD 0) 5).rd (NET_RSDATA_WORD n) = 0 := by
    intro n hn
    rw [State.rd_wr_other _ _ _ _ (.inr hn)]
    exact up_rd _ _ _ _ (by decide)
  have h0 : (up.wr (NET_RSDATA_WORD 0) 5).rd (NET_RSDATA_WORD 0) = 5 := by decide
  have hj : (up.wr (NET_RSDATA_WORD 0) 5).jd = 256 ∧ (up.wr (NET_RSDATA_WORD 0) 5).fs = 32 ∧ (up.wr (NET_RSDATA_WORD 0) 5).payload 5 = 24
      ∧ (up.wr (NET_RSDATA_WORD 0) 5).tbNamed 0 = true := by decide
  simp only [State.rsErr, hj.1, hj.2.1, State.rsWord, Nat.zero_mul, Nat.zero_add, h0]
  simp [hz, hj, dPorts, dCh, dTb, dAvtp, portsOk, overlaps, bits, bit]
  intro x _ h; rw [hz _ (by omega)]

/-- A device in role `r` and heel state `h`, its link up on four lanes. -/
def paired (r h : Nat) : State :=
  let s := ((up.wr PAIR_STAT_ROLE r).wr PAIR_STAT_HSTATE h).wr PAIR_STAT_LINK 1
  (List.range 4).foldl (fun (s : State) k => s.wr (PAIR_LANE_STATE k) laIn) s

theorem witness_PairRolesAndLink : (∀ q ∈ [1, 2, 3, 4], up.writeOpen .image row_PAIR_CMD 0 q) ∧ up.writeOpen .image row_PAIR_LANECMD 0 (4 + 2147483648)
    ∧ up.role = roDetached ∧ (paired roLead 0).role = roLead ∧ (paired roFenced 0).role = roFenced ∧ (paired roSolo 0).role = roSolo := by decide

theorem crc64_lt (l : List Nat) : crc64 l < 2 ^ 64 := by
  have tab : ∀ i, crc64Tab.getD i 0 < 2 ^ 64 := by
    intro i
    by_cases h : i < 16
    · revert i; decide
    · rw [List.getD_eq_getElem?_getD, List.getElem?_eq_none (by simp [crc64Tab]; omega)]; decide
  have nib : ∀ c n, crc64Nib c n < 2 ^ 64 := fun c n => Nat.xor_lt_two_pow (Nat.mod_lt _ (by decide)) (tab _)
  have all : ∀ (l : List Nat) (a : Nat), a < 2 ^ 64 → l.foldl crc64Byte a < 2 ^ 64 := by
    intro l
    induction l with
    | nil => exact fun a h => h
    | cons x l ih => exact fun a _ => ih _ (nib _ _)
  exact all l 0 (by decide)

theorem confCrcs_lt (s : State) : ∀ x ∈ s.confCrcs, x < 2 ^ 64 := by
  intro x hx
  simp only [State.confCrcs, List.mem_cons, List.not_mem_nil, or_false] at hx
  rcases hx with h | h | h | h | h | h <;> rw [h] <;> exact crc64_lt _

theorem words_back : ∀ l : List Nat, (∀ x ∈ l, x < 2 ^ 64) → (l.map (BitVec.ofNat 64)).map BitVec.toNat = l
  | [], _ => rfl
  | a :: l, h => by
    rw [List.map_cons, List.map_cons, words_back l fun x hx => h x (List.mem_cons_of_mem a hx), BitVec.toNat_ofNat,
      Nat.mod_eq_of_lt (h a (List.mem_cons_self ..))]

/-- A peer whose configuration is the heel's own. -/
theorem witness_PairRolesAndLink_same : ((paired roHeel hsCheck).confCrcs.map (BitVec.ofNat 64)).map BitVec.toNat = (paired roHeel hsCheck).confCrcs :=
  words_back _ (confCrcs_lt _)

theorem witness_PairRolesAndLink_heel : (∀ h ∈ [hsLink, hsCheck, hsCopy], (paired roHeel h).hstate = h) ∧ (paired roHeel hsLink).role = roHeel
    ∧ (paired roHeel hsLink).on PAIR_STAT_LINK = true ∧ 4 ≤ (paired roHeel hsLink).lanesIn.length ∧ (paired roHeel hsLink).rd PAIR_LINKSTAT_DELAY ≤ 5000
    ∧ (paired roHeel hsLink).board.held = false ∧ (paired roHeel hsCheck).frame = 0 := by decide

theorem witness_PairRolesAndLink_lanes : up.on PAIR_STAT_LINK = false ∧ (up.modPair fun x => { x with active := true }).pair.active = true
    ∧ (∀ k < 5, bit (31#5).toNat k = true ∧ up.rd (PAIR_LANE_STATE k) ≠ laRetired) ∧ (up.whoOf .image).q = warden ∧ (up.whoOf (.pcie 1)).q ≠ warden ∧ up.pair.lanes = [] ∧ (up.wr (PAIR_LANE_STATE 4) laRetired).rd (PAIR_LANE_STATE 4) = laRetired
    ∧ (paired roLead 0).frame = 0 ∧ (paired roLead 0).bc ≤ (paired roLead 0).io.dbAt + 50000
    ∧ ((up.wr (REFS_DSTAT_STATE 0) plLocked).wr (REFS_DSTAT_ACTIVE 0) 10).pllState 0 = plLocked := by decide

/-- A heel that has joined, waits for source 16 and has cluster 15 in RESYNC. -/
def mirrored : State := (paired roHeel hsSynced).modPair fun x => { x with joined := some 1, wait := [16], resync := [(15, 0, [])] }

theorem witness_PairMirroring : mirrored.board.held = false ∧ mirrored.role = roHeel ∧ mirrored.pair.joined.isSome = true ∧ 16 ∈ mirrored.pair.wait
    ∧ mirrored.on PAIR_STAT_LINK = true ∧ mirrored.pair.setsN = 0 ∧ mirrored.pair.mir = [] ∧ (∃ q ∈ mirrored.pair.resync, q.1 = 15)
    ∧ (∀ q ∈ mirrored.pair.resync, q.1 ≠ 0) ∧ mirrored.n = 0 ∧ 0 < mirrored.sramPages 15 ∧ (paired roHeel hsCopy).hstate = hsCopy
    ∧ (paired roLead 0).on PAIR_STAT_LINK = true ∧ (paired roLead 0).pair.setsN = 0 ∧ up.on PAIR_STAT_LINK = false := by
  refine ⟨by decide, by decide, by decide, by decide, by decide, by decide, by decide, ⟨(15, 0, []), by decide, rfl⟩, by decide, by decide, by decide, by decide, by decide,
    by decide, by decide⟩

/-- Port 63 in state `st`. -/
def portIn (st : Nat) : State := up.wr (SPORT_STAT_STATE 63) st

theorem witness_PortsAndMicrophones : (∀ q ∈ [(row_SPORT_CFG, 63, 1), (row_SPORT_ASRC, 15, 64), (row_PDM_CLK, 7, 3), (row_PDM_LCFG, 31, 1)],
      up.writeOpen (.pcie 1) q.1 q.2.1 q.2.2) ∧ (∀ st ∈ [poStarting, poSeeking, poRun, poUnder], (portIn st).portState 63 = st)
    ∧ up.portState 63 = poOff ∧ (portIn poRun).on (SPORT_CFG_MASTER 63) = false ∧ (portIn poRun).board.held = false := by decide

theorem witness_PortsAndMicrophones_config : let t := up.wrRow row_SPORT_CFG 63 (withBits 0x20#32 0 1 1)
    (up.wrRow row_SPORT_CFG 63 (withBits 0xFFFFFFFF#32 0 1 1)).cfgLegal 63 = false ∧ t.on (SPORT_CFG_EN 63) = true ∧ up.grpMembers = [] := by decide

theorem witness_PortsAndMicrophones_edges : (portIn poUnder).timelyEdge false (portIn poUnder |>.port 63) 100 = true
    ∧ ((portIn poUnder).setPort 63 { PortSt.reset with edge := some 0 }).timelyEdge false { PortSt.reset with edge := some 0 } 5208 = false
    ∧ ((portIn poRun).groupOf 63).isSome = false ∧ 3 ≤ ({ PortSt.reset with timely := 3 } : PortSt).timely
    ∧ (portIn poRun).gridIndex 10416 = 3 ∧ (portIn poRun).framePasses 63 0 = true ∧ (portIn poRun).subStart 1 = (portIn poRun).fadeLen
    ∧ ((portIn poRun).measuredRatio { PortSt.reset with stamps := [20833, 0] } 64).isSome = true ∧ (portIn poRun).fs * (portIn poRun).frame = 0 := by decide

theorem witness_PortsAndMicrophones_groups : ((up.wr (SPORT_ASRCST_LOCK 15) 1).wr (SPORT_STAT_STATE 0) poRun).rd (SPORT_ASRCST_LOCK 15) = 1
    ∧ ((up.wr (SPORT_ASRCST_LOCK 15) 1).wr (SPORT_STAT_STATE 0) poRun).portState 0 = poRun ∧ up.rd (SPORT_ASRC_PORT 15) = 0
    ∧ (∀ q ∈ [1, 2, 3], (up.wr (micField 63) q).rd (micField 63) = q) ∧ (up.wr (micEnable 63) 1).on (micEnable 63) = true
    ∧ (up.wr (PDM_CLK_EN 7) 1).on (PDM_CLK_EN 7) = true ∧ up.on SYS_RATE_ACT = true
    ∧ (up.wrRow row_SPORT_ASRC 15 64).on (SPORT_ASRC_EN 15) = true ∧ up.on (SPORT_ASRC_EN 15) = false := by decide

/-- DPLL 3 in state `st` on candidate 4, which is qualified and ranks first. -/
def pllIn (st : Nat) : State :=
  ((((up.wr (REFS_DSTAT_STATE 3) st).wr (REFS_DSTAT_ACTIVE 3) 4).wr (REFS_CSTAT_STATE 4) caQualified).wr (REFS_DPRIO_PRI (3 * 12 + 4)) 0)

theorem witness_ReferencesAndDplls : (∀ q ∈ [row_REFS_DCTRL, row_REFS_DFW, row_REFS_DSTEER, row_REFS_FOOFS], up.writeOpen .image q 3 0)
    ∧ (∀ st ∈ [plAcquire, plLocked, plSwitching, plHoldover], (pllIn st).pllState 3 = st) ∧ (pllIn plSwitching).qualified 4 = true
    ∧ (pllIn plSwitching).rd (REFS_DSTAT_ACTIVE 3) = 4 ∧ (pllIn plSwitching).selects 3 = true ∧ ((pllIn plSwitching).wr (REFS_DCTRL_MODE 3) moOpen).selects 3 = false ∧ ((pllIn plSwitching).wr (REFS_CSTAT_STATE 4) caDisq).qualified 4 = false := by decide

theorem witness_ReferencesAndDplls_picks : up.pick 3 = none ∧ (pllIn plHoldover).pick 3 = some 4 ∧ (pllIn plHoldover).autoBest 3 = some 4
    ∧ (((pllIn plLocked).wr (REFS_DSTAT_ACTIVE 3) 5).wr (REFS_DCTRL_REVERT 3) 1).on (REFS_DCTRL_REVERT 3) = true ∧ up.rd (REFS_DCTRL_MODE 3) = moAuto
    ∧ (pllIn plLocked).prio 3 4 < (pllIn plLocked).prio 3 5 ∧ (up.wr REFS_SYSSTAT_LOCK 1).on REFS_SYSSTAT_LOCK = true
    ∧ (sx 32 6871948).natAbs ≤ 6871948 ∧ ¬ (sx 32 6871949).natAbs ≤ 6871948 ∧ (sx 32 333333).natAbs ≤ 333333 ∧ 333333 < (sx 32 333334).natAbs := by decide

theorem witness_ReferencesAndDplls_candidates : (∀ q ∈ [caDisq, caQualifying, caQualified], (up.wr (REFS_CSTAT_STATE 1) q).rd (REFS_CSTAT_STATE 1) = q)
    ∧ up.rd (REFS_CSTAT_STATE 1) = caOff ∧ (up.cand 1).inside + 1 < 10 * up.rd (REFS_CQUAL_QUALT 1)
    ∧ 10 * up.rd (REFS_CQUAL_QUALT 1) ≤ ({ CandSt.reset with inside := 199 } : CandSt).inside + 1 ∧ (up.fo 3).offs.length < 63
    ∧ up.foPos 3 (up.bc + 1000) ≤ 1 * up.foPeriod 3 + up.foPhase 3 1 + sx 32 0 * (3 * 2 ^ 36) ∧ ¬ (up.foPos 3 (up.bc + 1000) ≤ 0 * up.foPeriod 3 + up.foPhase 3 0 + sx 32 0 * (3 * 2 ^ 36)) ∧ jumps 5 [2000, 1000] 3006 = true ∧ jumps 5 [2000, 1000] 3005 = false
    ∧ ({ CandSt.reset with out := 50 } : CandSt).out ≠ 0 ∧ up.board.held = false := by decide

theorem witness_TimeBasesAndSideTone : ∀ q ∈ [(row_TIME_SNAP, 0, 1), (row_TIME_TBADJ, 3, 5), (row_TIME_TBRATE, 3, 0xFFFFFFFF), (row_TIME_TBMID2, 3, 1)],
    up.writeOpen .image q.1 q.2.1 q.2.2 := by decide

theorem witness_TimeBasesAndSideTone_more : ∀ q ∈ [(row_TIME_TBCTRL, 3, 1), (row_REFS_TBSEL, 0, 4), (row_ROUTE_STGAIN, 127, 0x10000000), (row_ROUTE_STCFG, 15, 1)],
    up.writeOpen (.pcie 1) q.1 q.2.1 q.2.2 := by decide

theorem witness_TimeBasesAndSideTone_states : (∀ q ∈ [tbLocking, tbLocked], (up.wr (TIME_TBSTAT_STATE 3) q).rd (TIME_TBSTAT_STATE 3) = q)
    ∧ up.rd (TIME_TBSTAT_STATE 3) = tbDisabled ∧ up.bc < 2 ^ 64 ∧ up.rd REFS_TBSEL_SEL ≠ 4 ∧ (up.wr REFS_TBSEL_SEL 4).rd REFS_TBSEL_SEL = 4
    ∧ (up.wr (TIME_TBCTRL_SVEN 3) 1).on (TIME_TBCTRL_SVEN 3) = true ∧ up.on (TIME_TBCTRL_SVEN 3) = false ∧ up.on (TIME_TBCTRL_EN 3) = false
    ∧ (up.wr (TIME_TBCTRL_EN 3) 1).on (TIME_TBCTRL_EN 3) = true ∧ (up.wrRow row_TIME_TBCTRL 3 1).on (TIME_TBCTRL_EN 3) = true
    ∧ ((up.wr (TIME_TBCTRL_EN 3) 1).wrRow row_TIME_TBCTRL 3 3).rd (TIME_TBCTRL_MODE 3) ≠ (up.wr (TIME_TBCTRL_EN 3) 1).rd (TIME_TBCTRL_MODE 3) := by decide

theorem witness_TimeBasesAndSideTone_gains : tget none up.io.zc 127 = none ∧ (up.wr (ROUTE_STSRC_ZC 127) 1).on (ROUTE_STSRC_ZC 127) = true
    ∧ tget none ({ up with io := { up.io with zc := [(127, some 3)] } } : State).io.zc 127 = some 3 ∧ up.on (ROUTE_STSRC_ZC 127) = false
    ∧ up.on DISP_CTRL_EN = false ∧ up.on ROUTE_CTRL_ENACT = false ∧ up.tbNamed 0 = true ∧ up.tbNamed 4 = false
    ∧ (up.wrRow row_ROUTE_STCFG 15 1).sideOk 15 = true ∧ (up.wrRow row_ROUTE_STCFG 15 1).sideClash 15 = false := by decide

theorem witness_TimeBasesAndSideTone_jump : up.rd (REFS_CQUAL_PJTHR 5) < (sx 32 201).natAbs ∧ up.rd (REFS_CQUAL_PJTHR 5) < (sx 32 0xFFFFFF00).natAbs
    ∧ ¬ up.rd (REFS_CQUAL_PJTHR 5) < (sx 32 200).natAbs ∧ (up.wr (REFS_CSTAT_STATE 5) caQualified).rd (REFS_CSTAT_STATE 5) = caQualified := by decide

theorem witness_AmpCommands : ∀ q ∈ [(Port.image, 127, withBits (BitVec.ofNat 32 (withBits 0xFEFF 0 2 0)) 17 1 0),
      (.pcie 1, 0, withBits (BitVec.ofNat 32 (withBits 0x8101 0 2 1)) 17 1 0),
      (.pcie 1, 0, withBits (BitVec.ofNat 32 (withBits 0x8100 0 2 2)) 17 1 0), (.spi, 5, withBits 0 17 1 1)],
    up.writeOpen q.1 row_AMP_CMD q.2.1 q.2.2 ∧ (bit q.2.2 15 = false ∨ bits q.2.2 8 7 ≠ q.2.1) ∧ bits q.2.2 0 2 ≠ 3
      ∧ ((up.whoOf q.1).q = warden ∨ up.on (AMP_STAT_ALARM q.2.1) = false) := by decide

theorem witness_AmpCommands_modcmd :
    up.writeOpen .image row_AMP_MODCMD 0 (127 + 2147483648)
    ∧ lifeSafetyBroken up up up.canCarry (up.carryWithout 127) = false := by decide

theorem witness_AmpCommands_refused :
    (up.wr (AMP_STAT_ALARM 3) 1).writeOpen (.pcie 1) row_AMP_CMD 3 (withBits (BitVec.ofNat 32 (withBits 0 0 2 0)) 17 1 0)
    ∧ ¬((((up.wr (AMP_STAT_ALARM 3) 1).whoOf (.pcie 1)).q = warden) ∨ (up.wr (AMP_STAT_ALARM 3) 1).on (AMP_STAT_ALARM 3) = false) := by decide

theorem witness_AmpSequences :
    (chan 5 1).board.held = false ∧ (chan 0 3).tripSeen 0 0#17 = true ∧ ((chan 0 3).wr (GUARD_RATING_ITRIP 0) 0xFFFF).tripSeen 0 0#17 = false
    ∧ ((chan 5 1).modAmp 5 fun x => { x with test := 1 }).amp 5 = { AmpSt.reset with test := 1 }
    ∧ ((chan 5 1).modAmp 5 fun x => { x with test := 3 }).amp 5 = { AmpSt.reset with test := 3 }
    ∧ (chan 127 2).ampState 127 = 2 ∧ (chan 0 4).ampState 0 = 4 ∧ (chan 0 3).ampState 0 = 3 ∧ (chan 0 3).noScale 0 = false
    ∧ (chan 0 6).ampState 0 = 6 ∧ (chan 0 1).ampState 0 = 1 ∧ (chan 0 5).ampState 0 = 5 ∧ ((chan 0 5).recentProbes 0).length < 3
    ∧ 3 ≤ (((chan 0 5).modAmp 0 fun x => { x with probes := [0, 0, 0] }).recentProbes 0).length
    ∧ (chan 0 5).on (AMP_STAT_ALARM 0) = false ∧ (chan 127 7).ampState 127 = 7 := by decide

theorem witness_AmpProtectionAndLine_pvalid : ∀ s ∈ [((((((up.wr (GUARD_RE_RE 9) 1).wr (GUARD_BL_BL 9) 1).wr (GUARD_BL_MMS 9) 1).wr
      (GUARD_KMS_KMS 9) 1).wr (GUARD_XMAX_XMAX 9) 1).wr (GUARD_RATING_VRATED 9) 1).wr (GUARD_RATING_ITRIP 9) 0xFFFF],
    s.writeOpen .image row_GUARD_PCTL 9 0xFFFFFFFF ∧ bit 0xFFFFFFFF 0 = true
    ∧ (∀ f ∈ [GUARD_RE_RE 9, GUARD_BL_BL 9, GUARD_BL_MMS 9, GUARD_KMS_KMS 9, GUARD_XMAX_XMAX 9, GUARD_RATING_VRATED 9,
      GUARD_RATING_ITRIP 9], s.rd f ≠ 0) := by decide

theorem witness_AmpProtectionAndLine_refused : up.writeOpen (.pcie 0) row_GUARD_PCTL 127 1
    ∧ ∃ f ∈ [GUARD_RE_RE 127, GUARD_BL_BL 127], up.rd f = 0 := by decide

theorem witness_AmpProtectionAndLine_off : up.writeOpen .spi row_GUARD_PCTL 0 0 ∧ bit 0 0 = false
    ∧ up.writeOpen .spi row_LINE_ZBASE 0 (withBits 0 31 1 1) := by decide

theorem witness_AmpProtectionAndLine_line : ∀ s ∈ [(chan 0 3).wr (LINE_PCFG_EN 0) 1],
    s.board.held = false ∧ s.pilotOn 0 = true ∧ (s.amp 0).capture = none ∧ (chan 0 3).pilotOn 0 = false
    ∧ ((s.modAmp 0 fun x => { x with capture := some (0, []) }).amp 0).capture = some (0, [])
    ∧ ([] ++ (some 65535).toList).length < 10 ∧ s.bc < 0 + 1000000000
    ∧ ([1, 1, 1, 1, 1, 1, 1, 1, 1] ++ (some 1).toList).length = 10 ∧ ([1, 1, 1, 1, 1, 1, 1, 1, 1] ++ (some 1).toList).sum % 10 = 0 := by decide

theorem witness_AmpProtectionAndLine_wake : ∀ s ∈ [{ (chan 33 1).wr (OVR_WAKE_SET 1) 2 with bell := { (chan 33 1).bell with planOf := [(33, some 0)] } }],
    s.board.held = false ∧ (tget none s.bell.planOf 33).isSome = true ∧ s.ampState 33 = 1 ∧ bit (s.rd (OVR_WAKE_SET (33 / 32))) (33 % 32) = true := by decide

theorem witness_AmpProtectionAndLine_coef : ∀ s ∈ [((chan 1 0).wr (GUARD_PCTL_PVALID 1) 1).wr (GUARD_BL_MMS 1) 100],
    s.board.held = false ∧ s.on (GUARD_PCTL_PVALID 1) = true ∧ s.rd (GUARD_BL_MMS 1) ≠ 0
    ∧ (s.wr (GUARD_KMS_KMS 1) 5).rd (GUARD_KMS_KMS 1) ≠ 0 := by decide

theorem witness_AlarmInputsAndPlans : ∀ s ∈ [up.wr OVR_STAT_IMGDONE 1],
    s.writeOpen .image row_OVR_CTRL 0 0x00010101 ∧ s.writeOpen (.pcie 1) row_OVR_SWACT 0 0xFFFF ∧ s.on OVR_STAT_IMGDONE = true
    ∧ bits 0x00010101 8 8 ≠ 0 ∧ bits 0x00010101 16 8 ≠ 0 ∧ bit 0x00010101 0 = true ∧ s.on OVR_CTRL_ARM = false := by decide

theorem witness_AlarmInputsAndPlans_disarm : ∀ s ∈ [(up.wr OVR_STAT_IMGDONE 1).wr OVR_CTRL_ARM 1],
    s.writeOpen (.pcie 0) row_OVR_CTRL 0 0xFFFFFF00 ∧ s.writeOpen .spi row_OVR_RELEASE 0 0xFFFF
    ∧ bits 0xFFFFFF00 8 8 ≠ 0 ∧ bits 0xFFFFFF00 16 8 ≠ 0 ∧ bit 0xFFFFFF00 0 = false ∧ s.on OVR_CTRL_ARM = true
    ∧ s.rd OVR_ASTAT_ACTIVE = 0 ∧ (s.wr OVR_ASTAT_ACTIVE 0x8000).rd OVR_ASTAT_ACTIVE ≠ 0 := by decide

theorem witness_AlarmInputsAndPlans_early : up.writeOpen (.pcie 1) row_OVR_SWACT 0 1 ∧ up.on OVR_STAT_IMGDONE = false := by decide

theorem witness_AlarmInputsAndPlans_pins : ∀ s ∈ [{ up with bell := { up.bell with pins := 0x8000 } }],
    s.board.held = false ∧ bit s.bell.pins 15 ≠ bit s.bell.deb 15 := by decide

theorem witness_AlarmInputsAndPlans_ramp : ∀ s ∈ [up.setMixer 135 ⟨none, [(some 3, 0, 0)]⟩],
    s.board.held = false ∧ (s.mixer 135).fades.getLast? = some (some 3, 0, 0) ∧ 0 + 0 ≤ s.fs * s.frame := by decide

theorem witness_BellPlayersAndDacs : ∀ s ∈ [up.wr OVR_STAT_IMGDONE 1],
    s.writeOpen (.pcie 2) row_BELL_PLAY 7 (withBits 0xFF 16 1 1) ∧ s.writeOpen .image row_BELL_PWR 0 1
    ∧ s.on OVR_STAT_IMGDONE = true ∧ s.board.held = false := by decide

theorem witness_BellPlayersAndDacs_host : ∀ s ∈ [up.wr OVR_STAT_IMGDONE 1],
    s.writeOpen .spi row_BELL_PLAY 0 (withBits 0xFFFFFFFF 17 1 1) ∧ s.writeOpen .image row_BELL_SPCMD 0 (7 + 2147483648) := by decide

theorem witness_BellPlayersAndDacs_players :
    let a : Act := ⟨0, none, none, 0, 9, none, none, none⟩
    let w : Wave := ⟨64, 1, 0, 0, 0, false⟩
    (((up.setPlayer 15 ⟨[a], []⟩).player 15).acts = [a] ∧ a.stop = none ∧ (up.wr (OVR_PSTAT_PHASE 15) 1).rd (OVR_PSTAT_PHASE 15) = 1)
    ∧ ((up.setPlayer 23 ⟨[{ a with main := some w }], []⟩).player 23).acts = [{ a with main := some w }]
    ∧ (up.wr (BELL_STAT_PLAYING 7) 1).on (BELL_STAT_PLAYING (23 - 16)) = true := by decide

theorem witness_BellPlayersAndDacs_dacs :
    (up.wr (BELL_STAT_STATE 7) 1).rd (BELL_STAT_STATE 7) = 1 ∧ (up.wr (BELL_STAT_STATE 0) 3).rd (BELL_STAT_STATE 0) = 3
    ∧ (up.wr (BELL_STAT_STATE 0) 4).rd (BELL_STAT_STATE 0) = 4 ∧ (up.dac 7).range = none ∧ (up.dac 7).en = false
    ∧ ((up.modDac 3 fun q => { q with range := some 1 }).dac 3).range = some 1
    ∧ ((up.modDac 3 fun q => { q with en := true, devs := 15 }).dac 3).en = true ∧ (up.wr BELL_PWR_STATE 1).on BELL_PWR_STATE = true
    ∧ up.integ.inj = none ∧ (up.dac 3).inj = 0 := by decide

/-- A released device in a phase of its boot, with the boot straps at `straps`. -/
def booting (phase straps : Nat) : State :=
  { State.reset with board := { State.reset.board with held := false, phase } }.wr SYS_STRAP_BOOT straps

theorem witness_ResetReleaseAndBoot : up.writeOpen (.pcie 0) row_SYS_RSTCTL 0 (0x7680 + 2147483648) ∧ State.reset.board.held = true := by decide

theorem witness_ResetReleaseAndBoot_phases :
    (∀ q ∈ [0, 1, 2, 3, 4, 5], (booting q 0).board.held = false ∧ (booting q 0).board.phase = q)
    ∧ (∀ x < 32, (booting 2 0).rd (MODID_SSTAT_STATE x) ≠ 2)
    ∧ (booting 3 0).rd SYS_STRAP_BOOT = 0 ∧ (booting 3 1).rd SYS_STRAP_BOOT = 1 ∧ (booting 3 2).rd SYS_STRAP_BOOT = 2 := by decide

theorem witness_ResetReleaseAndBoot_blank : dirOf [] = none := by rfl

/-- A flash whose first directory has its magic and CRC and names no image; the same at the place of the second. -/
def bootFlash (at_ : Nat) : List (Nat × List Nat) :=
  [(at_, [0x47, 0x44, 0x49, 0x52] ++ List.replicate 56 0 ++ [134, 181, 110, 13])]

theorem witness_ResetReleaseAndBoot_directory :
    dirOf (bootFlash 0) = some ([0x47, 0x44, 0x49, 0x52] ++ List.replicate 56 0 ++ [134, 181, 110, 13], false)
    ∧ (dirOf (bootFlash 0x10000)).map (·.2) = some true
    ∧ (chooseImage (bootFlash 0) [] ([0x47, 0x44, 0x49, 0x52] ++ List.replicate 56 0 ++ [134, 181, 110, 13]) 0).1 = imAbsent
    ∧ (chooseImage (bootFlash 0) [] ([0x47, 0x44, 0x49, 0x52] ++ List.replicate 56 0 ++ [134, 181, 110, 13]) 1).1 = imAbsent := by
  decide +kernel

theorem witness_BoardEvents : up.writeOpen (.pcie 1) row_PWR_CREQ 0 0xAAAAAAAA ∧ (∀ c < 16, bits 0xAAAAAAAA (2 * c) 2 ≠ 3)
    ∧ up.writeOpen .spi row_MODID_RESCAN 0 0xFFFFFFFF := by decide

theorem witness_BoardEvents_refused : up.writeOpen .image row_PWR_CREQ 0 0xC0000000 ∧ ∃ c < 16, bits 0xC0000000 (2 * c) 2 = 3 := by
  refine ⟨by decide, 15, by decide, by decide⟩

theorem witness_BoardEvents_heat : up.board.held = false ∧ up.board.warned = false ∧ up.on PWR_THERM_TRIP = false
    ∧ (472 : Int) ≤ (472#10).toInt ∧ (499#10).toInt < 500 ∧ (500 : Int) ≤ (500#10).toInt ∧ (471#10).toInt < 472 ∧ (460 : Int) ≤ (460#10).toInt
    ∧ (459#10).toInt < 460 ∧ (512#10).toInt < 460 ∧ (480 : Int) ≤ (480#10).toInt
    ∧ (up.modBoard fun q => { q with warned := true }).board.warned = true ∧ (up.wr PWR_THERM_TRIP 1).on PWR_THERM_TRIP = true := by decide

theorem witness_BoardEvents_slots : up.rd (MODID_SSTAT_STATE 31) = 0 ∧ (up.wr (MODID_SSTAT_STATE 0) 1).rd (MODID_SSTAT_STATE 0) = 1
    ∧ (up.wr (MODID_SSTAT_STATE 0) 2).rd (MODID_SSTAT_STATE 0) = 2
    ∧ (([] : List Byte).map BitVec.toNat).take 4 ≠ [0x47, 0x4D, 0x44, 0x31] := by decide

theorem witness_UartBytes : up.writeOpen (.pcie 1) row_SYS_UARTDATA 0 0xFFFFFFFF ∧ (up.board.uart.filter fun e => !e.1).length < 64
    ∧ up.mayReach (up.whoOf .spi) 0 false = true ∧ up.integ.inj = none ∧ up.board.uartRx = [] := by decide

theorem witness_UartBytes_full : ∀ s ∈ [up.modBoard fun q => { q with uart := List.replicate 64 (false, 0), uartRx := List.replicate 64 255 }],
    s.writeOpen .image row_SYS_UARTDATA 0 0 ∧ 64 ≤ (s.board.uart.filter fun e => !e.1).length
    ∧ 64 ≤ s.board.uartRx.length ∧ s.board.uartRx = 255 :: List.replicate 63 255 := by decide

end Sys2Proof.Tests
end

section
/-! PROOFS. The register file: a field reads back what was written or staged, and each access code of R9 acts on its own
field alone (R3, R8 to R10). -/
namespace Sys2Proof.Machine

/-! ## Staged values -/

theorem lookup_tdel_other {α : Type} (t : Tab α) {j k : Nat} (h : j ≠ k) : (tdel t k).lookup j = t.lookup j := by
  induction t with
  | nil => rfl
  | cons q t ih =>
    obtain ⟨i, v⟩ := q
    by_cases hk : i = k
    · subst hk
      simp [tdel, List.lookup_cons, ih, beq_false_of_ne h]
    · simp [tdel, hk, List.lookup_cons, ih]

theorem lookup_tins_same {α : Type} (t : Tab α) (k : Nat) (v : α) (h : ∀ q ∈ t, q.1 ≠ k) : (tins t k v).lookup k = some v := by
  induction t with
  | nil => simp [tins]
  | cons q t ih =>
    obtain ⟨i, w⟩ := q
    have hi : i ≠ k := h (i, w) (by simp)
    have ht := ih fun q hq => h q (by simp [hq])
    by_cases hk : k < i
    · simp [tins, hk]
    · simp [tins, hk, List.lookup_cons, ht, beq_false_of_ne hi.symm]

theorem lookup_tins_other {α : Type} (t : Tab α) {j k : Nat} (v : α) (h : j ≠ k) : (tins t k v).lookup j = t.lookup j := by
  induction t with
  | nil => simp [tins, List.lookup_cons, beq_false_of_ne h]
  | cons q t ih =>
    obtain ⟨i, w⟩ := q
    by_cases hk : k < i
    · simp [tins, hk, List.lookup_cons, beq_false_of_ne h]
    · simp [tins, hk, List.lookup_cons, ih]

/-- Two fields stand at different places: another number or another index. -/
abbrev Fld.apart (g f : Fld) : Prop := g.no ≠ f.no ∨ g.idx ≠ f.idx

@[simp] theorem State.rdStaged_stage_same (s : State) (f : Fld) (v : Nat) : (s.stage f v).rdStaged f = v % 2 ^ f.w := by
  simp [State.rdStaged, State.stage, lookup_tins_same _ _ _ (mem_tdel_ne _ _)]

theorem State.rdStaged_stage_other (s : State) (f g : Fld) (v : Nat) (h : g.apart f) :
    (s.stage f v).rdStaged g = s.rdStaged g := by
  simp only [State.rdStaged, State.rd_stage]
  simp only [State.stage]
  by_cases hn : g.no = f.no
  · have hi : g.idx ≠ f.idx := h.resolve_left fun k => k hn
    rw [hn, tget_tput_same, lookup_tins_other _ _ hi, lookup_tdel_other _ hi]
  · rw [tget_tput_other _ _ _ _ hn]

theorem State.rdStaged_wr_other (s : State) (f g : Fld) (v : Nat) (h : g.apart f) : (s.wr f v).rdStaged g = s.rdStaged g := by
  simp [State.rdStaged, State.rd_wr_other s f g v h]

/-- Settles O4: by the laws of tables, read and staged values apart. -/
theorem fieldReadBack : Obligations.FieldReadBack := by
  unfold Obligations.FieldReadBack
  intro s f g v
  exact ⟨s.rd_wr_same f v, s.rd_wr_other f g v, s.rd_stage f v g, s.rdStaged_stage_same f v, s.rdStaged_stage_other f g v,
    rfl, rfl, rfl⟩

/-! ## Access codes (R9) -/

/-- Writing a field by its access code leaves every other field, in effect and staged. -/
theorem State.wrField_other (s : State) (v : Nat) (q : Nat × Fld × Access) (g : Fld) (h : g.apart q.2.1) :
    (s.wrField v q).rd g = s.rd g ∧ (s.wrField v q).rdStaged g = s.rdStaged g := by
  obtain ⟨lo, f, code⟩ := q
  cases code with
  | ro | wo => exact ⟨rfl, rfl⟩
  | rw | rww | w1c => exact ⟨s.rd_wr_other f g _ h, s.rdStaged_wr_other f g _ h⟩
  | rwe => exact ⟨rfl, s.rdStaged_stage_other f g _ h⟩

/-- So does writing all fields of a list, for a field that is not among them. -/
theorem State.foldl_wrField_other (v : Nat) (l : List (Nat × Fld × Access)) (s : State) (g : Fld) (h : ∀ q ∈ l, g.apart q.2.1) :
    (l.foldl (fun s q => s.wrField v q) s).rd g = s.rd g
      ∧ (l.foldl (fun s q => s.wrField v q) s).rdStaged g = s.rdStaged g := by
  induction l generalizing s with
  | nil => exact ⟨rfl, rfl⟩
  | cons q l ih =>
    obtain ⟨h1, h2⟩ := s.wrField_other v q g (h q (by simp))
    obtain ⟨h3, h4⟩ := ih (s.wrField v q) fun q hq => h q (by simp [hq])
    exact ⟨h3.trans h1, h4.trans h2⟩

/-- What a field with an access code reads after a write whose bits for it are `x`, where it read `old` (R9). -/
def Access.reads (code : Access) (w x old : Nat) : Nat :=
  match code with
  | .rw | .rww => x
  | .w1c => (old - (old &&& x)) % 2 ^ w
  | _ => old

/-- What a write by access code leaves in its own field. -/
theorem State.rd_wrField_same (s : State) (v : Nat) (q : Nat × Fld × Access) :
    (s.wrField v q).rd q.2.1 = q.2.2.reads q.2.1.w (bits v q.1 q.2.1.w) (s.rd q.2.1) := by
  obtain ⟨lo, f, code⟩ := q
  cases code with
  | ro | wo | rwe => rfl
  | rw | rww | w1c => simp [State.wrField, Access.reads]

theorem State.rdStaged_wrField_rwe (s : State) (v lo : Nat) (f : Fld) :
    (s.wrField v (lo, f, .rwe)).rdStaged f = bits v lo f.w := by
  simp [State.wrField]

/-- A field of a list of distinct fields, after all are written, stands as its own write from `s` leaves it. -/
theorem State.foldl_wrField_mem (v : Nat) (l : List (Nat × Fld × Access)) (s : State)
    (hp : l.Pairwise fun a b => a.2.1.apart b.2.1) (q : Nat × Fld × Access) (hq : q ∈ l) :
    (l.foldl (fun s q => s.wrField v q) s).rd q.2.1 = (s.wrField v q).rd q.2.1
      ∧ (q.2.2 = .rwe → (l.foldl (fun s q => s.wrField v q) s).rdStaged q.2.1 = bits v q.1 q.2.1.w) := by
  induction l generalizing s with
  | nil => simp at hq
  | cons a l ih =>
    obtain ⟨ha, hl⟩ := List.pairwise_cons.1 hp
    rcases List.mem_cons.1 hq with rfl | hq
    · obtain ⟨h1, h2⟩ := State.foldl_wrField_other v l (s.wrField v q) q.2.1 ha
      refine ⟨h1, fun hr => h2.trans ?_⟩
      obtain ⟨lo, f, code⟩ := q
      subst hr
      exact s.rdStaged_wrField_rwe v lo f
    · obtain ⟨h1, h2⟩ := ih (s.wrField v a) hl hq
      have hqa : q.2.1.apart a.2.1 := (ha q hq).imp Ne.symm Ne.symm
      refine ⟨h1.trans ?_, h2⟩
      rw [State.rd_wrField_same, State.rd_wrField_same, (s.wrField_other v a q.2.1 hqa).1]

/-- Settles O5: each field's write is independent of those of the register's other fields. -/
theorem accessCodes : Obligations.AccessCodes := by
  unfold Obligations.AccessCodes
  intro s r i v hp
  refine ⟨fun q hq => ?_, fun q hq => (State.foldl_wrField_mem v _ s hp q hq).2, State.foldl_wrField_other v _ s⟩
  have h := (State.foldl_wrField_mem v _ s hp q hq).1.trans (s.rd_wrField_same v q)
  obtain ⟨lo, f, code⟩ := q
  cases code <;> exact h

end Sys2Proof.Machine
end

section
/-! PROOFS. Register writes of host ports that the checks of every write refuse (R9, R342, R389, R395, R405, R440). -/
namespace Sys2Proof.Machine

/-! ## What a refusal leaves -/

theorem State.turnedAway_resp (p : Port) (u : State) : (State.turnedAway p u).resp = .error := rfl

theorem State.turnedAway_of_ne_spi {p : Port} (h : p ≠ .spi) (u : State) : State.turnedAway p u = { u with resp := .error } := by
  simp [State.turnedAway, h, State.answerW, State.answer]

theorem State.turnedAway_spi_err (u : State) : (State.turnedAway .spi u).on HOST_SPISTAT_ERR = true := u.on_wr_same HOST_SPISTAT_ERR 1

/-- A refusal leaves every register field but ERR of the SPI port. -/
theorem State.rd_turnedAway (p : Port) (u : State) (f : Fld) (h : f.no ≠ HOST_SPISTAT_ERR.no) :
    (State.turnedAway p u).rd f = u.rd f := by
  by_cases hp : p = .spi
  · subst hp
    exact u.rd_wr_other HOST_SPISTAT_ERR f 1 (.inl h)
  · rw [State.turnedAway_of_ne_spi hp]
    rfl

/-! ## The checks, in their order -/

/-- A register write that is refused is turned away. -/
theorem State.hostReg_refused {s u : State} {p : Port} {r : RegRow} {i v : Nat} (h : s.regWrite (s.whoOf p) r i v = (u, false)) :
    s.hostReg p r i v = State.turnedAway p u := by
  simp [State.hostReg, h, State.turnedAway]

/-- A host's write before boot has ended (R405). -/
theorem State.regWrite_unbooted {s : State} {w : Who} {r : RegRow} {i v : Nat} (hh : w.host = true)
    (hb : s.on SYS_BOOTSTAT_DONE = false) : s.regWrite w r i v = (s, false) := by
  simp [State.regWrite, hh, hb]

/-- A device without authority refuses RWE changes and DISP.CMD (R342). -/
theorem State.regWrite_heel {s : State} {w : Who} {r : RegRow} {i v : Nat} (hh : w.host = true)
    (hb : s.on SYS_BOOTSTAT_DONE = true) (ha : s.authority = false) (hr : s.changesRwe r i v = true ∨ r.addr = 0x0A010008) :
    s.regWrite w r i v = (s, false) := by
  rcases hr with hr | hr <;> simp [State.regWrite, hh, hb, ha, hr]

/-- Past boot and authority, what the partition checks or the register's own rules refuse is refused. -/
theorem State.regWrite_refused {s u : State} {w : Who} {r : RegRow} {i v : Nat}
    (hh : w.host = true → s.on SYS_BOOTSTAT_DONE = true ∧ ¬ (s.authority = false ∧ (s.changesRwe r i v = true ∨ r.addr = 0x0A010008)))
    (h : s.writeRow regHooks w r i v = (u, false)) : s.regWrite w r i v = (u, false) := by
  have h1 : (w.host && !s.on SYS_BOOTSTAT_DONE) = false := by
    cases hw : w.host
    · rfl
    · simp [(hh hw).1]
  have h2 : (w.host && !s.authority && (s.changesRwe r i v || r.addr == 0x0A010008)) = false := by
    cases hw : w.host
    · rfl
    · have h := (hh hw).2
      cases ha : s.authority
      · simpa [ha] using h
      · rfl
  simp [State.regWrite, h1, h2, h]

/-- A write of a block out of reach, or of an RWW field by another port than the warden's, leaves its record (R389). -/
theorem State.writeRow_recorded {hook : Hook} {s : State} {w : Who} {r : RegRow} {i v : Nat}
    (h : ¬ s.mayReach w (blockOf (r.at_ i)) true = true ∨ (s.changesRww r i v = true ∧ w.q ≠ warden)) :
    s.writeRow hook w r i v = (s.refusedRec w (r.at_ i), false) := by
  cases hm : s.mayReach w (blockOf (r.at_ i)) true with
  | false => simp [State.writeRow, hm]
  | true =>
    obtain ⟨hc, hq⟩ := h.resolve_left fun k => k hm
    simp [State.writeRow, hm, hc, hq]

/-- The warden's change of an RWW field while the journal is full is refused, but for arming and JCI (R395). -/
theorem State.writeRow_journalFull {hook : Hook} {s : State} {w : Who} {r : RegRow} {i v : Nat}
    (hm : s.mayReach w (blockOf (r.at_ i)) true = true) (hc : s.changesRww r i v = true) (hq : w.q = warden)
    (hf : s.journalFull = true) (ha : isArm r v = false) (hr : r.addr ≠ 0x0A160024) :
    s.writeRow hook w r i v = (s, false) := by
  simp [State.writeRow, hm, hc, hq, hf, ha, hr]

/-- The blocks that an accessor's writes reach (R389). -/
theorem State.mayReach_write_iff (s : State) (w : Who) (b : Nat) :
    s.mayReach w b true = true ↔
      w.q = warden ∨ b = 0x01 ∨ b = 0x05 ∨ b = 0x17 ∨ (b ≠ 0x16 ∧ s.partBlock b = w.q) := by
  by_cases hb : b = 0x16 <;> simp [State.mayReach, hb, or_assoc]

/-- Settles O39: the checks of a register write in their order, and the frame of a record and of a refusal. -/
theorem hostWriteRefusals : Obligations.HostWriteRefusals := by
  unfold Obligations.HostWriteRefusals
  intro p r i v s w a host told heel reach
  refine ⟨fun hh hb => State.hostReg_refused (State.regWrite_unbooted hh hb),
    fun hh hb hl => State.hostReg_refused (State.regWrite_heel hh hb hl.1 hl.2),
    fun hh => ⟨fun h => State.hostReg_refused (State.regWrite_refused hh (State.writeRow_recorded h)),
      fun hm hc hq hf ha hr => State.hostReg_refused (State.regWrite_refused hh (State.writeRow_journalFull hm hc hq hf ha hr))⟩,
    s.mayReach_write_iff w (blockOf a), fun f hf he => ⟨?_, s.rd_turnedAway p f he⟩,
    told.turnedAway_resp p, s.turnedAway_resp p, ?_, fun hp => State.turnedAway_of_ne_spi hp s⟩
  · exact (told.rd_turnedAway p f he).trans (s.rd_emit _ hf)
  · rintro rfl
    exact s.turnedAway_spi_err

end Sys2Proof.Machine
end

section
/-! PROOFS. The registers with rules of their own: RPI and RCI of a ring (R380), CFGSTG and APPLY (R392), JCI (R395) and
RATE (R25). -/
namespace Sys2Proof.Machine

/-! ## Commands that write one register -/

theorem exec_ringRpiWrite (p : Port) (r : Fin 256) (v : Word) (s : State) :
    exec (.ringRpiWrite p r v) s = .next (s.hostReg p row_HOST_RPI r.val v.toNat) := rfl

theorem exec_ringRciWrite (p : Port) (r : Fin 256) (v : Word) (s : State) :
    exec (.ringRciWrite p r v) s = .next (s.hostReg p row_HOST_RCI r.val v.toNat) := rfl

theorem exec_wardCfgstgWrite (p : Port) (v : Word) (s : State) :
    exec (.wardCfgstgWrite p v) s = .next (s.hostReg p row_WARD_CFGSTG (s.rd WARD_CFGSEL_INDEX) v.toNat) := rfl

theorem exec_wardApplyGo (p : Port) (s : State) : exec (.wardApplyGo p) s = .next (s.hostReg p row_WARD_APPLY 0 1) := rfl

theorem exec_jciWrite (p : Port) (v : Word) (s : State) :
    exec (.jciWrite p v) s = .next (s.hostReg p row_WARD_JCI 0 v.toNat) := rfl

theorem exec_rateWrite (p : Port) (fs : Fin 2) (s : State) :
    exec (.rateWrite p fs) s = .next (s.hostReg p row_SYS_RATE 0 fs.val) := rfl

/-- A write that passes the checks of every write goes as the block's rule says: refused, or what the rule gives. -/
theorem State.hostReg_rule {s : State} {p : Port} {r : RegRow} {i v : Nat} {rule : OptHook} (h : s.writeOpen p r i v)
    (hr : r.addr ≠ 0x0A000018) (hb : ∀ s w i v t, regHooks s w r i v t = rule.full s w r i v t) :
    s.hostReg p r i v = (rule s (s.whoOf p) r i v (s.wrRow r i v)).elim (State.turnedAway p s) (s.written p r i v) := by
  cases hu : rule s (s.whoOf p) r i v (s.wrRow r i v) with
  | none => exact State.hostReg_ruled h (by simp [hb, OptHook.full, hu])
  | some u => exact State.hostReg_open h (by simp [hb, OptHook.full, hu]) hr

theorem bits_word {x : Nat} (h : x < 2 ^ 32) : bits x 0 32 = x := by
  rw [bits, Nat.pow_zero, Nat.div_one, Nat.mod_eq_of_lt h]

/-! ## The blocks SYS, WARD and HOST -/

section
variable {r : RegRow}

theorem regHooks_sys (h : blockOf r.addr = 0x00) (s : State) (w : Who) (i v : Nat) (t : State) :
    regHooks s w r i v t = sysHook.full s w r i v t := by simp only [regHooks, h]

theorem regHooks_ward (h : blockOf r.addr = 0x16) (s : State) (w : Who) (i v : Nat) (t : State) :
    regHooks s w r i v t = wardHook.full s w r i v t := by simp only [regHooks, h]

theorem regHooks_host (h : blockOf r.addr = 0x17) (s : State) (w : Who) (i v : Nat) (t : State) :
    regHooks s w r i v t = hostHook.full s w r i v t := by simp only [regHooks, h]

end

/-! ## RPI and RCI (R380) -/

/-- Ring `k` is of a type that the host produces (R379). -/
abbrev State.hostFills (s : State) (k : Nat) : Prop :=
  s.rd (HOST_RCFG_TYPE k) = ringCmd ∨ s.rd (HOST_RCFG_TYPE k) = ringNettx

theorem State.wrRow_rpi (s : State) (k : Nat) {x : Nat} (h : x < 2 ^ 32) :
    s.wrRow row_HOST_RPI k x = s.wr (HOST_RPI_INDEX k) x := by
  simp [State.wrRow, row_HOST_RPI, State.wrField, show (HOST_RPI_INDEX k).w = 32 from rfl, bits_word h]

theorem State.wrRow_rci (s : State) (k : Nat) {x : Nat} (h : x < 2 ^ 32) :
    s.wrRow row_HOST_RCI k x = s.wr (HOST_RCI_INDEX k) x := by
  simp [State.wrRow, row_HOST_RCI, State.wrField, show (HOST_RCI_INDEX k).w = 32 from rfl, bits_word h]

/-- The rule of RPI. -/
theorem hostHook_rpi (s : State) (w : Who) (k x : Nat) (t : State) :
    hostHook s w row_HOST_RPI k x t =
      if ¬ (w.q = warden ∨ s.partRing k = w.q) then none
      else if x = s.rd (HOST_RPI_INDEX k) then some s
      else if ¬ s.hostFills k then none
      else if s.ringSize k < (x + 2 ^ 32 - s.rd (HOST_RCI_INDEX k)) % 2 ^ 32 then none else some t := by
  simp [hostHook, row_HOST_RPI]

/-- The rule of RCI: its write readies the ring's next signal. -/
theorem hostHook_rci (s : State) (w : Who) (k x : Nat) (t : State) :
    hostHook s w row_HOST_RCI k x t =
      if ¬ (w.q = warden ∨ s.partRing k = w.q) then none
      else if s.hostFills k then (if x = s.rd (HOST_RCI_INDEX k) then some s else none)
      else if s.ringUsed k < (x + 2 ^ 32 - s.rd (HOST_RCI_INDEX k)) % 2 ^ 32 then none
      else some { t with host := { t.host with
        spent := t.host.spent.filter (· ≠ k)
        busy := s.host.busy.filter (· ≠ k) ++ (if x = s.rd (HOST_RPI_INDEX k) then [] else [k]) } } := by
  simp [hostHook, row_HOST_RCI]

/-! ## CFGSTG, APPLY and JCI (R392, R395) -/

theorem State.wrRow_cfgstg (s : State) (i : Nat) {x : Nat} (h : x < 2 ^ 32) :
    s.wrRow row_WARD_CFGSTG i x = s.wr (WARD_CFGSTG_WORD i) x := by
  simp [State.wrRow, row_WARD_CFGSTG, State.wrField, show (WARD_CFGSTG_WORD i).w = 32 from rfl, bits_word h]

theorem State.wrRow_applyGo (s : State) : s.wrRow row_WARD_APPLY 0 1 = s.wr WARD_APPLY_GO 1 := rfl

theorem State.wrRow_jci (s : State) {x : Nat} (h : x < 2 ^ 32) : s.wrRow row_WARD_JCI 0 x = s.wr WARD_JCI_INDEX x := by
  simp [State.wrRow, row_WARD_JCI, State.wrField, show WARD_JCI_INDEX.w = 32 from rfl, bits_word h]

theorem wardHook_cfgstg (s : State) (w : Who) (i x : Nat) (t : State) :
    wardHook s w row_WARD_CFGSTG i x t = if cfgListed i then some t else none := by
  simp [wardHook, row_WARD_CFGSTG]

theorem wardHook_apply (s : State) (w : Who) (i x : Nat) (t : State) :
    wardHook s w row_WARD_APPLY i x t = some (if s.on WARD_APPLY_GO then t.wr WARD_APPLY_GO 1 else t) := by
  simp [wardHook, row_WARD_APPLY]

theorem wardHook_jci (s : State) (w : Who) (i x : Nat) (t : State) :
    wardHook s w row_WARD_JCI i x t =
      if (x + 2 ^ 32 - s.rd WARD_JCI_INDEX) % 2 ^ 32 ≤ (s.rd WARD_JPI_INDEX + 2 ^ 32 - s.rd WARD_JCI_INDEX) % 2 ^ 32
      then some t else none := by
  simp [wardHook, row_WARD_JCI]

/-! ## RATE (R25) -/

/-- Something runs that the device rate must not change under (R25, R274). -/
abbrev State.running (s : State) : Prop :=
  s.on DISP_CTRL_EN ∨ s.on ROUTE_CTRL_ENACT ∨ s.audioIdle = false ∨ (∃ c < 128, s.ampState c ≠ amOff)
    ∨ (∃ d < 8, s.on (BELL_CFG_EN d) = true) ∨ s.rd OVR_ASTAT_ACTIVE ≠ 0

theorem sysHook_rate (s : State) (w : Who) (fs : Fin 2) (t : State) :
    sysHook s w row_SYS_RATE 0 fs.val t = s.rateWrite fs.val := by
  have h : bits fs.val 0 1 = fs.val := by
    rw [bits, Nat.pow_zero, Nat.div_one, Nat.pow_one, Nat.mod_eq_of_lt fs.isLt]
  simp [sysHook, row_SYS_RATE, h]

theorem State.rateWrite_running {s : State} (h : s.running) (fs : Nat) :
    s.rateWrite fs = if fs = s.rd SYS_RATE_FS then some s else none := by
  refine if_pos ?_
  simpa [State.running, State.anyPlan, or_assoc] using h

theorem State.rateWrite_idle {s : State} (h : ¬ s.running) (fs : Nat) :
    s.rateWrite fs = some ((s.wr SYS_RATE_FS fs).modBoard fun q => { q with rate := true }).realign := by
  refine if_neg ?_
  simpa [State.running, State.anyPlan, or_assoc] using h

/-- Numbering the downbeats anew leaves the DPLLs. -/
theorem State.pll_renumbered (s : State) (m j : Nat) :
    State.pll { s with n := m, refs := { s.refs with align := true } } j = s.pll j := rfl

/-- Realigning, where no write waits for the end of DPLL 0's switch (R274). -/
theorem State.realign_none_late {s : State} (h : (s.pll 0).late = []) :
    s.realign = (let t := { s with n := s.firstDownbeat (s.rd REFS_TBSEL_SEL), refs := { s.refs with align := true } }
      let t := (t.wr (REFS_DSTAT_STATE 0) plFreerun).wr (REFS_DSTAT_ACTIVE 0) 15
      ((t.setPll 0 { t.pll 0 with fresh := true, late := [] }).retarget 0).pllsSettle) := by
  unfold State.realign
  dsimp only
  rw [State.pll_renumbered, h, List.foldl_nil]

/-- Settles O38: the checks of every write, then the register's own rule. -/
theorem hostRegisterWrites : Obligations.HostRegisterWrites := by
  unfold Obligations.HostRegisterWrites
  intro p r v fs s w x k mine hosts rpi rci i jci busy
  have hx : x < 2 ^ 32 := v.isLt
  refine ⟨fun h => ?_, fun h => ?_, fun h => ?_, fun h hgo => ?_, fun h => ?_, fun h => ?_, State.realign_none_late⟩
  · -- RPI
    rw [exec_ringRpiWrite, State.hostReg_rule h (by decide) (regHooks_host (by decide)), hostHook_rpi, s.wrRow_rpi k hx]
    refine ⟨fun hc => ?_, fun hm he => ?_, fun hm hh hn hc => ?_⟩
    · rcases hc with hm | ⟨hn, hh⟩ | ⟨hn, hc⟩
      · rw [if_pos hm, Option.elim_none]
      · rw [if_neg hn, if_pos hh, ite_self, Option.elim_none]
      · rw [if_neg hn, if_pos hc, ite_self, ite_self, Option.elim_none]
    · rw [if_neg (not_not_intro hm), if_pos he, Option.elim_some]
    · rw [if_neg (not_not_intro hm), if_neg hn, if_neg (not_not_intro hh), if_neg (Nat.not_lt.2 hc), Option.elim_some]
  · -- RCI
    rw [exec_ringRciWrite, State.hostReg_rule h (by decide) (regHooks_host (by decide)), hostHook_rci, s.wrRow_rci k hx]
    refine ⟨fun hc => ?_, fun hm hh he => ?_, fun hm hh hc => ?_⟩
    · rcases hc with hm | ⟨hh, hn⟩ | ⟨hh, hc⟩
      · rw [if_pos hm, Option.elim_none]
      · rw [if_pos hh, if_neg hn, ite_self, Option.elim_none]
      · rw [if_neg hh, if_pos hc, ite_self, Option.elim_none]
    · rw [if_neg (not_not_intro hm), if_pos hh, if_pos he, Option.elim_some]
    · rw [if_neg (not_not_intro hm), if_neg hh, if_neg (Nat.not_lt.2 hc), Option.elim_some]
      rfl
  · -- CFGSTG
    rw [exec_wardCfgstgWrite, State.hostReg_rule h (by decide) (regHooks_ward (by decide)), wardHook_cfgstg, s.wrRow_cfgstg i hx]
    refine ⟨fun hl => ?_, fun hl => ?_⟩
    · rw [if_pos hl, Option.elim_some]
    · rw [if_neg (Bool.eq_false_iff.1 hl), Option.elim_none]
  · -- APPLY.GO
    rw [exec_wardApplyGo, State.hostReg_rule h (by decide) (regHooks_ward (by decide)), wardHook_apply, s.wrRow_applyGo,
      if_neg (Bool.eq_false_iff.1 hgo), Option.elim_some]
  · -- JCI
    rw [exec_jciWrite, State.hostReg_rule h (by decide) (regHooks_ward (by decide)), wardHook_jci, s.wrRow_jci hx]
    refine ⟨fun hc => ?_, fun hc => ?_⟩
    · rw [if_pos hc, Option.elim_some]
    · rw [if_neg (Nat.not_le.2 hc), Option.elim_none]
  · -- RATE.FS
    rw [exec_rateWrite, State.hostReg_rule h (by decide) (regHooks_sys (by decide)), sysHook_rate]
    refine ⟨fun hb he => ?_, fun hb hn => ?_, fun hb => ?_⟩
    · rw [State.rateWrite_running hb, if_pos he, Option.elim_some]
    · rw [State.rateWrite_running hb, if_neg hn, Option.elim_none]
    · rw [State.rateWrite_idle hb, Option.elim_some]

end Sys2Proof.Machine
end

section
/-! PROOFS. Accesses of host ports: the BARs of PCIe functions (R376), the SPI port (R377), the windows of partitions
(R389), the register space (R3, R4) and the conflict counters (R159). -/
namespace Sys2Proof.Machine

/-! ## Commands in a device out of reset -/

theorem State.live_on {s : State} (h : s.board.held = false) (f : State → State) : s.live f = f s := by
  simp [State.live, h]

@[simp] theorem State.barWaits_false (s : State) (p : Port) (b : Bool) (o : Nat) (op : BarOp) (fails : Nat) :
    s.barWaits p b o op fails false = s := rfl

/-- What a BAR access does once it need not wait. -/
def State.barOp (s : State) (fn : Fin 8) (b : Bool) (o : Nat) (op : BarOp) (fails : Nat) : State :=
  match op with
  | .write bs => s.barWrite (.pcie fn) b o bs fails
  | .read n => s.barRead (.pcie fn) b o n fails

/-- A BAR access counts its wait and then runs. -/
theorem exec_barAccess {s : State} (h : s.board.held = false) (fn : Fin 8) (b : Bool) (o : Nat) (op : BarOp) (retry waits : Bool) :
    exec (.hostBarAccess fn b o op retry waits) s
      = .next ((s.barWaits (.pcie fn) b o op (b2n retry) waits).barOp fn b o op (b2n retry)) := by
  cases op <;> exact congrArg Host.Outcome.next (State.live_on h _)

theorem exec_barWrite {s : State} (h : s.board.held = false) (fn : Fin 8) (b : Bool) (o : Nat) (bs : List Byte) :
    exec (.hostBarAccess fn b o (.write bs) false false) s = .next (s.barWrite (.pcie fn) b o bs 0) := exec_barAccess h ..

theorem exec_barRead {s : State} (h : s.board.held = false) (fn : Fin 8) (b : Bool) (o n : Nat) :
    exec (.hostBarAccess fn b o (.read n) false false) s = .next (s.barRead (.pcie fn) b o n 0) := exec_barAccess h ..

theorem exec_spiWrite {s : State} (h : s.board.held = false) (a : Nat) (ws : List Word) :
    exec (.spiWrite a ws false) s = .next (s.spiWrite a ws 0) := congrArg Host.Outcome.next (State.live_on h _)

theorem exec_spiRead {s : State} (h : s.board.held = false) (a : Nat) (late : List Bool) :
    exec (.spiRead a late false) s = .next (s.spiRead a late 0) := congrArg Host.Outcome.next (State.live_on h _)

theorem exec_spiStatus {s : State} (h : s.board.held = false) : exec .spiStatus s = .next s.spiStatus :=
  congrArg Host.Outcome.next (State.live_on h _)

theorem exec_registerWrite {s : State} (h : s.board.held = false) (p : Port) (off : Fin 2097152) (v : Word) :
    exec (.registerWrite p off v) s = .next (s.hostPut p (0x0A000000 + 4 * off.val) v.toNat) :=
  congrArg Host.Outcome.next (State.live_on h _)

/-! ## Windows of the BARs (R376) -/

theorem barAddr_bar0_beyond {o : Nat} (h : 0x10000000 ≤ o) : barAddr false o = none := if_neg (Nat.not_lt.2 h)

theorem barAddr_bar2_beyond {o : Nat} (h : 0x400000000 ≤ o) : barAddr true o = none := if_neg (Nat.not_lt.2 h)

theorem barAddr_gsram {a : Nat} (h : a < 0x01000000) : barAddr false a = some a :=
  if_pos (show a < 0x10000000 by omega)

theorem State.barWrite_beyond {s : State} {p : Port} {b : Bool} {o : Nat} (h : barAddr b o = none) (bs : List Byte) (fails : Nat) :
    s.barWrite p b o bs fails = s.answerW false := by
  simp [State.barWrite, h]

theorem State.barWrite_within {s t : State} {p : Port} {b ok : Bool} {o d fails : Nat} {bs : List Byte} (hd : barAddr b o = some d)
    (h : s.busWrite (s.whoOf p) d bs fails = (t, ok)) : s.barWrite p b o bs fails = t.answerW ok := by
  simp only [State.barWrite, hd, h]

theorem State.barRead_within {s t : State} {p : Port} {b : Bool} {o d n fails : Nat} {r : Option (List Byte)}
    (hd : barAddr b o = some d) (h : s.busRead (s.whoOf p) d n fails = (t, r)) :
    s.barRead p b o n fails = t.answer (r.elim .error fun bs => .ok (wordList bs)) := by
  cases r <;> simp only [State.barRead, hd, h] <;> rfl

/-! ## The crossbar's checks (R153, R357, R389, R405) -/

/-- An access that the crossbar can issue does not cross the end of a region of 256-byte pieces. -/
theorem issuable_within {a n m : Nat} (h : issuable a n = true) (ha : a < 256 * m) : a + n ≤ 256 * m := by
  simp only [issuable, Bool.or_eq_true, Bool.and_eq_true, beq_iff_eq, decide_eq_true_eq] at h
  rcases h with ⟨rfl | rfl, h⟩ | h <;> omega

theorem issuable_word {a : Nat} (h : a % 4 = 0) : issuable a 4 = true := by simp [issuable, h]

/-- Without an armed injection and without failing hops a transaction passes the hops. -/
theorem State.hops_clean {s : State} (h : s.integ.inj = none) (w : Who) (a : Nat) : s.hops w a 0 = (s, true) := by
  simp [State.hops, State.injOn, h]

/-- An access to global SRAM after boot: by the warden, or through a window (R389, R391). -/
theorem State.passChecks_gsram {s : State} (hb : s.on SYS_BOOTSTAT_DONE = true) (hi : s.integ.inj = none) (w : Who) {a n : Nat}
    (ha : a < 0x01000000) (hn : issuable a n = true) (write : Bool) :
    s.passChecks w a n 0 write =
      if w.q = warden ∨ s.windowed w.q a n write = true then (s, true) else (s.refusedRec w a, false) := by
  have hm : a % 2 ^ 48 = a := Nat.mod_eq_of_lt (by omega)
  have hr : ¬ (0x0A000000 ≤ a ∧ a < 0x0A1B0000) := by omega
  have hs : stagePage a = none := if_neg (by omega)
  unfold State.passChecks
  simp only [hm, hn, State.hops_clean hi, hb, hr, hs]
  by_cases hq : w.q = warden
  · simp [hq]
  · cases hw : s.windowed w.q a n write <;> simp [hq]

/-- A word of the register space after boot, by an accessor that reaches its block (R389). -/
theorem State.passChecks_regs {s : State} (hb : s.on SYS_BOOTSTAT_DONE = true) (hi : s.integ.inj = none) {w : Who} {a : Nat}
    (h0 : 0x0A000000 ≤ a) (h1 : a < 0x0A1B0000) (h4 : a % 4 = 0) {write : Bool} (hm : s.mayReach w (blockOf a) write = true) :
    s.passChecks w a 4 0 write = (s, true) := by
  have hd : a % 2 ^ 48 = a := Nat.mod_eq_of_lt (by omega)
  unfold State.passChecks
  simp only [hd]
  simp [issuable_word h4, State.hops_clean hi, hb, h0, h1, hm]

theorem State.target_gsram (s : State) {a : Nat} (h : a < 0x01000000) : s.target a = .gsram := if_pos h

theorem State.target_regs (s : State) {a : Nat} (h0 : 0x0A000000 ≤ a) (h1 : a < 0x0A1B0000) : s.target a = .regs := by
  unfold State.target
  rw [if_neg (by omega), if_neg (by omega), if_neg (by omega), if_neg (by omega), if_neg (by omega), if_neg (by omega),
    if_neg (by omega), if_neg (by omega), if_pos h1]

/-! ## Global SRAM -/

theorem State.phys_gsram (s : State) {a : Nat} (h : a < 0x01000000) : s.phys a = a := if_pos h

theorem State.devByte_gsram {s : State} (hp : s.poison = []) {a : Nat} (h : a < 0x01000000) : s.devByte a = byteAt s.mem a := by
  have hs : s.sramPage a = none := if_pos (.inl h)
  simp [State.devByte, hp, hs, s.phys_gsram h]

theorem State.devGet_gsram {s : State} (hp : s.poison = []) {a n : Nat} (h : a + n ≤ 0x01000000) :
    s.devGet a n = bytesAt s.mem a n := by
  induction n generalizing a with
  | zero => rfl
  | succ n ih => rw [State.devGet, bytesAt, State.devByte_gsram hp (by omega), ih (by omega)]

theorem State.unflip_mem_poison (s : State) (w : Nat) : (s.unflip w).mem = s.mem ∧ (s.unflip w).poison = s.poison := by
  have h : s.injDone.mem = s.mem ∧ s.injDone.poison = s.poison := by
    unfold State.injDone
    split
    · exact ⟨rfl, rfl⟩
    · dsimp only
      split <;> exact ⟨rfl, rfl⟩
  unfold State.unflip
  split
  · exact ⟨rfl, rfl⟩
  · dsimp only
    split <;> exact h

/-- Where no word is poisoned, a write restores none (R363). -/
theorem State.touchWord_mem_poison {s : State} (hp : s.poison = []) (w : Nat) :
    (s.touchWord w).mem = s.mem ∧ (s.touchWord w).poison = [] := by
  obtain ⟨hm, hq⟩ := s.unflip_mem_poison w
  have h : s.touchWord w = s.unflip w := by simp [State.touchWord, hq, hp]
  rw [h]
  exact ⟨hm, hq.trans hp⟩

/-- A write of global SRAM stores its bytes at the addresses it names. -/
theorem State.devPut_gsram_mem (bs : List Byte) {s : State} (hp : s.poison = []) {a : Nat} (h : a + bs.length ≤ 0x01000000) :
    (s.devPut a bs).mem = putBytes s.mem a bs := by
  induction bs generalizing s a with
  | nil => rfl
  | cons v bs ih =>
    rw [List.length_cons] at h
    obtain ⟨hm, hq⟩ := State.touchWord_mem_poison hp (a / 8)
    have ha : a < 0x01000000 := by omega
    rw [State.devPut, s.phys_gsram ha, putBytes, ← hm]
    exact ih (s := { s.touchWord (a / 8) with mem := putByte (s.touchWord (a / 8)).mem a v }) hq (by omega)

/-! ## Reads that meet no ECC error (R363) -/

/-- No word is poisoned, none holds an injected error, and none has a failing bit. -/
structure State.Sound (s : State) : Prop where
  poison : s.poison = []
  flips : s.integ.flips = []
  stuck : s.integ.stuck = []

theorem State.Sound.readWord {s : State} (h : s.Sound) (w a master qos : Nat) : s.readWord w a master qos = s := by
  simp [State.readWord, h.poison, h.flips, h.stuck]

theorem State.Sound.readWords {s : State} (h : s.Sound) (ws : List Nat) (a master qos : Nat) :
    ws.foldl (fun s w => s.readWord w a master qos) s = s := foldl_fixed _ _ (fun w => h.readWord w a master qos) ws

theorem Integ.unbatched {g : Integ} (hb : g.batching = false) (hq : g.batch = []) : { g with batching := false, batch := [] } = g := by
  cases g
  simp_all

/-- A step that does nothing while records are batched does nothing. -/
theorem State.batched_idle {s : State} {f : State → State} (hb : s.integ.batching = false) (hq : s.integ.batch = [])
    (hf : f { s with integ := { s.integ with batching := true } } = { s with integ := { s.integ with batching := true } }) :
    State.batched f s = s := by
  unfold State.batched
  rw [if_neg (Bool.eq_false_iff.1 hb), hf]
  simp only [hq, List.foldl_nil]
  rw [Integ.unbatched hb hq]

/-- A read without errors; above 8 bytes its records would be batched (R368). -/
theorem State.Sound.eccRead {s : State} (h : s.Sound) (a n master qos : Nat)
    (hb : n ≤ 8 ∨ (s.integ.batching = false ∧ s.integ.batch = [])) : s.eccRead a n master qos = (s, false) := by
  have h' : State.Sound { s with integ := { s.integ with batching := true } } := ⟨h.poison, h.flips, h.stuck⟩
  unfold State.eccRead
  generalize ((List.range n).map fun i => s.phys (a + i) / 8).eraseDups = ws
  have hs : (if n ≤ 8 then ws.foldl (fun s w => s.readWord w a master qos) s
      else State.batched (fun s => ws.foldl (fun s w => s.readWord w a master qos) s) s) = s := by
    split
    · exact h.readWords ws a master qos
    · next hn =>
      obtain ⟨hb, hq⟩ := hb.resolve_left hn
      exact State.batched_idle hb hq (h'.readWords ws a master qos)
  have hf : ws.find? s.poison.contains = none := by simp [h.poison]
  simp only [hs, hf]

theorem State.Sound.memRead_gsram {s : State} (h : s.Sound) (w : Who) {a n : Nat} (ha : a + n ≤ 0x01000000)
    (hb : n ≤ 8 ∨ (s.integ.batching = false ∧ s.integ.batch = [])) : s.memRead w a n = (s, some (bytesAt s.mem a n)) := by
  simp [State.memRead, h.eccRead a n w.master w.qos hb, State.devGet_gsram h.poison ha]

/-! ## Accesses over the crossbar -/

section
variable {s t : State} {w : Who} {a n fails : Nat} {bs : List Byte}

theorem State.busWrite_denied (ha : a < 2 ^ 48) (h : s.passChecks w a bs.length fails true = (t, false)) :
    s.busWrite w a bs fails = (t, false) := by
  simp only [State.busWrite, Nat.mod_eq_of_lt ha, h, Bool.not_false, if_true]

theorem State.busRead_denied (ha : a < 2 ^ 48) (h : s.passChecks w a n fails false = (t, false)) :
    s.busRead w a n fails = (t, none) := by
  simp only [State.busRead, Nat.mod_eq_of_lt ha, h, Bool.not_false, if_true]

variable (hb : s.on SYS_BOOTSTAT_DONE = true) (hi : s.integ.inj = none)
include hb hi

theorem State.busWrite_gsram (ha : a < 0x01000000) (hn : issuable a bs.length = true)
    (hw : w.q = warden ∨ s.windowed w.q a bs.length true = true) : s.busWrite w a bs 0 = (s.devPut a bs, true) := by
  have hm : a % 2 ^ 48 = a := Nat.mod_eq_of_lt (by omega)
  have hc := (State.passChecks_gsram hb hi w ha hn true).trans (if_pos hw)
  simp only [State.busWrite, hm, hc, s.target_gsram ha, Bool.not_true, Bool.false_eq_true, if_false]

theorem State.busWrite_gsram_refused (ha : a < 0x01000000) (hn : issuable a bs.length = true) (hq : w.q ≠ warden)
    (hw : s.windowed w.q a bs.length true = false) : s.busWrite w a bs 0 = (s.refusedRec w a, false) :=
  State.busWrite_denied (by omega) ((State.passChecks_gsram hb hi w ha hn true).trans (if_neg (by simp [hq, hw])))

theorem State.busRead_gsram (ha : a < 0x01000000) (hn : issuable a n = true) (hw : w.q = warden ∨ s.windowed w.q a n false = true)
    (h : s.Sound) (hq : n ≤ 8 ∨ (s.integ.batching = false ∧ s.integ.batch = [])) :
    s.busRead w a n 0 = (s, some (bytesAt s.mem a n)) := by
  have hm : a % 2 ^ 48 = a := Nat.mod_eq_of_lt (by omega)
  have he : a + n ≤ 0x01000000 := issuable_within (m := 0x10000) hn (by omega)
  have hc := (State.passChecks_gsram hb hi w ha hn false).trans (if_pos hw)
  simp only [State.busRead, hm, hc, s.target_gsram ha, h.memRead_gsram w he hq, Bool.not_true, Bool.false_eq_true, if_false]

theorem State.busRead_gsram_refused (ha : a < 0x01000000) (hn : issuable a n = true) (hq : w.q ≠ warden)
    (hw : s.windowed w.q a n false = false) : s.busRead w a n 0 = (s.refusedRec w a, none) :=
  State.busRead_denied (by omega) ((State.passChecks_gsram hb hi w ha hn false).trans (if_neg (by simp [hq, hw])))

/-- A write of a word of the register space by an accessor that reaches its block. -/
theorem State.busWrite_regs (h0 : 0x0A000000 ≤ a) (h1 : a < 0x0A1B0000) (h4 : a % 4 = 0)
    (hm : s.mayReach w (blockOf a) true = true) (x : Word) : s.busWrite w a (leBytes x.toNat 4) 0 = s.writeReg w a x.toNat := by
  have hd : a % 2 ^ 48 = a := Nat.mod_eq_of_lt (by omega)
  have hx : leNat (leBytes x.toNat 4) = x.toNat := by
    rw [leNat_leBytes]
    exact Nat.mod_eq_of_lt x.isLt
  simp only [State.busWrite, hd, leBytes_length, State.passChecks_regs hb hi h0 h1 h4 hm, s.target_regs h0 h1, hx,
    Bool.not_true, Bool.false_eq_true, if_false, if_true]

end

/-! ## The SPI port, one word at a time (R377) -/

theorem State.spiWrite_word {s t : State} {ok : Bool} {a : Nat} {x : Word} {fails : Nat}
    (h : s.busWrite (s.whoOf .spi) a (leBytes x.toNat 4) fails = (t, ok)) :
    s.spiWrite a [x] fails = (if ok then t else t.wr HOST_SPISTAT_ERR 1).answerW ok := by
  simp [State.spiWrite, h]

theorem State.spiRead_word {s t : State} {bs : List Byte} {a fails : Nat} (late : Bool)
    (h : s.busRead (s.whoOf .spi) a 4 fails = (t, some bs)) :
    s.spiRead a [late] fails = if late then (t.wr HOST_SPISTAT_LATE 1).answer (.ok [0])
      else t.answer (.ok [BitVec.ofNat 32 (leNat bs)]) := by
  cases late <;> simp [State.spiRead, h]

/-- A STATUS transaction: the two flags, which it clears, and the interrupt line. -/
theorem State.spiStatus_eq (s : State) (irq : Prop) [Decidable irq] (h : s.hostIrq = true ↔ irq) :
    s.spiStatus = ((s.wr HOST_SPISTAT_ERR 0).wr HOST_SPISTAT_LATE 0).answer
      (.ok [BitVec.ofNat 32 (s.rd HOST_SPISTAT_ERR + 2 * s.rd HOST_SPISTAT_LATE + 4 * b2n (decide irq))]) := by
  have hd : s.hostIrq = decide irq := Bool.eq_iff_iff.2 (h.trans decide_eq_true_iff.symm)
  rw [State.spiStatus, hd]

/-- HOST_IRQ_N, as the rings of the SPI port's partition give it. -/
theorem State.hostIrq_iff (s : State) : s.hostIrq = true ↔
    ∃ r < 256, s.partRing r = s.portPart .spi ∧ s.on (HOST_RCFG_IRQ r) = true ∧ s.ringUsed r ≠ 0 := by
  simp [State.hostIrq, and_assoc]

/-! ## Words of the register space -/

/-- A word outside the broadcast window that a table lists and its window shows. -/
theorem State.writeReg_row {s : State} {w : Who} {a v j i : Nat} {r : RegRow} (ha : ¬ (0x0A1A4000 ≤ a ∧ a < 0x0A1A8000))
    (hf : findRow a = some (r, j)) (hi : s.windowIx r j = some i) : s.writeReg w a v = s.regWrite w r i v := by
  simp only [State.writeReg, ha, hf, hi, if_false]

/-- A word outside the broadcast window that no table lists is discarded (R4). -/
theorem State.writeReg_unlisted {s : State} {w : Who} {a v : Nat} (ha : ¬ (0x0A1A4000 ≤ a ∧ a < 0x0A1A8000))
    (hf : findRow a = none) (hb : s.on SYS_BOOTSTAT_DONE = true) (hm : s.mayReach w (blockOf a) true = true) :
    s.writeReg w a v = (s, true) := by
  simp [State.writeReg, ha, hf, hb, hm]

section
variable {s : State} {p : Port} {a : Nat} (hb : s.on SYS_BOOTSTAT_DONE = true) (hi : s.integ.inj = none) (h0 : 0x0A000000 ≤ a)
  (h1 : a < 0x0A1B0000) (h4 : a % 4 = 0) (hm : s.mayReach (s.whoOf p) (blockOf a) true = true)
  (ha : ¬ (0x0A1A4000 ≤ a ∧ a < 0x0A1A8000))
include hb hi h0 h1 h4 hm ha

/-- A host port's write of a listed word is the write of its register. -/
theorem State.hostPut_row {r : RegRow} {j i : Nat} (hf : findRow a = some (r, j)) (hw : s.windowIx r j = some i) (x : Word) :
    s.hostPut p a x.toNat = s.hostReg p r i x.toNat := by
  rw [State.hostPut, State.busWrite_regs hb hi h0 h1 h4 hm, State.writeReg_row ha hf hw, State.hostReg]

/-- A host port's write of a word that no table lists is accepted and discarded. -/
theorem State.hostPut_unlisted (hf : findRow a = none) (x : Word) : s.hostPut p a x.toNat = s.answerW true := by
  rw [State.hostPut, State.busWrite_regs hb hi h0 h1 h4 hm, State.writeReg_unlisted ha hf hb hm]
  simp

end

/-! ## Waits at a target (R159) -/

theorem State.rd_incSat_same (s : State) (f : Fld) (v : Nat) : (s.incSat f v).rd f = min (2 ^ f.w - 1) (s.rd f + v) := by
  have h : min (2 ^ f.w - 1) (s.rd f + v) < 2 ^ f.w := by have := Nat.two_pow_pos f.w; omega
  rw [State.incSat, State.rd_wr_same, satAdd, Nat.mod_eq_of_lt h]

theorem State.rd_incSat_other (s : State) (f g : Fld) (v : Nat) (h : g.no ≠ f.no ∨ g.idx ≠ f.idx) :
    (s.incSat f v).rd g = s.rd g := s.rd_wr_other f g _ h

theorem State.waited_board (s : State) (w : Who) (a bytes fails n : Nat) (write : Bool) :
    (s.waited w a bytes fails n write).board = s.board := by
  unfold State.waited
  split <;> rfl

theorem State.barWaits_board (s : State) (p : Port) (b : Bool) (o : Nat) (op : BarOp) (fails : Nat) (waits : Bool) :
    (s.barWaits p b o op fails waits).board = s.board := by
  unfold State.barWaits
  split
  · split <;> exact State.waited_board ..
  · rfl

/-- An access that had to wait runs as it would have without the wait, in the state that counts the wait. -/
theorem exec_barAccess_waits {s : State} (h : s.board.held = false) (fn : Fin 8) (b : Bool) (o : Nat) (op : BarOp) (retry : Bool) :
    exec (.hostBarAccess fn b o op retry true) s =
      exec (.hostBarAccess fn b o op retry false) (s.barWaits (.pcie fn) b o op (b2n retry) true) := by
  have h' : (s.barWaits (.pcie fn) b o op (b2n retry) true).board.held = false := by rw [State.barWaits_board, h]
  rw [exec_barAccess h, exec_barAccess h', State.barWaits_false]

/-- A write that passes the checks and had to wait counts one conflict of its master at its target. -/
theorem State.barWaits_write {s : State} {p : Port} {b : Bool} {o d fails : Nat} {bs : List Byte} (hd : barAddr b o = some d)
    (hp : (s.passChecks (s.whoOf p) d bs.length fails true).2 = true) (ht : (s.target d).num < 22) :
    s.barWaits p b o (.write bs) fails true = s.incSat (XBAR_CONFCNT_COUNT (16 * 22 + (s.target d).num)) 1 := by
  simp only [State.barWaits, hd, State.waited, hp, ht, and_self, if_true]
  rfl

/-- Settles O40: BAR windows, the crossbar's checks, memory, and what each port makes of the answer. -/
theorem hostAccesses : Obligations.HostAccesses := by
  unfold Obligations.HostAccesses
  intro fn a n bs p off x s port w write read spi reg irq v hh
  refine ⟨fun o ho => ?_, fun o ho => ?_, fun hb hi ha => ⟨fun hn hw => ⟨?_, fun hp => ?_⟩, fun hn hq hw => ?_,
    fun hn hw hp hf hs hg hq => ?_, fun hn hq hw => ?_, fun hn hw => ?_, fun hn hq hw => ?_, fun hn hw hp hf hs => ?_⟩, ?_,
    fun hb hi hm h1 hc => ?_, exec_barAccess_waits hh fn, fun b o d bytes fails hd hl hp ht => ?_⟩
  · -- beyond BAR0
    rw [exec_barWrite hh, State.barWrite_beyond (barAddr_bar0_beyond ho)]
  · -- beyond BAR2
    rw [exec_barWrite hh, State.barWrite_beyond (barAddr_bar2_beyond ho)]
  · -- a write of global SRAM that passes, and the bytes it leaves
    rw [exec_barWrite hh, State.barWrite_within (barAddr_gsram ha) (State.busWrite_gsram hb hi ha hn hw)]
  · have hm : (s.devPut a bs).mem = putBytes s.mem a bs :=
      State.devPut_gsram_mem bs hp (issuable_within (m := 0x10000) hn (by omega))
    rw [hm]
    exact ⟨byteAt_putBytes_in bs s.mem a, byteAt_putBytes_out bs s.mem a⟩
  · -- a write without a window
    rw [exec_barWrite hh, State.barWrite_within (barAddr_gsram ha) (State.busWrite_gsram_refused hb hi ha hn hq hw)]
  · -- a read of sound memory, and one without a window
    rw [exec_barRead hh, State.barRead_within (barAddr_gsram ha)
      (State.busRead_gsram hb hi ha hn hw ⟨hp, hf, hs⟩ (.inr ⟨hg, hq⟩)), Option.elim_some]
  · rw [exec_barRead hh, State.barRead_within (barAddr_gsram ha) (State.busRead_gsram_refused hb hi ha hn hq hw), Option.elim_none]
  · -- the SPI port: a write that passes and one that is refused
    rw [exec_spiWrite hh, State.spiWrite_word (State.busWrite_gsram hb hi ha (by rwa [leBytes_length]) (by rwa [leBytes_length]))]
    rfl
  · rw [exec_spiWrite hh, State.spiWrite_word
      (State.busWrite_gsram_refused hb hi ha (by rwa [leBytes_length]) hq (by rwa [leBytes_length]))]
    rfl
  · -- a read in time and a late one
    have hr := State.busRead_gsram hb hi ha hn hw ⟨hp, hf, hs⟩ (.inl (by omega))
    rw [exec_spiRead hh, exec_spiRead hh, State.spiRead_word _ hr, State.spiRead_word _ hr]
    exact ⟨rfl, rfl⟩
  · rw [exec_spiStatus hh, s.spiStatus_eq irq s.hostIrq_iff]
  · -- a write of the register space
    have h0 : 0x0A000000 ≤ reg := Nat.le_add_right _ _
    have h4 : reg % 4 = 0 := by omega
    rw [exec_registerWrite hh]
    exact ⟨fun r j i hf hw => congrArg _ (State.hostPut_row hb hi h0 h1 h4 hm hc hf hw x),
      fun hf => congrArg _ (State.hostPut_unlisted hb hi h0 h1 h4 hm hc hf x)⟩
  · -- the conflict counter
    dsimp only
    rw [State.barWaits_write hd hp ht]
    exact ⟨s.rd_incSat_same _ 1, fun f hf => s.rd_incSat_other _ f 1 hf⟩

end Sys2Proof.Machine
end

section
/-! PROOFS. The arithmetic units: signed values (R104), exact products (R105), shifts as floors (R106), saturation (R107)
and range rescue (R108). -/
namespace Sys2Proof.Machine

/-! ## Powers of 2 as integers -/

theorem natCast_two_pow (k : Nat) : ((2 ^ k : Nat) : Int) = 2 ^ k := Int.natCast_pow 2 k

theorem int_two_pow_pos (k : Nat) : (0 : Int) < 2 ^ k := Int.pow_pos (by decide)

theorem int_two_pow_add (m k : Nat) : (2 : Int) ^ (m + k) = 2 ^ m * 2 ^ k := Int.pow_add 2 m k

theorem int_two_pow_succ (k : Nat) : (2 : Int) ^ (k + 1) = 2 * 2 ^ k := (Int.pow_succ 2 k).trans (Int.mul_comm _ _)

theorem int_two_pow_mono {m n : Nat} (h : m ≤ n) : (2 : Int) ^ m ≤ 2 ^ n := by
  rw [← natCast_two_pow, ← natCast_two_pow]
  exact Int.ofNat_le.mpr (Nat.pow_le_pow_right (by decide) h)

/-! ## Signed values (R104) -/

theorem sx_eq_toInt (w x : Nat) : sx w x = (BitVec.ofNat w x).toInt := by
  simp only [sx, BitVec.toInt, BitVec.toNat_ofNat]

theorem ux_eq_toNat (w : Nat) (x : Int) : ux w x = (BitVec.ofInt w x).toNat := (BitVec.toNat_ofInt x).symm

theorem sx_ux (w : Nat) (x : Int) : sx w (ux w x) = x.bmod (2 ^ w) := by
  rw [sx_eq_toInt, ux_eq_toNat, BitVec.ofNat_toNat, BitVec.setWidth_eq, BitVec.toInt_ofInt]

theorem Core.le_ds (c : Core) (r : Fin 16) : -2 ^ 31 ≤ c.ds r := by
  rw [Core.ds, sx_eq_toInt]
  exact BitVec.le_toInt _

theorem Core.ds_lt (c : Core) (r : Fin 16) : c.ds r < 2 ^ 31 := by
  rw [Core.ds, sx_eq_toInt]
  exact BitVec.toInt_lt

/-- The product of two D registers is largest, in magnitude, for two values of −2^31 (R105). -/
theorem Core.natAbs_ds_mul_le (c : Core) (x y : Fin 16) : (c.ds x * c.ds y).natAbs ≤ 2 ^ 62 := by
  have natAbs_le (r : Fin 16) : (c.ds r).natAbs ≤ 2 ^ 31 := by
    have := c.le_ds r
    have := c.ds_lt r
    omega
  rw [Int.natAbs_mul]
  exact Nat.le_trans (Nat.mul_le_mul (natAbs_le x) (natAbs_le y)) (by decide)

/-! ## Exact products (R105) -/

/-- Settles O6: a product has a magnitude of at most 2^62, so sixteen times it stands in 80 bits. -/
theorem exactProducts : Obligations.ExactProducts := by
  unfold Obligations.ExactProducts
  intro c sr prev a x y
  dsimp only
  have hp := c.natAbs_ds_mul_le x y
  refine ⟨by omega, rfl, ?_, rfl, rfl, by decide, by decide⟩
  rw [sx_ux]
  exact Int.bmod_eq_of_le (by omega) (by omega)

/-! ## Shifts (R106) -/

theorem shr_eq_iff {x q : Int} {k : Nat} : shr x k = q ↔ q * 2 ^ k ≤ x ∧ x < (q + 1) * 2 ^ k := by
  rw [shr, natCast_two_pow, Int.ediv_eq_iff_of_pos (int_two_pow_pos k), Int.add_mul, Int.one_mul]

theorem shr_floor (x : Int) (k : Nat) : shr x k * 2 ^ k ≤ x ∧ x < (shr x k + 1) * 2 ^ k := shr_eq_iff.mp rfl

/-- A positive value smaller than 2^k contributes 0. -/
theorem shr_of_nonneg_of_lt {x : Int} {k : Nat} (h0 : 0 ≤ x) (hk : x < 2 ^ k) : shr x k = 0 :=
  shr_eq_iff.mpr ⟨by omega, by omega⟩

/-- A negative value of magnitude up to 2^k contributes −1. -/
theorem shr_of_neg_of_le {x : Int} {k : Nat} (h0 : x < 0) (hk : -2 ^ k ≤ x) : shr x k = -1 :=
  shr_eq_iff.mpr ⟨by omega, by omega⟩

theorem natAbs_shr_le (x : Int) (k : Nat) : (shr x k).natAbs ≤ x.natAbs := Int.natAbs_ediv_le_natAbs _ _

/-! ## Saturation (R107) -/

theorem in80_iff {x : Int} : in80 x = true ↔ -2 ^ 79 ≤ x ∧ x ≤ 2 ^ 79 - 1 := by
  simp only [in80, Bool.and_eq_true, decide_eq_true_eq, natCast_two_pow]

theorem clampS_of_mem {w : Nat} {x : Int} (hl : -2 ^ (w - 1) ≤ x) (hu : x ≤ 2 ^ (w - 1) - 1) : clampS w x = x := by
  rw [clampS, natCast_two_pow]
  omega

theorem clampS_of_lt {w : Nat} {x : Int} (h : x < -2 ^ (w - 1)) : clampS w x = -2 ^ (w - 1) := by
  have hp := int_two_pow_pos (w - 1)
  rw [clampS, natCast_two_pow]
  omega

theorem clampS_of_gt {w : Nat} {x : Int} (h : 2 ^ (w - 1) - 1 < x) : clampS w x = 2 ^ (w - 1) - 1 := by
  have hp := int_two_pow_pos (w - 1)
  rw [clampS, natCast_two_pow]
  omega

theorem sat80_of_in80 {x : Int} (h : in80 x = true) (ae : Nat) : sat80 x ae = ⟨x, ae, false⟩ := by
  obtain ⟨hl, hu⟩ := in80_iff.mp h
  rw [sat80, clampS_of_mem hl hu, h]
  rfl

theorem sat80_of_gt {x : Int} (h : 2 ^ 79 - 1 < x) (ae : Nat) : sat80 x ae = ⟨2 ^ 79 - 1, ae, true⟩ := by
  have h80 : in80 x = false := Bool.eq_false_iff.mpr fun k => absurd (in80_iff.mp k).2 (by omega)
  rw [sat80, clampS_of_gt h, h80]
  rfl

theorem sat80_of_lt {x : Int} (h : x < -2 ^ 79) (ae : Nat) : sat80 x ae = ⟨-2 ^ 79, ae, true⟩ := by
  have h80 : in80 x = false := Bool.eq_false_iff.mpr fun k => absurd (in80_iff.mp k).1 (by omega)
  rw [sat80, clampS_of_lt h, h80]
  rfl

theorem sat80_av {x : Int} {ae : Nat} : (sat80 x ae).av = true ↔ x < -2 ^ 79 ∨ 2 ^ 79 - 1 < x := by
  rw [sat80, Bool.not_eq_true', Bool.eq_false_iff, Ne, in80_iff]
  omega

/-- An operation that answers sat80 of its exact value `v`: what it writes, SR.AV bit k just where it clamps, and what a
fused second operation reads. -/
theorem accRes_sat80 (k : Fin 4) (sr : Nat) (v : Int) (ae : Nat) (p : Prod) (st : List Nat) :
    (accRes k sr (sat80 v ae) false p st).writes = [(xA k, ux 80 (sat80 v ae).a, p)]
    ∧ (accRes k sr (sat80 v ae) false p st).sr = (if v < -2 ^ 79 ∨ 2 ^ 79 - 1 < v then setBit sr k.val true else sr)
    ∧ (accRes k sr (sat80 v ae) false p st).acc = some (k.val, (sat80 v ae).a, ae) := by
  refine ⟨rfl, ?_, rfl⟩
  simp only [accRes, sat80_av]

/-- The same where the exact value fits: it is written as it is. -/
theorem accRes_sat80_writes_of_in80 {v : Int} (h : in80 v = true) (k : Fin 4) (sr ae : Nat) (p : Prod) (st : List Nat) :
    (accRes k sr (sat80 v ae) false p st).writes = [(xA k, ux 80 v, p)] := by
  rw [(accRes_sat80 k sr v ae p st).1, sat80_of_in80 h]

/-! ## Range rescue (R108) -/

theorem rescueAdd_of_in80 {a t : Int} {ae : Nat} (h : in80 (a + shr t ae) = true) :
    rescueAdd a ae t = ⟨a + shr t ae, ae, false⟩ := by
  simp [rescueAdd, h]

/-- At AEk 63 no step is left: rescue_add is sat80. -/
theorem rescueAdd_at_63 (a t : Int) : rescueAdd a 63 t = sat80 (a + shr t 63) 63 := by
  by_cases h : in80 (a + shr t 63) = true
  · rw [rescueAdd_of_in80 h, sat80_of_in80 h]
  · simp [rescueAdd, h]

theorem rescueAdd_of_overflow {a t : Int} {ae : Nat} (h : ¬ in80 (a + shr t ae) = true) (h63 : ae ≠ 63) :
    rescueAdd a ae t = ⟨shr a 1 + shr t (ae + 1), ae + 1, false⟩ := by
  simp [rescueAdd, h, h63]

/-- After one step the sum is in range (R108): the halves of the range and the bound of a product leave room. -/
theorem in80_rescued {a t : Int} (ha : in80 a = true) (ht : t.natAbs ≤ 2 ^ 66) (k : Nat) : in80 (shr a 1 + shr t k) = true := by
  have htk := Nat.le_trans (natAbs_shr_le t k) ht
  obtain ⟨hal, hau⟩ := shr_floor a 1
  rw [in80_iff] at ha ⊢
  omega

theorem in80_sat80 (x : Int) (ae : Nat) : in80 (sat80 x ae).a = true := by
  simp only [in80_iff, sat80, clampS]
  omega

/-- rescue_add keeps the accumulator in range and AEk at most 63, and raises AEk by at most 1. -/
theorem rescueAdd_range {a t : Int} {ae : Nat} (ha : in80 a = true) (ht : t.natAbs ≤ 2 ^ 66) (he : ae ≤ 63) :
    in80 (rescueAdd a ae t).a = true ∧ ((rescueAdd a ae t).ae = ae ∨ (rescueAdd a ae t).ae = ae + 1)
      ∧ (rescueAdd a ae t).ae ≤ 63 := by
  by_cases hs : in80 (a + shr t ae) = true
  · rw [rescueAdd_of_in80 hs]
    exact ⟨hs, .inl rfl, he⟩
  · by_cases h63 : ae = 63
    · subst h63
      rw [rescueAdd_at_63]
      exact ⟨in80_sat80 _ _, .inl rfl, Nat.le_refl 63⟩
    · rw [rescueAdd_of_overflow hs h63]
      exact ⟨in80_rescued ha ht _, .inr rfl, Nat.lt_of_le_of_ne he h63⟩

/-- MIX answers the result of rescue_add, and writes AEk just where it changes. -/
theorem unitEval_mix {c : Core} {prev : Option (Nat × Int × Nat)} {a : Fin 4} {x y : Fin 16} {r : AccRes}
    (h : rescueAdd (c.accIn a prev).1 (c.accIn a prev).2 (16 * (c.ds x * c.ds y)) = r) (sr : Nat) :
    (unitEval c sr prev (.mix a x y)).writes
      = (xA a, ux 80 r.a, .accUnit) :: (if decide (r.ae ≠ (c.accIn a prev).2) then [(xAE a, r.ae, .accUnit)] else [])
    ∧ (unitEval c sr prev (.mix a x y)).sr = (if r.av then setBit sr a.val true else sr)
    ∧ (unitEval c sr prev (.mix a x y)).acc = some (a.val, r.a, r.ae) := by
  subst h
  exact ⟨rfl, rfl, rfl⟩

/-! ## Sticky bits -/

theorem bit_iff {x i : Nat} : bit x i = true ↔ x / 2 ^ i % 2 = 1 := by
  simp only [bit, bits, Nat.pow_one, beq_iff_eq]

theorem setBit_of_bit {x i : Nat} (h : bit x i = true) : setBit x i true = x := by
  have hb : bits x i 1 = 1 := bit_iff.mp h
  have hle : 2 ^ i ≤ x := by
    refine Nat.le_of_not_lt fun hlt => ?_
    rw [bits, Nat.div_eq_of_lt hlt] at hb
    exact absurd hb (by decide)
  simp only [setBit, hb, b2n, if_true]
  omega

theorem setBit_of_not_bit {x i : Nat} (h : bit x i ≠ true) : setBit x i true = x + 2 ^ i := by
  have hb : bits x i 1 = 0 := (Nat.mod_two_eq_zero_or_one _).resolve_right fun k => h (bit_iff.mpr k)
  simp only [setBit, hb, b2n, if_true, Nat.zero_mul, Nat.sub_zero, Nat.one_mul]

/-- Setting a bit clears none. -/
theorem bit_setBit_of_bit {x i j : Nat} (h : bit x j = true) : bit (setBit x i true) j = true := by
  by_cases hi : bit x i = true
  · rw [setBit_of_bit hi, h]
  · rw [setBit_of_not_bit hi]
    rw [bit_iff] at h hi ⊢
    rcases Nat.lt_trichotomy j i with hji | rfl | hij
    · obtain ⟨k, rfl⟩ := Nat.exists_eq_add_of_lt hji
      rw [show 2 ^ (j + k + 1) = 2 ^ j * (2 * 2 ^ k) by rw [Nat.add_assoc, Nat.pow_add, Nat.pow_succ'],
        Nat.add_mul_div_left _ _ (Nat.two_pow_pos j), Nat.add_mul_mod_self_left, h]
    · exact absurd h hi
    · obtain ⟨k, rfl⟩ := Nat.exists_eq_add_of_lt hij
      rw [show 2 ^ (i + k + 1) = 2 ^ i * 2 * 2 ^ k by rw [Nat.add_right_comm, Nat.pow_add, Nat.pow_succ],
        ← Nat.div_div_eq_div_mul, ← Nat.div_div_eq_div_mul] at h ⊢
      rw [Nat.add_div_right _ (Nat.two_pow_pos i), show (x / 2 ^ i + 1) / 2 = x / 2 ^ i / 2 by omega, h]

/-- A unit operation changes SR, if at all, by setting one bit. -/
theorem unitEval_sr (c : Core) (sr : Nat) (prev : Option (Nat × Int × Nat)) (op : UnitOp) :
    (unitEval c sr prev op).sr = sr ∨ ∃ i, (unitEval c sr prev op).sr = setBit sr i true := by
  have accRes_sr (k : Fin 4) (r : AccRes) (wae : Bool) (p : Prod) (st : List Nat) :
      (accRes k sr r wae p st).sr = sr ∨ ∃ i, (accRes k sr r wae p st).sr = setBit sr i true := by
    simp only [accRes]
    split
    · exact .inr ⟨_, rfl⟩
    · exact .inl rfl
  cases op with
  | nop => exact .inl rfl
  | mac | msu | mpy | mix | mixa | clr | adds => exact accRes_sr ..
  | rnd d k =>
    simp only [unitEval]
    split
    · exact .inr ⟨_, rfl⟩
    · exact .inl rfl
  | rndx | norm => exact .inl rfl

theorem unitEval_keeps_sr_bit (c : Core) {sr i : Nat} (prev : Option (Nat × Int × Nat)) (op : UnitOp) (h : bit sr i = true) :
    bit (unitEval c sr prev op).sr i = true := by
  rcases unitEval_sr c sr prev op with hs | ⟨j, hs⟩
  · rwa [hs]
  · rw [hs, bit_setBit_of_bit h]

theorem Core.accIn_fused (c : Core) (k : Fin 4) (a : Int) (ae : Nat) : c.accIn k (some (k.val, a, ae)) = (a, ae) := if_pos rfl

/-- Settles O7: the floor that a shift is, and sums that fit, which sat80 and rescue_add leave as they are. -/
theorem arithmeticShifts : Obligations.ArithmeticShifts := by
  unfold Obligations.ArithmeticShifts
  intro c sr prev a x y z k
  refine ⟨shr_floor z k, shr_of_nonneg_of_lt, shr_of_neg_of_le, fun h => ⟨?mac, ?mix⟩, fun h => ?msu, fun h => ?adds⟩
  case mac | msu | adds => exact accRes_sat80_writes_of_in80 h ..
  case mix => simp [unitEval_mix (rescueAdd_of_in80 h) sr]

/-- Settles O8: MAC, MSU, ADDS and MIXA are sat80 of their exact value, and no operation clears a bit of SR. -/
theorem saturation : Obligations.Saturation := by
  unfold Obligations.Saturation
  intro c sr prev a x y z e
  refine ⟨fun hl hu => ?within, fun h => ?above, fun h => ?below, accRes_sat80 .., accRes_sat80 .., accRes_sat80 ..,
    accRes_sat80 .., c.accIn_fused a _ e, fun op => unitEval_keeps_sr_bit c prev op⟩
  case within => simp [sat80_of_in80 (in80_iff.mpr ⟨hl, hu⟩)]
  case above => simp [sat80_of_gt h]
  case below => simp [sat80_of_lt h]

/-- Settles O9: the three ways of rescue_add, and the range that it keeps. -/
theorem rangeRescue : Obligations.RangeRescue := by
  unfold Obligations.RangeRescue
  intro c sr prev a x y
  dsimp only
  simp only [← in80_iff]
  have hp : (16 * (c.ds x * c.ds y)).natAbs ≤ 2 ^ 66 := by
    have := c.natAbs_ds_mul_le x y
    omega
  refine ⟨fun h => ?fits, fun h h63 => ?rescued, fun h h63 => ?full, fun ha he => ?range⟩
  case fits => simp [unitEval_mix (rescueAdd_of_in80 h) sr]
  case rescued => simp [unitEval_mix (rescueAdd_of_overflow h h63) sr]
  case full =>
    rw [h63] at h ⊢
    have hr : rescueAdd _ (c.accIn a prev).2 (16 * (c.ds x * c.ds y)) = _ := h63 ▸ rescueAdd_at_63 (c.accIn a prev).1 _
    simp [unitEval_mix hr sr, sat80, h, h63]
  case range =>
    obtain ⟨hb, hae, h63⟩ := rescueAdd_range ha hp he
    exact ⟨_, _, (unitEval_mix rfl sr).2.2, hb, hae, h63, fun _ _ => in80_rescued ha hp _⟩

end Sys2Proof.Machine
end

section
/-! PROOFS. Results written out: rounding to Q1.31 and its clamp (R111). -/
namespace Sys2Proof.Machine

/-! ## The rounding step (R111) -/

/-- Every mode but 2 keeps the floor only where the remainder is at most a half, and raises it only where it is at least a
half. -/
theorem roundStep_nearest (q r h : Int) (neg : Bool) {rm : Nat} (hrm : rm ≠ 2) :
    (roundStep q r h neg rm = q ∧ r ≤ h) ∨ (roundStep q r h neg rm = q + 1 ∧ h ≤ r) := by
  simp only [roundStep, if_neg hrm]
  split <;> split <;> omega

/-- Modes 0 and 3 take a tie to the even value. -/
theorem roundStep_tie_even (q h : Int) (neg : Bool) {rm : Nat} (h1 : rm ≠ 1) (h2 : rm ≠ 2) :
    roundStep q h h neg rm % 2 = 0 := by
  rw [roundStep, if_neg h2, if_neg h1]
  split <;> omega

/-- Mode 1 takes a tie away from zero. -/
theorem roundStep_tie_away (q h : Int) (neg : Bool) : roundStep q h h neg 1 = if neg then q else q + 1 := by
  cases neg <;> simp [roundStep]

/-- `a` shifted right by `sh` and rounded in mode `rm`: what round_q131 (R111) and the mantissa of RNDX (R112) share. -/
def roundShift (a : Int) (sh rm : Nat) : Int :=
  roundStep (shr a sh) (a % (2 ^ sh : Nat)) (2 ^ (sh - 1) : Nat) (decide (a < 0)) rm

theorem shr_mul_add_mod (a : Int) (k : Nat) : shr a k * 2 ^ k + a % (2 ^ k : Nat) = a := by
  rw [shr, natCast_two_pow]
  exact Int.ediv_mul_add_emod a (2 ^ k)

theorem mod_two_pow_range (a : Int) (k : Nat) : 0 ≤ a % (2 ^ k : Nat) ∧ a % (2 ^ k : Nat) < 2 ^ k := by
  have hp := int_two_pow_pos k
  rw [natCast_two_pow]
  exact ⟨Int.emod_nonneg a (Int.ne_of_gt hp), Int.emod_lt_of_pos a hp⟩

/-- Mode 2 is the floor. -/
theorem roundShift_mode2 (a : Int) (sh : Nat) : roundShift a sh 2 = shr a sh := by
  rw [roundShift, roundStep, if_pos rfl]

theorem roundShift_eq_or (a : Int) (sh rm : Nat) : roundShift a sh rm = shr a sh ∨ roundShift a sh rm = shr a sh + 1 := by
  by_cases hrm : rm = 2
  · exact .inl (hrm ▸ roundShift_mode2 a sh)
  · exact (roundStep_nearest _ _ _ _ hrm).imp And.left And.left

section
variable {a : Int} {sh rm : Nat} (hsh : 0 < sh)
include hsh

theorem two_mul_half : 2 * ((2 ^ (sh - 1) : Nat) : Int) = 2 ^ sh := by
  rw [natCast_two_pow, ← int_two_pow_succ, Nat.sub_add_cancel hsh]

/-- In the modes of nearest the rounded value lies within half a step. -/
theorem roundShift_within_half (hrm : rm ≠ 2) :
    -2 ^ sh ≤ 2 * (roundShift a sh rm * 2 ^ sh - a) ∧ 2 * (roundShift a sh rm * 2 ^ sh - a) ≤ 2 ^ sh := by
  have ha := shr_mul_add_mod a sh
  have hh := two_mul_half hsh
  obtain ⟨h0, h1⟩ := mod_two_pow_range a sh
  rcases roundStep_nearest (shr a sh) (a % (2 ^ sh : Nat)) (2 ^ (sh - 1) : Nat) (decide (a < 0)) hrm with
    ⟨hq, hr⟩ | ⟨hq, hr⟩
  · rw [roundShift, hq]
    omega
  · rw [roundShift, hq, Int.add_mul, Int.one_mul]
    omega

/-- Half a step from the rounded value the remainder is a half: a tie. -/
theorem mod_eq_half_of_tie
    (h : 2 * (roundShift a sh rm * 2 ^ sh - a) = 2 ^ sh ∨ 2 * (roundShift a sh rm * 2 ^ sh - a) = -2 ^ sh) :
    a % (2 ^ sh : Nat) = (2 ^ (sh - 1) : Nat) := by
  have ha := shr_mul_add_mod a sh
  have hh := two_mul_half hsh
  obtain ⟨h0, h1⟩ := mod_two_pow_range a sh
  rcases roundShift_eq_or a sh rm with hq | hq
  · rw [hq] at h
    omega
  · rw [hq, Int.add_mul, Int.one_mul] at h
    omega

/-- A tie goes to the even value in modes 0 and 3. -/
theorem roundShift_tie_even (h1 : rm ≠ 1) (h2 : rm ≠ 2)
    (h : 2 * (roundShift a sh rm * 2 ^ sh - a) = 2 ^ sh ∨ 2 * (roundShift a sh rm * 2 ^ sh - a) = -2 ^ sh) :
    roundShift a sh rm % 2 = 0 := by
  rw [roundShift, mod_eq_half_of_tie hsh h]
  exact roundStep_tie_even _ _ _ h1 h2

/-- A tie goes away from zero in mode 1: up just where the value is not negative. -/
theorem roundShift_tie_away
    (h : 2 * (roundShift a sh 1 * 2 ^ sh - a) = 2 ^ sh ∨ 2 * (roundShift a sh 1 * 2 ^ sh - a) = -2 ^ sh) :
    roundShift a sh 1 = if a < 0 then shr a sh else shr a sh + 1 := by
  rw [roundShift, mod_eq_half_of_tie hsh h, roundStep_tie_away]
  simp only [decide_eq_true_eq]

/-- A tie that mode 1 takes down is that of a negative value … -/
theorem roundShift_lt_of_neg_tie (h : 2 * (roundShift a sh 1 * 2 ^ sh - a) = -2 ^ sh) : a < 0 := by
  refine Decidable.byContradiction fun h0 => ?_
  have hq := roundShift_tie_away hsh (.inr h)
  rw [if_neg h0] at hq
  have hlt := (shr_floor a sh).2
  rw [← hq] at hlt
  have hp := int_two_pow_pos sh
  omega

/-- … and one that it takes up that of a value which is not. -/
theorem roundShift_nonneg_of_pos_tie (h : 2 * (roundShift a sh 1 * 2 ^ sh - a) = 2 ^ sh) : 0 ≤ a := by
  refine Decidable.byContradiction fun h0 => ?_
  have hq := roundShift_tie_away hsh (.inl h)
  rw [if_pos (by omega)] at hq
  have hle := (shr_floor a sh).1
  rw [← hq] at hle
  have hp := int_two_pow_pos sh
  omega

/-- A rounded value above the range of Q1.31 comes of a value at least half a step below the first one out of it. -/
theorem le_of_roundShift_gt (h : 2 ^ 31 - 1 < roundShift a sh rm) : (2 ^ 32 - 1) * 2 ^ sh ≤ 2 * a := by
  have hp := int_two_pow_pos sh
  have hm : 2 ^ 31 * 2 ^ sh ≤ roundShift a sh rm * 2 ^ sh := Int.mul_le_mul_of_nonneg_right (by omega) (Int.le_of_lt hp)
  by_cases hrm : rm = 2
  · subst hrm
    have := (shr_floor a sh).1
    rw [roundShift_mode2] at hm
    omega
  · have := roundShift_within_half (a := a) hsh hrm
    omega

/-- One below the range comes, but in mode 2, of a value at least half a step beyond the limit. -/
theorem le_of_roundShift_lt (hrm : rm ≠ 2) (h : roundShift a sh rm < -2 ^ 31) : 2 * a ≤ -(2 ^ 32 + 1) * 2 ^ sh := by
  have hp := int_two_pow_pos sh
  have hm : roundShift a sh rm * 2 ^ sh ≤ (-2 ^ 31 - 1) * 2 ^ sh := Int.mul_le_mul_of_nonneg_right (by omega) (Int.le_of_lt hp)
  have := roundShift_within_half (a := a) hsh hrm
  omega

end

/-- In mode 2 one below the range comes of a value below the limit. -/
theorem lt_of_roundShift_mode2_lt {a : Int} {sh : Nat} (h : roundShift a sh 2 < -2 ^ 31) : a < -2 ^ 31 * 2 ^ sh := by
  rw [roundShift_mode2] at h
  calc a < (shr a sh + 1) * 2 ^ sh := (shr_floor a sh).2
    _ ≤ -2 ^ 31 * 2 ^ sh := Int.mul_le_mul_of_nonneg_right (by omega) (Int.le_of_lt (int_two_pow_pos sh))

/-! ## Clamping to Q1.31 (R111) -/

theorem roundRaw_of_lt (a : Int) {ae : Nat} (rm : Nat) (h : ae < 32) : roundRaw a ae rm = roundShift a (32 - ae) rm := if_pos h

theorem roundRaw_of_ge (a : Int) {ae : Nat} (rm : Nat) (h : 32 ≤ ae) : roundRaw a ae rm = a * 2 ^ (ae - 32) := by
  rw [roundRaw, if_neg (Nat.not_lt.mpr h), natCast_two_pow]

theorem roundQ131_eq (a : Int) (ae rm : Nat) :
    roundQ131 a ae rm = if roundRaw a ae rm < -2 ^ 31 then (-2 ^ 31, true)
      else if 2 ^ 31 - 1 < roundRaw a ae rm then (2 ^ 31 - 1, true) else (roundRaw a ae rm, false) := by
  rw [roundQ131]
  split
  · next hl => rw [clampS_of_lt (w := 32) hl, decide_eq_true (by omega)]
  · split
    · next hu => rw [clampS_of_gt (w := 32) hu, decide_eq_true (by omega)]
    · rw [clampS_of_mem (w := 32) (by omega) (by omega), decide_eq_false (fun h => h rfl)]

/-- Settles O10: the rounded value in each mode, then the clamp's three cases. -/
theorem roundingAccuracy : Obligations.RoundingAccuracy := by
  unfold Obligations.RoundingAccuracy
  refine ⟨fun a ae rm hae _ => ?_, fun a ae rm hae => ?_, fun c sr prev d k => ⟨rfl, rfl⟩⟩
  · have hsh : 0 < 32 - ae := by omega
    dsimp only
    rw [roundQ131_eq, roundRaw_of_lt a rm hae]
    generalize 32 - ae = sh at hsh ⊢
    by_cases hl : roundShift a sh rm < -2 ^ 31
    · -- below the range
      rw [if_pos hl]
      refine ⟨by decide, nofun, fun _ => ?_⟩
      by_cases hrm : rm = 2
      · subst hrm
        exact .inr (.inr ⟨rfl, rfl, lt_of_roundShift_mode2_lt hl⟩)
      · exact .inr (.inl ⟨rfl, le_of_roundShift_lt hsh hrm hl⟩)
    by_cases hu : 2 ^ 31 - 1 < roundShift a sh rm
    · -- above the range
      rw [if_neg hl, if_pos hu]
      exact ⟨by decide, nofun, fun _ => .inl ⟨rfl, le_of_roundShift_gt hsh hu⟩⟩
    · -- within the range
      rw [if_neg hl, if_neg hu]
      refine ⟨⟨Int.not_lt.mp hl, Int.not_lt.mp hu⟩, fun _ => ⟨fun hrm => ?mode2, roundShift_within_half hsh,
        fun hrm => roundShift_tie_even hsh (by omega) (by omega), fun hrm => ?mode1⟩, nofun⟩
      case mode2 =>
        subst hrm
        rw [roundShift_mode2]
        exact shr_floor a sh
      case mode1 =>
        subst hrm
        exact ⟨roundShift_nonneg_of_pos_tie hsh, roundShift_lt_of_neg_tie hsh⟩
  · dsimp only
    rw [roundQ131_eq, roundRaw_of_ge a rm hae]

end Sys2Proof.Machine
end

section
/-! PROOFS. Normalising shifts (R113, R114), and the mantissas and exponents that RNDX writes (R112). -/
namespace Sys2Proof.Machine

/-! ## Runs of sign bits -/

/-- The range of a two's-complement number of `n + 1` bits. -/
abbrev InRange (n : Nat) (x : Int) : Prop := -2 ^ n ≤ x ∧ x < 2 ^ n

theorem InRange.mono {m n : Nat} {x : Int} (h : InRange m x) (hmn : m ≤ n) : InRange n x := by
  have hp := int_two_pow_mono hmn
  obtain ⟨hl, hu⟩ := h
  exact ⟨by omega, by omega⟩

theorem signRun_succ_of_inRange {n : Nat} {x : Int} (h : InRange n x) : signRun x (n + 1) = signRun x n + 1 := by
  rw [signRun, natCast_two_pow, if_pos h]

theorem signRun_succ_of_not_inRange {n : Nat} {x : Int} (h : ¬ InRange n x) : signRun x (n + 1) = 0 := by
  rw [signRun, natCast_two_pow, if_neg h]

theorem signRun_le (x : Int) (n : Nat) : signRun x n ≤ n := by
  induction n with
  | zero => exact Nat.le_refl 0
  | succ n ih =>
    by_cases h : InRange n x
    · rw [signRun_succ_of_inRange h]
      omega
    · rw [signRun_succ_of_not_inRange h]
      omega

/-- The number still stands in the bits that its run of sign bits leaves … -/
theorem signRun_inRange {n : Nat} {x : Int} (hx : InRange n x) : InRange (n - signRun x n) x := by
  induction n with
  | zero => exact hx
  | succ n ih =>
    by_cases h : InRange n x
    · rw [signRun_succ_of_inRange h, Nat.add_sub_add_right]
      exact ih h
    · rwa [signRun_succ_of_not_inRange h]

/-- … and in no fewer. -/
theorem signRun_not_inRange {n : Nat} {x : Int} (hlt : signRun x n < n) : ¬ InRange (n - 1 - signRun x n) x := by
  induction n with
  | zero => exact absurd hlt (Nat.not_lt_zero _)
  | succ n ih =>
    by_cases h : InRange n x
    · rw [signRun_succ_of_inRange h] at hlt ⊢
      rw [show n + 1 - 1 - (signRun x n + 1) = n - 1 - signRun x n by omega]
      exact ih (by omega)
    · rwa [signRun_succ_of_not_inRange h]

/-! ## NORMD (R113) -/

theorem inRange_sx32 (a : Nat) : InRange 31 (sx 32 a) := by
  rw [sx_eq_toInt]
  exact ⟨BitVec.le_toInt _, BitVec.toInt_lt⟩

/-- Bit `i` of a 32-bit value is the last bit of its signed value shifted right by `i`. -/
theorem bit_iff_shr_sx {a i : Nat} (ha : a < 2 ^ 32) (hi : i ≤ 31) : bit a i = true ↔ shr (sx 32 a) i % 2 = 1 := by
  obtain ⟨k, hk⟩ := Nat.exists_eq_add_of_le hi
  have hdiv : ((a / 2 ^ i : Nat) : Int) = a / 2 ^ i := by rw [Int.natCast_ediv, natCast_two_pow]
  have hpow : (2 ^ 32 : Int) = 2 ^ i * (2 * 2 ^ k) := by
    rw [← int_two_pow_succ, ← int_two_pow_add, ← Nat.add_assoc, ← hk]
  rw [bit_iff, sx, Nat.mod_eq_of_lt ha, shr, natCast_two_pow, natCast_two_pow]
  split
  · omega
  · rw [hpow, Int.sub_eq_add_neg, ← Int.mul_neg, Int.add_mul_ediv_left _ _ (Int.ne_of_gt (int_two_pow_pos i))]
    omega

/-- A bit at or above those that a number needs tells its sign … -/
theorem bit_of_inRange {a i : Nat} (ha : a < 2 ^ 32) (hi : i ≤ 31) (h : InRange i (sx 32 a)) :
    bit a i = true ↔ sx 32 a < 0 := by
  rw [bit_iff_shr_sx ha hi]
  by_cases h0 : sx 32 a < 0
  · simp [shr_of_neg_of_le h0 h.1, h0]
  · simp [shr_of_nonneg_of_lt (Int.not_lt.mp h0) h.2, h0]

/-- … and the highest of those that it needs tells the contrary. -/
theorem bit_of_not_inRange {a i : Nat} (ha : a < 2 ^ 32) (hi : i ≤ 31) (h : InRange (i + 1) (sx 32 a))
    (hn : ¬ InRange i (sx 32 a)) : bit a i = true ↔ ¬ sx 32 a < 0 := by
  rw [bit_iff_shr_sx ha hi]
  obtain ⟨hl, hu⟩ := h
  rw [int_two_pow_succ] at hl hu
  by_cases h0 : sx 32 a < 0
  · have hq : shr (sx 32 a) i = -2 := shr_eq_iff.mpr (by omega)
    simp [hq, h0]
  · have hq : shr (sx 32 a) i = 1 := shr_eq_iff.mpr (by omega)
    simp [hq, h0]

/-- NORMD counts the bits from bit 30 down that equal bit 31, up to the first that differs (R113). -/
theorem normD_spec {a : Nat} (ha : a < 2 ^ 32) :
    normD (sx 32 a) ≤ 31 ∧ (∀ i < normD (sx 32 a), bit a (30 - i) = bit a 31)
    ∧ (normD (sx 32 a) < 31 → bit a (30 - normD (sx 32 a)) ≠ bit a 31) := by
  have hx := inRange_sx32 a
  have hsign := bit_of_inRange ha (Nat.le_refl 31) hx
  have hin : InRange (31 - normD (sx 32 a)) (sx 32 a) := signRun_inRange hx
  refine ⟨signRun_le _ _, fun i hi => ?_, fun hn => ?_⟩
  · rw [Bool.eq_iff_iff, hsign]
    exact bit_of_inRange ha (by omega) (hin.mono (by omega))
  · have hout : ¬ InRange (30 - normD (sx 32 a)) (sx 32 a) := signRun_not_inRange hn
    rw [Ne, Bool.eq_iff_iff, hsign, bit_of_not_inRange ha (by omega) (hin.mono (by omega)) hout]
    exact not_iff_self

/-! ## The shift of an accumulator (R112, R114) -/

theorem inRange_mul_two_pow {x : Int} {m k n : Nat} (h : m + k = n) : InRange n (x * 2 ^ k) ↔ InRange m x := by
  subst h
  have hp := int_two_pow_pos k
  rw [InRange, int_two_pow_add, ← Int.neg_mul, Int.mul_le_mul_right hp, Int.mul_lt_mul_right hp]

/-- The shift r of R112 keeps the accumulator in 80 bits … -/
theorem normR_inRange {a : Int} (h : InRange 79 a) : InRange 79 (a * 2 ^ normR a) :=
  (inRange_mul_two_pow (Nat.sub_add_cancel (signRun_le a 79))).mpr (signRun_inRange h)

/-- … and no larger one up to 79 does. -/
theorem normR_succ_not_inRange {a : Int} (h : normR a < 79) : ¬ InRange 79 (a * 2 ^ (normR a + 1)) := by
  rw [inRange_mul_two_pow (m := 79 - 1 - normR a) (by omega)]
  exact signRun_not_inRange h

/-! ## Mantissas (R112) -/

theorem exportAcc_of_ne {a : Int} (ha : a ≠ 0) (ae rm : Nat) :
    exportAcc a ae rm = if roundShift (a * 2 ^ normR a) 48 rm = 2 ^ 31 then (2 ^ 30, (17 + ae - normR a : Int))
      else (roundShift (a * 2 ^ normR a) 48 rm, (16 + ae - normR a : Int)) := by
  have he : (16 + ae - normR a + 1 : Int) = 17 + ae - normR a := by omega
  rw [← he, ← natCast_two_pow (normR a)]
  exact if_neg ha

/-- A rounded mantissa lies in 32 bits, or one above them: the carry out of rounding. -/
theorem roundShift48_range {n : Int} (h : InRange 79 n) (rm : Nat) :
    -2 ^ 31 ≤ roundShift n 48 rm ∧ roundShift n 48 rm ≤ 2 ^ 31 := by
  have := shr_floor n 48
  rcases roundShift_eq_or n 48 rm with hq | hq <;> omega

/-- Settles O11: NORMD by the bits of its value, r as the largest shift, and the exported mantissa as a rounded shift. -/
theorem normalisingShifts : Obligations.NormalisingShifts := by
  unfold Obligations.NormalisingShifts
  refine ⟨fun a ha => normD_spec ha, by decide, by decide, fun a ha hl hu => ?_, fun ae rm => ⟨rfl, rfl⟩,
    fun c sr prev d k => ⟨rfl, rfl, rfl, rfl⟩⟩
  have hr := normR_inRange ⟨hl, hu⟩
  refine ⟨signRun_le a 79, hr.1, hr.2, fun h => ?_, fun ae => if_neg ha, fun ae rm => ?_⟩
  · have := normR_succ_not_inRange h
    omega
  · have hm := roundShift48_range hr rm
    dsimp only
    rw [exportAcc_of_ne ha]
    by_cases hc : roundShift (a * 2 ^ normR a) 48 rm = 2 ^ 31
    · rw [if_pos hc]
      exact ⟨(by decide : (2 : Int) ^ 30 < 2 ^ 31), (by decide : -2 ^ 31 ≤ (2 : Int) ^ 30), .inr ⟨rfl, rfl⟩⟩
    · rw [if_neg hc]
      exact ⟨Int.lt_iff_le_and_ne.mpr ⟨hm.2, hc⟩, hm.1, .inl ⟨rfl, roundShift_within_half (by decide)⟩⟩

end Sys2Proof.Machine
end

section
/-! PROOFS. Bus factors (R115), their glides (R116) and MIXA (R117). -/
namespace Sys2Proof.Machine

/-! ## Rounded quotients and roots -/

/-- The rounded quotient lies within half a unit of the quotient. -/
theorem divRound_nearest (a : Nat) {b : Nat} (hb : 0 < b) :
    2 * a ≤ 2 * divRound a b * b + b ∧ 2 * divRound a b * b ≤ 2 * a + b := by
  have hmul : 2 * b * divRound a b = 2 * divRound a b * b := by ac_rfl
  have hdiv := Nat.div_add_mod (2 * a + b) (2 * b)
  have hmod := Nat.mod_lt (2 * a + b) (y := 2 * b) (by omega)
  rw [← divRound, hmul] at hdiv
  omega

/-- Counting down the bits of a root ends at the greatest number whose square is at most `v`. -/
theorem isqrtBits_spec {v b x : Nat} (hl : x * x ≤ v) (hu : v < (x + 2 ^ b) * (x + 2 ^ b)) :
    isqrtBits v b x * isqrtBits v b x ≤ v ∧ v < (isqrtBits v b x + 1) * (isqrtBits v b x + 1) := by
  induction b generalizing x with
  | zero => exact ⟨hl, hu⟩
  | succ b ih =>
    rw [isqrtBits]
    split
    · next h => exact ih h (by rwa [Nat.add_assoc, ← Nat.two_mul, ← Nat.pow_succ'])
    · next h => exact ih hl (Nat.lt_of_not_le h)

/-- Half the root of 2^58 / n, rounded up, is the integer nearest to 2^28 / √n. -/
theorem half_isqrt_nearest {n r g : Nat} (hn : 0 < n) (hl : r * r ≤ 2 ^ 58 / n) (hu : 2 ^ 58 / n < (r + 1) * (r + 1))
    (hg : g = (r + 1) / 2) :
    (2 * g - 1) * (2 * g - 1) * n ≤ 2 ^ 58 ∧ 2 ^ 58 ≤ (2 * g + 1) * (2 * g + 1) * n := by
  rw [Nat.le_div_iff_mul_le hn] at hl
  rw [Nat.div_lt_iff_lt_mul hn] at hu
  constructor
  · calc (2 * g - 1) * (2 * g - 1) * n ≤ r * r * n :=
        Nat.mul_le_mul_right n (Nat.mul_le_mul (by omega) (by omega))
      _ ≤ 2 ^ 58 := hl
  · calc 2 ^ 58 ≤ (r + 1) * (r + 1) * n := Nat.le_of_lt hu
      _ ≤ (2 * g + 1) * (2 * g + 1) * n :=
        Nat.mul_le_mul_right n (Nat.mul_le_mul (by omega) (by omega))

/-! ## The laws of a bus (R115) -/

theorem busFactor_unity {law n : Nat} (h : n = 0 ∨ law = 0) : busFactor law n = 0x10000000 := by
  rcases h with rfl | rfl <;> simp [busFactor]

theorem busFactor_inv_n {n : Nat} (hn : 1 ≤ n) : busFactor 1 n = divRound (2 ^ 28) n := by
  simp [busFactor, Nat.ne_of_gt hn]

theorem busFactor_inv_sqrt_n {n : Nat} (hn : 1 ≤ n) : busFactor 2 n = (isqrtBits (2 ^ 58 / n) 30 0 + 1) / 2 := by
  simp [busFactor, Nat.ne_of_gt hn]

/-- The root that the law INV_SQRT_N takes stands in 30 bits, so that the count finds it. -/
theorem isqrtBits_two_pow_58_div (n : Nat) :
    isqrtBits (2 ^ 58 / n) 30 0 * isqrtBits (2 ^ 58 / n) 30 0 ≤ 2 ^ 58 / n
    ∧ 2 ^ 58 / n < (isqrtBits (2 ^ 58 / n) 30 0 + 1) * (isqrtBits (2 ^ 58 / n) 30 0 + 1) :=
  isqrtBits_spec (Nat.zero_le _) (Nat.lt_of_le_of_lt (Nat.div_le_self _ _) (by decide))

/-! ## Glides (R116) -/

theorem glideAt_ended (old new : Int) {k : Int} {kk : Nat} (h : (kk : Int) ≤ k) : glideAt old new k kk = new := if_pos (.inr h)

theorem glideAt_running (old new : Int) {k : Int} {kk : Nat} (h0 : 0 ≤ k) (h : k < kk) :
    glideAt old new k kk = old + (new - old) * k / kk := if_neg (by omega)

/-- Settles O12: the rounded quotient, the root by its bits, the floor of a glide, and MIXA as sat80 of scale. -/
theorem busScaling : Obligations.BusScaling := by
  unfold Obligations.BusScaling
  refine ⟨fun law n => busFactor_unity, fun n hn => ?inv_n, fun n hn _ => ?inv_sqrt_n,
    fun old new k kk h0 => ⟨glideAt_ended old new, fun h => ?glide⟩, fun c sr prev a g => ?mixa⟩
  case inv_n =>
    dsimp only
    rw [busFactor_inv_n hn]
    exact divRound_nearest _ hn
  case inv_sqrt_n =>
    obtain ⟨hl, hu⟩ := isqrtBits_two_pow_58_div n
    exact half_isqrt_nearest hn hl hu (busFactor_inv_sqrt_n hn)
  case glide =>
    have hkk : (0 : Int) < kk := Int.lt_of_le_of_lt h0 h
    rw [glideAt_running old new h0 h, Int.add_comm old, Int.add_sub_cancel]
    exact ⟨Int.ediv_mul_le _ (Int.ne_of_gt hkk), Int.lt_ediv_add_one_mul_self _ hkk⟩
  case mixa => exact (accRes_sat80 ..).1

end Sys2Proof.Machine
end

section
/-! PROOFS. Flags, counts and slots of a context, and when it is ready (R122, R130 item 5, R132, R133, R138, R139). -/
namespace Sys2Proof.Machine

/-! ## Bits of a 32-bit word -/

theorem setBit_eq_withBits {x : Nat} (hx : x < 2 ^ 32) (i : Nat) : setBit x i true = withBits (.ofNat 32 x) i 1 1 := by
  rw [withBits, BitVec.toNat_ofNat, Nat.mod_eq_of_lt hx]
  rfl

theorem bit_setBit_same {x : Nat} (hx : x < 2 ^ 32) (i : Nat) : bit (setBit x i true) i = true := by
  rw [setBit_eq_withBits hx, bit, bits_withBits_same]
  rfl

theorem bit_setBit_other {x : Nat} (hx : x < 2 ^ 32) {i j : Nat} (h : j ≠ i) : bit (setBit x i true) j = bit x j := by
  have hv : (BitVec.ofNat 32 x).toNat = x := by rw [BitVec.toNat_ofNat, Nat.mod_eq_of_lt hx]
  rw [setBit_eq_withBits hx, bit, bit]
  rcases Nat.lt_or_gt_of_ne h with h | h
  · rw [bits_withBits_below _ _ _ _ _ _ h, hv]
  · rw [bits_withBits_above _ _ _ _ _ _ h, hv]

/-! ## Marking a context as changed -/

@[simp] theorem State.rd_touch (s : State) (t : Nat) (f : Fld) : (s.touch t).rd f = s.rd f := rfl
@[simp] theorem State.ctx_touch (s : State) (t j : Nat) : (s.touch t).ctx j = s.ctx j := rfl

theorem State.mem_changed_touch (s : State) (t : Nat) : t ∈ (s.touch t).disp.changed := by
  simp only [State.touch]
  split
  · next h => exact List.contains_iff_mem.1 h
  · exact List.mem_cons_self

theorem State.ctx_modCtx_other (s : State) (t : Nat) (f : Ctx → Ctx) {j : Nat} (h : j ≠ t) : (s.modCtx t f).ctx j = s.ctx j :=
  s.ctx_setCtx_other t _ h

/-! ## An event on a flag (R130 item 5) -/

section
variable {s : State} {t f : Nat} (ht : t ≠ 0)
include ht

theorem State.postFlag_plain (hc : s.counting t f = false) :
    s.postFlag t f = (s.touch t).modCtx t fun c => { c with flags := setBit c.flags f true } := by
  have hc' : (s.touch t).counting t f = false := hc
  simp [State.postFlag, ht, hc']

theorem State.postFlag_count (hc : s.counting t f = true) (hn : tget 0 (s.ctx t).counts f < 255) :
    s.postFlag t f = (s.touch t).modCtx t fun c => { c with counts := tput 0 c.counts f (tget 0 c.counts f + 1) } := by
  have hc' : (s.touch t).counting t f = true := hc
  simp [State.postFlag, ht, hc', hn]

theorem State.postFlag_full (hc : s.counting t f = true) (hn : 255 ≤ tget 0 (s.ctx t).counts f) :
    s.postFlag t f = ((s.touch t).wr (DISP_CTXSTAT_CSAT t) 1).wr DISP_STATUS_CSAT 1 := by
  have hc' : (s.touch t).counting t f = true := hc
  simp [State.postFlag, ht, hc', Nat.not_lt.2 hn]

/-- Every event marks the context as changed and leaves the others, and the states of all. -/
theorem State.postFlag_frame : (∀ j, j ≠ t → (s.postFlag t f).ctx j = s.ctx j)
    ∧ (∀ j, (s.postFlag t f).ctxState j = s.ctxState j) ∧ t ∈ (s.postFlag t f).disp.changed := by
  cases hc : s.counting t f with
  | false =>
    rw [State.postFlag_plain ht hc]
    exact ⟨fun j hj => State.ctx_modCtx_other _ t _ hj, fun j => rfl, s.mem_changed_touch t⟩
  | true =>
    rcases Nat.lt_or_ge (tget 0 (s.ctx t).counts f) 255 with hn | hn
    · rw [State.postFlag_count ht hc hn]
      exact ⟨fun j hj => State.ctx_modCtx_other _ t _ hj, fun j => rfl, s.mem_changed_touch t⟩
    · rw [State.postFlag_full ht hc hn]
      refine ⟨fun j _ => rfl, fun j => ?_, s.mem_changed_touch t⟩
      have h1 : (DISP_CTXSTAT_STATE j).no ≠ DISP_STATUS_CSAT.no := by simp [DISP_CTXSTAT_STATE, DISP_STATUS_CSAT]
      have h2 : (DISP_CTXSTAT_STATE j).no ≠ (DISP_CTXSTAT_CSAT t).no := by simp [DISP_CTXSTAT_STATE, DISP_CTXSTAT_CSAT]
      rw [State.ctxState, State.rd_wr_other _ _ _ _ (.inl h1), State.rd_wr_other _ _ _ _ (.inl h2)]
      rfl

/-! ## A MATCH delivery (R138, R139) -/

theorem State.deliver_unmatched {slot : Nat} (h : s.matching t = false ∨ bit (s.slotMask t) slot = false) (v : Nat) :
    s.deliver t slot v = s.wr DISP_STATUS_MATCHERR 1 := by
  rcases h with h | h <;> simp [State.deliver, ht, h]

variable {slot : Nat} (hm : s.matching t = true) (hs : bit (s.slotMask t) slot = true)
include hm hs

theorem State.deliver_full (hu : 512 ≤ s.rd DISP_MSUSE_INUSE) (v : Nat) :
    s.deliver t slot v = (s.wr DISP_STATUS_MSFULL 1).emit (mkRec cLost 0 0x0024 uTask t (d16 t)) := by
  simp [State.deliver, ht, hm, hs, hu]

/-- A value that finds room: what it does to its slot and to the count of values held. -/
theorem State.deliver_room (hu : s.rd DISP_MSUSE_INUSE < 512) (v : Nat) :
    tget [] ((s.deliver t slot v).ctx t).slots slot = tget [] (s.ctx t).slots slot ++ [v]
    ∧ (s.deliver t slot v).rd DISP_MSUSE_INUSE = s.rd DISP_MSUSE_INUSE + 1 := by
  have hin : (s.inc DISP_MSUSE_INUSE 1).rd DISP_MSUSE_INUSE = s.rd DISP_MSUSE_INUSE + 1 := by
    rw [State.inc, State.rd_wr_same, show DISP_MSUSE_INUSE.w = 10 from rfl]
    omega
  have hap : DISP_MSUSE_INUSE.no ≠ DISP_MSUSE_HIGH.no := by decide
  simp only [State.deliver, ht, hm, hs, Nat.not_le.2 hu, if_false, Bool.not_true, Bool.or_self, Bool.false_eq_true]
  split
  · simp [State.rd_wr_other _ _ _ _ (.inl hap), hin]
  · simp [hin]

end

/-! ## Readiness (R132, R138) -/

/-- A test that asks for `b` only where `a` holds. -/
theorem bool_not_or_iff {a b : Bool} : (!a || b) = true ↔ (a = true → b = true) := by
  cases a <;> simp

section
variable {s : State} {t : Nat}

theorem State.isReady_any (hm : s.matching t = false) (ha : s.ctxF t 15 1 ≠ 1) :
    s.isReady t = true ↔ ∃ g < 32, bit (s.ctxWord t 2) g = true ∧ s.flagSet t g = true := by
  simp only [State.isReady, hm, ha, Bool.false_eq_true, if_false, List.any_eq_true, List.mem_range, Bool.and_eq_true]

theorem State.isReady_all (hm : s.matching t = false) (ha : s.ctxF t 15 1 = 1) :
    s.isReady t = true ↔ ∀ g < 32, bit (s.ctxWord t 2) g = true → s.flagSet t g = true := by
  simp only [State.isReady, hm, ha, Bool.false_eq_true, if_false, if_true, List.all_eq_true, List.mem_range, bool_not_or_iff]

theorem State.isReady_matching (hm : s.matching t = true) :
    s.isReady t = true ↔ ∀ j < 8, bit (s.slotMask t) j = true → tget [] (s.ctx t).slots j ≠ [] := by
  simp only [State.isReady, hm, if_true, List.all_eq_true, List.mem_range, bool_not_or_iff, Bool.not_eq_true', ne_eq,
    List.isEmpty_eq_false_iff]

end

/-- Settles O35: the three events on a flag, the three ends of a delivery, the three modes of readiness. -/
theorem flagsAndReadiness : Obligations.FlagsAndReadiness := by
  unfold Obligations.FlagsAndReadiness
  intro t f slot v s ht c u
  have hrest := State.postFlag_frame (s := s) (f := f.val) ht
  refine ⟨fun hc hf => ?plain, fun hc hn => ?count, fun hc hn => ?full, hrest.1, hrest.2.1, hrest.2.2,
    fun h => State.deliver_unmatched ht h v, fun hm hs hu => State.deliver_room ht hm hs hu v,
    fun hm hs hu => State.deliver_full ht hm hs hu v, State.isReady_any, State.isReady_all, State.isReady_matching⟩
  case plain =>
    have hu : u.ctx t = { c with flags := setBit c.flags f.val true } := by
      rw [show u = _ from State.postFlag_plain ht hc]
      exact State.ctx_modCtx_same _ _ _
    have hcount : ∀ g, u.counting t g = s.counting t g := fun g => by
      rw [show u = _ from State.postFlag_plain ht hc]
      rfl
    refine ⟨?_, by rw [hu], fun g hg => ?_⟩
    · rw [State.flagSet, hcount, hc, hu]
      exact bit_setBit_same hf f.val
    · rw [State.flagSet, State.flagSet, hcount, hu, bit_setBit_other hf (Fin.val_ne_of_ne hg)]
  case count =>
    have hu : u.ctx t = { c with counts := tput 0 c.counts f.val (tget 0 c.counts f.val + 1) } := by
      rw [show u = _ from State.postFlag_count ht hc hn]
      exact State.ctx_modCtx_same _ _ _
    rw [hu]
    dsimp only
    exact ⟨tget_tput_same _ _ _ _, rfl, fun g hg => tget_tput_other _ _ _ _ hg⟩
  case full =>
    have hap : (DISP_CTXSTAT_CSAT t).no ≠ DISP_STATUS_CSAT.no := by simp [DISP_CTXSTAT_CSAT, DISP_STATUS_CSAT]
    rw [show u = _ from State.postFlag_full ht hc hn]
    refine ⟨?_, State.on_wr_same _ _ _, rfl⟩
    rw [State.rd_wr_other _ _ _ _ (.inl hap), State.rd_wr_same]
    rfl

end Sys2Proof.Machine
end

section
/-! PROOFS. The dispatcher's registers: DISP.CMD with ARM, CANCEL, CLEAR and POST (R126 to R128, R343, R390), CORECMD
(R141, R142), SWEV and SLACKMAX.CLR (R144). -/
namespace Sys2Proof.Machine

/-! ## Writes of the dispatcher's registers -/

theorem regHooks_disp {r : RegRow} (h : blockOf r.addr = 0x01) (s : State) (w : Who) (i v : Nat) (t : State) :
    regHooks s w r i v t = dispHook.full s w r i v t := by simp only [regHooks, h]

theorem dispHook_cmd (s : State) (w : Who) (i v : Nat) (t : State) :
    dispHook s w row_DISP_CMD i v t = s.writeCmd w.q (bits v 0 4) (bits v 4 5) (bits v 16 12) (bit v 31) := if_pos rfl

theorem dispHook_coreCmd (s : State) (w : Who) (i v : Nat) (t : State) :
    dispHook s w row_DISP_CORECMD i v t = some (t.coreCmd (bits v 0 8) (bits v 8 2)) := by
  simp [dispHook, row_DISP_CORECMD]

theorem dispHook_swev (s : State) (w : Who) (i v : Nat) (t : State) :
    dispHook s w row_DISP_SWEV i v t = some (s.fire (896 + bits v 0 7)) := by
  simp [dispHook, row_DISP_SWEV]

theorem dispHook_slackmax (s : State) (w : Who) (i v : Nat) (t : State) :
    dispHook s w row_DISP_SLACKMAX i v t = some (if bit v 31 then s.wr DISP_SLACKMAX_MAX 0 else s) := by
  simp [dispHook, row_DISP_SLACKMAX]

/-- The word of a command for DISP.CMD (R144). -/
def cmdWord (op fl t : Nat) (db : Bool) : Nat := op + fl * 16 + t * 65536 + b2n db * 2147483648

theorem bits_cmdWord {op fl t : Nat} (ho : op ≤ 4) (hf : fl < 32) (ht : t < 4096) (db : Bool) :
    bits (cmdWord op fl t db) 0 4 = op ∧ bits (cmdWord op fl t db) 4 5 = fl ∧ bits (cmdWord op fl t db) 16 12 = t
    ∧ bit (cmdWord op fl t db) 31 = db := by
  cases db <;> simp [cmdWord, bit, bits, b2n] <;> omega

theorem State.hostReg_dispCmd {s : State} {p : Port} {op fl t : Nat} {db : Bool} (ho : op ≤ 4) (hf : fl < 32) (ht : t < 4096)
    (h : s.writeOpen p row_DISP_CMD 0 (cmdWord op fl t db)) :
    s.hostReg p row_DISP_CMD 0 (cmdWord op fl t db) = (s.writeCmd (s.whoOf p).q op fl t db).elim (State.turnedAway p s)
      (s.written p row_DISP_CMD 0 (cmdWord op fl t db)) := by
  obtain ⟨h0, h4, h16, h31⟩ := bits_cmdWord ho hf ht db
  rw [State.hostReg_rule h (by decide) (regHooks_disp (by decide)), dispHook_cmd, h0, h4, h16, h31]

/-- The four commands of DISP.CMD, with their codes. -/
theorem exec_dispCmd {p : Port} {t : Fin 4096} {db : Bool} {flag : Fin 32} {i : Instr} {op fl : Nat}
    (h : (i, op, fl) ∈ [(Instr.arm p t db, 1, 0), (.cancel p t db, 2, 0), (.clear p t db, 3, 0), (.dispCmdPost p t db flag, 4, flag.val)])
    (s : State) :
    exec i s = .next (s.hostReg p row_DISP_CMD 0 (cmdWord op fl t.val db)) ∧ 1 ≤ op ∧ op ≤ 4 ∧ fl < 32 := by
  simp only [List.mem_cons, Prod.mk.injEq, List.not_mem_nil, or_false] at h
  rcases h with ⟨rfl, rfl, rfl⟩ | ⟨rfl, rfl, rfl⟩ | ⟨rfl, rfl, rfl⟩ | ⟨rfl, rfl, rfl⟩
  · exact ⟨rfl, by decide, by decide, by decide⟩
  · exact ⟨rfl, by decide, by decide, by decide⟩
  · exact ⟨rfl, by decide, by decide, by decide⟩
  · exact ⟨rfl, by decide, by decide, flag.isLt⟩

/-! ## Results (CMDRES) -/

@[simp] theorem State.cmdResult_disp (s : State) (t code : Nat) : (s.cmdResult t code).disp = s.disp := rfl
@[simp] theorem State.cmdResult_pair (s : State) (t code : Nat) : (s.cmdResult t code).pair = s.pair := rfl

theorem State.rd_cmdResult_code (s : State) (t : Nat) {code : Nat} (h : code < 8) :
    (s.cmdResult t code).rd DISP_CMDRES_CODE = code := by
  rw [State.cmdResult, State.rd_wr_other _ _ _ _ (.inl (by decide)), State.rd_wr_other _ _ _ _ (.inl (by decide)),
    State.rd_wr_same]
  exact Nat.mod_eq_of_lt h

theorem State.rd_cmdResult_tid (s : State) {t : Nat} (code : Nat) (h : t < 4096) :
    (s.cmdResult t code).rd DISP_CMDRES_TID = t := by
  rw [State.cmdResult, State.rd_wr_other _ _ _ _ (.inl (by decide)), State.rd_wr_same]
  exact Nat.mod_eq_of_lt h

/-! ## A command applied (R126, R127) -/

section
variable {s : State} {c : DispCmd}

theorem State.applyCmd_arm (h : c.op = 1) :
    s.applyCmd c = if s.ctxState c.tid ≠ cxDisarmed then (s, 1) else if s.badCfg c.tid then (s, 2)
      else ((s.setCtxState c.tid cxWaiting).touch c.tid, 0) := by
  simp only [State.applyCmd, h]

theorem State.applyCmd_cancel_running (h : c.op = 2) (hst : s.ctxState c.tid = cxRunning) :
    s.applyCmd c = (s.setCtxState c.tid cxCancelling, 0) := by
  simp only [State.applyCmd, h, hst, if_true]

theorem State.applyCmd_cancel_waiting (h : c.op = 2) (hst : s.ctxState c.tid = cxWaiting) :
    s.applyCmd c = (s.setCtxState c.tid cxDisarmed, 0) := by
  simp only [State.applyCmd, h, hst]
  rfl

/-- CANCEL of a task that is not armed, or that an earlier CANCEL ends, changes nothing. -/
theorem State.applyCmd_cancel_idle (h : c.op = 2) (hst : s.ctxState c.tid = cxDisarmed ∨ s.ctxState c.tid = cxCancelling) :
    s.applyCmd c = (s, 0) := by
  rcases hst with hst | hst
  · simp only [State.applyCmd, h, hst]
    rfl
  · simp only [State.applyCmd, h, hst]
    rfl

/-- Leaving a list and the new state keep the record, and with it the kind of task. -/
theorem State.background_cancelled (s : State) (t x : Nat) : ((s.leaveList t).setCtxState t x).background t = s.background t := by
  have hap : (DISP_CTXDATA_WORD (t * 16 + 0)).no ≠ (DISP_CTXSTAT_STATE t).no := by simp [DISP_CTXDATA_WORD, DISP_CTXSTAT_STATE]
  rw [State.background, State.ctxF, State.ctxWord, State.setCtxState, State.rd_wr_other _ _ _ _ (.inl hap)]
  rfl

theorem State.applyCmd_cancel_listed (h : c.op = 2) (hst : s.ctxState c.tid = cxReady ∨ s.ctxState c.tid = cxHeld)
    (hb : s.background c.tid = true) : s.applyCmd c = ((s.leaveList c.tid).setCtxState c.tid cxDisarmed, 0) := by
  have hr : s.ctxState c.tid ≠ cxRunning := by rcases hst with hst | hst <;> rw [hst] <;> decide
  simp only [State.applyCmd, h, if_neg hr, if_pos hst, State.background_cancelled, hb, if_true]

theorem State.applyCmd_clear_armed (h : c.op = 3) (hst : s.ctxState c.tid ≠ cxDisarmed) : s.applyCmd c = (s, 1) := by
  simp only [State.applyCmd, h, hst, ne_eq, not_false_eq_true, if_true]

theorem State.applyCmd_clear (h : c.op = 3) (hst : s.ctxState c.tid = cxDisarmed) :
    s.applyCmd c =
      (let held := (List.range 8).foldl (fun n j => n + (tget [] (s.ctx c.tid).slots j).length) 0
       let t := s.modCtx c.tid fun q => { q with flags := 0, counts := [], slots := [] }
       (((t.wr DISP_MSUSE_INUSE (s.rd DISP_MSUSE_INUSE - held)).wr (DISP_CTXSTAT_CSAT c.tid) 0).touch c.tid, 0)) := by
  simp only [State.applyCmd, h, hst, ne_eq, not_true_eq_false, if_false]
  rfl

theorem State.applyCmd_post (h : c.op = 4) :
    s.applyCmd c = ({ s with disp := { s.disp with hostPosts := s.disp.hostPosts ++ [(c.tid, c.flag)] } }, 0) := by
  simp only [State.applyCmd, h]

/-- A command that is checked ends with 0, with 1 where the context's state refuses it, or with 2 (R126). -/
theorem State.applyCmd_code_le (s : State) (c : DispCmd) : (s.applyCmd c).2 ≤ 2 := by
  simp only [State.applyCmd]
  split
  · split
    · exact Nat.le_succ 1
    · split
      · exact Nat.le_refl 2
      · exact Nat.zero_le 2
  · split
    · exact Nat.zero_le 2
    · split
      · exact Nat.zero_le 2
      · split
        · exact Nat.zero_le 2
        · split <;> exact Nat.zero_le 2
  · split
    · exact Nat.le_succ 1
    · exact Nat.zero_le 2
  · exact Nat.zero_le 2
  · exact Nat.le_refl 2

/-- One command that waited is applied by the next step, which records its result and clears BUSY (R130 item 2). -/
theorem State.takeCmds_one (h : s.disp.cmds = [c]) :
    s.takeCmds = (let u := { s with disp := { s.disp with cmds := [] } }
      ((u.applyCmd c).1.cmdResult c.tid (u.applyCmd c).2).wr DISP_STATUS_BUSY 0) := by
  rw [State.takeCmds, h]
  rfl

end

/-! ## A write of DISP.CMD (R126, R343, R390) -/

/-- The write names a context, or for ARM a cluster, of another partition (R390). -/
abbrev State.barred (s : State) (q op t : Nat) : Prop :=
  q ≠ warden ∧ (s.partCtx t ≠ q ∨ (op = 1 ∧ s.partCluster (s.ctxF t 7 4) ≠ q))

/-- What a lead makes of a command that its check accepts: sent to the heel, and queued for the next downbeat, or for the
one after where it is written too late for it (R343). -/
def State.sentCmd (s : State) (c : DispCmd) : State :=
  if s.io.dbAt + 290000 < s.bc then
    ({ s with disp := { s.disp with lateCmds := s.disp.lateCmds ++ [c] } }).tell (.disp c (s.n + 1))
  else ({ s with disp := { s.disp with dbCmds := s.disp.dbCmds ++ [c] } }).tell (.disp c (s.n + 0))

section
variable {s : State} {q op fl t : Nat} {db : Bool}

theorem State.writeCmd_busy (h : s.on DISP_STATUS_BUSY = true) : s.writeCmd q op fl t db = none := if_pos h

variable (hb : s.on DISP_STATUS_BUSY = false)
include hb

theorem State.writeCmd_zero (h0 : t = 0) : s.writeCmd q op fl t db = some (s.cmdResult 0 3) := by
  rw [State.writeCmd, if_neg (Bool.eq_false_iff.1 hb), if_pos h0, h0]

variable (ht : t ≠ 0)
include ht

theorem State.writeCmd_barred (hq : s.barred q op t) : s.writeCmd q op fl t db = some (s.cmdResult t 4) := by
  rw [State.writeCmd, if_neg (Bool.eq_false_iff.1 hb), if_neg ht, if_pos (by simpa using hq)]

variable (hq : ¬ s.barred q op t) (h1 : 1 ≤ op) (h4 : op ≤ 4)
include hq h1 h4

/-- In a device that is no lead, a plain command waits for the next step. -/
theorem State.writeCmd_plain (hr : s.rd PAIR_STAT_ROLE ≠ 1) :
    s.writeCmd q op fl t false =
      some ({ s with disp := { s.disp with cmds := s.disp.cmds ++ [(⟨op, fl, t⟩ : DispCmd)] } }.wr DISP_STATUS_BUSY 1) := by
  rw [State.writeCmd, if_neg (Bool.eq_false_iff.1 hb), if_neg ht, if_neg (by simpa using hq), if_neg (by omega),
    if_neg (by simpa using hr)]

/-- In a device that is no lead, a command with DB is checked now, and queued where the check accepts it. -/
theorem State.writeCmd_downbeat (hr : s.rd PAIR_STAT_ROLE ≠ 1) :
    s.writeCmd q op fl t true =
      let c : DispCmd := ⟨op, fl, t⟩
      let code := (s.applyCmd c).2
      some ((if code = 0 then { s with disp := { s.disp with dbCmds := s.disp.dbCmds ++ [c] } } else s).cmdResult t code) := by
  have hr' : (s.rd PAIR_STAT_ROLE == 1) = false := by simpa using hr
  rw [State.writeCmd, if_neg (Bool.eq_false_iff.1 hb), if_neg ht, if_neg (by simpa using hq), if_neg (by omega),
    if_pos (Bool.true_or _)]
  have hrd : ∀ d, (State.rd { s with disp := d } PAIR_STAT_ROLE == 1) = false := fun _ => hr'
  by_cases hc : (s.applyCmd ⟨op, fl, t⟩).2 = 0
  · simp only [hc, hr', hrd, if_true, Bool.false_and, Bool.and_false, Bool.false_eq_true, if_false]
  · simp only [hc, if_false, decide_false, Bool.false_and, Bool.false_eq_true]

/-- A lead checks every command now, and sends and queues what the check accepts. -/
theorem State.writeCmd_lead (hr : s.rd PAIR_STAT_ROLE = 1) :
    s.writeCmd q op fl t db =
      let c : DispCmd := ⟨op, fl, t⟩
      let code := (s.applyCmd c).2
      some ((if code = 0 then s.sentCmd c else s).cmdResult t code) := by
  have hr' : (s.rd PAIR_STAT_ROLE == 1) = true := by simpa using hr
  rw [State.writeCmd, if_neg (Bool.eq_false_iff.1 hb), if_neg ht, if_neg (by simpa using hq), if_neg (by omega),
    if_pos (by rw [hr', Bool.or_true])]
  have hrd : ∀ d, (State.rd { s with disp := d } PAIR_STAT_ROLE == 1) = true := fun _ => hr'
  by_cases hc : (s.applyCmd ⟨op, fl, t⟩).2 = 0
  · by_cases hl : s.io.dbAt + 290000 < s.bc
    · simp only [State.sentCmd, hc, hr', hrd, hl, if_true, decide_true, Bool.and_self]
      rfl
    · simp only [State.sentCmd, hc, hr', hrd, hl, if_true, if_false, decide_true, decide_false, Bool.and_self, Bool.and_false,
        Bool.false_eq_true]
      rfl
  · simp only [hc, if_false, decide_false, Bool.false_and, Bool.false_eq_true]

end

theorem State.sentCmd_in_time {s : State} (h : s.bc ≤ s.io.dbAt + 290000) (c : DispCmd) :
    (s.sentCmd c).disp = { s.disp with dbCmds := s.disp.dbCmds ++ [c] } := by
  rw [State.sentCmd, if_neg (Nat.not_lt.2 h)]
  rfl

theorem State.sentCmd_late {s : State} (h : s.io.dbAt + 290000 < s.bc) (c : DispCmd) :
    (s.sentCmd c).disp = { s.disp with lateCmds := s.disp.lateCmds ++ [c] } := by
  rw [State.sentCmd, if_pos h]
  rfl

/-- A command that the lead queues for a downbeat does not wait for the next step. -/
theorem State.sentCmd_cmds (s : State) (c : DispCmd) : (s.sentCmd c).disp.cmds = s.disp.cmds := by
  rcases Nat.lt_or_ge (s.io.dbAt + 290000) s.bc with h | h
  · rw [State.sentCmd_late h]
  · rw [State.sentCmd_in_time h]

/-! ## CORECMD, SWEV and SLACKMAX.CLR (R141, R142, R144) -/

section
variable {s : State} {k : Nat}

theorem State.coreCmd_retire (hr : (s.core k).retired = false) (hn : (s.core k).retire = none) :
    s.coreCmd k 1 = (s.setCore k { s.core k with retire := some 0 }).wr DISP_CORECMD_PEND 1 := by
  simp [State.coreCmd, State.modCore, hr, hn, b2n]

theorem State.coreCmd_restore (hr : (s.core k).retired = true) :
    s.coreCmd k 2 = State.wr { s with disp := { s.disp with restores := s.disp.restores.filter (· ≠ k) ++ [k] } } DISP_CORECMD_PEND 1 := by
  simp [State.coreCmd, hr, b2n]

theorem State.hostReg_coreCmd {p : Port} {op : Nat} (hk : k < 256) (ho : op < 4)
    (h : s.writeOpen p row_DISP_CORECMD 0 (k + op * 256)) :
    s.hostReg p row_DISP_CORECMD 0 (k + op * 256) =
      s.written p row_DISP_CORECMD 0 (k + op * 256) ((s.wrRow row_DISP_CORECMD 0 (k + op * 256)).coreCmd k op) := by
  have h0 : bits (k + op * 256) 0 8 = k := by
    simp only [bits]
    omega
  have h8 : bits (k + op * 256) 8 2 = op := by
    simp only [bits]
    omega
  rw [State.hostReg_rule h (by decide) (regHooks_disp (by decide)), dispHook_coreCmd, h0, h8, Option.elim_some]

/-- The two commands of CORECMD, with their codes. -/
theorem exec_coreCmd {p : Port} {k : CoreId} {i : Instr} {w op : Nat}
    (h : (i, w, op) ∈ [(Instr.coreRetire p k, k.val + 256, 1), (.coreRestore p k, k.val + 512, 2)]) (s : State) :
    exec i s = .next (s.hostReg p row_DISP_CORECMD 0 w) ∧ w = k.val + op * 256 ∧ op < 4 := by
  simp only [List.mem_cons, Prod.mk.injEq, List.not_mem_nil, or_false] at h
  rcases h with ⟨rfl, rfl, rfl⟩ | ⟨rfl, rfl, rfl⟩
  · exact ⟨rfl, rfl, by decide⟩
  · exact ⟨rfl, rfl, by decide⟩

theorem exec_softwareEvent {p : Port} {x : Fin 128} (h : s.writeOpen p row_DISP_SWEV 0 x.val) :
    exec (.softwareEvent p x) s = .next (s.written p row_DISP_SWEV 0 x.val (s.fire (896 + x.val))) := by
  have hx : bits x.val 0 7 = x.val := by
    simp only [bits]
    omega
  have hr : exec (.softwareEvent p x) s = .next (s.hostReg p row_DISP_SWEV 0 x.val) := rfl
  rw [hr, State.hostReg_rule h (by decide) (regHooks_disp (by decide)), dispHook_swev, hx, Option.elim_some]

theorem exec_slackmaxClr {p : Port} (h : s.writeOpen p row_DISP_SLACKMAX 0 2147483648) :
    exec (.slackmaxClr p) s = .next (s.written p row_DISP_SLACKMAX 0 2147483648 (s.wr DISP_SLACKMAX_MAX 0)) := by
  have hr : exec (.slackmaxClr p) s = .next (s.hostReg p row_DISP_SLACKMAX 0 2147483648) := rfl
  rw [hr, State.hostReg_rule h (by decide) (regHooks_disp (by decide)), dispHook_slackmax, if_pos (by decide), Option.elim_some]

end

/-- Settles O34: what a write of DISP.CMD comes to, check by check, and what each command does, state by state. -/
theorem dispatcherCommands : Obligations.DispatcherCommands := by
  unfold Obligations.DispatcherCommands
  intro p t db flag k x s q role
  refine ⟨?write, fun c h => State.takeCmds_one h, ?apply, fun i w op hi h => ?core,
    fun hr hn => ?retire, fun hr => ?restore, exec_softwareEvent, exec_slackmaxClr⟩
  case write =>
    intro i op fl hi w c code barred h
    obtain ⟨he, h1, h4, hf⟩ := exec_dispCmd hi s
    rw [he, State.hostReg_dispCmd h4 hf t.isLt h]
    refine ⟨fun hb => ?_, fun hb => ⟨fun h0 => ?_, fun h0 hq => ?_, fun h0 hq => ⟨fun hdb hr => ?_, fun hdb hr => ?_, fun hr => ?_⟩⟩⟩
    · rw [State.writeCmd_busy hb, Option.elim_none]
    · rw [State.writeCmd_zero hb h0, Option.elim_some]
      rfl
    · rw [State.writeCmd_barred hb h0 hq, Option.elim_some]
      rfl
    · subst hdb
      rw [State.writeCmd_plain hb h0 hq h1 h4 hr, Option.elim_some]
      rfl
    · subst hdb
      rw [State.writeCmd_downbeat hb h0 hq h1 h4 hr]
      rfl
    · have hc : code < 8 := Nat.lt_of_le_of_lt (s.applyCmd_code_le c) (by decide)
      rw [State.writeCmd_lead hb h0 hq h1 h4 hr]
      refine ⟨_, rfl, State.rd_cmdResult_code _ _ hc, State.rd_cmdResult_tid _ _ t.isLt, ?_, fun hn => ?_, fun h0 ht => ?_, fun h0 ht => ?_⟩
      · rw [State.cmdResult_disp]
        split
        · exact s.sentCmd_cmds c
        · rfl
      · rw [State.cmdResult_disp, State.cmdResult_pair, if_neg hn]
        exact ⟨rfl, rfl⟩
      · rw [State.cmdResult_disp, if_pos h0, State.sentCmd_in_time ht]
        exact ⟨rfl, rfl⟩
      · rw [State.cmdResult_disp, if_pos h0, State.sentCmd_late ht]
        exact ⟨rfl, rfl⟩
  case apply =>
    intro c st
    refine ⟨fun ho hst => ?_, fun ho hst hbad => ?_, fun ho hst hbad => ?_, State.applyCmd_cancel_running, State.applyCmd_cancel_waiting,
      State.applyCmd_cancel_idle, State.applyCmd_cancel_listed, State.applyCmd_clear_armed, fun ho hst => ?_, State.applyCmd_post⟩
    · rw [State.applyCmd_arm ho, if_pos hst]
    · rw [State.applyCmd_arm ho, if_neg (not_not_intro hst), if_pos hbad]
    · rw [State.applyCmd_arm ho, if_neg (not_not_intro hst), if_neg (Bool.eq_false_iff.1 hbad)]
    · rw [State.applyCmd_clear ho hst]
      dsimp only
      rw [State.ctx_touch, State.ctx_wr, State.ctx_wr, State.ctx_modCtx_same, State.rd_touch, State.rd_wr_same]
      exact ⟨rfl, rfl, rfl, rfl, rfl⟩
  case core =>
    obtain ⟨he, rfl, ho⟩ := exec_coreCmd hi s
    rw [he, State.hostReg_coreCmd k.isLt ho h]
  case retire =>
    rw [State.coreCmd_retire hr hn, State.core_wr, State.core_setCore_same, State.rd_wr_same]
    exact ⟨rfl, rfl⟩
  case restore =>
    rw [State.coreCmd_restore hr, State.rd_wr_same]
    exact ⟨List.mem_append_right _ List.mem_cons_self, rfl⟩

end Sys2Proof.Machine
end

section
/-! PROOFS. The soft reset (R399), release from reset (R401), and the phases of boot (R401 to R405). -/
namespace Sys2Proof.Machine

/-! ## The soft reset -/

/-- A journal entry leaves what a whole-device reset keeps, so that the reset after it is the reset before it. -/
theorem State.wholeReset_journal (s : State) (a o n k p r cause : Nat) : (s.journal a o n k p r).wholeReset cause = s.wholeReset cause := by
  refine State.wholeReset_congr cause ?_ ?_ ?_ ?_ ?_ fun f hf => ?_
  · exact s.journal_rest State.pending State.wr_pending a o n k p r
  · exact s.journal_rest State.hostMem State.wr_hostMem a o n k p r
  · exact s.journal_rest State.fresh State.wr_fresh a o n k p r
  · exact s.journal_rest (·.board.held) (fun _ _ _ => rfl) a o n k p r
  · exact s.journal_rest (·.bell.pins) (fun _ _ _ => rfl) a o n k p r
  · have hap : ∀ f ∈ [SYS_RSTCAUSE_CAUSE, SYS_UIDL_UID, SYS_UIDH_UID, SYS_STRAP_BOOT, SYS_STRAP_WARDSEL, SYS_STRAP_SDOZ],
        f.no ≠ (WARD_JDATA_WORD 0).no ∧ f.no ≠ WARD_JPI_INDEX.no := by decide
    obtain ⟨h1, h2⟩ := hap f hf
    exact s.rd_journal_other a o n k p r f h1 h2

theorem State.wholeReset_lost (s : State) (v cause : Nat) : (s.incSat WARD_JSTAT_LOST v).wholeReset cause = s.wholeReset cause := by
  refine State.wholeReset_congr cause rfl rfl rfl rfl rfl fun f hf => ?_
  have hap : ∀ f ∈ [SYS_RSTCAUSE_CAUSE, SYS_UIDL_UID, SYS_UIDH_UID, SYS_STRAP_BOOT, SYS_STRAP_WARDSEL, SYS_STRAP_SDOZ],
      f.no ≠ WARD_JSTAT_LOST.no := by decide
  exact s.rd_incSat_other _ f v (.inl (hap f hf))

/-- RSTCTL itself changes nothing: the reset follows its write. -/
theorem regHooks_rstctl (s : State) (w : Who) (i v : Nat) (t : State) : regHooks s w row_SYS_RSTCTL i v t = (s, true) := by
  rw [regHooks_sys (by decide)]
  rfl

/-- A write of RSTCTL that passes the checks, after which the reset finds the state as it was but for the journal. -/
theorem State.writeRow_rstctl {s : State} {p : Port} {v : Nat} (h : s.writeOpen p row_SYS_RSTCTL 0 v) :
    ∃ t, s.writeRow regHooks (s.whoOf p) row_SYS_RSTCTL 0 v = (t, true) ∧ ∀ cause, t.wholeReset cause = s.wholeReset cause := by
  obtain ⟨-, -, hm, hw⟩ := h
  refine ⟨_, State.writeRow_open hm hw (regHooks_rstctl ..), fun cause => ?_⟩
  split
  · split
    · exact s.wholeReset_lost 1 cause
    · exact s.wholeReset_journal ..
  · rfl

/-- An accepted write of RSTCTL with its key and GO resets the whole device, with cause 2. -/
theorem State.regWrite_reset {s : State} {p : Port} (h : s.writeOpen p row_SYS_RSTCTL 0 (0x7680 + 2147483648)) :
    s.regWrite (s.whoOf p) row_SYS_RSTCTL 0 (0x7680 + 2147483648) = (s.wholeReset 2, true) := by
  obtain ⟨t, ht, hreset⟩ := State.writeRow_rstctl h
  have hboot : ((s.whoOf p).host && !s.on SYS_BOOTSTAT_DONE) = false := by
    cases hh : (s.whoOf p).host
    · rfl
    · rw [h.1 hh]
      rfl
  have hrwe : (s.changesRwe row_SYS_RSTCTL 0 (0x7680 + 2147483648) || row_SYS_RSTCTL.addr == 0x0A010008) = false := rfl
  have hany : ((row_SYS_RSTCTL.flds 0).any fun q => q.2.2 == .rwe) = false := rfl
  have hkey : row_SYS_RSTCTL.addr = 0x0A000018 ∧ bits (0x7680 + 2147483648) 0 16 = 0x7680
    ∧ bit (0x7680 + 2147483648) 31 = true := by decide
  rw [State.regWrite, hboot, if_neg Bool.false_ne_true, hrwe, Bool.and_false, if_neg Bool.false_ne_true, ht]
  dsimp only
  rw [if_pos hkey, hany, Bool.and_false, if_neg Bool.false_ne_true, hreset]
  rfl

theorem exec_softReset {s : State} {p : Port} (h : s.writeOpen p row_SYS_RSTCTL 0 (0x7680 + 2147483648)) :
    exec (.softReset p) s = .next ((s.wholeReset 2).answerW true) := by
  have hr : exec (.softReset p) s = .next (s.hostReg p row_SYS_RSTCTL 0 (0x7680 + 2147483648)) := rfl
  rw [hr, State.hostReg, State.regWrite_reset h]
  dsimp only
  rw [Bool.not_true, Bool.and_false, if_neg Bool.false_ne_true]

/-! ## Release -/

theorem exec_resetRelease {s : State} (h : s.board.held = true) (boot : Fin 4) (w z : Bool) :
    exec (.resetRelease boot w z) s = .next
      (let t := (List.range 256).foldl (fun (t : State) k => if k % 16 < 14 then t.inService k true else t.wr (CORECTL_CSTAT_STATE k) 1)
          (s.modBoard fun q => { q with held := false })
       let t := if t.rd SYS_RSTCAUSE_CAUSE = 4 then t
         else ((t.wr SYS_STRAP_BOOT boot.val).wr SYS_STRAP_WARDSEL (b2n w)).wr SYS_STRAP_SDOZ (b2n z)
       let t := if t.on SYS_STRAP_SDOZ then (List.range 64).foldl (fun (t : State) x => t.wr (SPORT_CFG_TXZ x) 1) t else t
       { t with bc := 0 }.refsStart) := by
  have hr : exec (.resetRelease boot w z) s = .next (s.releaseReset boot.val w z) := rfl
  rw [hr, State.releaseReset, if_neg (by rw [h]; decide)]
  rfl

/-! ## Phases of boot -/

/-- A phase ends: the next one begins, and the line of the one that ended goes out (R401, R417). -/
def State.phaseEnds (s : State) : State := (s.modBoard fun q => { q with phase := q.phase + 1 }).phaseLine (s.board.phase + 1)

/-- DIRB where the second directory is the one in use (R402). -/
def State.dirUsed (s : State) (dir : Option (List Nat × Bool)) : State :=
  match dir with | some (_, true) => s.wr SYS_BOOTSTAT_DIRB 1 | _ => s

section
variable {s : State} {key : List Nat} {fl : List (Nat × List Nat)} (hh : s.board.held = false)
include hh

theorem State.bootPhase_fuses (hp : s.board.phase = 0) :
    s.bootPhase key fl =
      (let k := (key ++ List.replicate 32 0).take 32
       ((s.modBoard fun q => { q with key := k }).wr SYS_BOOTSTAT_NOKEY (b2n (k.all (· == 0)))).phaseEnds) := by
  simp only [State.bootPhase, hh, hp, Bool.false_eq_true, if_false]
  rfl

theorem State.bootPhase_memory (hp : s.board.phase = 1) :
    s.bootPhase key fl = State.phaseEnds { s with mem := [], poison := [] } := by
  simp only [State.bootPhase, State.phaseEnds, hh, hp, Bool.false_eq_true, if_false]

theorem State.bootPhase_slots (hp : s.board.phase = 2) (hx : ∀ x < 32, s.rd (MODID_SSTAT_STATE x) ≠ 2) :
    s.bootPhase key fl = s.phaseEnds := by
  have h : ¬ ((List.range 32).any fun x => s.rd (MODID_SSTAT_STATE x) == slReading) = true := by
    simpa [slReading] using hx
  simp only [State.bootPhase, State.phaseEnds, hh, hp, h, Bool.false_eq_true, if_false]

theorem State.bootPhase_safety_strap (hp : s.board.phase = 3) (hs : 2 ≤ s.rd SYS_STRAP_BOOT) :
    s.bootPhase key fl = (s.wr SYS_BOOTSTAT_SAFETY imStrap).phaseEnds := by
  simp only [State.bootPhase, hh, hp, hs, Bool.false_eq_true, if_false, if_true]
  rfl

theorem State.bootPhase_safety_blank (hp : s.board.phase = 3) (hs : s.rd SYS_STRAP_BOOT < 2) (hd : dirOf fl = none) :
    s.bootPhase key fl = (s.wr SYS_BOOTSTAT_SAFETY imFlash).phaseEnds := by
  simp only [State.bootPhase, hh, hp, Nat.not_le.2 hs, hd, Bool.false_eq_true, if_false]
  rfl

theorem State.bootPhase_safety_image (hp : s.board.phase = 3) (hs : s.rd SYS_STRAP_BOOT < 2) {d l : List Nat} {b : Bool}
    {code slot n : Nat} (hd : dirOf fl = some (d, b)) (hc : chooseImage fl s.board.key d 0 = (code, slot, n, l)) :
    s.bootPhase key fl =
      (let t := ((s.dirUsed (dirOf fl)).wr SYS_BOOTSTAT_SAFETY code).wr SYS_BOOTSTAT_SSLOT slot
       (if code = imApplied then t.applySafety (imageWords n 0 l) else t).phaseEnds) := by
  simp only [State.bootPhase, hh, hp, Nat.not_le.2 hs, hd, hc, Bool.false_eq_true, if_false]
  rfl

theorem State.bootPhase_config_strap (hp : s.board.phase = 4) (hs : s.rd SYS_STRAP_BOOT ≠ 0) :
    s.bootPhase key fl = (s.wr SYS_BOOTSTAT_CONFIG imStrap).phaseEnds := by
  simp only [State.bootPhase, hh, hp, ne_eq, hs, not_false_eq_true, Bool.false_eq_true, if_false, if_true]
  rfl

theorem State.bootPhase_config_blank (hp : s.board.phase = 4) (hs : s.rd SYS_STRAP_BOOT = 0) (hd : dirOf fl = none) :
    s.bootPhase key fl = (s.wr SYS_BOOTSTAT_CONFIG imFlash).phaseEnds := by
  simp only [State.bootPhase, hh, hp, hs, hd, ne_eq, not_true_eq_false, Bool.false_eq_true, if_false]
  rfl

theorem State.bootPhase_config_image (hp : s.board.phase = 4) (hs : s.rd SYS_STRAP_BOOT = 0) {d l : List Nat} {b : Bool}
    {code slot n : Nat} (hd : dirOf fl = some (d, b)) (hc : chooseImage fl s.board.key d 1 = (code, slot, n, l)) :
    s.bootPhase key fl =
      (let t := ((s.dirUsed (dirOf fl)).wr SYS_BOOTSTAT_CONFIG code).wr SYS_BOOTSTAT_CSLOT slot
       (if code = imApplied then t.applyConfig (imageWords n 0 l) else t).phaseEnds) := by
  simp only [State.bootPhase, hh, hp, hs, hd, hc, ne_eq, not_true_eq_false, Bool.false_eq_true, if_false]
  rfl

theorem State.bootPhase_done (hp : s.board.phase = 5) :
    s.bootPhase key fl = ((s.wr OVR_STAT_IMGDONE 1).wr SYS_BOOTSTAT_DONE 1).phaseEnds := by
  simp only [State.bootPhase, hh, hp, Bool.false_eq_true, if_false]
  rfl

end

theorem exec_bootPhaseEnd (key : List Byte) (flash : List (Nat × List Byte)) (s : State) :
    exec (.bootPhaseEnd key flash) s =
      .next (s.bootPhase (key.map BitVec.toNat) (flash.map fun q => (q.1, q.2.map BitVec.toNat))) := rfl

/-- Settles O58: the reset after the write's journal entry, the release step by step, the phases one by one. -/
theorem resetReleaseAndBoot : Obligations.ResetReleaseAndBoot := by
  unfold Obligations.ResetReleaseAndBoot
  intro p boot w z key flash s fl kb next dirB end_
  refine ⟨exec_softReset, fun h => exec_resetRelease h boot w z, fun hh => ?_⟩
  have he : exec end_ s = .next (s.bootPhase (key.map BitVec.toNat) fl) := exec_bootPhaseEnd key flash s
  rw [he]
  exact ⟨fun hp => congrArg _ (State.bootPhase_fuses hh hp), fun hp => congrArg _ (State.bootPhase_memory hh hp),
    fun hp hx => congrArg _ (State.bootPhase_slots hh hp hx),
    fun hp hs => congrArg _ (State.bootPhase_safety_strap hh hp hs),
    fun hp hs hd => congrArg _ (State.bootPhase_safety_blank hh hp hs hd),
    fun d b code slot n l hp hs hd hc => congrArg _ (State.bootPhase_safety_image hh hp hs hd hc),
    fun hp hs => congrArg _ (State.bootPhase_config_strap hh hp hs),
    fun hp hs hd => congrArg _ (State.bootPhase_config_blank hh hp hs hd),
    fun d b code slot n l hp hs hd hc => congrArg _ (State.bootPhase_config_image hh hp hs hd hc),
    fun hp => congrArg _ (State.bootPhase_done hh hp)⟩

end Sys2Proof.Machine
end

section
/-! PROOFS. Memory tests (R160 to R163) and the retirement of global banks (R164, R165). -/
namespace Sys2Proof.Machine

/-! ## Commands of the test engines -/

section
variable {s : State} (h : s.board.held = false) (e : Fin 19)
include h

theorem exec_memtRegionStart : exec (.memtRegionStart e) s = .next (s.memtStart e.val) :=
  congrArg Host.Outcome.next (State.live_on h _)

theorem exec_memtSaveEnd : exec (.memtSaveEnd e) s = .next (s.memtSaved e.val) :=
  congrArg Host.Outcome.next (State.live_on h _)

theorem exec_memtTestEnd (fs : List (Fin 4 × Fin 8 × Bool)) :
    exec (.memtTestEnd e fs) s = .next (s.memtTested e.val (fs.map fun q => ⟨q.1.val, q.2.1.val, q.2.2⟩)) :=
  congrArg Host.Outcome.next (State.live_on h _)

theorem exec_memtRestoreEnd : exec (.memtRestoreEnd e) s = .next (s.memtRestored e.val) :=
  congrArg Host.Outcome.next (State.live_on h _)

theorem exec_bankCopyDone : exec .bankCopyDone s = .next s.bankCopied := congrArg Host.Outcome.next (State.live_on h _)

end

/-! ## The phases of an engine (R160 to R163) -/

/-- An engine takes up the region it stands at: it saves it, or skips it (R161, R162). -/
def State.memtTakeUp (s : State) (e : Nat) : State :=
  s.wr (MEMT_EPOS_PHASE e) (if s.memtSkips e (memtPlace e (s.rd (MEMT_EPOS_REGION e))).1 then 5 else 1)

/-- The state after SAVE has read every word of an engine's region (R161). -/
def State.memtRead (s : State) (e : Nat) : State := (s.memtWords e).foldl (fun s a => s.readWord (a / 8) a 23 0) s

/-- A repair waits for the downbeat, and its engine with it (R163). -/
def State.repairDue (s : State) (e : Nat) (r : Repair) : State :=
  { s with memt := { s.memt with repairs := tput none s.memt.repairs e (some r) } }.wr (MEMT_EPOS_PHASE e) 4

section
variable {s : State} {e : Nat}

theorem State.memtStart_disabled (h : s.on MEMT_CTRL_EN = false) : s.memtStart e = s := by
  simp [State.memtStart, h]

theorem State.memtStart_waiting (h : s.on MEMT_CTRL_EN = true) (hp : s.rd (MEMT_EPOS_PHASE e) = 0) :
    s.memtStart e = s.memtTakeUp e := by
  simp only [State.memtStart, h, hp, State.memtTakeUp, apply_ite (s.wr (MEMT_EPOS_PHASE e))]
  rfl

theorem State.memtStart_skipped (h : s.on MEMT_CTRL_EN = true) (hp : s.rd (MEMT_EPOS_PHASE e) = 5) :
    s.memtStart e = (s.memtNext e).memtTakeUp e := by
  simp only [State.memtStart, h, hp, State.memtTakeUp, apply_ite ((s.memtNext e).wr (MEMT_EPOS_PHASE e))]
  rfl

theorem State.memtSaved_sound (hp : s.rd (MEMT_EPOS_PHASE e) = 1) (h : ∀ a ∈ s.memtWords e, a / 8 ∉ (s.memtRead e).poison) :
    s.memtSaved e = (s.memtRead e).wr (MEMT_EPOS_PHASE e) 2 := by
  have hw : ((s.memtWords e).any fun a => (s.memtRead e).poison.contains (a / 8)) = false := by simpa using h
  rw [State.memtSaved, if_neg (not_not_intro hp)]
  exact congrArg ((s.memtRead e).wr (MEMT_EPOS_PHASE e)) (if_neg (Bool.eq_false_iff.1 hw))

theorem State.memtSaved_poisoned (hp : s.rd (MEMT_EPOS_PHASE e) = 1) (h : ∃ a ∈ s.memtWords e, a / 8 ∈ (s.memtRead e).poison) :
    s.memtSaved e = (s.memtRead e).wr (MEMT_EPOS_PHASE e) 3 := by
  have hw : ((s.memtWords e).any fun a => (s.memtRead e).poison.contains (a / 8)) = true := by simpa using h
  rw [State.memtSaved, if_neg (not_not_intro hp)]
  exact congrArg ((s.memtRead e).wr (MEMT_EPOS_PHASE e)) (if_pos hw)

/-- Reading a word without an error changes nothing (R356, R363). -/
theorem State.readWord_sound (hf : s.integ.flips = []) (hs : s.integ.stuck = []) {w : Nat} (hw : w ∉ s.poison) (a master qos : Nat) :
    s.readWord w a master qos = s := by
  simp [State.readWord, hf, hs, hw]

theorem foldl_fixed_of_mem {α β : Type} {f : β → α → β} {x : β} {l : List α} (h : ∀ a ∈ l, f x a = x) : l.foldl f x = x := by
  induction l with
  | nil => rfl
  | cons a l ih => rw [List.foldl_cons, h a List.mem_cons_self, ih fun b hb => h b (List.mem_cons_of_mem a hb)]

theorem State.memtRead_sound (hf : s.integ.flips = []) (hs : s.integ.stuck = []) (hw : ∀ a ∈ s.memtWords e, a / 8 ∉ s.poison) :
    s.memtRead e = s :=
  foldl_fixed_of_mem fun a ha => State.readWord_sound hf hs (hw a ha) a 23 0

section
variable (hp : s.rd (MEMT_EPOS_PHASE e) = 2) (hi : s.integ.inj = none)
include hp hi

/-- TEST without a failing bit, and without an injection, leads to RESTORE (R161). -/
theorem State.memtTested_sound :
    s.memtTested e [] = (s.incSat (MEMT_MACSTAT_FAILROWS (memtPlace e (s.rd (MEMT_EPOS_REGION e))).1) 0).wr (MEMT_EPOS_PHASE e) 3 := by
  rw [State.memtTested, if_neg (not_not_intro hp)]
  simp only [hi]
  rfl

/-- Failing bits, without an injection: the repair that the plan gives waits, or no spare is left (R163). -/
theorem State.memtTested_failing {fs : List TestFail} (hf : fs ≠ []) {plan : Option (Option Nat × List Nat)}
    (hpl : planRepair (s.rd (MEMT_MACSTAT_ROWSLEFT (memtPlace e (s.rd (MEMT_EPOS_REGION e))).1))
      (s.on (MEMT_MACSTAT_COLUSED (memtPlace e (s.rd (MEMT_EPOS_REGION e))).1)) fs = plan) :
    s.memtTested e fs =
      (let m := (memtPlace e (s.rd (MEMT_EPOS_REGION e))).1
       let row := (memtPlace e (s.rd (MEMT_EPOS_REGION e))).2
       let t := s.incSat (MEMT_MACSTAT_FAILROWS m) ((fs.map (·.row)).eraseDups.length)
       plan.elim (t.spareless e m row fs false)
         fun q => (t.beginHandling uMacro m).repairDue e ⟨m, q.1, q.2.map (row + ·), []⟩) := by
  have he : fs.isEmpty = false := by simpa using hf
  rw [State.memtTested, if_neg (not_not_intro hp)]
  simp only [hi, Bool.false_and, Option.isNone_some, Bool.false_eq_true, if_false, he, List.foldl_nil, hpl]
  cases plan <;> rfl

end

theorem State.memtRestored_next (hp : s.rd (MEMT_EPOS_PHASE e) = 3) (hr : s.rd (MEMT_EPOS_REGION e) + 1 ≠ memtRegions e) :
    s.memtRestored e = (s.wr (MEMT_EPOS_PHASE e) 0).wr (MEMT_EPOS_REGION e) (s.rd (MEMT_EPOS_REGION e) + 1) := by
  rw [State.memtRestored, if_pos hp]
  exact if_neg hr

theorem State.memtRestored_last (hp : s.rd (MEMT_EPOS_PHASE e) = 3) (hr : s.rd (MEMT_EPOS_REGION e) + 1 = memtRegions e) :
    s.memtRestored e = ((s.wr (MEMT_EPOS_PHASE e) 0).wr (MEMT_EPOS_REGION e) 0).inc (MEMT_EPASS_PASSES e) 1 := by
  rw [State.memtRestored, if_pos hp]
  exact if_pos hr

end

/-! ## Retirement of a global bank (R164, R165) -/

section
variable {s : State} {q : BankReq}

theorem State.retireBank_underway (h : (s.memt.copy.any (·.1 == q.bank) || s.memt.queue.any (·.bank == q.bank)) = true) :
    s.retireBank q = s := if_pos h

section
variable (h : ¬ (s.memt.copy.any (·.1 == q.bank) || s.memt.queue.any (·.bank == q.bank)) = true)
include h

theorem State.retireBank_waits (hc : s.memt.copy.isSome = true) :
    s.retireBank q = { s with memt := { s.memt with queue := s.memt.queue ++ [q] } } := by
  rw [State.retireBank, if_neg h, if_pos hc]

theorem State.retireBank_copies (hc : s.memt.copy = none) {x : Nat} (hx : s.spareBank = some x) :
    s.retireBank q =
      (State.wr { s with memt := { s.memt with copy := some (q.bank, x) } } MEMT_BANKMAP_COPY 1).beginHandling uBank q.bank := by
  rw [State.retireBank, if_neg h, if_neg (by simp [hc]), hx]

theorem State.retireBank_noSpare (hc : s.memt.copy = none) (hx : s.spareBank = none) : s.retireBank q = s.noSpare q := by
  rw [State.retireBank, if_neg h, if_neg (by simp [hc]), hx]

end

/-- A bank that the warden alone retires, and that finds no spare: NOSPARE is set and GO reads 0 again (R164, R172). -/
theorem State.noSpare_asked {b : Nat} (hg : s.memt.go = some b) (hw : s.memt.waitBank ≠ some b) :
    s.noSpare ⟨b, none⟩ =
      State.wr { s.wr MEMT_BANKMAP_NOSPARE 1 with memt := { s.memt with go := none } } MEMT_BRETIRE_GO 0 := by
  simp only [State.noSpare, State.wr_memt, hg, if_true, hw, if_false]

theorem State.spareBank_first (h : s.rd MEMT_BANKMAP_SPARE32 = 0x3F)
    (hw : ∀ j < 8, s.on (MEMT_MACSTAT_EXHAUSTED (1152 + 8 * 32 + j)) = false) : s.spareBank = some 32 := by
  refine if_pos ?_
  simpa [h] using hw

theorem State.spareBank_used (h32 : s.rd MEMT_BANKMAP_SPARE32 ≠ 0x3F) (h33 : s.rd MEMT_BANKMAP_SPARE33 ≠ 0x3F) :
    s.spareBank = none := by
  simp [State.spareBank, h32, h33]

end

/-! ## A write of BRETIRE.GO (R164, R172) -/

theorem regHooks_memt {r : RegRow} (h : blockOf r.addr = 0x03) (s : State) (w : Who) (i v : Nat) (t : State) :
    regHooks s w r i v t = memtHook.full s w r i v t := by simp only [regHooks, h]

/-- GO 1 retires the bank that the write names. -/
theorem memtHook_bretire_go {v : Nat} (h : bit v 31 = true) (s : State) (w : Who) (i : Nat) (t : State) :
    memtHook s w row_MEMT_BRETIRE i v t =
      some (State.retireBank { t with memt := { t.memt with go := some (bits v 0 5) } } ⟨bits v 0 5, none⟩) := by
  simp [memtHook, row_MEMT_BRETIRE, h]

theorem bit_withBits_one (v : Word) (i : Nat) : bit (withBits v i 1 1) i = true := by simp [bit]

/-- The state in which a bank begins to retire at a write of BRETIRE: the fields written, and the bank that GO shows. -/
def State.bretireAsked (s : State) (v : Nat) : State :=
  { s.wrRow row_MEMT_BRETIRE 0 v with memt := { (s.wrRow row_MEMT_BRETIRE 0 v).memt with go := some (bits v 0 5) } }

theorem exec_bankRetireGo {s t : State} {p : Port} {v : Word} (h : s.writeOpen p row_MEMT_BRETIRE 0 (withBits v 31 1 1))
    (ht : (s.bretireAsked (withBits v 31 1 1)).retireBank ⟨bits (withBits v 31 1 1) 0 5, none⟩ = t) :
    exec (.bankRetireGo p v) s = .next (s.written p row_MEMT_BRETIRE 0 (withBits v 31 1 1) t) := by
  have hr : exec (.bankRetireGo p v) s = .next (s.hostReg p row_MEMT_BRETIRE 0 (withBits v 31 1 1)) := rfl
  rw [hr, State.hostReg_rule h (by decide) (regHooks_memt (by decide)), memtHook_bretire_go (bit_withBits_one v 31),
    Option.elim_some, ← ht]
  rfl

end Sys2Proof.Machine
end

section
/-! PROOFS. Injections (R372, R373) and FATCLR (R370, R375). -/
namespace Sys2Proof.Machine

/-! ## An injection that the warden arms (R372, R373) -/

/-- The injection registers at the start of an injection: nothing is done yet, and there is no result. -/
def State.injBegun (s : State) : State := (s.wr INTG_INJSTAT_DONE 0).wr INTG_INJSTAT_RESULT 0

/-- The target of the injection in the registers is one that its check allows (R372), and outside the alarm path while a
plan is active (R373). -/
abbrev State.injLawful (s : State) : Prop :=
  let ty := s.rd INTG_INJTGT_UTYPE
  let u := s.rd INTG_INJTGT_UINST
  (injTypes (s.rd INTG_INJCTRL_CHECK)).contains ty = true ∧ u < unitCount ty
    ∧ ¬ (s.injBegun.anyPlan = true ∧ s.injBegun.unitPart ty u = 0)

/-- The target of the injection in the registers is not in service (R373). -/
abbrev State.injAbsent (s : State) : Prop :=
  s.injBegun.injAway (s.rd INTG_INJCTRL_CHECK) (s.rd INTG_INJTGT_UTYPE) (s.rd INTG_INJTGT_UINST) (s.rd INTG_INJADDR_OFFS) = true

/-- The injection in the registers, armed (R372). -/
def State.injArmed (s : State) : State :=
  { s.injBegun with integ := { s.injBegun.integ with inj := some ⟨s.rd INTG_INJCTRL_CHECK, s.rd INTG_INJTGT_UTYPE,
      s.rd INTG_INJTGT_UINST, s.rd INTG_INJARG_ARG, s.rd INTG_INJADDR_OFFS, s.rd INTG_INJCTRL_COUNT⟩ } }.wr INTG_INJCTRL_BUSY 1

/-- The device address, as state `t` maps it, of the word whose bits the injection in the registers of `s` inverts (R372). -/
def State.injByte (s t : State) : Option Nat :=
  if s.rd INTG_INJTGT_UTYPE = uDram then t.dramByte (s.rd INTG_INJTGT_UINST) (s.rd INTG_INJADDR_OFFS)
  else t.macroByte (s.rd INTG_INJTGT_UINST) (s.rd INTG_INJADDR_OFFS)

/-- `n` bits of the word at an address are inverted; an injection that finds no bit or no word has done its count (R372). -/
def State.invertBits (s : State) (at_ : Option Nat) (n count : Nat) : State :=
  match at_, n with
  | some a, n + 1 => { s with integ := { s.integ with flips := (a / 8, n + 1) :: s.integ.flips.filter fun f => f.1 ≠ a / 8 } }
  | _, _ => State.injEnd { s with integ := { s.integ with inj := none } } 1 count

theorem State.invertBits_some (s : State) (a n count : Nat) :
    s.invertBits (some a) (n + 1) count =
      { s with integ := { s.integ with flips := (a / 8, n + 1) :: s.integ.flips.filter fun f => f.1 ≠ a / 8 } } := rfl

theorem State.invertBits_zero (s : State) (at_ : Option Nat) (count : Nat) :
    s.invertBits at_ 0 count = State.injEnd { s with integ := { s.integ with inj := none } } 1 count := by
  cases at_ <;> rfl

section
variable {s : State}

theorem State.injGo_unlawful (h : ¬ s.injLawful) : s.injGo = s.injBegun.injEnd 2 0 := by
  rw [State.injGo]
  by_cases ht : (injTypes (s.rd INTG_INJCTRL_CHECK)).contains (s.rd INTG_INJTGT_UTYPE) = true
      ∧ s.rd INTG_INJTGT_UINST < unitCount (s.rd INTG_INJTGT_UTYPE)
  · have hp : s.injBegun.anyPlan = true ∧ s.injBegun.unitPart (s.rd INTG_INJTGT_UTYPE) (s.rd INTG_INJTGT_UINST) = 0 :=
      Classical.byContradiction fun hn => h ⟨ht.1, ht.2, hn⟩
    rw [if_neg (by simpa using ht)]
    exact if_pos (by simpa [State.injBegun] using hp)
  · rcases Decidable.not_and_iff_or_not.1 ht with hc | hu
    · exact if_pos (by rw [Bool.eq_false_iff.2 hc]; rfl)
    · exact if_pos (by rw [decide_eq_true (Nat.not_lt.1 hu), Bool.or_true])

/-- A lawful injection: its target is away, or it is armed, and one of check 1 inverts its bits. -/
theorem State.injGo_lawful (h : s.injLawful) :
    s.injGo = if s.injAbsent then s.injBegun.injEnd 3 0
      else if s.rd INTG_INJCTRL_CHECK = 1 then
        s.injArmed.invertBits (s.injByte s.injArmed) (injBits (s.rd INTG_INJARG_ARG)) (s.rd INTG_INJCTRL_COUNT)
      else s.injArmed := by
  obtain ⟨ht, hu, hp⟩ := h
  rw [State.injGo, if_neg (by simpa using And.intro ht hu)]
  refine (if_neg (by simpa [State.injBegun] using hp)).trans ?_
  rfl

/-- Arming changes no register but BUSY. -/
theorem State.rd_injArmed (f : Fld) (h : f.no ≠ INTG_INJCTRL_BUSY.no) : s.injArmed.rd f = s.injBegun.rd f :=
  State.rd_wr_other _ _ f 1 (.inl h)

theorem State.injArmed_busy (s : State) : s.injArmed.on INTG_INJCTRL_BUSY = true := State.on_wr_same _ _ _

theorem State.flips_injArmed (s : State) : s.injArmed.integ.flips = s.integ.flips := rfl

theorem State.dramByte_injArmed (d off : Nat) : s.injArmed.dramByte d off = s.injBegun.dramByte d off := by
  have hd : ∀ x, s.injArmed.rd (DRAMC_CFG_DENS x) = s.injBegun.rd (DRAMC_CFG_DENS x) :=
    fun x => State.rd_injArmed _ (by simp [DRAMC_CFG_DENS, INTG_INJCTRL_BUSY])
  have hp : ∀ x, s.injArmed.dramPop x = s.injBegun.dramPop x := fun x => congrArg (· != 3) (hd x)
  have hu : s.injArmed.dramU d = s.injBegun.dramU d := by rw [State.dramU, State.dramU, hd]
  rw [State.dramByte, State.dramByte, hp d, hp 0, hp 1, hu]

theorem State.macroByte_injArmed (id off : Nat) : s.injArmed.macroByte id off = s.injBegun.macroByte id off := by
  simp only [State.macroByte, State.servingBank, State.rd_injArmed MEMT_BANKMAP_SPARE32 (by decide),
    State.rd_injArmed MEMT_BANKMAP_SPARE33 (by decide)]

/-- Arming moves no byte: the word that is inverted is found before as after. -/
theorem State.injByte_injArmed : s.injByte s.injArmed = s.injByte s.injBegun := by
  rw [State.injByte, State.injByte, State.dramByte_injArmed, State.macroByte_injArmed]

section
variable (h : s.injLawful)
include h

theorem State.injGo_absent (ha : s.injAbsent) : s.injGo = s.injBegun.injEnd 3 0 := by
  rw [State.injGo_lawful h, if_pos ha]

theorem State.injGo_armed (ha : ¬ s.injAbsent) (hc : s.rd INTG_INJCTRL_CHECK ≠ 1) : s.injGo = s.injArmed := by
  rw [State.injGo_lawful h, if_neg ha, if_neg hc]

theorem State.injGo_inverts (ha : ¬ s.injAbsent) (hc : s.rd INTG_INJCTRL_CHECK = 1) {a n : Nat} (hb : s.injByte s.injBegun = some a)
    (hn : injBits (s.rd INTG_INJARG_ARG) = n + 1) :
    s.injGo = { s.injArmed with integ := { s.injArmed.integ with
      flips := (a / 8, n + 1) :: s.injArmed.integ.flips.filter fun f => f.1 ≠ a / 8 } } := by
  rw [State.injGo_lawful h, if_neg ha, if_pos hc, State.injByte_injArmed, hb, hn, State.invertBits_some]

theorem State.injGo_inverts_none (ha : ¬ s.injAbsent) (hc : s.rd INTG_INJCTRL_CHECK = 1)
    (hn : injBits (s.rd INTG_INJARG_ARG) = 0) :
    s.injGo = State.injEnd { s.injArmed with integ := { s.injArmed.integ with inj := none } } 1 (s.rd INTG_INJCTRL_COUNT) := by
  rw [State.injGo_lawful h, if_neg ha, if_pos hc, hn, State.invertBits_zero]

end

theorem State.injEnd_integ (s : State) (res done : Nat) : (s.injEnd res done).integ = s.integ := rfl

/-- An injection that ends at once leaves BUSY 0 and its result. -/
theorem State.injEnd_status (res done : Nat) (h : res < 4) :
    (s.injEnd res done).on INTG_INJCTRL_BUSY = false ∧ (s.injEnd res done).rd INTG_INJSTAT_RESULT = res := by
  rw [State.injEnd, State.on_wr_other _ _ _ _ (.inl (by decide)), State.on_wr_other _ _ _ _ (.inl (by decide)), State.on_wr_same,
    State.rd_wr_other _ _ _ _ (.inl (by decide)), State.rd_wr_same]
  exact ⟨rfl, Nat.mod_eq_of_lt h⟩

end

/-! ## Writes of INJCTRL and FATCLR (R372, R375, R440) -/

theorem regHooks_intg {r : RegRow} (h : blockOf r.addr = 0x15) (s : State) (w : Who) (i v : Nat) (t : State) :
    regHooks s w r i v t = intgHook.full s w r i v t := by simp only [regHooks, h]

section
variable {s : State} {w : Who} {v : Nat} {t : State}

theorem intgHook_injctrl_busy (hb : s.on INTG_INJCTRL_BUSY = true) (hc : s.changesRww row_INTG_INJCTRL 0 v = true) :
    intgHook s w row_INTG_INJCTRL 0 v t = none := by
  have hany : ((row_INTG_INJCTRL.flds 0).any fun q => q.2.2 != .ro && bits v q.1 q.2.1.w != s.rd q.2.1) = true := by
    simpa [State.changesRww, RegRow.fixed, State.rwwNow, row_INTG_INJCTRL, INTG_INJCTRL_GO, INTG_INJCTRL_CHECK, INTG_INJCTRL_COUNT,
      INTG_INJCTRL_BUSY, CORECTL_CCTRL_HOLD] using hc
  simp only [intgHook, hb, hany]
  rfl

theorem intgHook_injctrl_no_count (hb : s.on INTG_INJCTRL_BUSY = false) (hc : bits v 8 8 = 0) :
    intgHook s w row_INTG_INJCTRL 0 v t = none := by
  simp only [intgHook, hb, hc]
  rfl

/-- GO of the warden starts the injection. -/
theorem intgHook_injctrl_go (hb : s.on INTG_INJCTRL_BUSY = false) (hc : bits v 8 8 ≠ 0) (hg : bit v 0 = true) (hw : w.q = warden) :
    intgHook s w row_INTG_INJCTRL 0 v t = some t.injGo := by
  simp [intgHook, row_INTG_INJCTRL, hb, hc, hg, hw]

end

theorem State.wrRow_injctrl_integ (s : State) (v : Nat) : (s.wrRow row_INTG_INJCTRL 0 v).integ = s.integ := rfl

theorem exec_injectionGo (p : Port) (v : Word) (s : State) :
    exec (.injectionGo p v) s = .next (s.hostReg p row_INTG_INJCTRL 0 (withBits v 0 1 1)) := rfl

section
variable {s : State} {p : Port} {v : Word} (h : s.writeOpen p row_INTG_INJCTRL 0 (withBits v 0 1 1))
include h

/-- A write of INJCTRL that the register's own rules refuse. -/
theorem exec_injectionGo_refused
    (hn : intgHook s (s.whoOf p) row_INTG_INJCTRL 0 (withBits v 0 1 1) (s.wrRow row_INTG_INJCTRL 0 (withBits v 0 1 1)) = none) :
    exec (.injectionGo p v) s = .next (State.turnedAway p s) := by
  rw [exec_injectionGo, State.hostReg_rule h (by decide) (regHooks_intg (by decide)), hn, Option.elim_none]

theorem exec_injectionGo_warden {t : State} (hb : s.on INTG_INJCTRL_BUSY = false) (hc : bits (withBits v 0 1 1) 8 8 ≠ 0)
    (hw : (s.whoOf p).q = warden) (ht : (s.wrRow row_INTG_INJCTRL 0 (withBits v 0 1 1)).injGo = t) :
    exec (.injectionGo p v) s = .next (s.written p row_INTG_INJCTRL 0 (withBits v 0 1 1) t) := by
  rw [exec_injectionGo, State.hostReg_rule h (by decide) (regHooks_intg (by decide)),
    intgHook_injctrl_go hb hc (bit_withBits_one v 0) hw, Option.elim_some, ht]

end

/-! ## FATCLR (R370, R375) -/

/-- A word of FATREC reads 0 once it is among those cleared. -/
theorem State.rd_clear_fatrec (l : List Nat) (s : State) (w : Nat) :
    (l.foldl (fun (s : State) w => s.wr (INTG_FATREC_WORD w) 0) s).rd (INTG_FATREC_WORD w)
      = if w ∈ l then 0 else s.rd (INTG_FATREC_WORD w) := by
  induction l generalizing s with
  | nil => rfl
  | cons x l ih =>
    rw [List.foldl_cons, ih]
    by_cases hx : w = x
    · subst hx
      simp
    · simp [hx, State.rd_wr_other s (INTG_FATREC_WORD x) (INTG_FATREC_WORD w) 0 (.inr hx)]

/-- Clearing words of FATREC leaves every other register. -/
theorem State.rd_clear_fatrec_other (l : List Nat) (s : State) (f : Fld) (h : f.no ≠ (INTG_FATREC_WORD 0).no) :
    (l.foldl (fun (s : State) w => s.wr (INTG_FATREC_WORD w) 0) s).rd f = s.rd f := by
  induction l generalizing s with
  | nil => rfl
  | cons x l ih => exact (ih _).trans (State.rd_wr_other s (INTG_FATREC_WORD x) f 0 (.inl h))

theorem State.fatClr_spec (s : State) :
    (∀ w < 8, s.fatClr.rd (INTG_FATREC_WORD w) = 0) ∧ s.fatClr.integ.latched = false
    ∧ ∀ f : Fld, f.no ≠ (INTG_FATREC_WORD 0).no → s.fatClr.rd f = s.rd f := by
  refine ⟨fun w hw => ?_, ?_, fun f hf => State.rd_clear_fatrec_other _ _ f hf⟩
  · rw [State.fatClr, State.rd_clear_fatrec, if_pos (List.mem_range.2 hw)]
  · exact congrArg Integ.latched (foldl_wr_rest State.integ (fun _ _ _ => rfl) INTG_FATREC_WORD (fun _ => 0) (List.range 8) _)

theorem intgHook_fatclr (s : State) (w : Who) (i : Nat) (t : State) : intgHook s w row_INTG_FATCLR i 1 t = some t.fatClr := rfl

theorem State.wrRow_fatclr (s : State) : s.wrRow row_INTG_FATCLR 0 1 = s := rfl

theorem exec_fatclr {s : State} {p : Port} (h : s.writeOpen p row_INTG_FATCLR 0 1) :
    exec (.fatclr p) s = .next (s.written p row_INTG_FATCLR 0 1 s.fatClr) := by
  have hr : exec (.fatclr p) s = .next (s.hostReg p row_INTG_FATCLR 0 1) := rfl
  rw [hr, State.hostReg_rule h (by decide) (regHooks_intg (by decide)), intgHook_fatclr, Option.elim_some, State.wrRow_fatclr]

/-- Settles O45: the test engines phase by phase, a bank that is asked to retire, an injection, FATCLR. -/
theorem testsAndInjections : Obligations.TestsAndInjections := by
  unfold Obligations.TestsAndInjections
  intro p v e fs s k ph r m row fails plan failed bx bank b0 b under retires saved on ix i check ty u begun ended lawful away
  refine ⟨fun hh => ⟨fun hen hp => (exec_memtRegionStart hh e).trans (congrArg _ (State.memtStart_waiting hen hp)),
      fun hen hp => (exec_memtRegionStart hh e).trans (congrArg _ (State.memtStart_skipped hen hp)),
      fun hen => (exec_memtRegionStart hh e).trans (congrArg _ (State.memtStart_disabled hen)),
      fun hp hw => (exec_memtSaveEnd hh e).trans (congrArg _ (State.memtSaved_sound hp hw)),
      fun hp hw => (exec_memtSaveEnd hh e).trans (congrArg _ (State.memtSaved_poisoned hp hw)),
      State.memtRead_sound, ?sound,
      fun col rows hp hi hf hpl => (exec_memtTestEnd hh e fs).trans
        (congrArg _ (State.memtTested_failing hp hi (mt List.map_eq_nil_iff.1 hf) hpl)),
      fun hp hi hf hpl => (exec_memtTestEnd hh e fs).trans
        (congrArg _ (State.memtTested_failing hp hi (mt List.map_eq_nil_iff.1 hf) hpl)),
      fun hp hr => (exec_memtRestoreEnd hh e).trans (congrArg _ (State.memtRestored_next hp hr)),
      fun hp hr => (exec_memtRestoreEnd hh e).trans (congrArg _ (State.memtRestored_last hp hr)),
      fun hc => (exec_bankCopyDone hh).trans (congrArg _ (if_pos hc))⟩,
    fun h => ⟨fun hu => exec_bankRetireGo h (State.retireBank_underway hu),
      fun hu hc => exec_bankRetireGo h (State.retireBank_waits hu hc),
      fun hu hc q hq => exec_bankRetireGo h (State.retireBank_copies hu hc hq),
      fun hu hc hq hw => exec_bankRetireGo h ((State.retireBank_noSpare hu hc hq).trans (State.noSpare_asked rfl hw)),
      State.spareBank_first, State.spareBank_used⟩,
    fun h hb hc => exec_injectionGo_refused h (intgHook_injctrl_no_count hb hc), fun h hb hc hw => ?injection,
    fun h hb hc => exec_injectionGo_refused h (intgHook_injctrl_busy hb hc), fun h => ⟨s.fatClr, exec_fatclr h, s.fatClr_spec⟩⟩
  case sound =>
    rintro hp hi rfl
    exact (exec_memtTestEnd hh e []).trans (congrArg _ (State.memtTested_sound hp hi))
  case injection =>
    refine ⟨fun hl => ?_, fun hl ha => ?_, fun hl ha hc1 => ?_, fun a n hl ha hc1 hB hn => ?_, fun hl ha hc1 hn => ?_⟩
    · exact exec_injectionGo_warden h hb hc hw (State.injGo_unlawful hl)
    · exact exec_injectionGo_warden h hb hc hw (State.injGo_absent hl ha)
    · exact exec_injectionGo_warden h hb hc hw (State.injGo_armed hl ha hc1)
    · refine ⟨_, exec_injectionGo_warden h hb hc hw (State.injGo_inverts hl ha hc1 hB hn), ?_, i.injArmed_busy⟩
      rw [State.flips_injArmed, State.wrRow_injctrl_integ]
    · refine ⟨_, exec_injectionGo_warden h hb hc hw (State.injGo_inverts_none hl ha hc1 hn), ?_, State.injEnd_status 1 _ (by decide)⟩
      rw [State.injEnd_integ, State.flips_injArmed, State.wrRow_injctrl_integ]

end Sys2Proof.Machine
end

section
/-! PROOFS. What executing a COMMIT decides (R186, R187, R190, R343), when it applies (R188, R189), and what its acceptance
leaves (R190). -/
namespace Sys2Proof.Machine

/-! ## The body of a COMMIT (R186) -/

/-- The reserved values of a COMMIT's body and the lengths of GLIDE that its mode forbids, one by one. -/
theorem commitBad_iff (e : List Byte) : commitBad e = true ↔
    bits (entN e 20 1) 0 2 = 3 ∨ bits (entN e 20 1) 2 5 ≠ 0 ∨ 3 ≤ entN e 21 1
      ∨ (bit (entN e 20 1) 7 = true ∧ bits (entN e 20 1) 0 2 ≠ 0) ∨ (bits (entN e 20 1) 0 2 = 0 ∧ entN e 24 8 ≠ 0)
      ∨ (¬ bit (entN e 20 1) 7 = true ∧ 96000 < entN e 32 4) ∨ bits (entN e 32 4) 17 15 ≠ 0 := by
  simp [commitBad, or_assoc]

/-! ## The apply downbeat (R188, R189) -/

section
variable {s : State} {e : List Byte} {past : Bool}

/-- The downbeat that an immediate commit applies at: the first whose step has not begun. -/
theorem State.applyAt_imm (hi : bit (entN e 20 1) 7 = true) :
    s.applyAt e past = ((if s.disp.downbeat then s.n - 1 else s.n) + b2n (past && s.role == roLead), false) := if_pos hi

theorem State.firstOpen_eq (s : State) (past : Bool) :
    s.firstOpen past = if s.window = true ∨ (past = true ∧ s.role = roLead) then s.n + 1 else s.n := by
  simp [State.firstOpen]

variable (hi : ¬ bit (entN e 20 1) 7 = true)
include hi

theorem State.applyAt_asap (hw : bits (entN e 20 1) 0 2 = 0) : s.applyAt e past = (s.firstOpen past, false) :=
  (if_neg hi).trans (if_pos hw)

/-- A commit for a downbeat by number, or for a presentation time, applies there unless that downbeat is closed. -/
theorem State.applyAt_dated (hw : bits (entN e 20 1) 0 2 ≠ 0) {n : Nat}
    (hn : n = if bits (entN e 20 1) 0 2 = 1 then entN e 24 8 else (3 * entN e 24 8 + 999999) / 1000000) :
    s.applyAt e past = if n < s.firstOpen past then (s.firstOpen past, true) else (n, false) := by
  subst hn
  exact (if_neg hi).trans (if_neg hw)

end

/-! ## The judgement (R190) -/

section
variable {s : State} {part : Nat} {e : List Byte} {past : Bool}

theorem State.judgeCommit_notLead (ha : s.authority = false) : s.judgeCommit part e past = .inl stNOTLEAD := by
  simp [State.judgeCommit, ha]

theorem State.judgeCommit_malformed (ha : s.authority = true) (h : commitBad e = true ∨ s.commitPages e = none) :
    s.judgeCommit part e past = .inl stMALFORMED := by
  unfold State.judgeCommit
  rw [ha, if_neg (by decide)]
  split
  · rfl
  · next hb => rw [h.resolve_left hb]

/-- A COMMIT without reserved values on a device with authority: its epoch, its pages and the room for it are judged in
this order. -/
theorem State.judgeCommit_lawful {ps : List Nat} (ha : s.authority = true) (hb : ¬ commitBad e = true)
    (hp : s.commitPages e = some ps) :
    s.judgeCommit part e past =
      (if entN e 16 4 ∈ s.epoch.accepted then .inl stDUP
       else if entN e 16 4 = 0 ∨ (entN e 16 4 + 2 ^ 32 - s.rd EPOCH_HIGH_EPOCH) % 2 ^ 32 = 0
         ∨ 2 ^ 31 - 1 < (entN e 16 4 + 2 ^ 32 - s.rd EPOCH_HIGH_EPOCH) % 2 ^ 32 then .inl stORDER
       else if ∃ p ∈ ps, 2047 < p ∨ s.pageValid p = false then .inl stUNKNOWN
       else if part ≠ warden ∧ ∃ p ∈ ps, s.pageOwner p ≠ part then .inl stPARTITION
       else if ¬ bit (entN e 20 1) 7 = true ∧ 16 ≤ (s.epoch.pend.filter fun c => !c.imm).length then .inl stOVERFLOW
       else .inr ⟨entN e 16 4, (s.applyAt e past).1, (s.applyAt e past).2, entN e 32 4, bit (entN e 20 1) 7, ps.eraseDups, part⟩) := by
  have hu : (ps.any fun p => decide (2047 < p) || !s.pageValid p) = true ↔ ∃ p ∈ ps, 2047 < p ∨ s.pageValid p = false := by simp
  have hf : (ps.any fun p => s.pageOwner p != part && part != warden) = true
      ↔ part ≠ warden ∧ ∃ p ∈ ps, s.pageOwner p ≠ part := by
    simp only [List.any_eq_true, Bool.and_eq_true, bne_iff_ne]
    exact ⟨fun ⟨p, hm, ho, hw⟩ => ⟨hw, p, hm, ho⟩, fun ⟨hw, p, hm, ho⟩ => ⟨p, hm, ho, hw⟩⟩
  have hl : (!bit (entN e 20 1) 7 && decide (16 ≤ (s.epoch.pend.filter fun c => !c.imm).length)) = true
      ↔ ¬ bit (entN e 20 1) 7 = true ∧ 16 ≤ (s.epoch.pend.filter fun c => !c.imm).length := by simp
  unfold State.judgeCommit
  rw [ha, if_neg (by decide), if_neg hb, hp]
  simp only [List.contains_iff_mem, hu, hf, hl]

end

/-! ## Acceptance (R190) -/

theorem State.rd_acceptCommit (s : State) (c : Commit) (f : Fld) : (s.acceptCommit c).rd f =
    ((s.wr EPOCH_HIGH_EPOCH c.epoch).wr EPOCH_STATUS_LATE (if c.late then 1 else s.rd EPOCH_STATUS_LATE)).rd f := rfl

theorem State.rd_acceptCommit_high (s : State) (c : Commit) : (s.acceptCommit c).rd EPOCH_HIGH_EPOCH = c.epoch % 2 ^ 32 := by
  rw [State.rd_acceptCommit, State.rd_wr_other _ _ _ _ (.inl (by decide)), State.rd_wr_same]
  rfl

theorem State.acceptCommit_late (s : State) {c : Commit} (h : c.late = true) : (s.acceptCommit c).on EPOCH_STATUS_LATE = true := by
  rw [State.on, State.rd_acceptCommit, State.rd_wr_same, h]
  rfl

/-- Settles O42: each check of the judgement with those before it passed, the two kinds of date, and acceptance. -/
theorem commitsJudged : Obligations.CommitsJudged := by
  unfold Obligations.CommitsJudged
  intro part e past s ps ep d imm when_ at_ bad seen order unknown foreign full good first n now
  have lawful : good → _ := fun ⟨ha, hb, hp⟩ =>
    State.judgeCommit_lawful (part := part) (past := past) ha (mt (commitBad_iff e).1 hb) hp
  refine ⟨State.judgeCommit_notLead, fun ha h => State.judgeCommit_malformed ha (h.imp_left (commitBad_iff e).2),
    fun hg h => ?dup, fun hg h1 h => ?order, fun hg h1 h2 h => ?unknown, fun hg h1 h2 h3 h => ?partition,
    fun hg h1 h2 h3 h4 h => ?overflow, fun hg h1 h2 h3 h4 h5 => ?accepted, fun hi h => ?imm, fun hi hp hr => ?immLead,
    fun hi hw => ?asap, fun hi hw h => ?dated, fun hi hw h => ?late, fun c => ?accept⟩
  case dup => rw [lawful hg, if_pos h]
  case order => rw [lawful hg, if_neg h1, if_pos h]
  case unknown => rw [lawful hg, if_neg h1, if_neg h2, if_pos h]
  case partition => rw [lawful hg, if_neg h1, if_neg h2, if_neg h3, if_pos h]
  case overflow => rw [lawful hg, if_neg h1, if_neg h2, if_neg h3, if_neg h4, if_pos h]
  case accepted => rw [lawful hg, if_neg h1, if_neg h2, if_neg h3, if_neg h4, if_neg h5]
  case imm =>
    have hb : (past && s.role == roLead) = false := by simpa using h
    rw [State.applyAt_imm hi, hb]
    rfl
  case immLead =>
    have hb : (past && s.role == roLead) = true := by simp [hp, hr]
    rw [State.applyAt_imm hi, hb]
    rfl
  case asap => rw [State.applyAt_asap hi hw, State.firstOpen_eq]
  case dated => rw [State.applyAt_dated hi hw rfl, State.firstOpen_eq, if_neg (Nat.not_lt.2 h)]
  case late => rw [State.applyAt_dated hi hw rfl, State.firstOpen_eq, if_pos h]
  case accept =>
    refine ⟨s.rd_acceptCommit_high c, rfl, List.mem_cons_self, List.length_take_le _ _, s.acceptCommit_late, fun f h1 h2 => ?_, rfl⟩
    rw [State.rd_acceptCommit, State.rd_wr_other _ _ _ _ (.inl h2), State.rd_wr_other _ _ _ _ (.inl h1)]

end Sys2Proof.Machine
end

section
/-! PROOFS. What the epoch engine keeps while memory is read and written: the records of ECC errors, repairs and rings leave
its state and its registers (R163, R164, R363, R367 to R372). -/
namespace Sys2Proof.Machine

/-! ## Records and writes leave the engine's state -/

@[simp] theorem State.epoch_injDone (s : State) : s.injDone.epoch = s.epoch := by
  unfold State.injDone
  split
  · rfl
  · dsimp only
    split <;> rfl

@[simp] theorem State.epoch_unflip (s : State) (w : Nat) : (s.unflip w).epoch = s.epoch := by
  unfold State.unflip
  split
  · rfl
  · dsimp only
    split <;> exact s.epoch_injDone

@[simp] theorem State.epoch_touchWord (s : State) (w : Nat) : (s.touchWord w).epoch = s.epoch := by
  unfold State.touchWord
  dsimp only
  split <;> exact s.epoch_unflip w

@[simp] theorem State.epoch_devPut (bs : List Byte) (s : State) (a : Nat) : (s.devPut a bs).epoch = s.epoch := by
  induction bs generalizing s a with
  | nil => rfl
  | cons v bs ih =>
    rw [State.devPut, ih]
    exact s.epoch_touchWord _

@[simp] theorem State.epoch_ringPutQuiet (s : State) (r a : Nat) (bs : List Byte) : (s.ringPutQuiet r a bs).epoch = s.epoch := by
  unfold State.ringPutQuiet
  split
  · rfl
  · refine List.foldlRecOn (motive := fun t : State => t.epoch = s.epoch) _ _ rfl fun t ht q _ => ?_
    split
    · exact (State.epoch_devPut _ t _).trans ht
    · split <;> exact ht

@[simp] theorem State.epoch_ringPushBy (s : State) (r : Nat) (e : List Byte) :
    (State.ringPushBy State.ringPutQuiet s r e).epoch = s.epoch := by
  unfold State.ringPushBy State.ringSignal
  dsimp only
  split <;> exact State.epoch_ringPutQuiet ..

@[simp] theorem State.epoch_latchFatal (s : State) (bs : List Byte) : (s.latchFatal bs).epoch = s.epoch := by
  have hf := foldl_wr_rest State.epoch (fun _ _ _ => rfl) (fun q : Nat × Nat => INTG_FATREC_WORD q.2) Prod.fst
    (wordsOf bs).zipIdx s
  unfold State.latchFatal State.uartLine
  split
  · rfl
  · dsimp only
    split
    · split <;> exact hf
    · exact hf

@[simp] theorem State.epoch_writeRec (s : State) (r : Rec) : (s.writeRec r).epoch = s.epoch := by
  unfold State.writeRec
  dsimp only
  split
  · simp [apply_ite State.epoch, State.noteFatal]
  · split <;> simp [apply_ite State.epoch, State.noteFatal]

@[simp] theorem State.epoch_emit (s : State) (r : Rec) : (s.emit r).epoch = s.epoch := by
  unfold State.emit
  simp [apply_ite State.epoch]

/-! ## Reads of memory keep the engine -/

/-- Fields of the registers of the epoch engine: block 5 (R11, R195). -/
abbrev Fld.epochal (f : Fld) : Prop := f.no / 2 ^ 21 = 5

/-- State `t` has the epoch engine of `s`: its state and its registers. -/
structure State.SameEngine (s t : State) : Prop where
  epoch : t.epoch = s.epoch
  rd : ∀ f : Fld, f.epochal → t.rd f = s.rd f

theorem Fld.epochal.not_note {f : Fld} (h : f.epochal) : f.no ∉ noteFields := by
  have hn : ∀ n ∈ noteFields, n / 2 ^ 21 ≠ 5 := by decide
  exact fun hm => hn _ hm h

section
variable {s t : State}

theorem State.SameEngine.refl (s : State) : s.SameEngine s := ⟨rfl, fun _ _ => rfl⟩

theorem State.SameEngine.foldl {β : Type} {f : State → β → State} (hf : ∀ t x, s.SameEngine t → s.SameEngine (f t x)) (l : List β)
    (h : s.SameEngine t) : s.SameEngine (l.foldl f t) := List.foldlRecOn l f h fun t ht x _ => hf t x ht

variable (h : s.SameEngine t)
include h

/-- A write of a field of another block keeps the engine. -/
theorem State.SameEngine.wr {f : Fld} (hf : ¬ f.epochal) (v : Nat) : s.SameEngine (t.wr f v) :=
  ⟨h.epoch, fun g hg => (State.rd_wr_other _ _ _ _ (.inl fun he => hf (by rwa [Fld.epochal, ← he]))).trans (h.rd g hg)⟩

theorem State.SameEngine.withInteg (g : Integ) : s.SameEngine { t with integ := g } := ⟨h.epoch, h.rd⟩

theorem State.SameEngine.withMemt (m : MemtSt) : s.SameEngine { t with memt := m } := ⟨h.epoch, h.rd⟩

theorem State.SameEngine.unflip (w : Nat) : s.SameEngine (t.unflip w) :=
  ⟨(t.epoch_unflip w).trans h.epoch, fun f hf => (t.rd_unflip w hf.not_note).trans (h.rd f hf)⟩

theorem State.SameEngine.devPut (a : Nat) (bs : List Byte) : s.SameEngine (t.devPut a bs) :=
  ⟨(State.epoch_devPut bs t a).trans h.epoch, fun f hf => (State.rd_devPut bs t a hf.not_note).trans (h.rd f hf)⟩

theorem State.SameEngine.writeRec (r : Rec) : s.SameEngine (t.writeRec r) :=
  ⟨(t.epoch_writeRec r).trans h.epoch, fun f hf => (t.rd_writeRec r hf.not_note).trans (h.rd f hf)⟩

theorem State.SameEngine.emit (r : Rec) : s.SameEngine (t.emit r) :=
  ⟨(t.epoch_emit r).trans h.epoch, fun f hf => (t.rd_emit r hf.not_note).trans (h.rd f hf)⟩

theorem State.SameEngine.exhaust (m row : Nat) (fs : List TestFail) (esc : Bool) : s.SameEngine (t.exhaust m row fs esc) := by
  refine State.SameEngine.foldl (fun t x h => ?_) fs ((h.wr (f := MEMT_MACSTAT_EXHAUSTED m) (by simp [MEMT_MACSTAT_EXHAUSTED]) 1).emit _)
  dsimp only
  split
  · split <;> exact ⟨h.epoch, h.rd⟩
  · exact h

theorem State.SameEngine.noSpare (q : BankReq) : s.SameEngine (t.noSpare q) := by
  unfold State.noSpare
  dsimp only
  have h1 := h.wr (f := MEMT_BANKMAP_NOSPARE) (by decide) 1
  generalize t.wr MEMT_BANKMAP_NOSPARE 1 = t1 at h1
  generalize h2 : (if t1.memt.go = some q.bank then _ else t1) = t2
  have e2 : s.SameEngine t2 := by
    rw [← h2]
    split
    · exact (h1.withMemt _).wr (by decide) 0
    · exact h1
  have last : ∀ u, s.SameEngine u → s.SameEngine (if u.memt.waitBank = some q.bank then
      { u with memt := { u.memt with waitBank := none } }.wr (MEMT_EPOS_PHASE 16) 3 else u) := by
    intro u hu
    split
    · exact (hu.withMemt _).wr (by decide) 3
    · exact hu
  rcases q.why with _ | ⟨m, row, fs⟩
  · exact last _ e2
  · exact last _ (e2.exhaust m row fs _)

theorem State.SameEngine.retireBank (q : BankReq) : s.SameEngine (t.retireBank q) := by
  unfold State.retireBank State.beginHandling
  split
  · exact h
  · split
    · exact h.withMemt _
    · split
      · dsimp only
        have hc : ∀ m, s.SameEngine ({ t with memt := m }.wr MEMT_BANKMAP_COPY 1) := fun m => (h.withMemt m).wr (by decide) 1
        split
        · exact hc _
        · exact (hc _).withInteg _
      · exact h.noSpare q

theorem State.SameEngine.bankError (w : Nat) : s.SameEngine (t.bankError w) := by
  unfold State.bankError
  split
  · exact h
  · dsimp only
    split <;> split
    · exact (h.withMemt _).retireBank _
    · exact h.withMemt _
    · exact (h.withMemt _).retireBank _
    · exact h.withMemt _

/-- The counter of ECC errors of the unit that a word belongs to (R172). -/
theorem State.SameEngine.eccCount (ty u : Nat) (one : Bool) : s.SameEngine
    (if ty = uMacro ∧ u < 768 then
      (if one = true then t.incSat (CORECTL_CCOUNT_ECCC (if u < 256 then u else (u - 256) / 2)) 1 else t)
    else if ty = uDram then (if one = true then t.incSat (DRAMC_ECC_CORR u) 1 else t.incSat (DRAMC_ECC_UNCORR u) 1) else t) := by
  split
  · split
    · exact h.wr (by simp [CORECTL_CCOUNT_ECCC]) _
    · exact h
  · split
    · split
      · exact h.wr (by simp [DRAMC_ECC_CORR]) _
      · exact h.wr (by simp [DRAMC_ECC_UNCORR]) _
    · exact h

theorem State.SameEngine.readWord (w a master qos : Nat) : s.SameEngine (t.readWord w a master qos) := by
  unfold State.readWord
  dsimp only
  generalize t.unitOf (w * 8) = u
  split
  · have hu := h.unflip w
    split
    · exact (hu.eccCount u.1 u.2 true).emit _
    · have he := (hu.eccCount u.1 u.2 false).emit
      exact ⟨(he _).epoch, (he _).rd⟩
  · split
    · split
      · exact ((h.eccCount u.1 u.2 false).emit _).bankError w
      · exact (h.eccCount u.1 u.2 false).emit _
    · split
      · exact (h.eccCount u.1 u.2 true).emit _
      · exact h

theorem State.SameEngine.batched {f : State → State} (hf : ∀ t, s.SameEngine t → s.SameEngine (f t)) :
    s.SameEngine (State.batched f t) := by
  unfold State.batched
  split
  · exact hf t h
  · dsimp only
    have h1 := hf _ (h.withInteg { t.integ with batching := true })
    generalize f { t with integ := { t.integ with batching := true } } = t1 at h1
    exact State.SameEngine.foldl (fun _ r h => h.writeRec r) _ (h1.withInteg _)

theorem State.SameEngine.memGet (master qos a n : Nat) : s.SameEngine (t.memGet master qos a n).1 := by
  have key : ∀ (ws : List Nat) (t : State), s.SameEngine t → s.SameEngine (ws.foldl (fun s w => s.readWord w a master qos) t) :=
    fun ws _ h => State.SameEngine.foldl (fun _ w h => h.readWord w a master qos) ws h
  unfold State.memGet State.eccRead
  dsimp only
  generalize ((List.range n).map fun i => t.phys (a + i) / 8).eraseDups = ws
  generalize ht : (if n ≤ 8 then ws.foldl (fun s w => s.readWord w a master qos) t else State.batched _ t) = t1
  have h1 : s.SameEngine t1 := by
    rw [← ht]
    split
    · exact key ws t h
    · exact h.batched (key ws)
  split
  · exact h1.withInteg _
  · exact h1

theorem State.SameEngine.bankRead (a : Nat) : s.SameEngine (t.bankRead a).1 := h.memGet 22 0 a 1024

theorem State.SameEngine.bankCopy (dst src : Nat) : s.SameEngine (t.bankCopy dst src) := by
  unfold State.bankCopy
  have h1 := h.bankRead src
  generalize t.bankRead src = q at h1
  exact h1.devPut dst q.2

/-- The engine reads a bank, or two of them in the middle of a glide (R178). -/
theorem State.SameEngine.reached (p j : Nat) : s.SameEngine (t.reached p j).1 := by
  unfold State.reached
  have h1 := h.bankRead (targetAddr p)
  generalize t.bankRead (targetAddr p) = q at h1
  dsimp only
  split
  · have h2 := h1.bankRead (activeAddr p)
    generalize q.1.bankRead (activeAddr p) = r at h2
    exact h2
  · exact h1

end

end Sys2Proof.Machine
end

section
/-! PROOFS. The banks of parameter pages in memory: the 1 KiB that a page of the store's address range shows, read, written
and copied where no ECC error stands in the way (R174, R175, R363). -/
namespace Sys2Proof.Machine

/-! ## Where the bytes of a bank lie -/

/-- Device address of page `v` of the store's address range, and where the model keeps frame `v` of the store. -/
def bankAddr (v : Nat) : Nat := 0x08000000 + v * 0x400

theorem stageAddr_eq (p : Nat) : stageAddr p = bankAddr (stageV p) := rfl

theorem targetAddr_eq (p : Nat) : targetAddr p = bankAddr (targetV p) := by
  simp only [targetAddr, bankAddr, targetV]
  omega

theorem activeAddr_eq (p : Nat) : activeAddr p = bankAddr (activeV p) := by
  simp only [activeAddr, bankAddr, activeV]
  omega

/-- The bytes of a frame of the store. -/
def frameBytes (m : List Host.Cell) (f : Nat) : List Byte := bytesAt m (bankAddr f) 1024

theorem bytesAt_length (m : List Host.Cell) (a n : Nat) : (bytesAt m a n).length = n := by
  induction n generalizing a with
  | zero => rfl
  | succ n ih => rw [bytesAt, List.length_cons, ih]

/-- Bytes outside those written read as before. -/
theorem bytesAt_putBytes_out (vs : List Byte) (m : List Host.Cell) {a b n : Nat} (h : b + n ≤ a ∨ a + vs.length ≤ b) :
    bytesAt (putBytes m a vs) b n = bytesAt m b n := by
  induction n generalizing b with
  | zero => rfl
  | succ n ih => rw [bytesAt, bytesAt, byteAt_putBytes_out vs m a b (by omega), ih (by omega)]

section
variable {s : State} {v : Nat} (hv : v < 6144)
include hv

/-- A byte of a page of the store lies in the page's frame (R175). -/
theorem State.phys_bank (s : State) {o : Nat} (ho : o < 1024) : s.phys (bankAddr v + o) = bankAddr (s.paramFrame v) + o := by
  have h : (bankAddr v + o - 0x08000000) / 0x400 = v ∧ (bankAddr v + o) % 0x400 = o ∧ 0x08000000 ≤ bankAddr v + o
      ∧ bankAddr v + o < 0x08600000 := by
    simp only [bankAddr]
    omega
  obtain ⟨hp, hm, h0, h1⟩ := h
  rw [State.phys, if_neg (by omega), if_neg (by omega), if_neg (by omega), if_pos h1, hp, hm]
  rfl

theorem State.devByte_bank (hp : s.poison = []) {o : Nat} (ho : o < 1024) :
    s.devByte (bankAddr v + o) = byteAt s.mem (bankAddr (s.paramFrame v) + o) := by
  have hs : s.sramPage (bankAddr v + o) = none := if_pos (.inr (by simp only [bankAddr]; omega))
  simp [State.devByte, hp, hs, s.phys_bank hv ho]

theorem State.devGet_within_bank (hp : s.poison = []) {o n : Nat} (h : o + n ≤ 1024) :
    s.devGet (bankAddr v + o) n = bytesAt s.mem (bankAddr (s.paramFrame v) + o) n := by
  induction n generalizing o with
  | zero => rfl
  | succ n ih => rw [State.devGet, bytesAt, State.devByte_bank hv hp (by omega), Nat.add_assoc, Nat.add_assoc, ih (by omega)]

/-- A page of the store reads as its frame. -/
theorem State.devGet_bank (hp : s.poison = []) : s.devGet (bankAddr v) 1024 = frameBytes s.mem (s.paramFrame v) :=
  State.devGet_within_bank hv hp (o := 0) (Nat.le_refl _)

end

theorem frameBytes_length (m : List Host.Cell) (f : Nat) : (frameBytes m f).length = 1024 := bytesAt_length ..

/-! ## Copies (R178) -/

/-- No word is in error and no records are being gathered: what the engine reads and writes is all that happens. -/
structure State.Clean (s : State) : Prop extends s.Sound where
  batch : s.integ.batch = []
  batching : s.integ.batching = false

theorem State.Clean.congr {s t : State} (h : s.Clean) (hp : t.poison = s.poison) (hi : t.integ = s.integ) : t.Clean :=
  ⟨⟨hp.trans h.poison, hi ▸ h.flips, hi ▸ h.stuck⟩, hi ▸ h.batch, hi ▸ h.batching⟩

section
variable {s : State} (h : s.Clean)
include h

theorem State.Clean.touchWord (w : Nat) : s.touchWord w = s := by
  have hu : s.unflip w = s := by simp [State.unflip, h.flips]
  simp [State.touchWord, hu, h.poison]

theorem State.Clean.memGet (master qos a n : Nat) : s.memGet master qos a n = (s, s.devGet a n) := by
  rw [State.memGet, h.toSound.eccRead a n master qos (.inr ⟨h.batching, h.batch⟩)]

theorem State.Clean.devPut_within_bank {v o : Nat} (hv : v < 6144) (bs : List Byte) (ho : o + bs.length ≤ 1024) :
    s.devPut (bankAddr v + o) bs = { s with mem := putBytes s.mem (bankAddr (s.paramFrame v) + o) bs } := by
  induction bs generalizing s o with
  | nil => rfl
  | cons x bs ih =>
    rw [List.length_cons] at ho
    rw [State.devPut, s.phys_bank hv (by omega), h.touchWord]
    exact ih (s := { s with mem := putByte s.mem (bankAddr (s.paramFrame v) + o) x }) (h.congr rfl rfl)
      (o := o + 1) (by omega)

/-- A copy of one bank to another writes the frame of the one with the bytes of the other's. -/
theorem State.Clean.bankCopy {d r : Nat} (hd : d < 6144) (hr : r < 6144) : s.bankCopy (bankAddr d) (bankAddr r) =
    { s with mem := putBytes s.mem (bankAddr (s.paramFrame d)) (frameBytes s.mem (s.paramFrame r)) } := by
  have hg : s.bankRead (bankAddr r) = (s, frameBytes s.mem (s.paramFrame r)) :=
    (h.memGet 22 0 _ _).trans (congrArg _ (State.devGet_bank hr h.poison))
  rw [State.bankCopy, hg]
  exact h.devPut_within_bank hd (o := 0) _ (Nat.le_of_eq ((Nat.zero_add _).trans (frameBytes_length _ _)))

end

section
variable (m : List Host.Cell) (d r : Nat)

/-- The frame that was copied to holds what was copied. -/
theorem frameBytes_copied_same : frameBytes (putBytes m (bankAddr d) (frameBytes m r)) d = frameBytes m r := by
  have hb := bytesAt_putBytes (frameBytes m r) m (bankAddr d)
  rw [frameBytes_length m r] at hb
  rw [frameBytes, hb]

/-- Every other frame holds what it held. -/
theorem frameBytes_copied_other {f : Nat} (hf : f ≠ d) :
    frameBytes (putBytes m (bankAddr d) (frameBytes m r)) f = frameBytes m f := by
  have hout : bankAddr f + 1024 ≤ bankAddr d ∨ bankAddr d + (frameBytes m r).length ≤ bankAddr f := by
    rw [frameBytes_length m r]
    simp only [bankAddr]
    omega
  rw [frameBytes, bytesAt_putBytes_out _ _ hout, frameBytes]

/-- So does the frame that was copied, were it that very frame. -/
theorem frameBytes_copied_source : frameBytes (putBytes m (bankAddr d) (frameBytes m r)) r = frameBytes m r := by
  by_cases h : r = d
  · subst h
    exact frameBytes_copied_same m r r
  · exact frameBytes_copied_other m d r h

end

theorem State.paramFrame_withMem (s : State) (m : List Host.Cell) (v : Nat) :
    State.paramFrame { s with mem := m } v = s.paramFrame v := rfl

/-- A bank reads alike in two states that agree on memory and on its frame. -/
theorem State.devGet_bank_congr {s t : State} {v w : Nat} (hv : v < 6144) (hw : w < 6144) (hs : s.poison = []) (ht : t.poison = [])
    (hm : t.mem = s.mem) (hf : t.paramFrame v = s.paramFrame w) : t.devGet (bankAddr v) 1024 = s.devGet (bankAddr w) 1024 := by
  rw [State.devGet_bank hv ht, State.devGet_bank hw hs, hf, hm]

theorem State.devGet_bank_wr {s : State} {v : Nat} (hv : v < 6144) (hp : s.poison = []) (f : Fld) (x : Nat) :
    (s.wr f x).devGet (bankAddr v) 1024 = s.devGet (bankAddr v) 1024 :=
  State.devGet_bank_congr (s := s) (t := s.wr f x) hv hv hp hp rfl rfl

/-- After a copy both banks read as the source did, and each bank that stands in another frame reads as before. -/
theorem State.Clean.devGet_bankCopy {s t : State} (h : s.Clean) {d r : Nat} (hd : d < 6144) (hr : r < 6144)
    (ht : t = s.bankCopy (bankAddr d) (bankAddr r)) :
    t.poison = [] ∧ t.devGet (bankAddr d) 1024 = s.devGet (bankAddr r) 1024
    ∧ t.devGet (bankAddr r) 1024 = s.devGet (bankAddr r) 1024
    ∧ ∀ e < 6144, s.paramFrame e ≠ s.paramFrame d → t.devGet (bankAddr e) 1024 = s.devGet (bankAddr e) 1024 := by
  rw [h.bankCopy hd hr] at ht
  have hp : t.poison = [] := by rw [ht, h.poison]
  have hf : ∀ v, t.paramFrame v = s.paramFrame v := fun v => ht ▸ State.paramFrame_withMem s _ v
  have hm : t.mem = putBytes s.mem (bankAddr (s.paramFrame d)) (frameBytes s.mem (s.paramFrame r)) := by rw [ht]
  refine ⟨hp, ?_, ?_, fun e he hne => ?_⟩
  · rw [State.devGet_bank hd hp, State.devGet_bank hr h.poison, hf, hm, frameBytes_copied_same]
  · rw [State.devGet_bank hr hp, State.devGet_bank hr h.poison, hf, hm, frameBytes_copied_source]
  · rw [State.devGet_bank he hp, State.devGet_bank he h.poison, hf, hm, frameBytes_copied_other _ _ _ hne]

end Sys2Proof.Machine
end

section
/-! PROOFS. The change of a parameter page as an exchange of frame pointers, and its end (R178, R179, R182, R183). -/
namespace Sys2Proof.Machine

/-! ## Frame pointers (R175) -/

@[simp] theorem State.paramFrame_setFrame_same (s : State) (v f : Nat) : (s.setFrame v f).paramFrame v = f :=
  tget_tput_same v s.epoch.frames v f

theorem State.paramFrame_setFrame_other (s : State) {v w : Nat} (f : Nat) (h : w ≠ v) : (s.setFrame v f).paramFrame w = s.paramFrame w :=
  tget_tput_other w v s.epoch.frames f h

theorem State.SameEngine.paramFrame {s t : State} (h : s.SameEngine t) (v : Nat) : t.paramFrame v = s.paramFrame v := by
  rw [State.paramFrame, h.epoch, State.paramFrame]

theorem State.SameEngine.glide {s t : State} (h : s.SameEngine t) (p : Nat) : t.glide p = s.glide p := by
  rw [State.glide, State.on, h.rd _ (by simp [Fld.epochal, EPOCH_PDDATA_KIND]), State.glide, State.on]

theorem stageV_ne_targetV {p : Nat} : stageV p ≠ targetV p := by
  simp only [stageV, targetV]
  omega

theorem activeV_ne_targetV {p : Nat} : activeV p ≠ targetV p := by
  simp only [activeV, targetV]
  omega

theorem activeV_ne_stageV {p : Nat} : activeV p ≠ stageV p := by
  simp only [activeV, stageV]
  omega

/-! ## The parts of a change (R178) -/

/-- Keeping the page for older runs changes contexts alone (R36). -/
theorem State.keepOld_ctxs (s : State) (p : Nat) : ∃ c, s.keepOld p = { s with ctxs := c } := by
  unfold State.keepOld
  dsimp only
  generalize s.pageImage p = img
  refine List.foldlRecOn (motive := fun t : State => ∃ c, t = { s with ctxs := c }) _ _ ⟨s.ctxs, rfl⟩ fun t ht q _ => ?_
  obtain ⟨c, rfl⟩ := ht
  split <;> exact ⟨_, rfl⟩

/-- The page before its pointers are exchanged: kept for older runs, and, where it glides in a change, its ACTIVE bank
moved to a frame of the pool (R36, R182). -/
def State.readied (s : State) (p n : Nat) (old : List Nat) : State :=
  (if (s.keepOld p).glide p && (s.keepOld p).changing p then (s.keepOld p).takePool p ((s.keepOld p).sampleIx n) old
    else (s.keepOld p, old)).1

/-- The exchange of frame pointers (R178). -/
def State.exchange (s : State) (p : Nat) : State :=
  let u := if s.changing p && !s.glide p then
      (s.setFrame (activeV p) (s.paramFrame (targetV p))).setFrame (stageV p) (s.paramFrame (activeV p))
    else s.setFrame (stageV p) (s.paramFrame (targetV p))
  u.setFrame (targetV p) (s.paramFrame (stageV p))

/-- The marks of a change: its start, length and epoch, and the refill of STAGE that is due (R178, R179). -/
def State.markChange (s : State) (p j n kk epoch : Nat) : State :=
  (((s.setPage p { s.page p with j0 := j, kk := kk, appliedAt := some n, refill := true }).wr (EPOCH_PGSTAT_CHG p) 1).wr
    (EPOCH_PGSTAT_REMAIN p) kk).wr (EPOCH_PGEPOCH_EPOCH p) epoch

/-- A change readies the page, exchanges the pointers, refills STAGE from TARGET and marks the page. -/
theorem State.changePage_eq (s : State) (p n kk epoch : Nat) (old : List Nat) : (s.changePage p n kk epoch old).1 =
    (((s.readied p n old).exchange p).bankCopy (stageAddr p) (targetAddr p)).markChange p ((s.keepOld p).sampleIx n) n kk epoch :=
  rfl

section
variable {s : State} {p : Nat}

theorem State.readied_plain (h : s.changing p = false ∨ s.glide p = false) (n : Nat) (old : List Nat) :
    s.readied p n old = s.keepOld p := by
  obtain ⟨c, hc⟩ := s.keepOld_ctxs p
  have hb : ((s.keepOld p).glide p && (s.keepOld p).changing p) = false := by
    rw [hc]
    show (s.glide p && s.changing p) = false
    rcases h with h | h <;> simp [h]
  rw [State.readied, hb]
  rfl

theorem State.glide_wr_other (s : State) (p : Nat) {f : Fld} (h : (EPOCH_PDDATA_KIND p).no ≠ f.no) (v : Nat) :
    (s.wr f v).glide p = s.glide p := State.on_wr_other _ _ _ _ (.inl h)

theorem State.glide_setFrame (s : State) (p v f : Nat) : (s.setFrame v f).glide p = s.glide p := rfl

theorem State.glide_setPage (s : State) (p x : Nat) (q : PageSt) : (s.setPage x q).glide p = s.glide p := rfl

theorem State.glide_setFree (s : State) (p v : Nat) : (s.setFree v).glide p = s.glide p := by
  have h1 := s.glide_wr_other p (f := EPOCH_POOL_FREE) (by simp [EPOCH_PDDATA_KIND, EPOCH_POOL_FREE]) v
  unfold State.setFree
  dsimp only
  split
  · exact (State.glide_wr_other _ p (by simp [EPOCH_PDDATA_KIND, EPOCH_POOL_LOW]) v).trans h1
  · exact h1

/-- Taking a frame of the pool points ACTIVE at the one that has been free longest and leaves the page's kind. -/
theorem State.takePool_spec {f : Nat} {l : List Nat} (hl : s.poolFrames = f :: l) (j : Nat) (old : List Nat) :
    (s.takePool p j old).1.paramFrame (activeV p) = f ∧ (s.takePool p j old).1.glide p = s.glide p := by
  have hr := (State.SameEngine.refl s).reached p j
  unfold State.takePool
  rw [hl]
  dsimp only
  generalize s.reached p j = r at hr
  refine ⟨(((State.SameEngine.refl _).devPut _ _).paramFrame _).trans (State.paramFrame_setFrame_same ..),
    (((State.SameEngine.refl _).devPut _ _).glide p).trans ?_⟩
  rw [State.glide_wr_other _ _ (by simp [EPOCH_PDDATA_KIND, EPOCH_PGSTAT_POOL]), State.glide_setFrame, State.glide_setPage,
    State.glide_setFree]
  exact hr.glide p

/-- ACTIVE of a page that glides in a change stands in the first free frame of the pool; the page still glides. -/
theorem State.readied_glide (hc : s.changing p = true) (hg : s.glide p = true) {f : Nat} {l : List Nat}
    (hl : s.poolFrames = f :: l) (n : Nat) (old : List Nat) :
    (s.readied p n old).paramFrame (activeV p) = f ∧ (s.readied p n old).glide p = true := by
  obtain ⟨c, hk⟩ := s.keepOld_ctxs p
  have hb : ((s.keepOld p).glide p && (s.keepOld p).changing p) = true := by
    rw [hk]
    show (s.glide p && s.changing p) = true
    rw [hg, hc]
    rfl
  have hp : (s.keepOld p).poolFrames = f :: l := by
    rw [hk]
    exact hl
  rw [State.readied, if_pos hb]
  obtain ⟨hf, hgt⟩ := State.takePool_spec (s := s.keepOld p) (p := p) hp ((s.keepOld p).sampleIx n) old
  exact ⟨hf, hgt.trans (Bool.and_eq_true_iff.1 hb).1⟩

/-! ## The pointers after the exchange -/

theorem State.exchange_target : (s.exchange p).paramFrame (targetV p) = s.paramFrame (stageV p) :=
  State.paramFrame_setFrame_same ..

/-- A page that is not in a change, or that glides, keeps its ACTIVE bank. -/
theorem State.exchange_keeps_active (h : s.changing p = false ∨ s.glide p = true) :
    (s.exchange p).paramFrame (stageV p) = s.paramFrame (targetV p) ∧ (s.exchange p).paramFrame (activeV p) = s.paramFrame (activeV p) := by
  have hb : ¬ (s.changing p && !s.glide p) = true := by rcases h with h | h <;> simp [h]
  rw [State.exchange, if_neg hb, State.paramFrame_setFrame_other _ _ stageV_ne_targetV, State.paramFrame_setFrame_same,
    State.paramFrame_setFrame_other _ _ activeV_ne_targetV, State.paramFrame_setFrame_other _ _ activeV_ne_stageV]
  exact ⟨rfl, rfl⟩

/-- A SWITCH page in a change gives its ACTIVE bank to STAGE and takes the former TARGET's for it. -/
theorem State.exchange_turns_active (hc : s.changing p = true) (hg : s.glide p = false) :
    (s.exchange p).paramFrame (stageV p) = s.paramFrame (activeV p) ∧ (s.exchange p).paramFrame (activeV p) = s.paramFrame (targetV p) := by
  have hb : (s.changing p && !s.glide p) = true := by simp [hc, hg]
  rw [State.exchange, if_pos hb, State.paramFrame_setFrame_other _ _ stageV_ne_targetV, State.paramFrame_setFrame_same,
    State.paramFrame_setFrame_other _ _ activeV_ne_targetV, State.paramFrame_setFrame_other _ _ activeV_ne_stageV,
    State.paramFrame_setFrame_same]
  exact ⟨rfl, rfl⟩

/-- The exchange does not depend on contexts. -/
theorem State.paramFrame_exchange_withCtxs (s : State) (p : Nat) (c : Tab Ctx) (v : Nat) :
    (State.exchange { s with ctxs := c } p).paramFrame v = (s.exchange p).paramFrame v := by
  by_cases h : (s.changing p && !s.glide p) = true
  · rw [State.exchange, State.exchange, if_pos h, if_pos (by exact h)]
    rfl
  · rw [State.exchange, State.exchange, if_neg h, if_neg (by exact h)]
    rfl

theorem State.exchange_rest (s : State) (p : Nat) :
    (s.exchange p).mem = s.mem ∧ (s.exchange p).poison = s.poison ∧ (s.exchange p).integ = s.integ := by
  unfold State.exchange
  dsimp only
  split <;> exact ⟨rfl, rfl, rfl⟩

end

/-! ## The marks of a change -/

section
variable (s : State) (p j n kk epoch : Nat)

theorem State.markChange_changing : (s.markChange p j n kk epoch).changing p = true := by
  rw [State.changing, State.markChange, State.on_wr_other _ _ _ _ (.inl (by simp [EPOCH_PGSTAT_CHG, EPOCH_PGEPOCH_EPOCH])),
    State.on_wr_other _ _ _ _ (.inl (by simp [EPOCH_PGSTAT_CHG, EPOCH_PGSTAT_REMAIN])), State.on_wr_same]
  rfl

theorem State.markChange_page : (s.markChange p j n kk epoch).page p =
    { s.page p with j0 := j, kk := kk, appliedAt := some n, refill := true } :=
  tget_tput_same PageSt.reset s.epoch.pages p _

theorem State.markChange_epoch : (s.markChange p j n kk epoch).rd (EPOCH_PGEPOCH_EPOCH p) = epoch % 2 ^ 32 := State.rd_wr_same ..

theorem State.markChange_paramFrame (v : Nat) : (s.markChange p j n kk epoch).paramFrame v = s.paramFrame v := rfl

end

theorem State.devGet_bank_markChange {s : State} {v : Nat} (hv : v < 6144) (hp : s.poison = []) (p j n kk epoch : Nat) :
    (s.markChange p j n kk epoch).devGet (bankAddr v) 1024 = s.devGet (bankAddr v) 1024 :=
  State.devGet_bank_congr (s := s) (t := s.markChange p j n kk epoch) hv hv hp hp rfl rfl

/-! ## A change as a whole -/

theorem stageV_lt {p : Nat} (hp : p < 2048) : stageV p < 6144 := Nat.lt_trans hp (by decide)

theorem targetV_lt {p : Nat} (hp : p < 2048) : targetV p < 6144 := by
  simp only [targetV]
  omega

theorem activeV_lt {p : Nat} (hp : p < 2048) : activeV p < 6144 := by
  simp only [activeV]
  omega

section
variable {s : State} {p : Nat} (n kk epoch : Nat) (old : List Nat)

theorem State.paramFrame_changePage (v : Nat) :
    (s.changePage p n kk epoch old).1.paramFrame v = ((s.readied p n old).exchange p).paramFrame v := by
  rw [State.changePage_eq, State.markChange_paramFrame]
  exact ((State.SameEngine.refl _).bankCopy _ _).paramFrame v

/-- Where ACTIVE needs no frame of the pool, the pointers change as exchanged. -/
theorem State.paramFrame_changePage_plain (h : s.changing p = false ∨ s.glide p = false) (v : Nat) :
    (s.changePage p n kk epoch old).1.paramFrame v = (s.exchange p).paramFrame v := by
  obtain ⟨c, hc⟩ := s.keepOld_ctxs p
  rw [State.paramFrame_changePage, State.readied_plain h, hc,
    State.paramFrame_exchange_withCtxs]

/-- What the banks of the page hold after a change, where no ECC error stands in the way (R178, R179). -/
theorem State.Clean.devGet_changePage (hs : s.Clean) (hp : p < 2048) (h : s.changing p = false ∨ s.glide p = false) :
    (s.changePage p n kk epoch old).1.devGet (targetAddr p) 1024 = s.devGet (stageAddr p) 1024
    ∧ (s.changePage p n kk epoch old).1.devGet (stageAddr p) 1024 = s.devGet (stageAddr p) 1024
    ∧ (s.paramFrame (activeV p) ≠ s.paramFrame (targetV p) → (s.changePage p n kk epoch old).1.devGet (activeAddr p) 1024
        = s.devGet (if s.changing p then targetAddr p else activeAddr p) 1024) := by
  obtain ⟨c, hc⟩ := s.keepOld_ctxs p
  rw [State.changePage_eq, State.readied_plain h, hc, targetAddr_eq, stageAddr_eq, activeAddr_eq]
  obtain ⟨hm, hq, hi⟩ := State.exchange_rest { s with ctxs := c } p
  have hft : (State.exchange { s with ctxs := c } p).paramFrame (targetV p) = s.paramFrame (stageV p) := State.exchange_target
  have hfa := s.paramFrame_exchange_withCtxs p c
  generalize State.exchange { s with ctxs := c } p = u at hm hq hi hft hfa
  have hu : u.Clean := hs.congr hq hi
  obtain ⟨hcp, hcs, hct, hco⟩ := hu.devGet_bankCopy (stageV_lt hp) (targetV_lt hp) rfl
  generalize u.bankCopy (bankAddr (stageV p)) (bankAddr (targetV p)) = t at hcp hcs hct hco
  have stage : u.devGet (bankAddr (targetV p)) 1024 = s.devGet (bankAddr (stageV p)) 1024 :=
    State.devGet_bank_congr (targetV_lt hp) (stageV_lt hp) hs.poison hu.poison hm hft
  refine ⟨?_, ?_, fun hne => ?_⟩
  · rw [State.devGet_bank_markChange (targetV_lt hp) hcp, hct, stage]
  · rw [State.devGet_bank_markChange (stageV_lt hp) hcp, hcs, stage]
  · rw [State.devGet_bank_markChange (activeV_lt hp) hcp]
    cases hg : s.changing p with
    | false =>
      obtain ⟨es, ea⟩ := State.exchange_keeps_active (s := s) (p := p) (.inl hg)
      rw [hco _ (activeV_lt hp) (by rw [hfa, hfa, es, ea]; exact hne), if_neg Bool.false_ne_true]
      exact State.devGet_bank_congr (activeV_lt hp) (activeV_lt hp) hs.poison hu.poison hm (by rw [hfa, ea])
    | true =>
      obtain ⟨es, ea⟩ := State.exchange_turns_active hg (h.resolve_left (by simp [hg]))
      rw [hco _ (activeV_lt hp) (by rw [hfa, hfa, es, ea]; exact hne.symm), if_pos rfl]
      exact State.devGet_bank_congr (activeV_lt hp) (targetV_lt hp) hs.poison hu.poison hm (by rw [hfa, ea])

/-- The marks of a change: its start, length and epoch, and the refill that is due. -/
theorem State.changePage_marks : (s.changePage p n kk epoch old).1.changing p = true
    ∧ ((s.changePage p n kk epoch old).1.page p).j0 = s.fs * n % 2 ^ 32 ∧ ((s.changePage p n kk epoch old).1.page p).kk = kk
    ∧ ((s.changePage p n kk epoch old).1.page p).refill = true
    ∧ (s.changePage p n kk epoch old).1.rd (EPOCH_PGEPOCH_EPOCH p) = epoch % 2 ^ 32 := by
  have hj : (s.keepOld p).sampleIx n = s.fs * n % 2 ^ 32 := by
    obtain ⟨c, hc⟩ := s.keepOld_ctxs p
    rw [hc]
    rfl
  rw [State.changePage_eq, State.markChange_page, hj]
  exact ⟨State.markChange_changing .., rfl, rfl, rfl, State.markChange_epoch ..⟩

end

/-! ## The end of a change (R178, R182) -/

/-- Giving up the frame of the pool moves the ACTIVE bank's pointer alone. -/
theorem State.dropPool_rest (s : State) (p : Nat) :
    (s.dropPool p).mem = s.mem ∧ (s.dropPool p).poison = s.poison ∧ (s.dropPool p).integ = s.integ
    ∧ ∀ v ≠ activeV p, (s.dropPool p).paramFrame v = s.paramFrame v := by
  unfold State.dropPool
  split
  · unfold State.givePool State.setFree
    dsimp only
    split <;> exact ⟨rfl, rfl, rfl, fun v hv => State.paramFrame_setFrame_other s _ hv⟩
  · exact ⟨rfl, rfl, rfl, fun _ _ => rfl⟩

/-- At the end of a change ACTIVE holds what TARGET holds (R178). -/
theorem State.Clean.devGet_endChange {s : State} (hs : s.Clean) {p : Nat} (hp : p < 2048) :
    (s.endChange p).devGet (activeAddr p) 1024 = s.devGet (targetAddr p) 1024 := by
  obtain ⟨c, hc⟩ := s.keepOld_ctxs p
  rw [State.endChange, hc, targetAddr_eq, activeAddr_eq]
  obtain ⟨hm, hq, hi, hf⟩ := State.dropPool_rest { s with ctxs := c } p
  have hft : (State.dropPool { s with ctxs := c } p).paramFrame (targetV p) = s.paramFrame (targetV p) := hf _ activeV_ne_targetV.symm
  generalize State.dropPool { s with ctxs := c } p = u at hm hq hi hft
  have hu : u.Clean := hs.congr hq hi
  obtain ⟨hcp, hca, -, -⟩ := hu.devGet_bankCopy (activeV_lt hp) (targetV_lt hp) rfl
  generalize u.bankCopy (bankAddr (activeV p)) (bankAddr (targetV p)) = t at hcp hca
  rw [State.devGet_bank_wr (activeV_lt hp) ((State.wr_poison ..).trans hcp),
    State.devGet_bank_wr (activeV_lt hp) hcp, hca]
  exact State.devGet_bank_congr (targetV_lt hp) (targetV_lt hp) hs.poison hu.poison hm hft

theorem State.endChange_changing (s : State) (p : Nat) : (s.endChange p).changing p = false := by
  rw [State.changing, State.endChange, State.on_wr_other _ _ _ _ (.inl (by simp [EPOCH_PGSTAT_CHG, EPOCH_PGSTAT_REMAIN])),
    State.on_wr_same]
  rfl

end Sys2Proof.Machine
end

section
/-! PROOFS. Host writes of STAGE (R176, R179, R183, R342, R343, R389), the registers SNAPCTL and POOL (R194, R195), and the
ends of a glide (R180). -/
namespace Sys2Proof.Machine

/-! ## Writes of STAGE -/

theorem State.refillPage_eq (s : State) (p : Nat) : s.refillPage p =
    if (s.page p).refill = true ∧ ¬ s.pageHeld p = true then s.setPage p { s.page p with refill := false } else s := by
  simp [State.refillPage]

section
variable {s : State} {w : Who} {x o : Nat} (hx : x < 1792) (ho : o < 256)
include hx ho

/-- A word of STAGE of a page of the engine is a word within the view (R175). -/
theorem stageAddr_word : 0x08000000 ≤ stageAddr x + 4 * o ∧ stageAddr x + 4 * o < 0x081C0000 ∧ (stageAddr x + 4 * o) % 4 = 0
    ∧ (stageAddr x + 4 * o - 0x08000000) / 0x400 = x := by
  simp only [stageAddr]
  omega

theorem stagePage_word : stagePage (stageAddr x + 4 * o) = some x := by
  obtain ⟨h0, h1, -, hp⟩ := stageAddr_word hx ho
  rw [stagePage, if_pos ⟨h0, h1⟩, hp]

theorem State.target_stage (s : State) : s.target (stageAddr x + 4 * o) = .param := by
  obtain ⟨h0, h1, -, -⟩ := stageAddr_word hx ho
  unfold State.target
  rw [if_neg (by omega), if_neg (by omega), if_neg (by omega), if_neg (by omega), if_pos (by omega), if_pos (by omega)]

/-- A word of STAGE after boot, by the warden, or by the page's owner through a window (R176, R389). -/
theorem State.passChecks_stage (hb : s.on SYS_BOOTSTAT_DONE = true) (hi : s.integ.inj = none)
    (hw : w.q = warden ∨ (s.windowed w.q (stageAddr x + 4 * o) 4 true = true ∧ s.pageOwner x = w.q)) :
    s.passChecks w (stageAddr x + 4 * o) 4 0 true = (s, true) := by
  have hp := stagePage_word hx ho
  obtain ⟨h0, h1, h4, -⟩ := stageAddr_word hx ho
  have hd : (stageAddr x + 4 * o) % 2 ^ 48 = stageAddr x + 4 * o := Nat.mod_eq_of_lt (by omega)
  have hr : ¬ (0x0A000000 ≤ stageAddr x + 4 * o ∧ stageAddr x + 4 * o < 0x0A1B0000) := by omega
  unfold State.passChecks
  simp only [hd]
  generalize stageAddr x + 4 * o = a at *
  rw [issuable_word h4, State.hops_clean hi, hb]
  rcases hw with hq | ⟨hv, hq⟩
  · simp [hr, hq]
  · simp [hr, hp, hv, hq]

/-- A word that passes the checks goes to STAGE as the page allows. -/
theorem State.hostPut_stage {p : Port} (hb : s.on SYS_BOOTSTAT_DONE = true) (hi : s.integ.inj = none)
    (hw : (s.whoOf p).q = warden ∨ (s.windowed (s.whoOf p).q (stageAddr x + 4 * o) 4 true = true ∧ s.pageOwner x = (s.whoOf p).q))
    (v : Nat) : s.hostPut p (stageAddr x + 4 * o) v =
      (let r := s.stageWrite (s.whoOf p) x (stageAddr x + 4 * o) (leBytes v 4)
       (if p = .spi && !r.2 then r.1.wr HOST_SPISTAT_ERR 1 else r.1).answerW r.2) := by
  obtain ⟨-, h1, -, -⟩ := stageAddr_word hx ho
  have hd : (stageAddr x + 4 * o) % 2 ^ 48 = stageAddr x + 4 * o := Nat.mod_eq_of_lt (by omega)
  have hu : s.busWrite (s.whoOf p) (stageAddr x + 4 * o) (leBytes v 4) 0 =
      s.stageWrite (s.whoOf p) x (stageAddr x + 4 * o) (leBytes v 4) := by
    simp only [State.busWrite, hd, leBytes_length, State.passChecks_stage hx ho hb hi hw, s.target_stage hx ho,
      stagePage_word hx ho, Bool.not_true, Bool.false_eq_true, if_false]
  rw [State.hostPut, hu]

end

section
variable {s : State} {w : Who} {x : Nat} (ha : w.host = true → s.authority = true)
include ha

/-- A page that is HELD takes no write (R183). -/
theorem State.stageWrite_held (hh : s.pageHeld x = true) (a : Nat) (bs : List Byte) :
    s.stageWrite w x a bs = (s.wr EPOCH_STATUS_STGHELD 1, false) := by
  have hn : ¬ (w.host && !s.authority) = true := by simpa using ha
  rw [State.stageWrite, if_neg hn, State.stageReady, if_pos hh]

/-- Else the word stands in STAGE, its refill complete, and a lead tells its heel (R179, R343). -/
theorem State.stageWrite_word (hh : ¬ s.pageHeld x = true) (a : Nat) (v : Word) :
    s.stageWrite w x a (leBytes v.toNat 4) =
      (let t := (s.refillPage x).devPut a (leBytes v.toNat 4)
       if w.host = true ∧ s.role = roLead then t.tell (.write a v.toNat) else t, true) := by
  have hn : ¬ (w.host && !s.authority) = true := by simpa using ha
  have hrole : ((s.refillPage x).devPut a (leBytes v.toNat 4)).role = s.role := by
    have hr : (s.refillPage x).role = s.role := by
      unfold State.refillPage
      split <;> rfl
    exact (State.rd_devPut _ _ _ (by decide)).trans hr
  have hv : leNat (leBytes v.toNat 4) = v.toNat := by
    rw [leNat_leBytes]
    exact Nat.mod_eq_of_lt v.isLt
  have ht : ((leBytes v.toNat 4).drop (4 * 0)).take 4 = leBytes v.toNat 4 :=
    List.take_of_length_le (Nat.le_of_eq (leBytes_length _ _))
  have hl : List.range ((leBytes v.toNat 4).length / 4) = [0] := by rw [leBytes_length]; rfl
  rw [State.stageWrite, if_neg hn, State.stageReady, if_neg hh]
  dsimp only
  rw [hrole, hl, List.foldl_cons, List.foldl_nil, ht, hv]
  by_cases hc : w.host = true ∧ s.role = roLead
  · rw [if_pos (by simpa using hc), if_pos hc]
    rfl
  · rw [if_neg (by simpa using hc), if_neg hc]

end

/-! ## The registers SNAPCTL and POOL (R194, R195) -/

theorem regHooks_epoch {r : RegRow} (h : blockOf r.addr = 0x05) (s : State) (w : Who) (i v : Nat) (t : State) :
    regHooks s w r i v t = epochHook.full s w r i v t := by simp only [regHooks, h]

theorem bits_snapGo (count : Fin 32) : bit (1 + count.val * 16) 0 = true ∧ bits (1 + count.val * 16) 4 5 = count.val := by
  simp only [bit, bits, beq_iff_eq]
  omega

/-- GO is refused while a snapshot is under way, is done at once for an empty list, and else waits for the downbeat. -/
theorem epochHook_snapGo (s : State) (w : Who) (i : Nat) (count : Fin 32) (t : State) :
    epochHook s w row_EPOCH_SNAPCTL i (1 + count.val * 16) t =
      if s.on EPOCH_SNAPSTAT_BUSY = true then none
      else if count.val = 0 then some (t.wr EPOCH_SNAPSTAT_DONE 1)
      else some ({ t with epoch := { t.epoch with snap := true } }.wr EPOCH_SNAPSTAT_BUSY 1) := by
  obtain ⟨h0, h4⟩ := bits_snapGo count
  simp [epochHook, row_EPOCH_SNAPCTL, h0, h4]

theorem epochHook_poolClr (s : State) (w : Who) (i : Nat) (t : State) :
    epochHook s w row_EPOCH_POOL i 2147483648 t = some (t.wr EPOCH_POOL_LOW (s.rd EPOCH_POOL_FREE)) := by
  have h : bit 2147483648 31 = true := by decide
  simp [epochHook, row_EPOCH_POOL, h]

theorem exec_snapshotGo {s : State} {p : Port} {count : Fin 32} (h : s.writeOpen p row_EPOCH_SNAPCTL 0 (1 + count.val * 16)) :
    exec (.snapshotGo p count) s = .next ((epochHook s (s.whoOf p) row_EPOCH_SNAPCTL 0 (1 + count.val * 16)
      (s.wrRow row_EPOCH_SNAPCTL 0 (1 + count.val * 16))).elim (State.turnedAway p s)
        (s.written p row_EPOCH_SNAPCTL 0 (1 + count.val * 16))) :=
  congrArg Host.Outcome.next (State.hostReg_rule h (by decide) (regHooks_epoch (by decide)))

theorem exec_poolClr {s : State} {p : Port} (h : s.writeOpen p row_EPOCH_POOL 0 2147483648) :
    exec (.poolClr p) s = .next (s.written p row_EPOCH_POOL 0 2147483648
      ((s.wrRow row_EPOCH_POOL 0 2147483648).wr EPOCH_POOL_LOW (s.rd EPOCH_POOL_FREE))) := by
  refine congrArg Host.Outcome.next ((State.hostReg_rule h (by decide) (regHooks_epoch (by decide))).trans ?_)
  rw [epochHook_poolClr, Option.elim_some]

/-! ## Glides (R180) -/

section
variable {j0 kk : Nat}

theorem ux_sx {w x : Nat} (hx : x < 2 ^ w) : ux w (sx w x) = x := by
  rw [sx_eq_toInt, ux_eq_toNat, BitVec.ofInt_toInt, BitVec.toNat_ofNat, Nat.mod_eq_of_lt hx]

theorem sinceJ0_start (j0 : Nat) : sinceJ0 j0 j0 = 0 := by
  have h : (j0 + 2 ^ 32 - j0 % 2 ^ 32) % 2 ^ 32 = 0 := by omega
  rw [sinceJ0, h]
  rfl

theorem sinceJ0_end (hj : j0 < 2 ^ 32) (hk : kk < 2 ^ 31) : sinceJ0 ((j0 + kk) % 2 ^ 32) j0 = kk := by
  have h : ((j0 + kk) % 2 ^ 32 + 2 ^ 32 - j0 % 2 ^ 32) % 2 ^ 32 = kk := by omega
  have hm : kk % 2 ^ 32 = kk := Nat.mod_eq_of_lt (by omega)
  rw [sinceJ0, h, sx, hm, if_pos (by omega)]

theorem glideWord_settled (b t j0 kk j : Nat) : glideWord b t false j0 kk j = t := rfl

theorem glideWord_start {b : Nat} (hb : b < 2 ^ 32) (t j0 : Nat) (hk : 0 < kk) :
    glideWord b t true j0 kk j0 = b := by
  have hg : glideAt (sx 32 b) (sx 32 t) 0 kk = sx 32 b := by
    rw [glideAt_running _ _ (Int.le_refl 0) (Int.natCast_pos.2 hk), Int.mul_zero, Int.zero_ediv, Int.add_zero]
  rw [glideWord, sinceJ0_start, hg]
  exact ux_sx hb

theorem glideWord_end (b : Nat) {t : Nat} (ht : t < 2 ^ 32) (hj : j0 < 2 ^ 32) (hk : kk < 2 ^ 31) :
    glideWord b t true j0 kk ((j0 + kk) % 2 ^ 32) = t := by
  rw [glideWord, sinceJ0_end hj hk, glideAt_ended _ _ (Int.le_refl _)]
  exact ux_sx ht

theorem xfadeAt_settled (j0 kk j : Nat) : xfadeAt false j0 kk j = 0x7FFFFFFF := rfl

theorem xfadeAt_start (j0 : Nat) (hk : 0 < kk) : xfadeAt true j0 kk j0 = 0 := by
  rw [xfadeAt, sinceJ0_start, Int.mul_zero, Int.zero_ediv]
  exact if_neg (by simp [Nat.ne_of_gt hk])

theorem xfadeAt_end (hj : j0 < 2 ^ 32) (hk : kk < 2 ^ 31) : xfadeAt true j0 kk ((j0 + kk) % 2 ^ 32) = 0x7FFFFFFF := by
  rw [xfadeAt, sinceJ0_end hj hk]
  exact if_pos (by simp)

end

/-! ## The statement -/

theorem exec_stageWrite {s : State} (h : s.board.held = false) (p : Port) (page : Fin 2048) (off : Fin 256) (v : Word) :
    exec (.stageWrite p page off v) s = .next (s.hostPut p (stageAddr page.val + 4 * off.val) v.toNat) :=
  congrArg Host.Outcome.next (State.live_on h _)

theorem exec_stageRefill {s : State} (h : s.board.held = false) (page : Fin 2048) :
    exec (.stageRefill page) s = .next (s.refillPage page.val) := congrArg Host.Outcome.next (State.live_on h _)

/-- Settles O43: writes of STAGE, the registers, a change by its pointers and its bytes, its end, and the ends of a glide. -/
theorem parameterPages : Obligations.ParameterPages := by
  unfold Obligations.ParameterPages
  intro p page off v count s w x a held write go clean
  have tidy : clean → s.Clean := fun ⟨hp, hf, hs, hb, hg⟩ => ⟨⟨hp, hf, hs⟩, hb, hg⟩
  refine ⟨fun hh hb hi hx ha hw => ⟨fun hd => ?held, fun hd => ?word⟩, fun hh => ?refill, fun h hb => ?busy, fun h hb => ?go,
    exec_poolClr, fun n kk epoch old => ?change, ⟨fun hc => (tidy hc).devGet_endChange page.isLt, s.endChange_changing x⟩,
    fun b t j0 kk hb ht hj h0 hk => ⟨glideWord_settled b t j0 kk, glideWord_start hb t j0 h0, glideWord_end b ht hj hk,
      xfadeAt_start j0 h0, xfadeAt_end hj hk, xfadeAt_settled j0 kk⟩⟩
  case held =>
    refine (exec_stageWrite hh p page off v).trans (congrArg _ ?_)
    rw [State.hostPut_stage hx off.isLt hb hi hw, State.stageWrite_held ha hd]
    cases p <;> rfl
  case word =>
    refine (exec_stageWrite hh p page off v).trans (congrArg _ ?_)
    rw [State.hostPut_stage hx off.isLt hb hi hw, State.stageWrite_word ha hd]
    simp only [Bool.not_true, Bool.and_false, Bool.false_eq_true, if_false]
    rfl
  case refill =>
    rw [exec_stageRefill hh, State.refillPage_eq]
  case busy => rw [exec_snapshotGo h, epochHook_snapGo, if_pos hb, Option.elim_none]
  case go =>
    rw [exec_snapshotGo h, epochHook_snapGo, if_neg (Bool.eq_false_iff.1 hb)]
    split <;> rfl
  case change =>
    have plain := State.paramFrame_changePage_plain (s := s) (p := x) n kk epoch old
    refine ⟨fun h => ?_, fun hc => ?_, fun hc hg => ?_, fun hc hg f l hl => ?_,
      fun hc h => (tidy hc).devGet_changePage n kk epoch old page.isLt h, State.changePage_marks n kk epoch old⟩
    · rw [plain h, State.exchange_target]
    · obtain ⟨hs, ha⟩ := State.exchange_keeps_active (s := s) (p := x) (.inl hc)
      rw [plain (.inl hc), plain (.inl hc), hs, ha]
      exact ⟨rfl, rfl⟩
    · obtain ⟨hs, ha⟩ := State.exchange_turns_active hc hg
      rw [plain (.inr hg), plain (.inr hg), hs, ha]
      exact ⟨rfl, rfl⟩
    · obtain ⟨hf, hgt⟩ := State.readied_glide hc hg hl n old
      rw [State.paramFrame_changePage, (State.exchange_keeps_active (.inr hgt)).2, hf]

end Sys2Proof.Machine
end

section
/-! PROOFS. Serial ports: writes of CFG (R222, R231, R237), a frame in each state of a port (R227 to R236), a received frame
of a slave (R230), underrun and its end (R235, R236). -/
namespace Sys2Proof.Machine

/-! ## What a port's parts read after other parts were written -/

@[simp] theorem State.port_setPort_same (s : State) (p : Nat) (x : PortSt) : (s.setPort p x).port p = x := tget_tput_same ..

/-- The binding of ports to groups rests on two fields of the groups alone. -/
theorem State.groupOf_congr {s t : State} (he : ∀ g, t.on (SPORT_ASRC_EN g) = s.on (SPORT_ASRC_EN g))
    (hp : ∀ g, t.rd (SPORT_ASRC_PORT g) = s.rd (SPORT_ASRC_PORT g)) (p : Nat) : t.groupOf p = s.groupOf p := by
  simp only [State.groupOf, he, hp]

/-- The fields by which a port shows what a frame or an underrun did to it (R244). -/
def portStatus : List Nat := [(SPORT_STAT_STATE 0).no, (SPORT_STAT_UNDER 0).no, (SPORT_PHASE_OFFS 0).no]

theorem stat_state_mem (p : Nat) : (SPORT_STAT_STATE p).no ∈ portStatus := by simp [portStatus, SPORT_STAT_STATE]

theorem stat_under_mem (p : Nat) : (SPORT_STAT_UNDER p).no ∈ portStatus := by simp [portStatus, SPORT_STAT_UNDER]

theorem phase_offs_mem (p : Nat) : (SPORT_PHASE_OFFS p).no ∈ portStatus := by simp [portStatus, SPORT_PHASE_OFFS]

/-! Writing one of them leaves a port's configuration, its group and the frame length. -/

section
variable {f : Fld} (hf : f.no ∈ portStatus) (s : State) (v p : Nat)
include hf

theorem State.rd_wr_status {g : Fld} (hg : g.no ∉ portStatus) : (s.wr f v).rd g = s.rd g :=
  s.rd_wr_other f g v (.inl fun e => hg (e ▸ hf))

theorem State.on_wr_status {g : Fld} (hg : g.no ∉ portStatus) : (s.wr f v).on g = s.on g :=
  congrArg (· == 1) (State.rd_wr_status hf s v hg)

theorem State.groupOf_wr_status : (s.wr f v).groupOf p = s.groupOf p :=
  State.groupOf_congr (fun g => State.on_wr_status hf s v (show (SPORT_ASRC_EN 0).no ∉ portStatus by decide))
    (fun g => State.rd_wr_status hf s v (show (SPORT_ASRC_PORT 0).no ∉ portStatus by decide)) p

theorem State.fs_wr_status : (s.wr f v).fs = s.fs := by
  rw [State.fs, State.fs, State.on_wr_status hf s v (show SYS_RATE_ACT.no ∉ portStatus by decide)]

theorem State.fadeLen_wr_status : (s.wr f v).fadeLen = s.fadeLen := by
  rw [State.fadeLen, State.fadeLen, State.fs_wr_status hf]

end

theorem State.rd_setLock_other (s : State) (g v : Nat) (f : Fld) (h : f.no ≠ (SPORT_ASRCST_LOCK 0).no) : (s.setLock g v).rd f = s.rd f := by
  have hw : (s.wr (SPORT_ASRCST_LOCK g) v).rd f = s.rd f := s.rd_wr_other _ f v (.inl h)
  unfold State.setLock
  split
  · exact hw
  · exact hw

/-! ## Writes of registers of SPORT -/

theorem regHooks_sport {r : RegRow} (h : blockOf r.addr = 0x07) (s : State) (w : Who) (i v : Nat) (t : State) :
    regHooks s w r i v t = sportHook.follow s w r i v t := by simp only [regHooks, h]

section
variable {s u : State} {p : Port} {r : RegRow} {i v : Nat} (h : s.writeOpen p r i v) (hb : blockOf r.addr = 0x07)
include h hb

/-- A write that the rules of SPORT accept: the reference candidates follow it at once (R277). -/
theorem State.hostReg_sport_accepted (hk : sportHook s (s.whoOf p) r i v (s.wrRow r i v) = (u, true)) :
    s.hostReg p r i v = s.written p r i v (s.refsFollow u) :=
  State.hostReg_open h (by rw [regHooks_sport hb, Hook.follow, hk]) fun hr => absurd (hr ▸ hb) (by decide)

theorem State.hostReg_sport_refused (hk : sportHook s (s.whoOf p) r i v (s.wrRow r i v) = (u, false)) :
    s.hostReg p r i v = State.turnedAway p u :=
  State.hostReg_ruled h (by rw [regHooks_sport hb, Hook.follow, hk])

end

/-! ## CFG (R222, R231, R237) -/

theorem sportHook_cfg (s : State) (w : Who) (i v : Nat) (t : State) : sportHook s w row_SPORT_CFG i v t = s.cfgWrite i t := rfl

/-- The fields of CFG that only a port in OFF changes (R222). -/
def frozenCfg (p : Nat) : List Fld :=
  [SPORT_CFG_MASTER p, SPORT_CFG_FMT p, SPORT_CFG_SLOTS p, SPORT_CFG_SLOTW p, SPORT_CFG_WORDL p, SPORT_CFG_BCLKINV p,
    SPORT_CFG_FSINV p, SPORT_CFG_FSWIDE p, SPORT_CFG_GRP p, SPORT_CFG_MCLK p, SPORT_CFG_RXEN p, SPORT_CFG_TXEN p]

/-- A write of CFG that turns the fields from those of `s` into those of `t` is refused (R222, R226, R231, R237). -/
def State.cfgUnfit (s : State) (p : Nat) (t : State) : Prop :=
  (s.portState p ≠ poOff ∧ ∃ f ∈ frozenCfg p, s.rd f ≠ t.rd f) ∨ t.cfgLegal p = false
    ∨ (t.on (SPORT_CFG_GRP p) = true ∧ 8 ≤ (s.grpMembers.filter (· != p)).length) ∨ (t.on (SPORT_CFG_EN p) = true ∧ t.divLegal p = false)

section
variable {s t : State} {p : Nat}

/-- The first check of a write of CFG: a frozen field changes on a port that is not OFF. -/
theorem State.cfgFrozen_iff :
    (!(s.portState p == poOff) && (frozenCfg p).any (fun f => s.rd f != t.rd f)) = true
      ↔ s.portState p ≠ poOff ∧ ∃ f ∈ frozenCfg p, s.rd f ≠ t.rd f := by
  simp only [Bool.and_eq_true, Bool.not_eq_true', beq_eq_false_iff_ne, List.any_eq_true, bne_iff_ne]

theorem State.cfgGroupFull_iff :
    (t.on (SPORT_CFG_GRP p) && decide (8 ≤ (s.grpMembers.filter (· != p)).length)) = true
      ↔ t.on (SPORT_CFG_GRP p) = true ∧ 8 ≤ (s.grpMembers.filter (· != p)).length := by
  rw [Bool.and_eq_true, decide_eq_true_eq]

theorem State.cfgDivisor_iff :
    (t.on (SPORT_CFG_EN p) && !t.divLegal p) = true ↔ t.on (SPORT_CFG_EN p) = true ∧ t.divLegal p = false := by
  rw [Bool.and_eq_true, Bool.not_eq_true']

theorem State.cfgWrite_refused (h : s.cfgUnfit p t) : s.cfgWrite p t = s.portRefused p := by
  unfold State.cfgWrite
  rcases h with hf | hl | hg | hd
  · exact if_pos (State.cfgFrozen_iff.2 hf)
  · dsimp only
    rw [hl, Bool.not_false, if_pos rfl, ite_self]
  · dsimp only
    rw [if_pos (State.cfgGroupFull_iff.2 hg), ite_self, ite_self]
  · dsimp only
    rw [if_pos (State.cfgDivisor_iff.2 hd), ite_self, ite_self, ite_self]

theorem State.cfgWrite_accepted (h : ¬ s.cfgUnfit p t) :
    s.cfgWrite p t = ((if (t.on (SPORT_CFG_EN p) = true ∧ s.on (SPORT_CFG_EN p) = false ∧ s.portState p = poOff) then
      t.wr (SPORT_STAT_STATE p) poStarting else t).countGrp.sideCheck, true) := by
  simp only [State.cfgUnfit, not_or] at h
  obtain ⟨hf, hl, hg, hd⟩ := h
  have starts : (t.on (SPORT_CFG_EN p) && !s.on (SPORT_CFG_EN p) && s.portState p == poOff) = true
      ↔ t.on (SPORT_CFG_EN p) = true ∧ s.on (SPORT_CFG_EN p) = false ∧ s.portState p = poOff := by
    rw [Bool.and_eq_true, Bool.and_eq_true, Bool.not_eq_true', beq_iff_eq, and_assoc]
  refine (if_neg (mt State.cfgFrozen_iff.1 hf)).trans ?_
  rw [if_neg (by simpa using hl), if_neg (mt State.cfgGroupFull_iff.1 hg), if_neg (mt State.cfgDivisor_iff.1 hd)]
  simp only [starts]

end

/-- EN reads what the write gives it: no other field of CFG stands in its place. -/
theorem State.on_wrRow_cfg (s : State) (k v : Nat) : (s.wrRow row_SPORT_CFG k v).on (SPORT_CFG_EN k) = bit v 0 := by
  have key : ∀ n ∈ (row_SPORT_CFG.flds 0).tail.map (·.2.1.no), (SPORT_CFG_EN 0).no ≠ n := by decide
  have same : (row_SPORT_CFG.flds k).tail.map (·.2.1.no) = (row_SPORT_CFG.flds 0).tail.map (·.2.1.no) := rfl
  have apart : ∀ q ∈ (row_SPORT_CFG.flds k).tail, (SPORT_CFG_EN k).apart q.2.1 := fun q hq =>
    .inl (key q.2.1.no (same ▸ List.mem_map_of_mem hq))
  have first : row_SPORT_CFG.flds k = (0, SPORT_CFG_EN k, .rw) :: (row_SPORT_CFG.flds k).tail := rfl
  have h : (s.wrRow row_SPORT_CFG k v).rd (SPORT_CFG_EN k) = (s.wrField v (0, SPORT_CFG_EN k, .rw)).rd (SPORT_CFG_EN k) := by
    rw [State.wrRow, first, List.foldl_cons, (State.foldl_wrField_other v _ _ _ apart).1]
  have hb : bits v 0 1 % 2 = bits v 0 1 := Nat.mod_mod ..
  rw [State.on, h, State.wrField, State.rd_wr_same, show (SPORT_CFG_EN k).w = 1 from rfl, Nat.pow_one, hb, bit]

/-- EN in a value of CFG whose lowest bit was set to `en`. -/
theorem bit_withBits_enable (v : Word) (en : Bool) : bit (withBits v 0 1 (b2n en)) 0 = en := by
  rw [bit, bits_withBits_same]
  cases en <;> rfl

theorem exec_portConfigure (p : Port) (x : Fin 64) (v : Word) (en : Bool) (s : State) :
    exec (if en then .portEnable p x v else .portDisable p x v) s
      = .next (s.hostReg p row_SPORT_CFG x.val (withBits v 0 1 (b2n en))) := by
  cases en <;> rfl

/-! ## What follows at the reference candidates (R275, R277) -/

/-- Where nothing changed, nothing follows. -/
theorem State.refsFollow_self (s : State) : s.refsFollow s = s := by
  have hm (x : Nat) : s.tbMoved s x = 0 := Int.sub_self _
  have hj (x : Nat) : s.tbJumped s x = false := by simp [State.tbJumped, hm]
  simp [State.refsFollow, hj]

theorem State.portFrameAll_eq (s : State) (p T : Nat) (din : List Bool) :
    s.portFrameAll p T din =
      (let w := s.portEvent (s.portFrame p T din) p T
       if w.refs == (s.portFrame p T din).refs then s.refsFollow w else (s.refsFollow w).refsSettle) := rfl

/-- An edge that does not come from a running slave is no event. -/
theorem State.portEvent_none {s : State} {p : Nat} (h : s.portState p ≠ poRun ∨ s.on (SPORT_CFG_MASTER p) = true) (T : Nat) :
    s.portEvent s p T = s := by
  refine foldl_fixed _ _ (fun c => if_neg ?_) _
  rintro ⟨-, hm, hr⟩
  rcases h with h | h
  · exact h (hr.elim id id)
  · simp [h] at hm

/-! ## A frame, state by state (R227 to R237) -/

theorem exec_portFrame {s : State} (h : s.board.held = false) (x : Fin 64) (time : Nat) (din : List Bool) :
    exec (.portFrame x time din) s = .next (s.portFrameAll x.val time din) := congrArg Host.Outcome.next (State.live_on h _)

theorem exec_portUnderrun {s : State} (h : s.board.held = false) (x : Fin 64) :
    exec (.portUnderrun x) s = .next (s.refsFollow (s.portUnderrun x.val)) := congrArg Host.Outcome.next (State.live_on h _)

/-- A frame that passes latches the masks and the grid index at which the next may pass (R228, R233). -/
def State.latchedPort (s : State) (p T : Nat) : PortSt :=
  { s.port p with rx := s.rd (SPORT_RXMASK_MASK p), tx := s.rd (SPORT_TXMASK_MASK p), next := (s.frameAt p T).2.2 + 4 }

/-- The state in which a frame that passes is judged. -/
def State.latched (s : State) (p T : Nat) : State := s.setPort p (s.latchedPort p T)

/-- The interval from the last edge to that of the frame given at `T`. -/
def State.edgeGap (s : State) (p T : Nat) : Nat := match (s.port p).edge with | some e => (s.frameAt p T).1 - e | none => 0

/-- A frame leaves its edge and the interval to it; `t` is the state after the rest of the frame (R236, R237). -/
def State.edged (s : State) (p T : Nat) (t : State) : State :=
  t.setPort p { t.port p with
    edge := some (s.frameAt p T).1, gap := s.edgeGap p T
    per := if t.portState p = poRun ∧ s.portState p ≠ poUnder then s.edgeGap p T else (t.port p).per }

section
variable {s : State} {p T : Nat} {din : List Bool}

theorem State.portFrame_unseen (h : s.portState p = poOff ∨ s.portState p = poStarting ∨ s.framePasses p T = false) :
    s.portFrame p T din = s := if_pos h

/-- A frame that passes on a port that is neither OFF nor STARTING. -/
theorem State.portFrame_seen (ho : s.portState p ≠ poOff) (hs : s.portState p ≠ poStarting) (hp : s.framePasses p T = true) :
    s.portFrame p T din =
      (let u := s.latched p T
       let x := s.latchedPort p T
       let T' := (s.frameAt p T).1
       let ji := (s.frameAt p T).2.1
       let ws := s.lineWords p din
       s.edged p T
        (if s.portState p = poSeeking then
          u.setPort p { x with timely := if u.steadyEdge (u.groupOf p).isSome x T' then x.timely + 1 else 1 }
        else if s.portState p = poRun then ((u.sendFrame p T' (s.frameAt p T).2.2).runFrame p T' ji ws).asrcEdge p T'
        else u.underFrame p T' ji ws)) := by
  have hn : ¬ (s.portState p = poOff ∨ s.portState p = poStarting ∨ s.framePasses p T = false) := by simp [ho, hs, hp]
  exact if_neg hn

theorem State.portFrame_seeking (hs : s.portState p = poSeeking) (hp : s.framePasses p T = true) :
    s.portFrame p T din = s.edged p T ((s.latched p T).setPort p { s.latchedPort p T with
      timely := if (s.latched p T).steadyEdge ((s.latched p T).groupOf p).isSome (s.latchedPort p T) (s.frameAt p T).1
        then (s.port p).timely + 1 else 1 }) := by
  rw [State.portFrame_seen (by rw [hs]; decide) (by rw [hs]; decide) hp]
  exact congrArg (s.edged p T) (if_pos hs)

theorem State.portFrame_run (hs : s.portState p = poRun) (hp : s.framePasses p T = true) :
    s.portFrame p T din = s.edged p T ((((s.latched p T).sendFrame p (s.frameAt p T).1 (s.frameAt p T).2.2).runFrame p
      (s.frameAt p T).1 (s.frameAt p T).2.1 (s.lineWords p din)).asrcEdge p (s.frameAt p T).1) := by
  rw [State.portFrame_seen (by rw [hs]; decide) (by rw [hs]; decide) hp]
  exact congrArg (s.edged p T) ((if_neg (by rw [hs]; decide)).trans (if_pos hs))

theorem State.portFrame_under (hs : s.portState p = poUnder) (hp : s.framePasses p T = true) :
    s.portFrame p T din = s.edged p T ((s.latched p T).underFrame p (s.frameAt p T).1 (s.frameAt p T).2.1 (s.lineWords p din)) := by
  rw [State.portFrame_seen (by rw [hs]; decide) (by rw [hs]; decide) hp]
  exact congrArg (s.edged p T) ((if_neg (by rw [hs]; decide)).trans (if_neg (by rw [hs]; decide)))

/-- A frame that is not seen leaves the whole state: that of a running port which does not pass is a master's. -/
theorem State.portFrameAll_unseen (h : s.portState p = poOff ∨ s.portState p = poStarting ∨ s.framePasses p T = false) :
    s.portFrameAll p T din = s := by
  have hr : s.portState p ≠ poRun ∨ s.on (SPORT_CFG_MASTER p) = true := by
    rcases h with h | h | h
    · exact .inl (by rw [h]; decide)
    · exact .inl (by rw [h]; decide)
    · simp only [State.framePasses, State.onGrid, Bool.or_eq_false_iff, Bool.not_eq_false', Bool.and_eq_true] at h
      exact .inr h.1.1
  rw [State.portFrameAll_eq, State.portFrame_unseen h, State.portEvent_none hr]
  dsimp only
  rw [if_pos (beq_self_eq_true _), s.refsFollow_self]

end

/-! ## Underrun (R235) -/

section
variable {s : State} {p : Nat}

theorem State.portUnderrun_idle (h : s.portState p ≠ poRun ∨ s.on (SPORT_CFG_MASTER p) = true) : s.portUnderrun p = s :=
  if_pos (by simpa using h)

/-- The state field and UNDER of a port that enters underrun. -/
def State.underMarked (s : State) (p : Nat) : State := (s.wr (SPORT_STAT_STATE p) poUnder).wr (SPORT_STAT_UNDER p) 1

/-- The port of a slave in underrun: substitutes start under their policy (R235, R240). -/
def State.underPort (s : State) (p : Nat) : PortSt :=
  let start := s.subStart (s.rd (SPORT_CFG_UPOL p))
  { s.port p with timely := 0, rising := false, fall := start, stamps := [],
                  outFall := if (s.groupOf p).isSome then start else (s.port p).outFall }

/-- The group of port `p`, if it has one, returns to ACQUIRE (R240). -/
def State.groupAcquires (s : State) (p : Nat) : State := match s.groupOf p with | some g => s.setLock g 1 | none => s

theorem State.rd_underMarked (s : State) (p : Nat) {f : Fld} (h : f.no ∉ portStatus) : (s.underMarked p).rd f = s.rd f :=
  (State.rd_wr_status (stat_under_mem p) _ 1 h).trans (State.rd_wr_status (stat_state_mem p) s poUnder h)

theorem State.upol_underMarked (s : State) (p : Nat) : (s.underMarked p).rd (SPORT_CFG_UPOL p) = s.rd (SPORT_CFG_UPOL p) :=
  s.rd_underMarked p (show (SPORT_CFG_UPOL 0).no ∉ portStatus by decide)

theorem State.rd_groupAcquires (s : State) (p : Nat) (f : Fld) (h : f.no ≠ (SPORT_ASRCST_LOCK 0).no) :
    (s.groupAcquires p).rd f = s.rd f := by
  unfold State.groupAcquires
  split
  · exact s.rd_setLock_other _ 1 f h
  · rfl

/-- The marks of an underrun leave what the substitutes start from. -/
theorem State.underPort_marked (s : State) (p : Nat) : (s.underMarked p).underPort p = s.underPort p := by
  have hg : (s.underMarked p).groupOf p = s.groupOf p :=
    (State.groupOf_wr_status (stat_under_mem p) _ 1 p).trans (State.groupOf_wr_status (stat_state_mem p) s poUnder p)
  have hN : (s.underMarked p).fadeLen = s.fadeLen :=
    (State.fadeLen_wr_status (stat_under_mem p) _ 1).trans (State.fadeLen_wr_status (stat_state_mem p) s poUnder)
  have hx : (s.underMarked p).port p = s.port p := rfl
  simp only [State.underPort, State.subStart, s.upol_underMarked p, hg, hN, hx]

/-- A slave in RUN enters underrun, with a record that names its policy. -/
theorem State.portUnderrun_slave (hr : s.portState p = poRun) (hm : s.on (SPORT_CFG_MASTER p) = false) :
    s.portUnderrun p = (((s.underMarked p).setPort p (s.underPort p)).groupAcquires p).emit
      (mkRec cLost 0 0x0028 uPort p [s.rd (SPORT_CFG_UPOL p)]) := by
  have hu : ((((s.underMarked p).setPort p (s.underPort p)).groupAcquires p).rd (SPORT_CFG_UPOL p)) = s.rd (SPORT_CFG_UPOL p) :=
    (State.rd_groupAcquires _ p (SPORT_CFG_UPOL p) (show (SPORT_CFG_UPOL 0).no ≠ (SPORT_ASRCST_LOCK 0).no by decide)).trans (s.upol_underMarked p)
  refine (if_neg (by simp [hr, hm])).trans ?_
  rw [← hu, ← s.underPort_marked p]
  rfl

end

/-! ## A received frame of a slave in RUN (R227, R230) -/

section
variable {s : State} {p T l : Nat} {j : Int} {ws : List Nat}
  (hm : s.on (SPORT_CFG_MASTER p) = false) (hg : (s.groupOf p).isSome = false) (hj : (s.fs * s.frame : Nat) ≤ j)
  (hl : (s.port p).last = some l)

/-- PHASE shows how long after the edge the grid time of the frame's samples stands (R244). -/
def State.phaseShown (s : State) (p T : Nat) (j : Int) : State := s.wr (SPORT_PHASE_OFFS p) (s.gridTime (j - 2) - T).toNat

/-- The words that a slot's last samples stand for: what fills an index that a slave skipped (R230). -/
def State.heldWords (s : State) (p : Nat) : List Nat :=
  (List.range 32).map fun i => tget 0 (s.port p).hold i / 2 ^ (32 - s.wordLen p)

theorem State.heldWords_of_port {y : PortSt} (h : s.port p = y) :
    s.heldWords p = (List.range 32).map fun i => tget 0 y.hold i / 2 ^ (32 - s.wordLen p) := by
  rw [State.heldWords, h]

include hm hg hj hl

/-- The grid index of a slave's frame is judged against the last one given. -/
theorem State.runFrame_slave :
    s.runFrame p T j ws =
      (let t := s.phaseShown p T j
       if j.toNat ≤ l then t.slip p
       else if j.toNat = l + 1 then t.takeFrame p j.toNat T ws
       else if j.toNat = l + 2 then
        ((t.takeFrame p (l + 1) (t.gridTime ((l : Int) - 1)).toNat (t.heldWords p)).slip p).takeFrame p j.toNat T ws
       else t.portUnderrun p) := by
  have hm' : (s.phaseShown p T j).on (SPORT_CFG_MASTER p) = false :=
    (State.on_wr_status (g := SPORT_CFG_MASTER p) (phase_offs_mem p) s _ (show (SPORT_CFG_MASTER 0).no ∉ portStatus by decide)).trans hm
  have hg' : ((s.phaseShown p T j).groupOf p).isSome = false := by
    rw [State.phaseShown, State.groupOf_wr_status (phase_offs_mem p), hg]
  have hf : (s.phaseShown p T j).fs = s.fs := State.fs_wr_status (phase_offs_mem p) s _
  have hj' : ¬ j < ((s.phaseShown p T j).fs : Int) * ((s.phaseShown p T j).frame : Int) := by
    rw [hf, show (s.phaseShown p T j).frame = s.frame from rfl]
    exact Int.not_lt.2 (by simpa using hj)
  have hn : ¬ (((s.phaseShown p T j).groupOf p).isSome || (s.phaseShown p T j).on (SPORT_CFG_MASTER p)) = true := by simp [hm', hg']
  simp only [State.runFrame, hm, hl, Bool.false_eq_true, if_false]
  exact (if_neg hj').trans (if_neg hn)

theorem State.runFrame_next (h : j = l + 1) : s.runFrame p T j ws = (s.phaseShown p T j).takeFrame p (l + 1) T ws := by
  have ht : j.toNat = l + 1 := by omega
  rw [State.runFrame_slave hm hg hj hl]
  dsimp only
  rw [ht, if_neg (by omega), if_pos rfl]

theorem State.runFrame_taken (h : j ≤ l) : s.runFrame p T j ws = (s.phaseShown p T j).slip p := by
  rw [State.runFrame_slave hm hg hj hl]
  exact if_pos (by omega)

theorem State.runFrame_skipped (h : j = l + 2) :
    s.runFrame p T j ws =
      (let t := s.phaseShown p T j
       ((t.takeFrame p (l + 1) (t.gridTime ((l : Int) - 1)).toNat (t.heldWords p)).slip p).takeFrame p (l + 2) T ws) := by
  have ht : j.toNat = l + 2 := by omega
  rw [State.runFrame_slave hm hg hj hl]
  dsimp only
  rw [ht, if_neg (by omega), if_neg (by omega), if_pos rfl]

theorem State.runFrame_lost (h : (l : Int) + 2 < j) : s.runFrame p T j ws = (s.phaseShown p T j).portUnderrun p := by
  rw [State.runFrame_slave hm hg hj hl]
  dsimp only
  rw [if_neg (by omega), if_neg (by omega), if_neg (by omega)]

end

/-! ## A frame of a port in underrun (R236) -/

theorem State.setSmp_flds (s : State) {e : Nat} (h : netRx e = false) (m i v : Nat) : (s.setSmp e m i v).flds = s.flds := by
  simp [State.setSmp, h]

/-- The slots of ports are no network channels. -/
theorem netRx_slot {p i : Nat} (hp : p < 64) (hi : i < 32) : netRx (32 * p + i) = false := by
  simp only [netRx, Bool.and_eq_false_iff, decide_eq_false_iff_not]
  omega

theorem State.addFrame_flds (s : State) {p : Nat} (hp : p < 64) (f : PFrame) : (s.addFrame p f).flds = s.flds := by
  unfold State.addFrame
  dsimp only
  split
  · exact List.foldlRecOn (motive := fun t : State => t.flds = s.flds) _ _ rfl fun t ht i hi =>
      (t.setSmp_flds (netRx_slot hp (List.mem_range.1 hi)) ..).trans ht
  · rfl

/-- Taking a frame changes no register. -/
theorem State.takeFrame_flds (s : State) {p : Nat} (hp : p < 64) (j T : Nat) (ws : List Nat) :
    (s.takeFrame p j T ws).flds = s.flds := by
  unfold State.takeFrame
  exact State.addFrame_flds _ hp _

theorem State.portState_of_flds {s t : State} (h : t.flds = s.flds) (p : Nat) : t.portState p = s.portState p := by
  simp only [State.portState, State.rd, h]

section
variable {s : State} {p T : Nat} {j : Int} {ws : List Nat}

theorem State.underFrame_late (h : s.timelyEdge (s.groupOf p).isSome (s.port p) T = false) :
    s.underFrame p T j ws = s.setPort p { s.port p with timely := 0 } := by
  simp [State.underFrame, h]

theorem State.underFrame_counts (h : s.timelyEdge (s.groupOf p).isSome (s.port p) T = true) (hn : (s.port p).timely < 3) :
    s.underFrame p T j ws = s.setPort p { s.port p with timely := (s.port p).timely + 1 } := by
  have hn' : (s.port p).timely + 1 < 4 := by omega
  simp [State.underFrame, h, hn']

/-- The fourth timely edge in a row rejoins the port. -/
theorem State.underFrame_rejoins (hp : p < 64) (h : s.timelyEdge (s.groupOf p).isSome (s.port p) T = true) (hn : 3 ≤ (s.port p).timely) :
    (s.underFrame p T j ws).portState p = poRun := by
  have hn' : ¬ (s.port p).timely + 1 < 4 := by omega
  have marked (t : State) (v : Nat) : ((t.wr (SPORT_STAT_STATE p) poRun).wr (SPORT_PHASE_OFFS p) v).portState p = poRun :=
    (State.rd_wr_other _ (SPORT_PHASE_OFFS p) (SPORT_STAT_STATE p) v
      (.inl (show (SPORT_STAT_STATE 0).no ≠ (SPORT_PHASE_OFFS 0).no by decide))).trans (t.rd_wr_same (SPORT_STAT_STATE p) poRun)
  simp only [State.underFrame, h, hn', if_true, if_false]
  refine iteInduction (motive := fun t : State => t.portState p = poRun) (fun _ => marked _ _) fun _ => ?_
  exact (State.portState_of_flds (State.takeFrame_flds _ hp _ _ _) p).trans (marked _ _)

end

end Sys2Proof.Machine
end

section
/-! PROOFS. Converter groups (R239, R240), PDM clocks and microphones (R241 to R243, R245), and the statement of chapter 10. -/
namespace Sys2Proof.Machine

/-! ## A write of ASRCg (R239, R244) -/

theorem sportHook_asrc (s : State) (w : Who) (i v : Nat) (t : State) : sportHook s w row_SPORT_ASRC i v t = s.asrcWrite i t := rfl

theorem exec_asrcEnable (p : Port) (g : Fin 16) (v : Word) (s : State) :
    exec (.asrcEnable p g v) s = .next (s.hostReg p row_SPORT_ASRC g.val v.toNat) := rfl

/-- The channels that the enabled groups of `t` take together (R239). -/
def State.channelsUsed (t : State) : Nat :=
  (List.range 16).foldl (fun n q => if t.on (SPORT_ASRC_EN q) then n + t.groupUse q else n) 0

/-- A write that turns the fields of group `g` from those of `s` into those of `t` is refused: the port of an enabled group
changes, there are too many channels, or the port that the group is to bind is not free (R239). -/
def State.asrcUnfit (s : State) (g : Nat) (t : State) : Prop :=
  (s.on (SPORT_ASRC_EN g) = true ∧ s.rd (SPORT_ASRC_PORT g) ≠ t.rd (SPORT_ASRC_PORT g))
    ∨ (t.on (SPORT_ASRC_EN g) = true ∧ (128 < t.channelsUsed ∨ 32 < t.rd (SPORT_ASRC_CHIN g) ∨ 32 < t.rd (SPORT_ASRC_CHOUT g)))
    ∨ (t.on (SPORT_ASRC_EN g) = true ∧ s.on (SPORT_ASRC_EN g) = false
      ∧ ((s.groupOf (t.rd (SPORT_ASRC_PORT g))).isSome = true ∨ t.on (SPORT_CFG_GRP (t.rd (SPORT_ASRC_PORT g))) = true
        ∨ t.portState (t.rd (SPORT_ASRC_PORT g)) ≠ poOff))

/-- The group starts in ACQUIRE where it is enabled, and stops where it is disabled, which its crossing is fenced for. -/
def State.asrcTurn (t : State) (g : Nat) (was now : Bool) : State :=
  if now && !was then t.setLock g 1 else if !now && was then (t.setLock g 0).fence 5 else t

theorem State.asrcTurn_same (t : State) (g : Nat) (b : Bool) : t.asrcTurn g b b = t := by cases b <;> rfl

theorem State.asrcTurn_starts (t : State) (g : Nat) : t.asrcTurn g false true = t.setLock g 1 := rfl

theorem State.asrcTurn_stops (t : State) (g : Nat) : t.asrcTurn g true false = (t.setLock g 0).fence 5 := rfl

section
variable {s t : State} {g : Nat}

theorem State.asrcMoved_iff :
    (s.on (SPORT_ASRC_EN g) && s.rd (SPORT_ASRC_PORT g) != t.rd (SPORT_ASRC_PORT g)) = true
      ↔ s.on (SPORT_ASRC_EN g) = true ∧ s.rd (SPORT_ASRC_PORT g) ≠ t.rd (SPORT_ASRC_PORT g) := by
  rw [Bool.and_eq_true, bne_iff_ne]

theorem State.asrcTooMany_iff :
    (t.on (SPORT_ASRC_EN g) && (decide (128 < t.channelsUsed) || decide (32 < t.rd (SPORT_ASRC_CHIN g))
        || decide (32 < t.rd (SPORT_ASRC_CHOUT g)))) = true
      ↔ t.on (SPORT_ASRC_EN g) = true
        ∧ (128 < t.channelsUsed ∨ 32 < t.rd (SPORT_ASRC_CHIN g) ∨ 32 < t.rd (SPORT_ASRC_CHOUT g)) := by
  simp only [Bool.and_eq_true, Bool.or_eq_true, decide_eq_true_eq, or_assoc]

theorem State.asrcBound_iff (p : Nat) :
    (t.on (SPORT_ASRC_EN g) && !s.on (SPORT_ASRC_EN g)
        && ((s.groupOf p).isSome || t.on (SPORT_CFG_GRP p) || t.portState p != poOff)) = true
      ↔ t.on (SPORT_ASRC_EN g) = true ∧ s.on (SPORT_ASRC_EN g) = false
        ∧ ((s.groupOf p).isSome = true ∨ t.on (SPORT_CFG_GRP p) = true ∨ t.portState p ≠ poOff) := by
  simp only [Bool.and_eq_true, Bool.or_eq_true, Bool.not_eq_true', bne_iff_ne, or_assoc, and_assoc]

theorem State.asrcWrite_refused (h : s.asrcUnfit g t) : s.asrcWrite g t = (s, false) := by
  unfold State.asrcWrite
  dsimp only
  rcases h with hp | hn | hb
  · rw [if_pos (State.asrcMoved_iff.2 hp)]
  · rw [← State.channelsUsed, if_pos (State.asrcTooMany_iff.2 hn), ite_self]
  · rw [if_pos ((State.asrcBound_iff _).2 hb), ite_self, ite_self]

theorem State.asrcWrite_accepted (h : ¬ s.asrcUnfit g t) :
    s.asrcWrite g t = ((((t.wr SPORT_ASRCUSE_USED t.channelsUsed).markBound (t.rd (SPORT_ASRC_PORT g))).asrcTurn g
      (s.on (SPORT_ASRC_EN g)) (t.on (SPORT_ASRC_EN g))).sideCheck, true) := by
  simp only [State.asrcUnfit, not_or] at h
  obtain ⟨hp, hn, hb⟩ := h
  unfold State.asrcWrite
  dsimp only
  rw [← State.channelsUsed, if_neg (mt State.asrcMoved_iff.1 hp), if_neg (mt State.asrcTooMany_iff.1 (by simpa using hn)),
    if_neg (mt (State.asrcBound_iff _).1 (by simpa using hb))]
  rfl

end

/-! ## A group locks (R239, R240) -/

theorem exec_asrcLock {s : State} (h : s.board.held = false) (g : Fin 16) (span : Fin 64) :
    exec (.asrcLock g span) s = .next (s.asrcLock g.val (span.val + 1)) := congrArg Host.Outcome.next (State.live_on h _)

section
variable {s : State} {g n : Nat}

theorem State.asrcLock_waits (h : s.rd (SPORT_ASRCST_LOCK g) ≠ 1 ∨ s.portState (s.rd (SPORT_ASRC_PORT g)) ≠ poRun
    ∨ s.measuredRatio (s.port (s.rd (SPORT_ASRC_PORT g))) n = none) : s.asrcLock g n = s := by
  unfold State.asrcLock
  dsimp only
  rcases h with h | h | h
  · exact if_pos (by simp [h])
  · exact if_pos (by simp [h])
  · rw [h, ite_self]

theorem State.asrcLock_locks (hl : s.rd (SPORT_ASRCST_LOCK g) = 1) (hp : s.portState (s.rd (SPORT_ASRC_PORT g)) = poRun) {r : Nat}
    (hr : s.measuredRatio (s.port (s.rd (SPORT_ASRC_PORT g))) n = some r) :
    s.asrcLock g n =
      (let p := s.rd (SPORT_ASRC_PORT g)
       ((s.setPort p { s.port p with ratio := r, outFall := s.fadeLen }).setLock g 2).wr (SPORT_ASRCST_RATIO g) (r / 2 ^ 20)) := by
  unfold State.asrcLock
  dsimp only
  rw [if_neg (by simp [hl, hp]), hr]

end

/-! ## PDM clocks and lines (R241, R243, R245) -/

theorem regHooks_pdm {r : RegRow} (h : blockOf r.addr = 0x08) (s : State) (w : Who) (i v : Nat) (t : State) :
    regHooks s w r i v t = pdmHook.full s w r i v t := by simp only [regHooks, h]

theorem exec_pdmClockEnable (p : Port) (c : Fin 8) (v : Word) (s : State) :
    exec (.pdmClockEnable p c v) s = .next (s.hostReg p row_PDM_CLK c.val v.toNat) := rfl

theorem exec_micEnable (p : Port) (l : Fin 32) (v : Word) (s : State) :
    exec (.micEnable p l v) s = .next (s.hostReg p row_PDM_LCFG l.val v.toNat) := rfl

/-- RATE of an enabled clock changes, or rate 0 is asked for at 96 kHz (R241, R245). -/
def State.pdmShut (s : State) (c v : Nat) : Prop :=
  (s.on (PDM_CLK_EN c) = true ∧ s.rd (PDM_CLK_RATE c) ≠ bits v 1 2) ∨ (bits v 1 2 = 0 ∧ s.on SYS_RATE_ACT = true)

theorem pdmHook_clk (s : State) (w : Who) (c v : Nat) (t : State) :
    pdmHook s w row_PDM_CLK c v t =
      if s.on (PDM_CLK_EN c) && s.rd (PDM_CLK_RATE c) != bits v 1 2 then none
      else if bits v 1 2 = 0 && s.on SYS_RATE_ACT then none
      else some ((List.range 8).foldl (fun t k => t.micTurn (8 * c + k)) t) := rfl

section
variable {s : State} {c v : Nat}

theorem pdmHook_clk_refused (h : s.pdmShut c v) (w : Who) (t : State) : pdmHook s w row_PDM_CLK c v t = none := by
  rw [pdmHook_clk]
  rcases h with ⟨he, hr⟩ | ⟨hz, ha⟩
  · exact if_pos (by simp [he, hr])
  · rw [if_pos (c := (decide (bits v 1 2 = 0) && s.on SYS_RATE_ACT) = true) (by simp [hz, ha]), ite_self]

theorem pdmHook_clk_accepted (h : ¬ s.pdmShut c v) (w : Who) (t : State) :
    pdmHook s w row_PDM_CLK c v t = some ((List.range 8).foldl (fun t k => t.micTurn (8 * c + k)) t) := by
  simp only [State.pdmShut, not_or] at h
  obtain ⟨he, hz⟩ := h
  rw [pdmHook_clk, if_neg (by simpa using he), if_neg (by simpa using hz)]

end

theorem pdmHook_lcfg (s : State) (w : Who) (l v : Nat) (t : State) :
    pdmHook s w row_PDM_LCFG l v t = some ((t.micTurn (2 * l)).micTurn (2 * l + 1)) := rfl

/-! ## Microphones (R235, R243) -/

section
variable {s : State} (h : s.board.held = false) (m : Fin 64)
include h

theorem exec_wakeEnd : exec (.wakeEnd m) s = .next (s.micWake m.val) := congrArg Host.Outcome.next (State.live_on h _)

theorem exec_micStuck : exec (.micStuck m) s = .next (s.micStuck m.val) := congrArg Host.Outcome.next (State.live_on h _)

theorem exec_micUnstuck : exec (.micUnstuck m) s = .next (s.micUnstuck m.val) := congrArg Host.Outcome.next (State.live_on h _)

end

/-- Microphone `m` is enabled and has a clock (R243). -/
def State.micLive (s : State) (m : Nat) : Prop := s.on (micEnable m) = true ∧ s.on (PDM_CLK_EN (m / 8)) = true

section
variable {s : State} {m : Nat}

theorem State.micWake_waking (h : s.rd (micField m) = 1) : s.micWake m = (s.wr (micField m) 2).micFrom m 2 :=
  if_neg (not_not_intro h)

theorem State.micWake_other (h : s.rd (micField m) ≠ 1) : s.micWake m = s := if_pos h

theorem State.micStuck_running (h : s.rd (micField m) = 2) :
    s.micStuck m = (((s.wr (micField m) 3).wr (PDM_LSTAT_STUCKEV (m / 2)) 1).micFrom m 3).emit
      (mkRec cLost 0 0x0028 uMic m [s.rd (PDM_LCFG_UPOL (m / 2))]) := if_neg (not_not_intro h)

theorem State.micStuck_other (h : s.rd (micField m) ≠ 2) : s.micStuck m = s := if_pos h

theorem State.micUnstuck_stuck (h : s.rd (micField m) = 3) : s.micUnstuck m = (s.wr (micField m) 2).micFrom m 2 := if_pos h

theorem State.micUnstuck_other (h : s.rd (micField m) ≠ 3) : s.micUnstuck m = s := if_neg h

theorem State.micLive_iff : (!(s.on (micEnable m) && s.on (PDM_CLK_EN (m / 8)))) = true ↔ ¬ s.micLive m := by
  rw [Bool.not_eq_true', Bool.eq_false_iff, ne_eq, Bool.and_eq_true, State.micLive]

theorem State.micTurn_wakes (hl : s.micLive m) (h : s.rd (micField m) = 0) : s.micTurn m = (s.wr (micField m) 1).micFrom m 1 :=
  (if_neg (not_not_intro hl ∘ State.micLive_iff.1)).trans (if_pos h)

theorem State.micTurn_stays_on (hl : s.micLive m) (h : s.rd (micField m) ≠ 0) : s.micTurn m = s :=
  (if_neg (not_not_intro hl ∘ State.micLive_iff.1)).trans (if_neg h)

theorem State.micTurn_stays_off (hl : ¬ s.micLive m) (h : s.rd (micField m) = 0) : s.micTurn m = s :=
  (if_pos (State.micLive_iff.2 hl)).trans (if_pos h)

/-- A fenced crossing shows in fields of SYS alone. -/
theorem State.rd_fence_other (s : State) (cls : Nat) (f : Fld) (h1 : f.no ≠ SYS_XRSTEV_CLASS.no) (h2 : f.no ≠ (SYS_XRSTCNT_COUNT 0).no) :
    (s.fence cls).rd f = s.rd f :=
  (State.rd_incSat_other _ (SYS_XRSTCNT_COUNT cls) f 1 (.inl h2)).trans (s.rd_wr_other SYS_XRSTEV_CLASS f _ (.inl h1))

theorem micField_no (m : Nat) : (micField m).no = (PDM_LSTAT_STATEA 0).no ∨ (micField m).no = (PDM_LSTAT_STATEB 0).no := by
  unfold micField
  split
  · exact .inl rfl
  · exact .inr rfl

theorem State.rd_micField_fence (s : State) (cls m : Nat) : (s.fence cls).rd (micField m) = s.rd (micField m) := by
  have apart : ∀ n ∈ [SYS_XRSTEV_CLASS.no, (SYS_XRSTCNT_COUNT 0).no], (PDM_LSTAT_STATEA 0).no ≠ n ∧ (PDM_LSTAT_STATEB 0).no ≠ n := by decide
  have hn : ∀ n ∈ [SYS_XRSTEV_CLASS.no, (SYS_XRSTCNT_COUNT 0).no], (micField m).no ≠ n := fun n hn =>
    (micField_no m).elim (fun h => h ▸ (apart n hn).1) (fun h => h ▸ (apart n hn).2)
  exact s.rd_fence_other cls _ (hn _ (by simp)) (hn _ (by simp))

/-- A microphone that loses its enable bit or its clock reads OFF. -/
theorem State.rd_micTurn_off (hl : ¬ s.micLive m) (h : s.rd (micField m) ≠ 0) : (s.micTurn m).rd (micField m) = 0 := by
  have hz : ((s.wr (micField m) 0).micFrom m 0).rd (micField m) = 0 := (s.rd_wr_same (micField m) 0).trans (Nat.zero_mod _)
  have ht : s.micTurn m = if ((s.wr (micField m) 0).micFrom m 0).rd (micField (m / 2 * 2 + (1 - m % 2))) = 0 then
      ((s.wr (micField m) 0).micFrom m 0).fence 5 else (s.wr (micField m) 0).micFrom m 0 :=
    (if_pos (State.micLive_iff.2 hl)).trans (if_neg h)
  rw [ht]
  split
  · rw [State.rd_micField_fence, hz]
  · exact hz

end

/-! ## The statement of chapter 10 -/

/-- Settles O50: writes of each register by its checks, a frame state by state, a slave's frame by its grid index, underrun
and its end, and each event of a group or microphone from the one state that it leaves. -/
theorem portsAndMicrophones : Obligations.PortsAndMicrophones := by
  unfold Obligations.PortsAndMicrophones
  intro p x v en time din g span c li m s k w t frozen unfit write frame st q T ji jo latched u gap edged sees ws timely slave start ran
    gx ga gp gwas gnow use toomany bound bad set groupWrite clk line ms
  have hu : u.port k = latched := s.port_setPort_same k latched
  refine ⟨fun h => ?cfg, fun hh => ⟨fun hs => ?unseen, fun hs hp => ?seeking, fun hs hp => ?run, fun hs hp => ?under,
      fun hr hm => ?enters, fun h => ?idle, fun hl hp r hr => ?locks, fun h => ?waits, fun h => ?wakes, fun h => ?unwoken, fun h => ?sticks,
      fun h => ?unstuck, fun h => ?recovers, fun h => ?unrecovered⟩,
    ⟨fun h => ?late, fun h hn => ?counts, fun h hn => ?rejoins⟩, fun j l hm hg hj hl => ?index, fun h => ?asrc, fun h => ?clock,
    fun h => ?lines, State.micTurn_wakes, State.micTurn_stays_on, State.micTurn_stays_off, State.rd_micTurn_off⟩
  case cfg =>
    have he : t.on (SPORT_CFG_EN k) = en := (s.on_wrRow_cfg k w).trans (bit_withBits_enable v en)
    refine ⟨fun hf => ?_, fun hf => ?_⟩
    · exact (exec_portConfigure p x v en s).trans (congrArg _ (State.hostReg_sport_refused h rfl ((sportHook_cfg ..).trans (State.cfgWrite_refused hf))))
    · refine (exec_portConfigure p x v en s).trans (congrArg _ ?_)
      rw [State.hostReg_sport_accepted h rfl ((sportHook_cfg ..).trans (State.cfgWrite_accepted hf)), he]
  case unseen => exact (exec_portFrame hh x time din).trans (congrArg _ (State.portFrameAll_unseen hs))
  case seeking =>
    refine (exec_portFrame hh x time din).trans (congrArg _ ?_)
    rw [State.portFrameAll_eq, State.portFrame_seeking hs hp]
    rfl
  case run =>
    refine (exec_portFrame hh x time din).trans (congrArg _ ?_)
    rw [State.portFrameAll_eq, State.portFrame_run hs hp]
    rfl
  case under =>
    refine (exec_portFrame hh x time din).trans (congrArg _ ?_)
    rw [State.portFrameAll_eq, State.portFrame_under hs hp]
    rfl
  case enters =>
    rw [exec_portUnderrun hh, State.portUnderrun_slave hr hm]
    rfl
  case idle => rw [exec_portUnderrun hh, State.portUnderrun_idle h, s.refsFollow_self]
  case locks => rw [exec_asrcLock hh, State.asrcLock_locks hl hp hr]
  case waits => rw [exec_asrcLock hh, State.asrcLock_waits h]
  case wakes => rw [exec_wakeEnd hh, State.micWake_waking h]
  case unwoken => rw [exec_wakeEnd hh, State.micWake_other h]
  case sticks => rw [exec_micStuck hh, State.micStuck_running h]
  case unstuck => rw [exec_micStuck hh, State.micStuck_other h]
  case recovers => rw [exec_micUnstuck hh, State.micUnstuck_stuck h]
  case unrecovered => rw [exec_micUnstuck hh, State.micUnstuck_other h]
  case late => rw [State.underFrame_late (hu.symm ▸ h), hu]
  case counts => rw [State.underFrame_counts (hu.symm ▸ h) (hu.symm ▸ hn), hu]
  case rejoins => exact State.underFrame_rejoins x.isLt (hu.symm ▸ h) (hu.symm ▸ hn)
  case index =>
    have hl' : (u.port k).last = some l := hu.symm ▸ hl
    refine ⟨State.runFrame_next hm hg hj hl', State.runFrame_taken hm hg hj hl', fun h => ?_, State.runFrame_lost hm hg hj hl'⟩
    rw [State.runFrame_skipped hm hg hj hl' h]
    dsimp only
    rw [State.heldWords_of_port (show (u.phaseShown k T j).port k = latched from hu)]
    rfl
  case asrc =>
    have accepted (hb : ¬ bad) := State.hostReg_sport_accepted h rfl ((sportHook_asrc ..).trans (State.asrcWrite_accepted hb))
    refine ⟨fun hb => ?_, fun hb he => ?_, fun hb hn hw => ?_, fun hb hn hw => ?_⟩
    · rw [exec_asrcEnable, State.hostReg_sport_refused h rfl ((sportHook_asrc ..).trans (State.asrcWrite_refused hb))]
    · refine (exec_asrcEnable p g v s).trans (congrArg _ ((accepted hb).trans ?_))
      rw [show ga.on (SPORT_ASRC_EN g.val) = s.on (SPORT_ASRC_EN g.val) from he, State.asrcTurn_same]
      rfl
    · refine (exec_asrcEnable p g v s).trans (congrArg _ ((accepted hb).trans ?_))
      rw [show ga.on (SPORT_ASRC_EN g.val) = true from hn, show s.on (SPORT_ASRC_EN g.val) = false from hw, State.asrcTurn_starts]
      rfl
    · refine (exec_asrcEnable p g v s).trans (congrArg _ ((accepted hb).trans ?_))
      rw [show ga.on (SPORT_ASRC_EN g.val) = false from hn, show s.on (SPORT_ASRC_EN g.val) = true from hw, State.asrcTurn_stops]
      rfl
  case clock =>
    refine ⟨fun hc => ?_, fun hc => ?_⟩
    · rw [exec_pdmClockEnable, State.hostReg_rule h (by decide) (regHooks_pdm (by decide)), pdmHook_clk_refused hc, Option.elim_none]
    · rw [exec_pdmClockEnable, State.hostReg_rule h (by decide) (regHooks_pdm (by decide)), pdmHook_clk_accepted hc, Option.elim_some]
  case lines =>
    rw [exec_micEnable, State.hostReg_rule h (by decide) (regHooks_pdm (by decide)), pdmHook_lcfg, Option.elim_some]

end Sys2Proof.Machine
end

section
/-! PROOFS. Time on an empty queue (R261; log entry 32). -/
namespace Sys2Proof.Machine

/-- An empty queue is a moment without a command. -/
theorem step_empty {s : State} (h : s.pending = []) : step s = .next s.idle := by
  unfold step
  rw [h]

/-- The beat counter stands still in reset (R399). -/
theorem State.idle_held {s : State} (h : s.board.held = true) : s.idle = s := if_pos h

theorem State.idle_released {s : State} (h : s.board.held = false) : s.idle = { s with bc := (s.bc + 1) % 2 ^ 64 } :=
  if_neg (Bool.eq_false_iff.1 h)

/-- Settles O2: a step of an empty queue is the idle nanosecond, in reset and out of it. -/
theorem emptyQueueTick : Obligations.EmptyQueueTick := by
  unfold Obligations.EmptyQueueTick
  intro s hq
  rw [step_empty hq]
  exact ⟨fun h => by rw [State.idle_held h], fun h => by rw [State.idle_released h]⟩

end Sys2Proof.Machine
end

section
/-! PROOFS. Ethernet MACs (R269), frames they receive (R247, R248, R253, R263), and stream frames that fail their checks (R256). -/
namespace Sys2Proof.Machine

/-! ## Writes of registers of NET -/

theorem regHooks_net {r : RegRow} (h : blockOf r.addr = 0x09) (s : State) (w : Who) (i v : Nat) (t : State) :
    regHooks s w r i v t = netHook s w r i v t := by simp only [regHooks, h]

section
variable {s u : State} {p : Port} {r : RegRow} {i v : Nat} (h : s.writeOpen p r i v) (hb : blockOf r.addr = 0x09)
include h hb

theorem State.hostReg_net_accepted (hk : netHook s (s.whoOf p) r i v (s.wrRow r i v) = (u, true)) :
    s.hostReg p r i v = s.written p r i v u :=
  State.hostReg_open h ((regHooks_net hb ..).trans hk) fun hr => absurd (hr ▸ hb) (by decide)

theorem State.hostReg_net_refused (hk : netHook s (s.whoOf p) r i v (s.wrRow r i v) = (u, false)) :
    s.hostReg p r i v = State.turnedAway p u :=
  State.hostReg_ruled h ((regHooks_net hb ..).trans hk)

end

/-! ## MACs (R269) -/

theorem exec_macEnable (p : Port) (m : Fin 4) (v : Word) (s : State) :
    exec (.macEnable p m v) s = .next (s.hostReg p row_NET_CTRL m.val v.toNat) := rfl

/-- A write of CTRL that is refused: SPEED changes while EN is set, FEC is reserved, or RS-FEC is asked for at 10 Gb/s. -/
def State.macUnfit (s : State) (k v : Nat) : Prop :=
  (s.on (NET_CTRL_EN k) = true ∧ s.rd (NET_CTRL_SPEED k) ≠ bits v 1 1) ∨ bits v 2 2 = 3 ∨ (bits v 2 2 = 2 ∧ bits v 1 1 = 0)

theorem netHook_ctrl (s : State) (w : Who) (k v : Nat) (t : State) :
    netHook s w row_NET_CTRL k v t =
      if s.on (NET_CTRL_EN k) && s.rd (NET_CTRL_SPEED k) != bits v 1 1 then (s, false)
      else if bits v 2 2 = 3 || (bits v 2 2 = 2 && bits v 1 1 = 0) then (s, false)
      else (if s.on (NET_CTRL_EN k) && !bit v 0 then t.macDown k else t, true) := by
  unfold netHook
  exact if_pos (Nat.sub_self _)

section
variable {s : State} {k v : Nat}

theorem netHook_ctrl_refused (h : s.macUnfit k v) (w : Who) (t : State) : netHook s w row_NET_CTRL k v t = (s, false) := by
  rw [netHook_ctrl]
  rcases h with ⟨he, hs⟩ | hf
  · exact if_pos (by simp [he, hs])
  · rw [if_pos (c := (decide (bits v 2 2 = 3) || (decide (bits v 2 2 = 2) && decide (bits v 1 1 = 0))) = true) (by simpa using hf),
      ite_self]

theorem netHook_ctrl_accepted (h : ¬ s.macUnfit k v) (w : Who) (t : State) :
    netHook s w row_NET_CTRL k v t = (if s.on (NET_CTRL_EN k) = true ∧ bit v 0 = false then t.macDown k else t, true) := by
  simp only [State.macUnfit, not_or] at h
  obtain ⟨hs, hf⟩ := h
  rw [netHook_ctrl, if_neg (by simpa using hs), if_neg (by simpa using hf)]
  simp only [Bool.and_eq_true, Bool.not_eq_true']

theorem exec_linkChange (h : s.board.held = false) (m : Fin 4) (up : Bool) :
    exec (.linkChange m up) s = .next (s.linkChange m.val up) := congrArg Host.Outcome.next (State.live_on h _)

theorem State.linkChange_none {up : Bool} (h : s.on (NET_CTRL_EN k) = false ∨ s.on (NET_STAT_LINK k) = up) : s.linkChange k up = s :=
  if_pos (by rcases h with h | h <;> simp [h])

theorem State.linkChange_up (he : s.on (NET_CTRL_EN k) = true) (hl : s.on (NET_STAT_LINK k) = false) :
    s.linkChange k true = (s.wr (NET_STAT_LINK k) 1).wr (NET_STAT_LINKCHG k) 1 := by simp [State.linkChange, he, hl]

theorem State.linkChange_down (he : s.on (NET_CTRL_EN k) = true) (hl : s.on (NET_STAT_LINK k) = true) :
    s.linkChange k false = s.macDown k := by simp [State.linkChange, he, hl]

end

/-! ## Received frames (R247, R248, R263) -/

theorem exec_frameReceived {s : State} (h : s.board.held = false) (m : Fin 4) (t : Nat) (ok : Bool) (b : List Byte) :
    exec (.frameReceived m t ok b) s = .next (s.refsFollow (s.frameReceived m.val t ok b)) :=
  congrArg Host.Outcome.next (State.live_on h _)

/-- The PTP message of a frame on MAC `k` and the first servo that it belongs to (R248). -/
def State.servoOf (s : State) (k : Nat) (e : Eth) : Option (Nat × Bool × List Byte) :=
  match ptpOf e with
  | some (udp, q) => ((List.range 4).find? fun z => s.ptpFor z k q).map fun z => (z, udp, q)
  | none => none

/-- The first stream that a frame on MAC `k` matches (R253). -/
def State.streamOf (s : State) (k : Nat) (e : Eth) : Option Nat := (List.range 1024).find? fun i => s.rsMatch i k e

section
variable {s : State} {k t : Nat} {ok : Bool} {b : List Byte}

theorem State.frameReceived_unseen (h : s.on (NET_CTRL_EN k) = false ∨ s.on (NET_STAT_LINK k) = false) :
    s.frameReceived k t ok b = s := if_pos (by rcases h with h | h <;> simp [h])

theorem State.servoOf_first {e : Eth} {udp : Bool} {q : List Byte} {z : Nat} (he : ptpOf e = some (udp, q)) (hz : z < 4)
    (h : s.ptpFor z k q = true) (hy : ∀ y < z, s.ptpFor y k q = false) : s.servoOf k e = some (z, udp, q) := by
  have hf : (List.range 4).find? (fun z => s.ptpFor z k q) = some z :=
    List.find?_range_eq_some.2 ⟨h, List.mem_range.2 hz, fun y hlt => by simp [hy y hlt]⟩
  simp only [State.servoOf, he, hf, Option.map_some]

theorem State.servoOf_none {e : Eth} (h : ∀ udp q, ptpOf e = some (udp, q) → ∀ z < 4, s.ptpFor z k q = false) :
    s.servoOf k e = none := by
  unfold State.servoOf
  cases he : ptpOf e with
  | none => rfl
  | some m =>
    obtain ⟨udp, q⟩ := m
    have hf : (List.range 4).find? (fun z => s.ptpFor z k q) = none :=
      List.find?_range_eq_none.2 fun z hz => by simp [h udp q he z hz]
    simp only [hf, Option.map_none]

theorem State.streamOf_first {e : Eth} {z : Nat} (hz : z < 1024) (h : s.rsMatch z k e = true) (hy : ∀ y < z, s.rsMatch y k e = false) :
    s.streamOf k e = some z :=
  List.find?_range_eq_some.2 ⟨h, List.mem_range.2 hz, fun y hlt => by simp [hy y hlt]⟩

theorem State.streamOf_none {e : Eth} (h : ∀ z < 1024, s.rsMatch z k e = false) : s.streamOf k e = none :=
  List.find?_range_eq_none.2 fun z hz => by simp [h z hz]

section
variable (he : s.on (NET_CTRL_EN k) = true) (hl : s.on (NET_STAT_LINK k) = true)
include he hl

theorem State.frameReceived_badFcs (h : ok = false ∨ 1518 < b.length) : s.frameReceived k t ok b = s.inc (NET_RXFCS_COUNT k) 1 := by
  unfold State.frameReceived
  rw [if_neg (by simp [he, hl]), if_pos (by simpa using h)]

variable (hb : b.length ≤ 1518)
include hb

theorem State.frameReceived_dropped (h : b.length < 60 ∨ (parseEth b).tags = 2) :
    s.frameReceived k t true b = s.inc (NET_RXDROP_COUNT k) 1 := by
  unfold State.frameReceived
  rw [if_neg (by simp [he, hl]), if_neg (by simpa using hb)]
  exact if_pos (by simpa using h)

variable (hs : 60 ≤ b.length) (ht : (parseEth b).tags ≠ 2)
include hs ht

/-- A well-formed frame: a PTP servo first, then the streams, then the host. -/
theorem State.frameReceived_good :
    s.frameReceived k t true b =
      (let g := s.inc (NET_RXOK_COUNT k) 1
       let at_ := t - g.rd (NET_LATRX_NS k)
       match g.servoOf k (parseEth b) with
       | some (z, udp, q) => (g.ptpMessage z at_ udp q).toHost k at_ true b
       | none =>
         match g.streamOf k (parseEth b) with
         | some i => g.streamFrame i at_ (parseEth b)
         | none => if g.accepts k (parseEth b).dst then g.toHost k at_ false b else g.inc (NET_RXDROP_COUNT k) 1) := by
  unfold State.frameReceived
  rw [if_neg (by simp [he, hl]), if_neg (by simpa using hb)]
  dsimp only
  rw [if_neg (by simp [hs, ht])]
  unfold State.servoOf State.streamOf
  generalize List.range 1024 = streams
  rfl

theorem State.frameReceived_ptp {z : Nat} {udp : Bool} {q : List Byte}
    (hv : (s.inc (NET_RXOK_COUNT k) 1).servoOf k (parseEth b) = some (z, udp, q)) :
    s.frameReceived k t true b =
      (let g := s.inc (NET_RXOK_COUNT k) 1
       let at_ := t - g.rd (NET_LATRX_NS k)
       (g.ptpMessage z at_ udp q).toHost k at_ true b) := by
  rw [State.frameReceived_good he hl hb hs ht]
  dsimp only
  rw [hv]

variable (hv : (s.inc (NET_RXOK_COUNT k) 1).servoOf k (parseEth b) = none)
include hv

theorem State.frameReceived_stream {z : Nat} (hz : (s.inc (NET_RXOK_COUNT k) 1).streamOf k (parseEth b) = some z) :
    s.frameReceived k t true b =
      (let g := s.inc (NET_RXOK_COUNT k) 1
       g.streamFrame z (t - g.rd (NET_LATRX_NS k)) (parseEth b)) := by
  rw [State.frameReceived_good he hl hb hs ht]
  dsimp only
  rw [hv, hz]

theorem State.frameReceived_other (hz : (s.inc (NET_RXOK_COUNT k) 1).streamOf k (parseEth b) = none) :
    s.frameReceived k t true b =
      (let g := s.inc (NET_RXOK_COUNT k) 1
       if g.accepts k (parseEth b).dst then g.toHost k (t - g.rd (NET_LATRX_NS k)) false b else g.inc (NET_RXDROP_COUNT k) 1) := by
  rw [State.frameReceived_good he hl hb hs ht]
  dsimp only
  rw [hv, hz]

end
end

/-- A stream frame that fails the checks of R253 counts BADFMT (R256). -/
theorem State.streamFrame_badFormat {s : State} {z : Nat} {e : Eth} (h : s.rsCheck z e = none) (t : Nat) :
    s.streamFrame z t e = s.incSat (NET_RSCNT1_BADFMT z) 1 := by
  unfold State.streamFrame
  rw [h]

end Sys2Proof.Machine
end

section
/-! PROOFS. Writes of word 0 of a stream descriptor, which enable and disable the stream (R249, R252, R258, R440). -/
namespace Sys2Proof.Machine

/-! ## The two windows of descriptors, the receive streams' where `rx` holds -/

/-- The stream that the selector names. -/
def State.descSel (s : State) (rx : Bool) : Nat := if rx then s.rd NET_RSSEL_INDEX else s.rd NET_TSSEL_INDEX

/-- The register through which the selected descriptor is written. -/
def descRow (rx : Bool) : RegRow := if rx then row_NET_RSDATA else row_NET_TSDATA

/-- Word 0 of the descriptor of stream `i`. -/
def descWord0 (rx : Bool) (i : Nat) : Fld := if rx then NET_RSDATA_WORD (i * 16) else NET_TSDATA_WORD (i * 16)

/-- Stream `i` is OFF (R258). -/
def State.descOff (s : State) (rx : Bool) (i : Nat) : Bool := if rx then s.rd (NET_RSSTAT_STATE i) == 0 else !s.on (NET_TSSTAT_RUN i)

/-- The ERR code that the checks of R252 give. -/
def State.descErr (s : State) (rx : Bool) (i : Nat) : Nat := if rx then s.rsErr i else s.tsErr i

/-- The state with an ERR code of stream `i` shown. -/
def State.showErr (s : State) (rx : Bool) (i e : Nat) : State := if rx then s.wr (NET_RSSTAT_ERR i) e else s.wr (NET_TSSTAT_ERR i) e

section
variable (s : State) (rx : Bool)

theorem State.descOff_iff (i : Nat) :
    s.descOff rx i = true ↔ if rx then s.rd (NET_RSSTAT_STATE i) = 0 else s.on (NET_TSSTAT_RUN i) = false := by
  cases rx <;> simp [State.descOff]

theorem State.streamWrite_eq (p : Port) (v : Word) (en : Nat) :
    s.streamWrite p rx v en = s.hostReg p (descRow rx) (s.descSel rx * 16) (withBits v 0 1 en) := by
  cases rx <;> simp [State.streamWrite, descRow, State.descSel]

theorem exec_streamEnable (p : Port) (v : Word) :
    exec (.streamEnable p rx v) s = .next (s.hostReg p (descRow rx) (s.descSel rx * 16) (withBits v 0 1 1)) :=
  congrArg Host.Outcome.next (s.streamWrite_eq rx p v 1)

theorem exec_streamDisable (p : Port) (v : Word) :
    exec (.streamDisable p rx v) s = .next (s.hostReg p (descRow rx) (s.descSel rx * 16) (withBits v 0 1 0)) :=
  congrArg Host.Outcome.next (s.streamWrite_eq rx p v 0)

theorem netHook_desc (w : Who) (x v : Nat) (t : State) : netHook s w (descRow rx) x v t = s.descWrite rx x v t := by
  cases rx <;> simp [netHook, descRow, row_NET_RSDATA, row_NET_TSDATA]

theorem blockOf_descRow : blockOf (descRow rx).addr = 0x09 := by cases rx <;> rfl

theorem State.wrRow_desc (i : Nat) {v : Nat} (hv : v < 2 ^ 32) : s.wrRow (descRow rx) (i * 16) v = s.wr (descWord0 rx i) v := by
  cases rx <;> exact congrArg (s.wr _) (bits_word hv)

theorem State.rd_wr_descWord0 (i : Nat) {v : Nat} (hv : v < 2 ^ 32) : (s.wr (descWord0 rx i) v).rd (descWord0 rx i) = v := by
  cases rx <;> exact (s.rd_wr_same _ v).trans (Nat.mod_eq_of_lt hv)

end

/-! ## The rule of word 0 (R252, R440) -/

/-- A write of `v` to word 0 that passes whatever the checks say: it clears EN alone, or changes nothing. -/
def State.descPasses (s : State) (rx : Bool) (i v : Nat) : Prop :=
  (bit (s.rd (descWord0 rx i)) 0 = true ∧ v + 1 = s.rd (descWord0 rx i)) ∨ (s.descOff rx i = false ∧ v = s.rd (descWord0 rx i))

section
variable {s : State} {rx : Bool} {i v : Nat} (hv : v < 2 ^ 32) (t : State)
include hv

/-- The rule in its order, `t` having the written fields. -/
theorem State.descWrite_word0 :
    s.descWrite rx (i * 16) v t =
      (let old := s.rd (descWord0 rx i)
       let err := if !bit (t.rd (descWord0 rx i)) 0 then 0 else t.descErr rx i
       if (bit old 0 && v + 1 == old) || (!s.descOff rx i && v == old) then (t.countStreams, true)
       else if !s.descOff rx i then (s, false)
       else if err ≠ 0 then (s.showErr rx i err, false) else (t.countStreams, true)) := by
  have hd : i * 16 / 16 = i := Nat.mul_div_cancel i (by decide)
  have hm : i * 16 % 16 = 0 := Nat.mul_mod_left i 16
  unfold State.descWrite
  simp only [hd, hm, Nat.mod_eq_of_lt hv]
  cases rx <;> rfl

theorem State.descWrite_passes (h : s.descPasses rx i v) : s.descWrite rx (i * 16) v t = (t.countStreams, true) := by
  rw [State.descWrite_word0 hv]
  exact if_pos (by simpa [State.descPasses] using h)

variable (hp : ¬ s.descPasses rx i v)
include hp

theorem State.descWrite_running (ho : s.descOff rx i = false) : s.descWrite rx (i * 16) v t = (s, false) := by
  rw [State.descWrite_word0 hv]
  dsimp only
  rw [if_neg (by simpa [State.descPasses] using hp), if_pos (by simp [ho])]

theorem State.descWrite_checked (ho : s.descOff rx i = true) :
    s.descWrite rx (i * 16) v (s.wr (descWord0 rx i) v) =
      (let t := s.wr (descWord0 rx i) v
       let err := if !bit v 0 then 0 else t.descErr rx i
       if err ≠ 0 then (s.showErr rx i err, false) else (t.countStreams, true)) := by
  rw [State.descWrite_word0 hv]
  dsimp only
  rw [if_neg (by simpa [State.descPasses] using hp), if_neg (by simp [ho]), State.rd_wr_descWord0 _ _ _ hv]

end

/-! ## Enabling and disabling (R252, R258) -/

section
variable {s : State} {p : Port} {rx : Bool} {i v : Nat}

/-- A word with EN set is no other word with EN cleared. -/
theorem State.descPasses_enabled (h : bit v 0 = true) :
    s.descPasses rx i v ↔ s.descOff rx i = false ∧ v = s.rd (descWord0 rx i) := by
  refine ⟨fun hp => hp.resolve_left ?_, .inr⟩
  rintro ⟨ho, he⟩
  simp only [bit, bits, beq_iff_eq] at h ho
  omega

variable (hv : v < 2 ^ 32) (h : s.writeOpen p (descRow rx) (i * 16) v)
include hv h

theorem State.hostReg_desc_accepted
    (hw : s.descWrite rx (i * 16) v (s.wr (descWord0 rx i) v) = ((s.wr (descWord0 rx i) v).countStreams, true)) :
    s.hostReg p (descRow rx) (i * 16) v = s.written p (descRow rx) (i * 16) v (s.wr (descWord0 rx i) v).countStreams :=
  State.hostReg_net_accepted h (blockOf_descRow rx) (by rw [netHook_desc, s.wrRow_desc rx i hv, hw])

theorem State.hostReg_desc_refused {u : State} (hw : s.descWrite rx (i * 16) v (s.wr (descWord0 rx i) v) = (u, false)) :
    s.hostReg p (descRow rx) (i * 16) v = State.turnedAway p u :=
  State.hostReg_net_refused h (blockOf_descRow rx) (by rw [netHook_desc, s.wrRow_desc rx i hv, hw])

theorem State.hostReg_desc_passes (hp : s.descPasses rx i v) :
    s.hostReg p (descRow rx) (i * 16) v = s.written p (descRow rx) (i * 16) v (s.wr (descWord0 rx i) v).countStreams :=
  State.hostReg_desc_accepted hv h (State.descWrite_passes hv _ hp)

theorem State.hostReg_desc_running (ho : s.descOff rx i = false) (hp : ¬ s.descPasses rx i v) :
    s.hostReg p (descRow rx) (i * 16) v = State.turnedAway p s :=
  State.hostReg_desc_refused hv h (State.descWrite_running hv _ hp ho)

variable (ho : s.descOff rx i = true)
include ho

theorem State.hostReg_desc_unlawful (hb : bit v 0 = true) (he : (s.wr (descWord0 rx i) v).descErr rx i ≠ 0) :
    s.hostReg p (descRow rx) (i * 16) v = State.turnedAway p (s.showErr rx i ((s.wr (descWord0 rx i) v).descErr rx i)) := by
  have hp : ¬ s.descPasses rx i v := by simp [State.descPasses_enabled hb, ho]
  refine State.hostReg_desc_refused hv h ((State.descWrite_checked hv hp ho).trans ?_)
  rw [hb]
  exact if_pos he

/-- A stream that is OFF takes a word that leaves it disabled, and one that the checks find no error in. -/
theorem State.hostReg_desc_lawful (he : bit v 0 = false ∨ (s.wr (descWord0 rx i) v).descErr rx i = 0) :
    s.hostReg p (descRow rx) (i * 16) v = s.written p (descRow rx) (i * 16) v (s.wr (descWord0 rx i) v).countStreams := by
  by_cases hp : s.descPasses rx i v
  · exact State.hostReg_desc_passes hv h hp
  · refine State.hostReg_desc_accepted hv h ((State.descWrite_checked hv hp ho).trans (if_neg ?_))
    rcases he with he | he <;> simp [he]

end

theorem withBits_en_lt (v : Word) (en : Nat) : withBits v 0 1 en < 2 ^ 32 := withBits_lt v 0 1 en (by decide)

theorem bit_withBits_zero (v : Word) : bit (withBits v 0 1 0) 0 = false := bit_withBits_enable v false

/-- A word with EN cleared passes where the descriptor has that word, or has it with EN set. -/
theorem State.descPasses_disabled {s : State} {rx : Bool} {i : Nat} {v : Word} (ho : s.descOff rx i = false) :
    s.descPasses rx i (withBits v 0 1 0)
      ↔ s.rd (descWord0 rx i) = withBits v 0 1 0 + 1 ∨ s.rd (descWord0 rx i) = withBits v 0 1 0 := by
  have hb := bit_withBits_zero v
  have hset : s.rd (descWord0 rx i) = withBits v 0 1 0 + 1 → bit (s.rd (descWord0 rx i)) 0 = true := fun e => by
    rw [e]
    simp only [bit, bits, beq_eq_false_iff_ne, beq_iff_eq] at hb ⊢
    omega
  constructor
  · rintro (⟨-, h⟩ | ⟨-, h⟩)
    · exact .inl h.symm
    · exact .inr h.symm
  · rintro (h | h)
    · exact .inl ⟨hset h, h.symm⟩
    · exact .inr ⟨ho, h.symm⟩

end Sys2Proof.Machine
end

section
/-! PROOFS. Transmit streams: when a packet leaves, on which MACs, and what a MAC without link counts (R259, R260, R269). -/
namespace Sys2Proof.Machine

theorem exec_streamPacketTransmit {s : State} (h : s.board.held = false) (i : Fin 1024) :
    exec (.streamPacketTransmit i) s = .next (s.streamTransmit i.val) := congrArg Host.Outcome.next (State.live_on h _)

/-! ## The next packet and its frame (R260) -/

/-- S of transmit stream `i` (R251). -/
def State.txSamples (s : State) (i : Nat) : Nat := s.ptimeS (bits (s.tsWord i 0) 8 2)

theorem State.fs_cases (s : State) : s.fs = 32 ∨ s.fs = 16 := by
  unfold State.fs
  split
  · exact .inl rfl
  · exact .inr rfl

theorem State.txSamples_pos (s : State) (i : Nat) : 0 < s.txSamples i := by
  unfold State.txSamples State.ptimeS
  refine Nat.mul_pos ?_ (by rcases s.fs_cases with h | h <;> simp [h])
  repeat' split
  all_goals decide

theorem State.txNext_of_lookup {s : State} {i j : Nat} (h : s.net.tx.lookup i = some j) :
    s.txNext i = some (j, (j + s.txSamples i - 1) / s.fs) := by
  rw [State.txNext, h]
  rfl

/-- A packet may leave once its last sample lies in a copied block. -/
theorem State.txEligible_iff (s : State) (i j : Nat) :
    s.txEligible ((j + s.txSamples i - 1) / s.fs) = true ↔ j + s.txSamples i ≤ s.fs * (s.frame + 1 + b2n s.window) := by
  have hS := s.txSamples_pos i
  have hF : 0 < s.fs := by rcases s.fs_cases with h | h <;> simp [h]
  rw [State.txEligible, decide_eq_true_eq, Nat.div_lt_iff_lt_mul hF, Nat.mul_comm s.fs]
  omega

/-! ## What sending a packet leaves (R260, R269, R372) -/

@[simp] theorem State.net_injDone (s : State) : s.injDone.net = s.net := by
  unfold State.injDone
  split
  · rfl
  · dsimp only
    split <;> rfl

/-- The injection that inverts an FCS has occurred, where one does. -/
def State.fcsInjected (s : State) (m : Nat) : State := if s.injOn 6 uMac m then s.injDone else s

theorem State.net_fcsInjected (s : State) (m : Nat) : (s.fcsInjected m).net = s.net := by
  unfold State.fcsInjected
  split
  · exact s.net_injDone
  · rfl

theorem State.rd_fcsInjected (s : State) (m : Nat) {f : Fld} (hf : f.no ∉ noteFields) : (s.fcsInjected m).rd f = s.rd f := by
  unfold State.fcsInjected
  split
  · exact s.rd_injDone hf
  · rfl

/-- MAC `m` can send: it is enabled and has its link (R269). -/
def State.macReady (s : State) (m : Nat) : Prop := s.on (NET_CTRL_EN m) = true ∧ s.on (NET_STAT_LINK m) = true

theorem State.not_macReady (s : State) (m : Nat) :
    (!s.on (NET_CTRL_EN m) || !s.on (NET_STAT_LINK m)) = true ↔ ¬ s.macReady m := by
  rw [State.macReady, ← Bool.and_eq_true, ← Bool.not_and, Bool.not_eq_true', Bool.eq_false_iff, ne_eq]

theorem State.macReady_not {s : State} {m : Nat} (h : s.on (NET_CTRL_EN m) = false ∨ s.on (NET_STAT_LINK m) = false) : ¬ s.macReady m :=
  (s.not_macReady m).1 (by rcases h with h | h <;> simp [h])

theorem State.sendPacket_down {s : State} {m : Nat} (h : ¬ s.macReady m) (i j : Nat) (high : Bool) :
    s.sendPacket i j m high = s.inc (NET_TXDISC_COUNT m) 1 := if_pos ((s.not_macReady m).2 h)

theorem State.sendPacket_up {s : State} {m : Nat} (h : s.macReady m) (i j : Nat) (high : Bool) :
    s.sendPacket i j m high =
      (let p := { s.txPacket i j m high with badFcs := s.injOn 6 uMac m }
       let t := s.fcsInjected m
       ({ t with net := { t.net with packets := t.net.packets ++ [p] } }.inc (NET_TXOK_COUNT m) 1).inc (NET_TSCNT_PKTS i) 1) :=
  if_neg (not_not_intro h ∘ (s.not_macReady m).1)

theorem State.tx_sendPacket (s : State) (i j m : Nat) (high : Bool) : (s.sendPacket i j m high).net.tx = s.net.tx := by
  by_cases h : s.macReady m
  · rw [State.sendPacket_up h]
    show (s.fcsInjected m).net.tx = s.net.tx
    rw [s.net_fcsInjected]
  · rw [State.sendPacket_down h]
    rfl

/-- The fields beside TXDISC that sending a packet may change: its counters (R260, R269) and those of an injection. -/
def sendFields : List Nat := [(NET_TXOK_COUNT 0).no, (NET_TSCNT_PKTS 0).no] ++ noteFields

/-- Sending on MAC `m` leaves every register but the packet counters, and TXDISC of the other MACs. -/
theorem State.rd_sendPacket (s : State) (i j m : Nat) (high : Bool) {f : Fld} (hf : f.no ∉ sendFields)
    (hd : f.apart (NET_TXDISC_COUNT m)) : (s.sendPacket i j m high).rd f = s.rd f := by
  simp only [sendFields, List.mem_append, List.mem_cons, List.not_mem_nil, or_false, not_or] at hf
  obtain ⟨⟨hok, hpk⟩, hn⟩ := hf
  by_cases h : s.macReady m
  · rw [State.sendPacket_up h]
    exact ((State.rd_wr_other _ (NET_TSCNT_PKTS i) f _ (.inl hpk)).trans
      (State.rd_wr_other _ (NET_TXOK_COUNT m) f _ (.inl hok))).trans (s.rd_fcsInjected m hn)
  · rw [State.sendPacket_down h]
    exact s.rd_wr_other _ f _ hd

/-! ## The packets of all MACs of a stream -/

/-- The packet goes to each MAC of the list, marked whether it is the higher one. -/
def State.sendAll (s : State) (i j : Nat) (l : List (Nat × Nat)) : State := l.foldl (fun s q => s.sendPacket i j q.1 (q.2 == 1)) s

theorem State.sendAll_cons (s : State) (i j : Nat) (q : Nat × Nat) (l : List (Nat × Nat)) :
    s.sendAll i j (q :: l) = (s.sendPacket i j q.1 (q.2 == 1)).sendAll i j l := rfl

theorem State.tx_sendAll (s : State) (i j : Nat) (l : List (Nat × Nat)) : (s.sendAll i j l).net.tx = s.net.tx :=
  List.foldlRecOn (motive := fun t : State => t.net.tx = s.net.tx) l _ rfl fun t ht _ _ => (t.tx_sendPacket ..).trans ht

theorem State.rd_sendAll (s : State) (i j : Nat) (l : List (Nat × Nat)) {f : Fld} (hf : f.no ∉ sendFields)
    (hd : ∀ m ∈ l.map Prod.fst, f.apart (NET_TXDISC_COUNT m)) : (s.sendAll i j l).rd f = s.rd f :=
  List.foldlRecOn (motive := fun t : State => t.rd f = s.rd f) l _ rfl fun t ht q hq =>
    (t.rd_sendPacket i j q.1 _ hf (hd q.1 (List.mem_map_of_mem hq))).trans ht

theorem State.fs_sendAll (s : State) (i j : Nat) (l : List (Nat × Nat)) : (s.sendAll i j l).fs = s.fs := by
  have h : (s.sendAll i j l).rd SYS_RATE_ACT = s.rd SYS_RATE_ACT :=
    s.rd_sendAll i j l (by decide) fun m _ => .inl (show SYS_RATE_ACT.no ≠ (NET_TXDISC_COUNT 0).no by decide)
  rw [State.fs, State.fs, State.on, State.on, h]

theorem State.macReady_sendPacket (s : State) (i j m : Nat) (high : Bool) (q : Nat) :
    (s.sendPacket i j m high).macReady q ↔ s.macReady q := by
  have he : (s.sendPacket i j m high).rd (NET_CTRL_EN q) = s.rd (NET_CTRL_EN q) :=
    s.rd_sendPacket i j m high (show (NET_CTRL_EN 0).no ∉ sendFields by decide)
      (.inl (show (NET_CTRL_EN 0).no ≠ (NET_TXDISC_COUNT 0).no by decide))
  have hl : (s.sendPacket i j m high).rd (NET_STAT_LINK q) = s.rd (NET_STAT_LINK q) :=
    s.rd_sendPacket i j m high (show (NET_STAT_LINK 0).no ∉ sendFields by decide)
      (.inl (show (NET_STAT_LINK 0).no ≠ (NET_TXDISC_COUNT 0).no by decide))
  rw [State.macReady, State.macReady, State.on, State.on, State.on, State.on, he, hl]

/-- A MAC of the list that cannot send counts one discarded packet. -/
theorem State.rd_txDisc_sendAll {q : Nat} (i j : Nat) (l : List (Nat × Nat)) (s : State) (hl : (l.map Prod.fst).Nodup)
    (hq : q ∈ l.map Prod.fst) (hd : ¬ s.macReady q) :
    (s.sendAll i j l).rd (NET_TXDISC_COUNT q) = (s.rd (NET_TXDISC_COUNT q) + 1) % 2 ^ 32 := by
  have hno : (NET_TXDISC_COUNT q).no ∉ sendFields := show (NET_TXDISC_COUNT 0).no ∉ sendFields by decide
  induction l generalizing s with
  | nil => exact absurd hq List.not_mem_nil
  | cons x l ih =>
    rw [List.map_cons, List.nodup_cons] at hl
    obtain ⟨hx, hl⟩ := hl
    rw [State.sendAll_cons]
    by_cases he : x.1 = q
    · have rest : ∀ m ∈ l.map Prod.fst, (NET_TXDISC_COUNT q).apart (NET_TXDISC_COUNT m) := fun m hm =>
        .inr (show q ≠ m from fun e => hx (he ▸ e ▸ hm))
      rw [State.rd_sendAll _ _ _ _ hno rest, he, State.sendPacket_down hd]
      exact s.rd_wr_same (NET_TXDISC_COUNT q) _
    · have hq' : q ∈ l.map Prod.fst := (List.mem_cons.1 hq).resolve_left fun e => he e.symm
      rw [ih _ hl hq' (mt (s.macReady_sendPacket ..).1 hd), s.rd_sendPacket i j x.1 _ hno (.inr fun e => he e.symm)]

/-! ## The command (R259, R260) -/

/-- The MACs that a transmit stream names, lowest first. -/
def State.txMacs (s : State) (i : Nat) : List Nat := (List.range 4).filter fun m => bit (dPorts (s.tsWord i 0)) m

theorem State.mem_txMacs {s : State} {i m : Nat} : m ∈ s.txMacs i ↔ m < 4 ∧ bit (dPorts (s.tsWord i 0)) m = true := by
  rw [State.txMacs, List.mem_filter, List.mem_range]

theorem State.txMacs_nodup (s : State) (i : Nat) : (s.txMacs i).Nodup := List.nodup_range.filter _

/-- The state with the outputs of the packet before removed. -/
def State.noPackets (s : State) : State := { s with net := { s.net with packets := [] } }

/-- The next packet of stream `i` starts at grid index `j`. -/
def State.setTxNext (s : State) (i j : Nat) : State := { s with net := { s.net with tx := tins (tdel s.net.tx i) i j } }

/-- A heel in RESYNC whose stream packets are muted (R347). -/
def State.txMuted (s : State) : Bool := s.role == roHeel && s.rd PAIR_DIGSTAT_RESYNC != 0 && s.on PAIR_CTRL_TXMUTE

/-- The packet of stream `i` at grid index `j` on each of its MACs, unless it is muted. -/
def State.txPackets (s : State) (i j : Nat) : State :=
  if s.txMuted then s.noPackets else s.noPackets.sendAll i j (s.txMacs i).zipIdx

section
variable {s : State} {i j : Nat}

theorem State.streamTransmit_stopped (h : s.net.tx.lookup i = none) : s.streamTransmit i = s := by
  have hn : s.txNext i = none := by rw [State.txNext, h, Option.map_none]
  unfold State.streamTransmit
  rw [hn]

variable (hj : s.net.tx.lookup i = some j)
include hj

theorem State.streamTransmit_running :
    s.streamTransmit i =
      if !s.txEligible ((j + s.txSamples i - 1) / s.fs) || s.txBehind i ((j + s.txSamples i - 1) / s.fs) then s
      else (s.txPackets i j).setTxNext i (j + (s.txPackets i j).ptimeS (bits (s.tsWord i 0) 8 2)) := by
  unfold State.streamTransmit
  rw [State.txNext_of_lookup hj]
  rfl

theorem State.streamTransmit_waits (h : s.fs * (s.frame + 1 + b2n s.window) < j + s.txSamples i
    ∨ s.txBehind i ((j + s.txSamples i - 1) / s.fs) = true) : s.streamTransmit i = s := by
  rw [State.streamTransmit_running hj]
  refine if_pos ?_
  rcases h with h | h
  · have he : s.txEligible ((j + s.txSamples i - 1) / s.fs) = false := by
      rw [Bool.eq_false_iff, ne_eq, State.txEligible_iff]
      exact Nat.not_le.2 h
    rw [he, Bool.not_false, Bool.true_or]
  · rw [h, Bool.or_true]

theorem State.streamTransmit_sends (he : j + s.txSamples i ≤ s.fs * (s.frame + 1 + b2n s.window))
    (hb : s.txBehind i ((j + s.txSamples i - 1) / s.fs) = false) (hr : s.role ≠ roHeel) :
    s.streamTransmit i = (s.noPackets.sendAll i j (s.txMacs i).zipIdx).setTxNext i (j + s.txSamples i) := by
  have hp : s.txPackets i j = s.noPackets.sendAll i j (s.txMacs i).zipIdx :=
    if_neg (by simp [State.txMuted, beq_false_of_ne hr])
  have hS : (s.txPackets i j).ptimeS (bits (s.tsWord i 0) 8 2) = s.txSamples i := by
    rw [hp, State.ptimeS, State.fs_sendAll]
    rfl
  rw [State.streamTransmit_running hj, if_neg (by simp [(State.txEligible_iff s i j).2 he, hb]), hS, hp]

end

/-- Sending a packet moves the stream's next index. -/
theorem State.tx_sends (s : State) (i j j' : Nat) :
    ((s.noPackets.sendAll i j (s.txMacs i).zipIdx).setTxNext i j').net.tx = tins (tdel s.net.tx i) i j' := by
  show tins (tdel (s.noPackets.sendAll i j (s.txMacs i).zipIdx).net.tx i) i j' = _
  rw [State.tx_sendAll]
  rfl

/-- Each named MAC that cannot send counts a discarded packet. -/
theorem State.rd_txDisc_sends {s : State} {i q : Nat} (hq : q < 4) (hb : bit (dPorts (s.tsWord i 0)) q = true) (hd : ¬ s.macReady q)
    (j j' : Nat) :
    ((s.noPackets.sendAll i j (s.txMacs i).zipIdx).setTxNext i j').rd (NET_TXDISC_COUNT q)
      = (s.rd (NET_TXDISC_COUNT q) + 1) % 2 ^ 32 :=
  have hl : (s.txMacs i).zipIdx.map Prod.fst = s.txMacs i := List.zipIdx_map_fst 0 _
  State.rd_txDisc_sendAll i j _ s.noPackets (hl.symm ▸ s.txMacs_nodup i) (hl.symm ▸ State.mem_txMacs.2 ⟨hq, hb⟩) hd

end Sys2Proof.Machine
end

section
/-! PROOFS. Frames of the host (R264, R342, R381, R387), and the statement of chapter 11. -/
namespace Sys2Proof.Machine

/-! ## The frame at RCI of a NETTX ring -/

theorem exec_hostFrameTransmit {s : State} (h : s.board.held = false) (r : Fin 256) (t : Nat) :
    exec (.hostFrameTransmit r t) s = .next (s.hostFrame r.val t) := congrArg Host.Outcome.next (State.live_on h _)

/-- Ring `r` holds a frame to send, and the ring of its completions has room (R381). -/
def State.frameDue (s : State) (r : Nat) : Prop :=
  s.ringIs r ringNettx = true ∧ s.ringUsed r ≠ 0 ∧ (s.ringIs (s.peerOf r) ringCpl && s.ringFull (s.peerOf r)) = false

/-- The state once the entry is taken off the ring. -/
def State.frameTaken (s : State) (r : Nat) : State := (s.ringFetch r).1.inc (HOST_RCI_INDEX r) 1

/-- The buffer of the entry at RCI (R387). -/
def State.frameBuf (s : State) (r : Nat) : Nat :=
  (s.ringFetch r).1.ringBuf r + (s.ringFetch r).1.rd (HOST_RCI_INDEX r) % (s.ringFetch r).1.ringSize r * 2048

/-- The frame that the buffer holds, and the state after it was read. -/
def State.frameRead (s : State) (r : Nat) : State × List Byte :=
  (s.frameTaken r).ringGet r (s.frameBuf r) (entN (s.ringEntry r) 8 2)

/-- An entry whose length, MAC, mark or time base no frame may have (R387). -/
abbrev frameWrong (e : List Byte) : Prop :=
  entN e 8 2 < 60 ∨ 1518 < entN e 8 2 ∨ 3 < entN e 10 1 ∨ 4 < entN e 11 1 % 8 ∨ 4 < entN e 11 1 / 8 % 8

/-- The completion of a frame of ring `r` of `s` (R384). -/
def State.frameDone (s : State) (r status : Nat) (u : State) : State := u.completion (s.peerOf r) 0x80 status r 0 0 0 false

/-- A frame without a mark leaves as it stands in its buffer (R264). -/
theorem State.insertPtp_unmarked (s : State) (tb stamp t : Nat) (b : List Byte) : s.insertPtp 0 tb stamp t b = b := by
  unfold State.insertPtp
  split
  · rfl
  · dsimp only
    split <;> rfl

/-! ## The frame as it leaves (R264, R372) -/

/-- MAC `m` has sent frame `b`, its FCS inverted where `bad` holds. -/
def State.putFrame (s : State) (m : Nat) (b : List Byte) (bad : Bool) : State := { s with net := { s.net with frame := some (m, b, bad) } }

/-- The servo of time base `tb` notes the egress of its own request, which mark 4 names (R264). -/
def State.noteRequest (s : State) (mark tb t : Nat) (b : List Byte) : State :=
  if mark = 4 ∧ tb ≠ 0 then
    match ptpStart b with
    | some (p, _) => s.ptpSent (tb - 1) t (b.drop p)
    | none => s
  else s

/-- The frame of ring `r` leaves at beat-counter time `t`, with what its mark inserts. -/
def State.frameLeaves (s : State) (r t : Nat) : State :=
  let e := s.ringEntry r
  let m := entN e 10 1
  let mark := entN e 11 1 % 8
  let tb := entN e 11 1 / 8 % 8
  let u := (s.frameRead r).1
  let b := (s.frameRead r).2
  (((u.fcsInjected m).putFrame m (u.insertPtp mark tb (entN e 0 8) t b) (u.injOn 6 uMac m)).inc (NET_TXOK_COUNT m) 1).noteRequest
    mark tb t b

/-- The frame of ring `r` leaves, and completes with its egress time where its mark asks for it. -/
def State.frameSent (s : State) (r t : Nat) : State :=
  let mark := entN (s.ringEntry r) 11 1 % 8
  (s.frameLeaves r t).completion (s.peerOf r) 0x80 stOK r 0 0 (if mark = 3 ∨ mark = 4 then t else 0) false

theorem State.frameLeaves_unmarked {s : State} {r : Nat} (hm : entN (s.ringEntry r) 11 1 % 8 = 0)
    (hi : (s.frameRead r).1.integ.inj = none) (t : Nat) :
    s.frameLeaves r t = ((s.frameRead r).1.putFrame (entN (s.ringEntry r) 10 1) (s.frameRead r).2 false).inc
      (NET_TXOK_COUNT (entN (s.ringEntry r) 10 1)) 1 := by
  have hb : (s.frameRead r).1.injOn 6 uMac (entN (s.ringEntry r) 10 1) = false := by rw [State.injOn, hi]
  have hu : (s.frameRead r).1.fcsInjected (entN (s.ringEntry r) 10 1) = (s.frameRead r).1 := if_neg (Bool.eq_false_iff.1 hb)
  unfold State.frameLeaves
  dsimp only
  rw [hm, hb, hu, State.insertPtp_unmarked]
  exact if_neg fun h => absurd h.1 (by decide)

/-! ## The command, check by check -/

section
variable {s : State} {r t : Nat}

theorem State.hostFrame_idle (h : ¬ s.frameDue r) : s.hostFrame r t = s :=
  if_pos (by simpa [State.frameDue, Classical.or_iff_not_imp_left] using h)

variable (hd : s.frameDue r)
include hd

theorem State.frameDue_guard :
    (!s.ringIs r ringNettx || s.ringUsed r == 0 || (s.ringIs (s.peerOf r) ringCpl && s.ringFull (s.peerOf r))) = false := by
  obtain ⟨ht, hu, hp⟩ := hd
  simp [ht, hu, hp]

/-- The checks in their order. -/
theorem State.hostFrame_taken :
    s.hostFrame r t =
      (let e := s.ringEntry r
       let m := entN e 10 1
       let u := s.frameTaken r
       if frameWrong e then s.frameDone r stMALFORMED u
       else if bit (entN e 11 1) 6 && !u.authority then s.frameDone r stOK (u.incSat PAIR_CTLDISC_COUNT 1)
       else if !u.on (NET_CTRL_EN m) || !u.on (NET_STAT_LINK m) then s.frameDone r stOK (u.inc (NET_TXDISC_COUNT m) 1)
       else s.frameSent r (t + u.rd (NET_LATTX_NS m))) := by
  unfold State.hostFrame State.frameSent State.frameLeaves State.noteRequest State.putFrame State.fcsInjected
  dsimp only
  rw [State.frameDue_guard hd, if_neg Bool.false_ne_true]
  generalize hx : State.ringGet _ _ _ _ = got
  rw [show s.frameRead r = got from hx]
  rfl

theorem State.hostFrame_malformed (hw : frameWrong (s.ringEntry r)) :
    s.hostFrame r t = s.frameDone r stMALFORMED (s.frameTaken r) := (State.hostFrame_taken hd).trans (if_pos hw)

variable (hw : ¬ frameWrong (s.ringEntry r))
include hw

/-- A marked frame that the device has no authority for is discarded (R342). -/
theorem State.hostFrame_discarded (hm : bit (entN (s.ringEntry r) 11 1) 6 = true) (ha : (s.frameTaken r).authority = false) :
    s.hostFrame r t = s.frameDone r stOK ((s.frameTaken r).incSat PAIR_CTLDISC_COUNT 1) := by
  rw [State.hostFrame_taken hd]
  exact (if_neg hw).trans (if_pos (by rw [hm, ha]; rfl))

variable (hf : bit (entN (s.ringEntry r) 11 1) 6 = false ∨ (s.frameTaken r).authority = true)
include hf

theorem State.hostFrame_free :
    s.hostFrame r t =
      (let m := entN (s.ringEntry r) 10 1
       let u := s.frameTaken r
       if !u.on (NET_CTRL_EN m) || !u.on (NET_STAT_LINK m) then s.frameDone r stOK (u.inc (NET_TXDISC_COUNT m) 1)
       else s.frameSent r (t + u.rd (NET_LATTX_NS m))) := by
  rw [State.hostFrame_taken hd]
  exact (if_neg hw).trans (if_neg (by rcases hf with h | h <;> simp [h]))

theorem State.hostFrame_noLink (hl : ¬ (s.frameTaken r).macReady (entN (s.ringEntry r) 10 1)) :
    s.hostFrame r t = s.frameDone r stOK ((s.frameTaken r).inc (NET_TXDISC_COUNT (entN (s.ringEntry r) 10 1)) 1) := by
  rw [State.hostFrame_free hd hw hf]
  exact if_pos ((State.not_macReady ..).2 hl)

theorem State.hostFrame_unmarked (hl : (s.frameTaken r).macReady (entN (s.ringEntry r) 10 1))
    (hm : entN (s.ringEntry r) 11 1 % 8 = 0) (hi : (s.frameRead r).1.integ.inj = none) :
    s.hostFrame r t = s.frameDone r stOK
      (((s.frameRead r).1.putFrame (entN (s.ringEntry r) 10 1) (s.frameRead r).2 false).inc
        (NET_TXOK_COUNT (entN (s.ringEntry r) 10 1)) 1) := by
  rw [State.hostFrame_free hd hw hf]
  refine (if_neg (not_not_intro hl ∘ (State.not_macReady ..).1)).trans ?_
  rw [State.frameSent, hm, State.frameLeaves_unmarked hm hi]
  rfl

end

/-! ## The statement of chapter 11 -/

/-- Settles O47: MACs by the checks of CTRL and the state of the link, a received frame by the first rule that takes it, word 0 of a
descriptor by the checks of R252, a stream packet by its eligibility, a host frame check by check. -/
theorem ethernetAndStreams : Obligations.EthernetAndStreams := by
  unfold Obligations.EthernetAndStreams
  intro p m v upNow t ok b rx i r s x k was fields unfit down frame e good at_ servo sel row fld on1 set err off off1 S q0 h after
    fin len mac got free seen wrong due
  have hoff : off ↔ s.descOff rx sel = true := (s.descOff_iff rx sel).symm
  have hon : ¬ off ↔ s.descOff rx sel = false := by rw [hoff, Bool.not_eq_true]
  have live {u : State} (hh : s.board.held = false) (hu : s.frameReceived k t ok b = u) : seen u :=
    (exec_frameReceived hh m t ok b).trans (congrArg (fun u => Host.Outcome.next (s.refsFollow u)) hu)
  refine ⟨fun hw => ⟨fun hu => ?macRefused, fun hu => ?macWritten⟩,
    fun hh => ⟨fun hl => ?linkSame, fun he hl => ?linkUp, fun he hl => ?linkDown, fun hl => ?unseen, fun he hl => ?frame⟩,
    fun z hz => State.streamFrame_badFormat hz t,
    fun hw => ?enable, fun hw => ?disable,
    fun hh => ⟨fun hj => ?stopped, fun j hj hc => ?uncopied, fun j hj _ hb => ?behind, fun j hj hc hb hr => ?sends,
      fun hd => ?idle, fun hd hw => ?malformed, fun hd hw hf => ?discarded, fun hd hw hf hl => ?noLink,
      fun hd hw hf he hl hm hi => ?sent⟩⟩
  case macRefused =>
    rw [exec_macEnable, State.hostReg_net_refused hw rfl (netHook_ctrl_refused hu _ _)]
  case macWritten =>
    rw [exec_macEnable, State.hostReg_net_accepted hw rfl (netHook_ctrl_accepted hu _ _)]
    rfl
  case linkSame => rw [exec_linkChange hh, State.linkChange_none hl]
  case linkUp => rw [exec_linkChange hh, State.linkChange_up he hl]
  case linkDown =>
    rw [exec_linkChange hh, State.linkChange_down he hl]
    rfl
  case unseen => exact (live hh (State.frameReceived_unseen hl)).trans (congrArg _ s.refsFollow_self)
  case frame =>
    refine ⟨fun hb => live hh (State.frameReceived_badFcs he hl hb), ?_, ?_, ?_⟩
    · rintro rfl hb hd
      exact live hh (State.frameReceived_dropped he hl hb hd)
    · rintro rfl hb hs ht udp z q hq hz hp hy
      exact live hh (State.frameReceived_ptp he hl hb hs ht (State.servoOf_first hq hz hp hy))
    · rintro rfl hb hs ht hn
      have hv : good.servoOf k e = none := State.servoOf_none fun udp q hq z hz => Bool.eq_false_iff.2 fun hp =>
        hn (by simp only [servo, hq]; exact ⟨z, List.mem_range.2 hz, hp⟩)
      have other (hz : ∀ z ∈ List.range 1024, good.rsMatch z k e = false) :=
        State.frameReceived_other (t := t) he hl hb hs ht hv (State.streamOf_none fun z h => hz z (List.mem_range.2 h))
      exact ⟨fun z hz hm hy => live hh (State.frameReceived_stream he hl hb hs ht hv (State.streamOf_first (List.mem_range.1 hz) hm hy)),
        fun hz ha => live hh ((other hz).trans (if_pos ha)),
        fun hz ha => live hh ((other hz).trans (if_neg (Bool.eq_false_iff.1 ha)))⟩
  case enable =>
    have hx : on1 < 2 ^ 32 := withBits_en_lt v 1
    have hb : bit on1 0 = true := bit_withBits_one v 0
    have hp : s.descPasses rx sel on1 ↔ s.descOff rx sel = false ∧ on1 = s.rd fld := State.descPasses_enabled hb
    rw [exec_streamEnable]
    exact ⟨fun ho he => congrArg _ (State.hostReg_desc_unlawful hx hw (hoff.1 ho) hb he),
      fun ho he => congrArg _ (State.hostReg_desc_lawful hx hw (hoff.1 ho) (.inr he)),
      fun ho he => congrArg _ (State.hostReg_desc_passes hx hw (hp.2 ⟨hon.1 ho, he.symm⟩)),
      fun ho he => congrArg _ (State.hostReg_desc_running hx hw (hon.1 ho) fun h => he (hp.1 h).2.symm)⟩
  case disable =>
    have hx : off1 < 2 ^ 32 := withBits_en_lt v 0
    rw [exec_streamDisable]
    refine ⟨fun hc => congrArg _ ?_, fun ho hn hs => congrArg _ ?_⟩
    · by_cases ho : off
      · exact State.hostReg_desc_lawful hx hw (hoff.1 ho) (.inl (bit_withBits_zero v))
      · exact State.hostReg_desc_passes hx hw ((State.descPasses_disabled (hon.1 ho)).2 (hc.resolve_left ho))
    · exact State.hostReg_desc_running hx hw (hon.1 ho) fun hp => ((State.descPasses_disabled (hon.1 ho)).1 hp).elim hn hs
  case stopped => rw [exec_streamPacketTransmit hh, State.streamTransmit_stopped hj]
  case uncopied => rw [exec_streamPacketTransmit hh, State.streamTransmit_waits hj (.inl hc)]
  case behind => rw [exec_streamPacketTransmit hh, State.streamTransmit_waits hj (.inr hb)]
  case sends =>
    refine ⟨_, (exec_streamPacketTransmit hh i).trans (congrArg _ (State.streamTransmit_sends hj hc hb hr)), s.tx_sends .., ?_⟩
    intro q hq hp hl
    exact State.rd_txDisc_sends hq hp (State.macReady_not hl) _ _
  case idle => rw [exec_hostFrameTransmit hh, State.hostFrame_idle hd]
  case malformed => exact (exec_hostFrameTransmit hh r t).trans (congrArg _ (State.hostFrame_malformed hd hw))
  case discarded =>
    obtain ⟨hm, ha⟩ := not_or.1 hf
    exact (exec_hostFrameTransmit hh r t).trans
      (congrArg _ (State.hostFrame_discarded hd hw (eq_true_of_ne_false hm) (Bool.eq_false_iff.2 ha)))
  case noLink =>
    exact (exec_hostFrameTransmit hh r t).trans (congrArg _ (State.hostFrame_noLink hd hw hf (State.macReady_not hl)))
  case sent =>
    have hg : s.frameRead r.val = got := rfl
    have hs := State.hostFrame_unmarked (t := t) hd hw hf ⟨he, hl⟩ hm (hg ▸ hi)
    rw [hg] at hs
    rw [exec_hostFrameTransmit hh, hs]
    rfl

end Sys2Proof.Machine
end

section
/-! PROOFS. What an event reaches: the parts of the state that its ring entry, and the reads, records and repairs of memory on the way of the
entry, may change, and that every other part stands (R163, R164, R363, R367 to R372, R380, R386). -/
namespace Sys2Proof.Machine

/-- The fields that an event may change: those of records, and those that count ECC errors and retire rows and banks. -/
def eventFields : List Nat :=
  noteFields ++ [(CORECTL_CCOUNT_ECCC 0).no, (DRAMC_ECC_CORR 0).no, (DRAMC_ECC_UNCORR 0).no, (MEMT_MACSTAT_EXHAUSTED 0).no, MEMT_BANKMAP_NOSPARE.no,
    MEMT_BANKMAP_COPY.no, MEMT_BRETIRE_GO.no, (MEMT_EPOS_PHASE 16).no]

/-- The part `g` of the state lies outside what an event may change. -/
structure Unreached {β : Type} (g : State → β) : Prop where
  wr : ∀ (s : State) (f : Fld) (v : Nat), f.no ∈ eventFields → g (s.wr f v) = g s
  rest : ∀ (s : State) mem hostMem poison integ memt spent msix events uart,
    g { s with mem, hostMem, poison, integ, memt, host := { s.host with spent, msix, events }, board := { s.board with uart } } = g s

theorem unreached_rd {f : Fld} (h : f.no ∉ eventFields) : Unreached fun s => s.rd f :=
  ⟨fun s g v hg => s.rd_wr_other g f v (.inl fun e => h (e ▸ hg)), fun _ _ _ _ _ _ _ _ _ _ => rfl⟩

theorem unreached_cfg : Unreached fun s => s.host.cfg := ⟨fun _ _ _ _ => rfl, fun _ _ _ _ _ _ _ _ _ _ => rfl⟩

theorem unreached_signed : Unreached fun s => s.host.signed := ⟨fun _ _ _ _ => rfl, fun _ _ _ _ _ _ _ _ _ _ => rfl⟩

theorem mem_eventFields_of_note {n : Nat} (h : n ∈ noteFields) : n ∈ eventFields := List.mem_append_left _ h

/-- What each step of a fold leaves, the fold leaves. -/
theorem foldl_keeps {σ α β : Type} (g : σ → β) {f : σ → α → σ} (hf : ∀ s x, g (f s x) = g s) (l : List α) (s : σ) : g (l.foldl f s) = g s :=
  List.foldlRecOn (motive := fun t => g t = g s) l f rfl fun t ht x _ => (hf t x).trans ht

namespace Unreached
variable {β : Type} {g : State → β} (h : Unreached g)
include h

theorem note (s : State) (f : Fld) (v : Nat) (hf : f.no ∈ noteFields) : g (s.wr f v) = g s := h.wr s f v (mem_eventFields_of_note hf)

theorem withMem (s : State) (m : List Host.Cell) : g { s with mem := m } = g s := h.rest s ..

theorem withInteg (s : State) (i : Integ) : g { s with integ := i } = g s := h.rest s ..

theorem withMemt (s : State) (m : MemtSt) : g { s with memt := m } = g s := h.rest s ..

theorem injDone (s : State) : g s.injDone = g s := by
  unfold State.injDone
  split
  · rfl
  · dsimp only
    split
    · rw [h.note _ _ _ (by decide), h.note _ _ _ (by decide), h.withInteg]
      exact h.note s _ _ (by decide)
    · exact (h.withInteg _ _).trans (h.note s _ _ (by decide))

theorem unflip (s : State) (w : Nat) : g (s.unflip w) = g s := by
  unfold State.unflip
  split
  · rfl
  · dsimp only
    split
    · exact h.injDone s
    · exact (h.withInteg _ _).trans (h.injDone s)

theorem touchWord (s : State) (w : Nat) : g (s.touchWord w) = g s := by
  unfold State.touchWord
  dsimp only
  split
  · exact (h.rest (s.unflip w) ..).trans (h.unflip s w)
  · exact h.unflip s w

theorem devPut (bs : List Byte) (s : State) (a : Nat) : g (s.devPut a bs) = g s := by
  induction bs generalizing s a with
  | nil => rfl
  | cons v bs ih => rw [State.devPut, ih, h.withMem, h.touchWord]

theorem noteDefault (s : State) (a master qos : Nat) (write : Bool) : g (s.noteDefault a master qos write) = g s := by
  unfold State.noteDefault
  dsimp only
  rw [State.incSat, h.note _ _ _ (by decide), h.note _ _ _ (by decide), h.note _ _ _ (by decide), h.note _ _ _ (by decide), h.note _ _ _ (by decide),
    h.note _ _ _ (by decide)]

theorem ringPutQuiet (s : State) (r a : Nat) (bs : List Byte) : g (s.ringPutQuiet r a bs) = g s := by
  unfold State.ringPutQuiet
  split
  · exact h.rest s ..
  · refine foldl_keeps g (fun t q => ?_) _ s
    split
    · exact h.devPut ..
    · split
      · exact h.noteDefault ..
      · rfl

theorem ringPushBy {put : State → Nat → Nat → List Byte → State} (hp : ∀ s r a bs, g (put s r a bs) = g s) (s : State) (r : Nat) (e : List Byte) :
    g (State.ringPushBy put s r e) = g s := by
  have key (a : Nat) : g ((put s r a e).inc (HOST_RPI_INDEX r) 1) = g s :=
    (h.note _ _ _ (by simp [noteFields, HOST_RPI_INDEX])).trans (hp s r a e)
  unfold State.ringPushBy State.ringSignal
  dsimp only
  split
  · exact (h.rest (State.inc _ _ 1) ..).trans (key _)
  · exact key _

theorem latchFatal (s : State) (bs : List Byte) : g (s.latchFatal bs) = g s := by
  have words : g ((wordsOf bs).zipIdx.foldl (fun s (w, i) => s.wr (INTG_FATREC_WORD i) w) s) = g s :=
    foldl_keeps g (fun t _ => h.note t _ _ (by simp [noteFields, INTG_FATREC_WORD])) _ s
  have line (t : State) (own : Bool) (l : List Nat) : g (t.uartQueue own l) = g t := by
    unfold State.uartQueue
    dsimp only
    rw [h.note _ _ _ (by decide), h.note _ _ _ (by decide)]
    exact h.rest t ..
  unfold State.latchFatal State.uartLine
  split
  · rfl
  · dsimp only
    split
    · split
      · exact (line ..).trans ((h.withInteg _ _).trans words)
      · exact (h.withInteg _ _).trans words
    · exact (h.withInteg _ _).trans words

theorem writeRec (s : State) (r : Rec) : g (s.writeRec r) = g s := by
  have ovf (t : State) : g (t.incSat (INTG_OVF_COUNT r.cls) 1) = g t := h.note _ _ _ (by simp [noteFields, INTG_OVF_COUNT])
  have rcnt (t : State) : g (t.inc (INTG_RCNT_COUNT r.cls) 1) = g t := h.note _ _ _ (by simp [noteFields, INTG_RCNT_COUNT])
  have nest (t : State) (b : Bool) : g (if b then t.incSat INTG_NEST_NESTED 1 else t) = g t := by
    split
    · exact h.note _ _ _ (by decide)
    · rfl
  have esc (t : State) (b : Bool) : g (if b then t.incSat INTG_NEST_ESC 1 else t) = g t := by
    split
    · exact h.note _ _ _ (by decide)
    · rfl
  have fatal (t : State) (bs : List Byte) : g (if r.cls = 4 then (t.latchFatal bs).noteFatal else t) = g t := by
    split
    · exact (h.withInteg _ _).trans (h.latchFatal t bs)
    · rfl
  unfold State.writeRec
  dsimp only
  generalize hn : (s.inc INTG_SEQ_NEXT 1).wr INTG_SUMMARY_CLASS _ = t
  have ht : g t = g s := hn ▸ (h.note _ _ _ (by decide)).trans (h.note s _ _ (by decide))
  generalize hu : (if r.cls = 4 then _ else _) = u
  have eu : g u = g s := by rw [← hu, fatal, esc, nest, ht]
  split
  · rw [ovf, eu]
  · split
    · exact (h.withInteg _ _).trans ((ovf u).trans eu)
    · exact (h.withInteg _ _).trans ((h.ringPushBy h.ringPutQuiet ..).trans ((rcnt u).trans eu))

theorem emit (s : State) (r : Rec) : g (s.emit r) = g s := by
  unfold State.emit
  dsimp only
  split <;> split
  · exact (h.withInteg _ _).trans (h.withInteg _ _)
  · exact (h.writeRec _ _).trans (h.withInteg _ _)
  · exact h.withInteg _ _
  · exact h.writeRec _ _

/-! ## Errors found on the way (R163, R164, R363) -/

theorem exhaust (s : State) (m row : Nat) (fs : List TestFail) (esc : Bool) : g (s.exhaust m row fs esc) = g s := by
  unfold State.exhaust
  dsimp only
  refine (foldl_keeps g (fun t f => ?_) fs _).trans ((h.emit _ _).trans (h.wr _ _ _ (by simp [eventFields, MEMT_MACSTAT_EXHAUSTED])))
  split
  · split
    · exact h.rest t ..
    · exact h.withInteg _ _
  · rfl

theorem noSpare (s : State) (q : BankReq) : g (s.noSpare q) = g s := by
  have go (t : State) : g (if t.memt.go = some q.bank then { t with memt := { t.memt with go := none } }.wr MEMT_BRETIRE_GO 0 else t) = g t := by
    split
    · exact (h.wr _ _ _ (by decide)).trans (h.withMemt _ _)
    · rfl
  have waits (t : State) : g (if t.memt.waitBank = some q.bank then
      { t with memt := { t.memt with waitBank := none } }.wr (MEMT_EPOS_PHASE 16) 3 else t) = g t := by
    split
    · exact (h.wr _ _ _ (by decide)).trans (h.withMemt _ _)
    · rfl
  unfold State.noSpare
  dsimp only
  rw [waits]
  split
  · rw [h.exhaust, go, h.wr _ _ _ (by decide)]
  · rw [go, h.wr _ _ _ (by decide)]

theorem retireBank (s : State) (q : BankReq) : g (s.retireBank q) = g s := by
  have copies (m : MemtSt) : g ({ s with memt := m }.wr MEMT_BANKMAP_COPY 1) = g s := (h.wr _ _ _ (by decide)).trans (h.withMemt _ _)
  unfold State.retireBank State.beginHandling
  split
  · rfl
  · split
    · exact h.withMemt _ _
    · split
      · dsimp only
        split
        · exact copies _
        · exact (h.withInteg _ _).trans (copies _)
      · exact h.noSpare s q

theorem bankError (s : State) (w : Nat) : g (s.bankError w) = g s := by
  unfold State.bankError
  split
  · rfl
  · dsimp only
    split <;> split
    · exact (h.retireBank _ _).trans (h.withMemt _ _)
    · exact h.withMemt _ _
    · exact (h.retireBank _ _).trans (h.withMemt _ _)
    · exact h.withMemt _ _

/-- The counter of ECC errors of the unit that a word belongs to (R172). -/
theorem eccCount (s : State) (ty u : Nat) (one : Bool) :
    g (if ty = uMacro ∧ u < 768 then
        (if one then s.incSat (CORECTL_CCOUNT_ECCC (if u < 256 then u else (u - 256) / 2)) 1 else s)
      else if ty = uDram then (if one then s.incSat (DRAMC_ECC_CORR u) 1 else s.incSat (DRAMC_ECC_UNCORR u) 1) else s) = g s := by
  split
  · split
    · exact h.wr _ _ _ (by simp [eventFields, CORECTL_CCOUNT_ECCC])
    · rfl
  · split
    · split
      · exact h.wr _ _ _ (by simp [eventFields, DRAMC_ECC_CORR])
      · exact h.wr _ _ _ (by simp [eventFields, DRAMC_ECC_UNCORR])
    · rfl

theorem readWord (s : State) (w a master qos : Nat) : g (s.readWord w a master qos) = g s := by
  unfold State.readWord
  dsimp only
  generalize s.unitOf (w * 8) = u
  split
  · split
    · rw [h.emit, h.eccCount, h.unflip]
    · refine (h.rest (State.emit _ _) ..).trans ?_
      rw [h.emit, h.eccCount, h.unflip]
  · split
    · split
      · rw [h.bankError, h.emit, h.eccCount]
      · rw [h.emit, h.eccCount]
    · split
      · rw [h.emit, h.eccCount]
      · rfl

/-! ## The entry of an event (R380, R386) -/

theorem noAnswer (s : State) (master qos a : Nat) (write : Bool) : g (s.noAnswer master qos a write) = g s := by
  unfold State.noAnswer State.defaultTarget State.dramRefuse State.errored
  split
  · rw [h.withInteg, h.emit, h.noteDefault]
  · exact h.emit _ _
  · rfl

theorem engineWrite (s : State) (master qos a : Nat) (bs : List Byte) : g (s.engineWrite master qos a bs).1 = g s := by
  unfold State.engineWrite
  refine foldl_keeps (fun q : State × Bool => g q.1) (fun q x => ?_) _ (s, true)
  split
  · exact (h.devPut ..).trans (foldl_keeps g (fun t w => h.readWord t ..) _ q.1)
  · exact h.noAnswer ..

theorem ringPut (s : State) (r a : Nat) (bs : List Byte) : g (s.ringPut r a bs) = g s := by
  unfold State.ringPut
  split
  · exact h.rest s ..
  · exact h.engineWrite ..

theorem event (s : State) (ty owner : Nat) (detail : List Byte) : g (s.event ty owner detail) = g s := by
  unfold State.event
  split
  · rfl
  · split
    · exact h.note _ _ _ (by simp [noteFields, HOST_RSTAT_DROP])
    · exact (h.ringPushBy h.ringPut ..).trans (h.rest s ..)

end Unreached

end Sys2Proof.Machine
end

section
/-! PROOFS. The warden's apply of configuration words (R391 to R393, R395). -/
namespace Sys2Proof.Machine

/-! ## The journal and the words in effect (R393, R395) -/

/-- A journal entry advances JPI. -/
theorem State.rd_journal_jpi (s : State) (a o n k p r : Nat) :
    (s.journal a o n k p r).rd WARD_JPI_INDEX = (s.rd WARD_JPI_INDEX + 1) % 2 ^ 32 := by
  unfold State.journal State.inc
  rw [State.rd_wr_same]
  exact congrArg (fun x => (x + 1) % 2 ^ 32) (foldl_keeps (·.rd WARD_JPI_INDEX) (fun t q => t.rd_wr_other (WARD_JDATA_WORD _) _ _ (.inl (by simp [WARD_JPI_INDEX, WARD_JDATA_WORD]))) _ s)

theorem State.cfgWord_congr {s t : State} (h : t.host.cfg = s.host.cfg) (i : Nat) : t.cfgWord i = s.cfgWord i := by simp only [State.cfgWord, h]

@[simp] theorem State.cfgWord_wr (s : State) (f : Fld) (v i : Nat) : (s.wr f v).cfgWord i = s.cfgWord i := rfl

@[simp] theorem State.cfgWord_journal (s : State) (a o n k p r i : Nat) : (s.journal a o n k p r).cfgWord i = s.cfgWord i :=
  State.cfgWord_congr (s.journal_rest (·.host.cfg) (fun _ _ _ => rfl) a o n k p r) i

@[simp] theorem State.rd_setCfg (s : State) (i v : Nat) (f : Fld) : (s.setCfg i v).rd f = s.rd f := rfl

theorem State.cfgWord_setCfg (s : State) (i v j : Nat) : (s.setCfg i v).cfgWord j = if j = i then v else s.cfgWord j := by
  unfold State.cfgWord State.setCfg
  split
  · next h => rw [h, tget_tput_same]; exact if_pos (.inl rfl)
  · next h => rw [tget_tput_other _ _ _ _ h]

theorem State.cfgCrc_congr {s t : State} (h : t.host.cfg = s.host.cfg) : t.cfgCrc = s.cfgCrc := by
  simp only [State.cfgCrc, State.cfgWord_congr h]

/-- The staged words stand in a register of their own. -/
theorem State.cfgStaged_wr (s : State) {f : Fld} (h : f.no ≠ (WARD_CFGSTG_WORD 0).no) (v i : Nat) : (s.wr f v).cfgStaged i = s.cfgStaged i :=
  s.rd_wr_other f (WARD_CFGSTG_WORD i) v (.inl h.symm)

/-! ## One word, and the changed words, of an apply (R392) -/

/-- The listed words whose staged value differs from that in effect. -/
def State.cfgChanges (s : State) : List Nat := cfgAll.filter fun i => s.cfgStaged i != s.cfgWord i

/-- One word of an apply: its journal entry, and its staged value in effect. -/
def State.applyWord (s : State) (i : Nat) : State :=
  (s.journal (2 ^ 31 + i) (s.cfgWord i) (s.cfgStaged i) 1 s.wardCode 0).setCfg i (s.cfgStaged i)

/-- The changed words of `s` in effect, GO taken. -/
def State.wordsApplied (s : State) : State := s.cfgChanges.foldl State.applyWord (s.wr WARD_APPLY_GO 0)

/-- A signature is stored. -/
def State.sign (s : State) (crc : Nat) : State := { s with host := { s.host with signed := true } }.wr WARD_SIG_CRC crc

/-- The end of an apply: RESULT and REASON, and the event. -/
def State.applyEnds (s : State) (res rea : Nat) : State :=
  ((s.wr WARD_APPLY_RESULT res).wr WARD_APPLY_REASON rea).event 0x000A warden (leBytes res 1 ++ leBytes rea 1)

section
variable (s : State)

theorem State.rd_applyWord (i : Nat) {f : Fld} (h1 : f.no ≠ (WARD_JDATA_WORD 0).no) (h2 : f.no ≠ WARD_JPI_INDEX.no) :
    (s.applyWord i).rd f = s.rd f := by
  rw [State.applyWord, State.rd_setCfg, State.rd_journal_other _ _ _ _ _ _ _ _ h1 h2]

theorem State.rd_applyWord_jpi (i : Nat) : (s.applyWord i).rd WARD_JPI_INDEX = (s.rd WARD_JPI_INDEX + 1) % 2 ^ 32 := by
  rw [State.applyWord, State.rd_setCfg, State.rd_journal_jpi]

theorem State.cfgWord_applyWord (i j : Nat) : (s.applyWord i).cfgWord j = if j = i then s.cfgStaged i else s.cfgWord j := by
  rw [State.applyWord, State.cfgWord_setCfg, State.cfgWord_journal]

theorem State.rd_applyWords (l : List Nat) {f : Fld} (h1 : f.no ≠ (WARD_JDATA_WORD 0).no) (h2 : f.no ≠ WARD_JPI_INDEX.no) :
    (l.foldl State.applyWord s).rd f = s.rd f := foldl_keeps (·.rd f) (fun t i => t.rd_applyWord i h1 h2) l s

theorem State.cfgWord_applyWords (l : List Nat) (j : Nat) :
    (l.foldl State.applyWord s).cfgWord j = if j ∈ l then s.cfgStaged j else s.cfgWord j := by
  induction l generalizing s with
  | nil => rfl
  | cons i l ih =>
    have hs : (s.applyWord i).cfgStaged j = s.cfgStaged j := s.rd_applyWord i (by simp [WARD_CFGSTG_WORD, WARD_JDATA_WORD]) (by simp [WARD_CFGSTG_WORD, WARD_JPI_INDEX])
    rw [List.foldl_cons, ih, hs, State.cfgWord_applyWord]
    by_cases hl : j ∈ l
    · rw [if_pos hl, if_pos (List.mem_cons_of_mem i hl)]
    · by_cases hi : j = i
      · rw [if_neg hl, if_pos hi, if_pos (hi ▸ List.mem_cons_self), hi]
      · rw [if_neg hl, if_neg hi, if_neg (by simp [hl, hi])]

theorem State.rd_applyWords_jpi (l : List Nat) :
    (l.foldl State.applyWord s).rd WARD_JPI_INDEX = if l = [] then s.rd WARD_JPI_INDEX else (s.rd WARD_JPI_INDEX + l.length) % 2 ^ 32 := by
  induction l generalizing s with
  | nil => rfl
  | cons i l ih =>
    rw [List.foldl_cons, ih, State.rd_applyWord_jpi, if_neg (List.cons_ne_nil i l)]
    split
    · next h => rw [h, List.length_singleton]
    · rw [List.length_cons]
      omega

/-! ## The end of an apply -/

variable (res rea : Nat)

theorem State.rd_applyEnds {f : Fld} (h : f.no ∉ eventFields) (h1 : f.no ≠ WARD_APPLY_RESULT.no) (h2 : f.no ≠ WARD_APPLY_REASON.no) :
    (s.applyEnds res rea).rd f = s.rd f :=
  ((unreached_rd h).event ..).trans ((State.rd_wr_other _ _ _ _ (.inl h2)).trans (s.rd_wr_other _ _ _ (.inl h1)))

theorem State.rd_applyEnds_result : (s.applyEnds res rea).rd WARD_APPLY_RESULT = res % 2 ^ 2 :=
  ((unreached_rd (f := WARD_APPLY_RESULT) (by decide)).event ..).trans
    ((State.rd_wr_other _ _ _ _ (.inl (by decide))).trans (s.rd_wr_same WARD_APPLY_RESULT res))

theorem State.rd_applyEnds_reason : (s.applyEnds res rea).rd WARD_APPLY_REASON = rea % 2 ^ 3 :=
  ((unreached_rd (f := WARD_APPLY_REASON) (by decide)).event ..).trans (State.rd_wr_same _ WARD_APPLY_REASON rea)

theorem State.cfg_applyEnds : (s.applyEnds res rea).host.cfg = s.host.cfg := unreached_cfg.event ..

theorem State.signed_applyEnds : (s.applyEnds res rea).host.signed = s.host.signed := unreached_signed.event ..

end

/-! ## The signature (R393) -/

section
variable (s : State)

theorem State.cfg_sign (crc : Nat) : (s.sign crc).host.cfg = s.host.cfg := rfl

theorem State.signed_sign (crc : Nat) : (s.sign crc).host.signed = true := rfl

theorem State.rd_sign (crc : Nat) {f : Fld} (h : f.no ≠ WARD_SIG_CRC.no) : (s.sign crc).rd f = s.rd f := State.rd_wr_other _ _ _ _ (.inl h)

theorem State.rd_sign_crc (crc : Nat) : (s.sign crc).rd WARD_SIG_CRC = crc % 2 ^ 32 := State.rd_wr_same _ WARD_SIG_CRC crc

end

/-! ## Why an apply is refused (R392) -/

section
variable {s : State} {ch : List Nat}

theorem State.applyRefused_frozen (h : s.on WARD_STAT_FROZEN = true) : s.applyRefused ch = some 5 := if_pos h

theorem State.applyRefused_journal (h : ¬ s.on WARD_STAT_FROZEN = true) (hj : s.journalFree < ch.length) : s.applyRefused ch = some 4 :=
  (if_neg h).trans (if_pos hj)

theorem State.applyRefused_le {rea : Nat} (h : s.applyRefused ch = some rea) : rea ≤ 5 := by
  unfold State.applyRefused reFROZEN reJOURNAL reLIFESAFETY reBADVALUE reINUSE at h
  repeat' split at h
  all_goals simp only [Option.some.injEq, reduceCtorEq] at h
  all_goals omega

section
variable (h : ¬ s.on WARD_STAT_FROZEN = true) (hj : ch.length ≤ s.journalFree)
include h hj

/-- With the journal's room and no frozen configuration, the first changed word that is of the life-safety assignments or BADVALUE decides. -/
theorem State.applyRefused_words :
    s.applyRefused ch = match ch.find? fun i => s.cfgUnsafe i || cfgBad i (s.cfgStaged i) with
      | some i => some (if s.cfgUnsafe i then 1 else 3)
      | none => if ch.any s.cfgInUse then some 2 else none :=
  ((if_neg h).trans (if_neg (Nat.not_lt.2 hj))).trans rfl

theorem State.applyRefused_first {a b : List Nat} {i : Nat} (hc : ch = a ++ i :: b)
    (ha : ∀ j ∈ a, ¬ (s.cfgUnsafe j = true ∨ cfgBad j (s.cfgStaged j) = true)) (hi : s.cfgUnsafe i = true ∨ cfgBad i (s.cfgStaged i) = true) :
    s.applyRefused ch = some (if s.cfgUnsafe i then 1 else 3) := by
  have hf : ch.find? (fun i => s.cfgUnsafe i || cfgBad i (s.cfgStaged i)) = some i :=
    List.find?_eq_some_iff_append.2 ⟨by simpa using hi, a, b, hc, fun j hm => by simpa using ha j hm⟩
  rw [State.applyRefused_words h hj, hf]

theorem State.applyRefused_use (hb : ∀ j ∈ ch, ¬ (s.cfgUnsafe j = true ∨ cfgBad j (s.cfgStaged j) = true)) :
    s.applyRefused ch = if ch.any s.cfgInUse then some 2 else none := by
  have hf : ch.find? (fun i => s.cfgUnsafe i || cfgBad i (s.cfgStaged i)) = none := List.find?_eq_none.2 fun j hm => by simpa using hb j hm
  rw [State.applyRefused_words h hj, hf]

end
end

/-! ## The apply (R392) -/

section
variable {s : State}

theorem State.cfgChanges_taken (s : State) : (s.wr WARD_APPLY_GO 0).cfgChanges = s.cfgChanges := by
  simp only [State.cfgChanges, State.cfgWord_wr, s.cfgStaged_wr (f := WARD_APPLY_GO) (by decide)]

theorem State.wardApply_idle (h : s.on WARD_APPLY_GO = false) : s.wardApply = s := if_pos (by rw [h]; rfl)

variable (h : s.on WARD_APPLY_GO = true)
include h

theorem State.wardApply_refused {rea : Nat} (hr : (s.wr WARD_APPLY_GO 0).applyRefused s.cfgChanges = some rea) :
    s.wardApply = (let u := s.wr WARD_APPLY_GO 0
      (if u.journalFull then u else u.journal (2 ^ 31) 0 0 2 u.wardCode rea).applyEnds 2 rea) := by
  rw [← s.cfgChanges_taken, State.cfgChanges] at hr
  unfold State.wardApply
  rw [if_neg (by rw [h]; decide)]
  dsimp only
  rw [hr]
  rfl

theorem State.wardApply_accepted (hr : (s.wr WARD_APPLY_GO 0).applyRefused s.cfgChanges = none) :
    s.wardApply = (s.wordsApplied.sign s.wordsApplied.cfgCrc).applyEnds (if s.cfgChanges.isEmpty then 3 else 1) 0 := by
  have hc := s.cfgChanges_taken
  rw [← hc, State.cfgChanges] at hr
  rw [State.wordsApplied, ← hc]
  unfold State.wardApply
  rw [if_neg (by rw [h]; decide)]
  dsimp only
  rw [hr]
  rfl

/-! What it leaves. -/

theorem State.wardApply_done : s.wardApply.on WARD_APPLY_GO = false := by
  have key (t : State) (res rea : Nat) (ht : t.rd WARD_APPLY_GO = (s.wr WARD_APPLY_GO 0).rd WARD_APPLY_GO) :
      (t.applyEnds res rea).on WARD_APPLY_GO = false := by
    rw [State.on, t.rd_applyEnds res rea (by decide) (by decide) (by decide), ht, State.rd_wr_same]
    rfl
  cases hr : (s.wr WARD_APPLY_GO 0).applyRefused s.cfgChanges with
  | some rea =>
    rw [State.wardApply_refused h hr]
    refine key _ _ _ ?_
    split
    · rfl
    · exact State.rd_journal_other _ _ _ _ _ _ _ _ (by decide) (by decide)
  | none =>
    rw [State.wardApply_accepted h hr]
    exact key _ _ _ ((State.rd_wr_other _ _ _ _ (.inl (by decide))).trans (State.rd_applyWords _ _ (by decide) (by decide)))

theorem State.wardApply_refusal {rea : Nat} (hr : (s.wr WARD_APPLY_GO 0).applyRefused s.cfgChanges = some rea) :
    s.wardApply.rd WARD_APPLY_RESULT = 2 ∧ s.wardApply.rd WARD_APPLY_REASON = rea ∧ s.wardApply.host.cfg = s.host.cfg
      ∧ s.wardApply.rd WARD_JPI_INDEX = (if s.journalFull then s.rd WARD_JPI_INDEX else (s.rd WARD_JPI_INDEX + 1) % 2 ^ 32) := by
  have hle := State.applyRefused_le hr
  have hjpi : (s.wr WARD_APPLY_GO 0).rd WARD_JPI_INDEX = s.rd WARD_JPI_INDEX := s.rd_wr_other _ _ _ (.inl (by decide))
  have hjci : (s.wr WARD_APPLY_GO 0).rd WARD_JCI_INDEX = s.rd WARD_JCI_INDEX := s.rd_wr_other _ _ _ (.inl (by decide))
  have hfull : (s.wr WARD_APPLY_GO 0).journalFull = s.journalFull := by simp only [State.journalFull, hjpi, hjci]
  rw [State.wardApply_refused h hr]
  dsimp only
  rw [State.rd_applyEnds_result, State.rd_applyEnds_reason, State.cfg_applyEnds, State.rd_applyEnds _ _ _ (by decide) (by decide) (by decide), hfull]
  refine ⟨rfl, Nat.mod_eq_of_lt (by omega), ?_⟩
  split
  · exact ⟨rfl, hjpi⟩
  · exact ⟨State.journal_rest (·.host.cfg) (fun _ _ _ => rfl) .., (State.rd_journal_jpi ..).trans (by rw [hjpi])⟩

variable (hr : (s.wr WARD_APPLY_GO 0).applyRefused s.cfgChanges = none)
include hr

theorem State.cfgWord_wardApply {i : Nat} (hi : i ∈ cfgAll) : s.wardApply.cfgWord i = s.cfgStaged i := by
  rw [State.wardApply_accepted h hr, State.cfgWord_congr (State.cfg_applyEnds ..), State.cfgWord_congr (State.cfg_sign ..), State.wordsApplied, State.cfgWord_applyWords,
    State.cfgWord_wr, s.cfgStaged_wr (by decide)]
  split
  · rfl
  · next hn =>
    have hk : ¬ (s.cfgStaged i != s.cfgWord i) = true := fun hk => hn (List.mem_filter.2 ⟨hi, hk⟩)
    exact (by simpa using hk : s.cfgStaged i = s.cfgWord i).symm

theorem State.rd_wardApply_reason : s.wardApply.rd WARD_APPLY_REASON = 0 := by
  rw [State.wardApply_accepted h hr, State.rd_applyEnds_reason, Nat.zero_mod]

theorem State.rd_wardApply_result : s.wardApply.rd WARD_APPLY_RESULT = if s.cfgChanges = [] then 3 else 1 := by
  rw [State.wardApply_accepted h hr, State.rd_applyEnds_result]
  cases s.cfgChanges <;> rfl

theorem State.rd_wardApply_jpi : s.wardApply.rd WARD_JPI_INDEX
    = if s.cfgChanges = [] then s.rd WARD_JPI_INDEX else (s.rd WARD_JPI_INDEX + s.cfgChanges.length) % 2 ^ 32 := by
  rw [State.wardApply_accepted h hr, State.rd_applyEnds _ _ _ (by decide) (by decide) (by decide), State.rd_sign _ _ (by decide), State.wordsApplied,
    State.rd_applyWords_jpi, s.rd_wr_other _ _ _ (.inl (by decide))]

theorem State.rd_wardApply_crc : s.wardApply.rd WARD_SIG_CRC = s.wardApply.cfgCrc % 2 ^ 32 := by
  rw [State.wardApply_accepted h hr, State.cfgCrc_congr (State.cfg_applyEnds ..), State.cfgCrc_congr (State.cfg_sign ..), State.rd_applyEnds _ _ _ (by decide) (by decide) (by decide),
    State.rd_sign_crc]

theorem State.signed_wardApply : s.wardApply.host.signed = true := by
  rw [State.wardApply_accepted h hr, State.signed_applyEnds, State.signed_sign]

end

/-- Settles O44: the checks of an apply in their order, and what a refused and an accepted apply leave. -/
theorem configurationApply : Obligations.ConfigurationApply := by
  unfold Obligations.ConfigurationApply
  intro s ch u bad t refused frozen
  have hfrozen : u.on WARD_STAT_FROZEN = s.on WARD_STAT_FROZEN := s.on_wr_other _ _ _ (.inl (by decide))
  have hfree : u.journalFree = s.journalFree := by
    unfold State.journalFree
    rw [s.rd_wr_other WARD_APPLY_GO WARD_JPI_INDEX 0 (.inl (by decide)), s.rd_wr_other WARD_APPLY_GO WARD_JCI_INDEX 0 (.inl (by decide))]
  have open_ (h : ¬ frozen) : ¬ u.on WARD_STAT_FROZEN = true := hfrozen ▸ h
  refine ⟨State.wardApply_idle, fun h => State.applyRefused_frozen (hfrozen.trans h),
    fun h hj => State.applyRefused_journal (open_ h) (hfree ▸ hj), fun h hj a i b hc ha => ⟨fun hu => ?unsafeWord, fun hu hb => ?badWord⟩,
    fun h hj hb hu => ?used, fun h hj hb hu => ?free, fun hg => ⟨State.wardApply_done hg, fun rea => State.wardApply_refusal hg, fun hr => ?applied⟩⟩
  case applied =>
    exact ⟨fun _ => State.cfgWord_wardApply hg hr, State.rd_wardApply_reason hg hr, State.rd_wardApply_result hg hr, State.rd_wardApply_jpi hg hr,
      State.rd_wardApply_crc hg hr, State.signed_wardApply hg hr⟩
  case unsafeWord => exact (State.applyRefused_first (open_ h) (hfree ▸ hj) hc ha (.inl hu)).trans (by rw [hu]; rfl)
  case badWord => exact (State.applyRefused_first (open_ h) (hfree ▸ hj) hc ha (.inr hb)).trans (by rw [hu]; rfl)
  case used => exact (State.applyRefused_use (open_ h) (hfree ▸ hj) hb).trans (if_pos (by simpa using hu))
  case free => exact (State.applyRefused_use (open_ h) (hfree ▸ hj) hb).trans (if_neg (by simpa using hu))

end Sys2Proof.Machine
end

section
/-! PROOFS. The UART (R417 to R419). -/
namespace Sys2Proof.Machine

theorem exec_uartWrite (p : Port) (v : Word) (s : State) : exec (.uartWrite p v) s = .next (s.hostReg p row_SYS_UARTDATA 0 v.toNat) := rfl

section
variable {s : State} (h : s.board.held = false)
include h

theorem exec_uartByteSent : exec .uartByteSent s = .next s.uartSent := congrArg Host.Outcome.next (State.live_on h _)

theorem exec_uartRxByte (b : Byte) : exec (.uartRxByte b) s = .next (s.uartByte b.toNat) := congrArg Host.Outcome.next (State.live_on h _)

theorem exec_uartRead (p : Port) : exec (.uartRead p) s = .next (s.hostGet p 0x0A000034) := congrArg Host.Outcome.next (State.live_on h _)

end

/-! ## Bytes queued and sent (R417) -/

theorem sysHook_uartData (s : State) (w : Who) (v : Nat) (t : State) : sysHook s w row_SYS_UARTDATA 0 v t = some (s.uartWrite v) := by
  simp [sysHook, row_SYS_UARTDATA]

theorem State.hostReg_uartData {s : State} {p : Port} {v : Nat} (h : s.writeOpen p row_SYS_UARTDATA 0 v) :
    s.hostReg p row_SYS_UARTDATA 0 v = s.written p row_SYS_UARTDATA 0 v (s.uartWrite v) := by
  rw [State.hostReg_rule h (by decide) (regHooks_sys (by decide)), sysHook_uartData, Option.elim_some]

section
variable {s : State}

theorem State.uartWrite_full (h : 64 ≤ (s.board.uart.filter fun e => !e.1).length) (x : Nat) : s.uartWrite x = s.wr SYS_UARTSTAT_TXOVF 1 := if_pos h

theorem State.uartWrite_room (h : (s.board.uart.filter fun e => !e.1).length < 64) (x : Nat) : s.uartWrite x = s.uartQueue false [x % 256] :=
  if_neg (Nat.not_le.2 h)

/-! ## Bytes received and read -/

theorem State.uartByte_full (h : 64 ≤ s.board.uartRx.length) (x : Nat) : s.uartByte x = s.wr SYS_UARTSTAT_RXOVF 1 := if_pos h

theorem State.uartByte_room (h : s.board.uartRx.length < 64) (b : Byte) : s.uartByte b.toNat =
    (s.modBoard fun x => { x with uartRx := s.board.uartRx ++ [b.toNat] }).wr SYS_UARTSTAT_RXCOUNT (s.board.uartRx.length + 1) := by
  have hb : b.toNat % 256 = b.toNat := Nat.mod_eq_of_lt b.isLt
  unfold State.uartByte
  rw [if_neg (Nat.not_le.2 h), hb]
  dsimp only
  rw [List.length_append, List.length_singleton]

theorem findRow_uartData : findRow 0x0A000034 = some (row_SYS_UARTDATA, 0) := rfl

/-- Reads of the SYS block pass before the end of boot too (R405). -/
theorem State.passChecks_sys {w : Who} (hi : s.integ.inj = none) (hm : s.mayReach w 0 false = true) :
    s.passChecks w 0x0A000034 4 0 false = (s, true) := by
  have hb : blockOf 0x0A000034 = 0 := rfl
  simp [State.passChecks, issuable_word, State.hops_clean hi, hb, hm]

theorem State.busRead_uartData {w : Who} (hi : s.integ.inj = none) (hm : s.mayReach w 0 false = true) :
    s.busRead w 0x0A000034 4 0 = (s.uartRead.1, some (leBytes s.uartRead.2 4)) := by
  have hr : s.readReg 0x0A000034 = s.uartRead := by
    unfold State.readReg
    rw [if_neg (by decide), findRow_uartData]
    rfl
  have ht : s.target 0x0A000034 = .regs := s.target_regs (by decide) (by decide)
  simp [State.busRead, State.passChecks_sys hi hm, ht, hr]

theorem wordList_leBytes {x : Nat} (h : x < 2 ^ 32) : wordList (leBytes x 4) = [BitVec.ofNat 32 x] := by
  have hx := leNat_leBytes x 4
  rw [Nat.mod_eq_of_lt (show x < 256 ^ 4 from h)] at hx
  exact congrArg (fun y => [BitVec.ofNat 32 y]) hx

theorem State.hostGet_uartData {p : Port} (hi : s.integ.inj = none) (hm : s.mayReach (s.whoOf p) 0 false = true) (hx : s.uartRead.2 < 2 ^ 32) :
    s.hostGet p 0x0A000034 = s.uartRead.1.answer (.ok [BitVec.ofNat 32 s.uartRead.2]) := by
  unfold State.hostGet
  rw [State.busRead_uartData hi hm]
  dsimp only
  rw [wordList_leBytes hx]

theorem State.uartRead_none (h : s.board.uartRx = []) : s.uartRead = (s, 0) := by
  unfold State.uartRead
  rw [h]

theorem State.uartRead_some {x : Nat} {l : List Nat} (h : s.board.uartRx = x :: l) :
    s.uartRead = ((s.modBoard fun q => { q with uartRx := l }).wr SYS_UARTSTAT_RXCOUNT l.length, x + 256) := by
  unfold State.uartRead
  rw [h]

end

/-- Settles O60: a write and a received byte by the room they find, a read by what waits. -/
theorem uartBytes : Obligations.UartBytes := by
  unfold Obligations.UartBytes
  intro p v b s mine queue
  refine ⟨fun h hm => ?queued, fun h hm => ?overflow, fun hh => ⟨?sent, fun hr => ?received, fun hr => ?lost, fun hm hi => ⟨fun he => ?nothing, fun x l he hx => ?oldest⟩⟩⟩
  case queued => rw [exec_uartWrite, State.hostReg_uartData h, State.uartWrite_room hm]; rfl
  case overflow => rw [exec_uartWrite, State.hostReg_uartData h, State.uartWrite_full hm]
  case sent =>
    rw [exec_uartByteSent hh]
    unfold State.uartSent State.uartQueue
    rw [List.map_nil, List.append_nil]
    rfl
  case received => rw [exec_uartRxByte hh, State.uartByte_room hr]
  case lost => rw [exec_uartRxByte hh, State.uartByte_full hr]
  case nothing =>
    have hu := State.uartRead_none he
    rw [exec_uartRead hh, State.hostGet_uartData hi hm (by rw [hu]; exact Nat.two_pow_pos 32), hu]
    rfl
  case oldest =>
    have hu := State.uartRead_some he
    rw [exec_uartRead hh, State.hostGet_uartData hi hm (by rw [hu]; exact (by omega : x + 256 < 2 ^ 32)), hu]

end Sys2Proof.Machine
end

section
/-! PROOFS. A step of a queue that is not empty, and the whole-device resets (R399). -/
namespace Sys2Proof.Machine

/-- The meaning of every row is a function of the state: whatever the operands, its command completes. -/
theorem exec_completes (c : Instr) (s : State) : ∃ t, exec c s = .next t := by
  cases c <;> exact ⟨_, rfl⟩

theorem step_front (c : Instr) (rest : List Instr) (s : State) : step { s with pending := c :: rest } = exec c { s with pending := rest } := rfl

/-- Settles O1: the front of the queue is what a step runs, and each command of the table answers a next state. -/
theorem stepRunsFront : Obligations.StepRunsFront := by
  unfold Obligations.StepRunsFront
  exact fun c rest s => ⟨step_front c rest s, exec_completes c s⟩

/-! ## Whole-device resets (R399) -/

/-- What stands before the fields that a whole-device reset writes: the reset state, with what lies outside the device. -/
def State.resetRest (s : State) : State :=
  { State.reset with pending := s.pending, hostMem := s.hostMem, fresh := s.fresh, bell := { State.reset.bell with pins := s.bell.pins } }

/-- The fields that a whole-device reset keeps: the identifier of the die, and the straps. -/
def State.keptFields (s : State) : List (Fld × Nat) :=
  [SYS_UIDL_UID, SYS_UIDH_UID, SYS_STRAP_BOOT, SYS_STRAP_WARDSEL, SYS_STRAP_SDOZ].map fun f => (f, s.rd f)

/-- RSTCAUSE after a reset: the causes gathered since the last release. -/
def State.causes (s : State) (cause : Nat) : Nat := setBit (if s.board.held then s.rd SYS_RSTCAUSE_CAUSE else 0) cause true

section
variable (s : State) (cause : Nat)

theorem State.wholeReset_eq :
    s.wholeReset cause = s.keptFields.foldl (fun t q => t.wr q.1 q.2) (s.resetRest.wr SYS_RSTCAUSE_CAUSE (s.causes cause)) := rfl

/-- A reset writes register fields over the reset state. -/
theorem State.wholeReset_rest {β : Type} (g : State → β) (hg : ∀ (s : State) (f : Fld) (v : Nat), g (s.wr f v) = g s) :
    g (s.wholeReset cause) = g s.resetRest := by
  rw [State.wholeReset_eq]
  exact (foldl_keeps g (fun t q => hg t q.1 q.2) s.keptFields _).trans (hg ..)

/-- A field that is not kept reads as RSTCAUSE's write over the reset state leaves it. -/
theorem State.rd_wholeReset {f : Fld} (h : f.no ∉ [SYS_UIDL_UID.no, SYS_UIDH_UID.no, SYS_STRAP_BOOT.no, SYS_STRAP_WARDSEL.no, SYS_STRAP_SDOZ.no]) :
    (s.wholeReset cause).rd f = (s.resetRest.wr SYS_RSTCAUSE_CAUSE (s.causes cause)).rd f := by
  have hq : ∀ q ∈ s.keptFields, f.no ≠ q.1.no := fun q hm e => h (e ▸ List.mem_map_of_mem (f := fun q : Fld × Nat => q.1.no) hm)
  rw [State.wholeReset_eq]
  exact List.foldlRecOn (motive := fun t : State => t.rd f = _) s.keptFields _ rfl fun t ht q hm => (t.rd_wr_other _ _ _ (.inl (hq q hm))).trans ht

theorem State.rd_wholeReset_reset {f : Fld} (h : f.no ∉ [SYS_RSTCAUSE_CAUSE.no, SYS_UIDL_UID.no, SYS_UIDH_UID.no, SYS_STRAP_BOOT.no,
    SYS_STRAP_WARDSEL.no, SYS_STRAP_SDOZ.no]) : (s.wholeReset cause).rd f = f.reset := by
  obtain ⟨hc, hk⟩ := not_or.1 (List.mem_cons.not.1 h)
  rw [s.rd_wholeReset cause hk, State.rd_wr_other _ _ _ _ (.inl hc)]
  rfl

theorem State.rd_wholeReset_cause : (s.wholeReset cause).rd SYS_RSTCAUSE_CAUSE = s.causes cause % 2 ^ SYS_RSTCAUSE_CAUSE.w := by
  rw [s.rd_wholeReset cause (by decide), State.rd_wr_same]

end

/-- Settles O3: each reset writes six fields over the reset state, which keeps the queue, host memory and the pins. -/
theorem wholeDeviceResets : Obligations.WholeDeviceResets := by
  unfold Obligations.WholeDeviceResets
  intro s c b hc
  have he : exec c s = .next (s.wholeReset b) := by
    obtain ⟨rfl, rfl⟩ | ⟨rfl, rfl⟩ := hc <;> rfl
  refine ⟨_, he, fun f hf => s.rd_wholeReset_reset b hf, s.rd_wholeReset_cause b, ?_⟩
  refine ⟨s.wholeReset_rest b State.staged State.wr_staged, s.wholeReset_rest b State.mem State.wr_mem, s.wholeReset_rest b State.poison State.wr_poison,
    s.wholeReset_rest b State.cores State.wr_cores, s.wholeReset_rest b State.ctxs State.wr_ctxs, s.wholeReset_rest b State.amps State.wr_amps,
    s.wholeReset_rest b State.epoch State.wr_epoch, s.wholeReset_rest b (·.board.held) fun _ _ _ => rfl, s.wholeReset_rest b State.bc State.wr_bc,
    s.wholeReset_rest b State.n State.wr_n, s.wholeReset_rest b State.pending State.wr_pending, s.wholeReset_rest b State.hostMem State.wr_hostMem,
    s.wholeReset_rest b (·.bell.pins) fun _ _ _ => rfl⟩

end Sys2Proof.Machine
end

section
/-! PROOFS. Writes of registers of BELL (R331, R333, R334), and the commands of players and DAC channels (R318, R319, R322, R331 to R333). -/
namespace Sys2Proof.Machine

/-! ## Writes of registers of BELL -/

theorem exec_playGo (p : Port) (d : Fin 8) (v : Word) (s : State) :
    exec (.playGo p d v) s = .next (s.hostReg p row_BELL_PLAY d.val (withBits v 16 1 1)) := rfl

theorem exec_playStop (p : Port) (d : Fin 8) (v : Word) (s : State) :
    exec (.playStop p d v) s = .next (s.hostReg p row_BELL_PLAY d.val (withBits v 17 1 1)) := rfl

theorem exec_spcmdGo (p : Port) (d : Fin 8) (s : State) :
    exec (.spcmdGo p d) s = .next (s.hostReg p row_BELL_SPCMD 0 (d.val + 2147483648)) := rfl

theorem exec_bellPowerWrite (p : Port) (v : Word) (s : State) : exec (.bellPowerWrite p v) s = .next (s.hostReg p row_BELL_PWR 0 v.toNat) := rfl

theorem regHooks_bell {r : RegRow} (h : blockOf r.addr = 0x12) (s : State) (w : Who) (i v : Nat) (t : State) :
    regHooks s w r i v t = bellHook.full s w r i v t := by simp only [regHooks, h]

/-- BELL takes writes: the safety image is applied, or makes the write itself (R394). -/
abbrev State.bellTakes (s : State) (p : Port) : Prop := s.on OVR_STAT_IMGDONE = true ∨ p = .image

/-- A write that BELL takes, `u` being what the register's own rule gives. -/
theorem State.hostReg_bell {s u : State} {p : Port} {r : RegRow} {i v : Nat} (h : s.writeOpen p r i v) (hb : blockOf r.addr = 0x12)
    (hu : bellHook s (s.whoOf p) r i v (s.wrRow r i v) = some u) : s.hostReg p r i v = s.written p r i v u := by
  rw [State.hostReg_rule h (fun e => absurd (e ▸ hb) (by decide)) (regHooks_bell hb), hu, Option.elim_some]

theorem State.wrRow_spcmdGo (s : State) (d : Fin 8) :
    s.wrRow row_BELL_SPCMD 0 (d.val + 2147483648) = (s.wr BELL_SPCMD_CH (bits (d.val + 2147483648) 0 3)).wr BELL_SPCMD_GO 1 := by
  have hg : bits (d.val + 2147483648) 31 1 = 1 := by rw [bits]; omega
  simp [State.wrRow, row_BELL_SPCMD, State.wrField, show BELL_SPCMD_CH.w = 3 from rfl, show BELL_SPCMD_GO.w = 1 from rfl, hg]

section
variable {s : State} {p : Port} (hd : s.bellTakes p)
include hd

theorem State.bellTakes_code : ¬ ((s.whoOf p).code ≠ 2 && !s.on OVR_STAT_IMGDONE) = true := by
  obtain h | rfl := hd
  · simp [h]
  · simp [State.whoOf]

theorem bellHook_play (i v : Nat) (t : State) : bellHook s (s.whoOf p) row_BELL_PLAY i v t = some (t.modDac i fun x =>
    { x with go := if bit v 16 then some (bits v 0 8) else if bit v 17 then none else x.go, stop := bit v 17 || (x.stop && !bit v 16) }) := by
  unfold bellHook
  exact if_neg (State.bellTakes_code hd)

theorem bellHook_spcmd (i v : Nat) (t : State) :
    bellHook s (s.whoOf p) row_BELL_SPCMD i v t = some (if s.on BELL_SPCMD_GO then t.wr BELL_SPCMD_GO 1 else t) := by
  unfold bellHook
  exact if_neg (State.bellTakes_code hd)

theorem bellHook_pwr (i v : Nat) (t : State) : bellHook s (s.whoOf p) row_BELL_PWR i v t = some t.bellPower := by
  unfold bellHook
  exact if_neg (State.bellTakes_code hd)

/-! ## PLAY (R334) -/

/-- GO takes the place of an earlier GO, and undoes an earlier STOP unless STOP is written with it. -/
theorem State.hostReg_playGo {d : Nat} {v : Word} (h : s.writeOpen p row_BELL_PLAY d (withBits v 16 1 1)) :
    s.hostReg p row_BELL_PLAY d (withBits v 16 1 1) = s.written p row_BELL_PLAY d (withBits v 16 1 1)
      ((s.wrRow row_BELL_PLAY d (withBits v 16 1 1)).modDac d fun q => { q with go := some (bits v.toNat 0 8), stop := bit v.toNat 17 }) := by
  have hg : bit (withBits v 16 1 1) 16 = true := bit_withBits_one v 16
  have hs : bit (withBits v 16 1 1) 17 = bit v.toNat 17 := congrArg (· == 1) (bits_withBits_above v 16 1 1 17 1 (by decide))
  have hw : bits (withBits v 16 1 1) 0 8 = bits v.toNat 0 8 := bits_withBits_below v 16 1 1 0 8 (by decide)
  rw [State.hostReg_bell h rfl (bellHook_play hd ..)]
  simp only [hg, hs, hw, if_true, Bool.not_true, Bool.and_false, Bool.or_false]

/-- STOP alone withdraws an earlier GO. -/
theorem State.hostReg_playStop {d : Nat} {v : Word} (h : s.writeOpen p row_BELL_PLAY d (withBits v 17 1 1)) :
    s.hostReg p row_BELL_PLAY d (withBits v 17 1 1) = s.written p row_BELL_PLAY d (withBits v 17 1 1)
      ((s.wrRow row_BELL_PLAY d (withBits v 17 1 1)).modDac d fun q =>
        { q with go := if bit v.toNat 16 then some (bits v.toNat 0 8) else none, stop := true }) := by
  have hg : bit (withBits v 17 1 1) 16 = bit v.toNat 16 := congrArg (· == 1) (bits_withBits_below v 17 1 1 16 1 (by decide))
  have hs : bit (withBits v 17 1 1) 17 = true := bit_withBits_one v 17
  have hw : bits (withBits v 17 1 1) 0 8 = bits v.toNat 0 8 := bits_withBits_below v 17 1 1 0 8 (by decide)
  rw [State.hostReg_bell h rfl (bellHook_play hd ..)]
  simp only [hg, hs, hw, if_true, Bool.true_or]

/-! ## SPCMD and PWR (R331, R333, R334) -/

/-- GO stays as the write sets it, whether or not an earlier one waits. -/
theorem State.hostReg_spcmdGo {d : Fin 8} (h : s.writeOpen p row_BELL_SPCMD 0 (d.val + 2147483648)) :
    s.hostReg p row_BELL_SPCMD 0 (d.val + 2147483648)
      = s.written p row_BELL_SPCMD 0 (d.val + 2147483648) (s.wrRow row_BELL_SPCMD 0 (d.val + 2147483648)) := by
  rw [State.hostReg_bell h rfl (bellHook_spcmd hd ..), s.wrRow_spcmdGo, State.wr_wr, ite_self]

theorem State.hostReg_bellPower {v : Nat} (h : s.writeOpen p row_BELL_PWR 0 v) :
    s.hostReg p row_BELL_PWR 0 v = s.written p row_BELL_PWR 0 v
      ((List.range 8).foldl State.dacPower ((s.wr BELL_PWR_REQ (bits v 0 1)).wr BELL_PWR_STATE (bits v 0 1))) := by
  have hr : s.wrRow row_BELL_PWR 0 v = s.wr BELL_PWR_REQ (bits v 0 1) := rfl
  rw [State.hostReg_bell h rfl (bellHook_pwr hd ..), hr, State.bellPower, State.rd_wr_same, show BELL_PWR_REQ.w = 1 from rfl, bits_mod]

end

/-! ## Players (R318, R319, R322) -/

section
variable {s : State} {k : Nat} {a : Act} {l : List Act} (h : (s.player k).acts = a :: l) (hs : a.stop = none)
include h hs

theorem State.playerEnd_alarm (hk : k < 16) (hp : s.rd (OVR_PSTAT_PHASE k) = 1) :
    s.playerEnd k = if a.main = none then s.fallback k a.mainNo 0 false else s.wr (OVR_PSTAT_PHASE k) 2 := by
  simp [State.playerEnd, h, hs, hk, hp]

theorem State.playerEnd_bell {w : Wave} (hk : 16 ≤ k) (hp : s.on (BELL_STAT_PLAYING (k - 16)) = true) (hm : a.main = some w) :
    s.playerEnd k = (let t := s.fire (832 + (k - 16)); if w.loop then t else t.wr (BELL_STAT_PLAYING (k - 16)) 0) := by
  simp [State.playerEnd, h, hs, Nat.not_lt.2 hk, hp, hm]

end

/-! ## DAC channels (R331 to R333) -/

section
variable {s : State} {d : Nat}

theorem State.dacRampEnd_up (hr : (s.dac d).range = none) (h : s.rd (BELL_STAT_STATE d) = 1) : s.dacRampEnd d = s.dacEnter d 2 := by
  simp [State.dacRampEnd, hr, h, daUp, daRun]

theorem State.dacRampEnd_down (hr : (s.dac d).range = none) (he : (s.dac d).en = false) (h : s.rd (BELL_STAT_STATE d) = 3) :
    s.dacRampEnd d = (s.dacEnter d 0).wr (BELL_STAT_RANGE d) (s.rd (BELL_CFG_RANGE d)) := by
  simp [State.dacRampEnd, hr, h, he, daUp, daDown, daDump]

/-- The stages of a range change: ramp down, switch, ramp up, run. -/
theorem State.dacRangeNext_stages {r : Nat} (hr : (s.dac d).range = some r) : s.dacRangeNext d =
    let st := s.rd (BELL_STAT_STATE d)
    if st = 3 then s.dacEnter d 4
    else if st = 4 then (s.wr (BELL_STAT_RANGE d) r).dacEnter d 1
    else if st = 1 then (s.modDac d fun x => { x with range := none }).dacEnter d 2
    else s := by
  unfold State.dacRangeNext
  rw [hr]
  rfl

/-- A measurement that no injection disturbs. -/
theorem State.dacMeasure_clean (he : (s.dac d).en = true) (hp : s.on BELL_PWR_STATE = true) (hi : s.integ.inj = none) (h0 : (s.dac d).inj = 0) (dev : Bool) :
    s.dacMeasure d dev = s.modDac d fun q =>
      if !dev then { q with devs := 0, inj := 0 }
      else if (s.dac d).devs + 1 < 16 then { q with devs := (s.dac d).devs + 1, inj := 0 }
      else { q with devs := 0, inj := 0, fail := some false } := by
  have hn : s.injOn 9 uDac d = false := by rw [State.injOn, hi]
  unfold State.dacMeasure State.modDac
  rw [if_neg (by simp [he, hp]), hn, Bool.and_false]
  cases dev with
  | false => simp [h0]
  | true =>
    by_cases hd : (s.dac d).devs + 1 < 16
    · simp [h0, hd, Nat.not_le.2 hd]
    · simp [h0, hd, Nat.not_lt.1 hd]

end

/-! ## The commands -/

section
variable {s : State} (h : s.board.held = false)
include h

theorem exec_loadStrobe (g : Fin 2) : exec (.loadStrobe g) s = .next (s.loadStrobe g.val) := congrArg Host.Outcome.next (State.live_on h _)

theorem exec_playerEnd (x : Fin 24) : exec (.playerEnd x) s = .next (s.playerEnd x.val) := congrArg Host.Outcome.next (State.live_on h _)

theorem exec_dacRampEnd (d : Fin 8) : exec (.dacRampEnd d) s = .next (s.dacRampEnd d.val) := congrArg Host.Outcome.next (State.live_on h _)

theorem exec_dacRangeSwitch (d : Fin 8) : exec (.dacRangeSwitch d) s = .next (s.dacRangeNext d.val) := congrArg Host.Outcome.next (State.live_on h _)

theorem exec_dacMonitorMeasurement (d : Fin 8) (dev : Bool) : exec (.dacMonitorMeasurement d dev) s = .next (s.dacMeasure d.val dev) :=
  congrArg Host.Outcome.next (State.live_on h _)

end

/-- Settles O57: writes of PLAY, SPCMD and PWR by their rules, and each event of a player or a channel from the state that it leaves. -/
theorem bellPlayersAndDacs : Obligations.BellPlayersAndDacs := by
  unfold Obligations.BellPlayersAndDacs
  intro p d g x dev v s done go stop dac
  refine ⟨fun h hd => ?go, fun h hd => ?stop, fun hh => ?strobe, fun a l hh hx ha hs hp => ?alarm, fun a l w hh hx ha hs hp hm => ?bell, fun hh hr hs => ?up,
    fun hh hr he hs => ?down, fun r hh hr => ?range, fun hh he hp hi h0 => ?monitor, fun h hd => ?spare, fun h hd => ?power⟩
  case go => rw [exec_playGo, State.hostReg_playGo hd h]
  case stop => rw [exec_playStop, State.hostReg_playStop hd h]
  case strobe =>
    rw [exec_loadStrobe hh]
    rfl
  case alarm => rw [exec_playerEnd hh, State.playerEnd_alarm ha hs hx hp]
  case bell => rw [exec_playerEnd hh, State.playerEnd_bell ha hs hx hp hm]
  case up => rw [exec_dacRampEnd hh, State.dacRampEnd_up hr hs]
  case down => rw [exec_dacRampEnd hh, State.dacRampEnd_down hr he hs]
  case range =>
    rw [exec_dacRangeSwitch hh, State.dacRangeNext_stages hr]
    refine ⟨fun hs => ?_, fun hs => ?_, fun hs => ?_⟩ <;> simp [hs]
  case monitor => rw [exec_dacMonitorMeasurement hh, State.dacMeasure_clean he hp hi h0]
  case spare => rw [exec_spcmdGo, State.hostReg_spcmdGo hd h]
  case power => rw [exec_bellPowerWrite, State.hostReg_bellPower hd h]

end Sys2Proof.Machine
end

section
/-! PROOFS. The sequences of an amplifier channel: tests (R308), start and stop (R306), the trip and its retries (R302, R303). -/
namespace Sys2Proof.Machine

/-! ## The commands -/

section
variable {s : State} (h : s.board.held = false)
include h

theorem exec_diagStepEnd (c : Fin 128) (mv ua : Nat) : exec (.diagStepEnd c mv ua) s = .next (s.testStep c.val mv ua) :=
  congrArg Host.Outcome.next (State.live_on h _)

theorem exec_startingDone (c : Fin 128) : exec (.startingDone c) s = .next (s.startingDone c.val) := congrArg Host.Outcome.next (State.live_on h _)

theorem exec_stoppingDone (c : Fin 128) : exec (.stoppingDone c) s = .next (s.stoppingDone c.val) := congrArg Host.Outcome.next (State.live_on h _)

theorem exec_trip (c : FastCurrent) : exec (.trip c) s = .next (s.tripIn c.chan.val c.bits) := congrArg Host.Outcome.next (State.live_on h _)

theorem exec_probeDue (c : Fin 128) : exec (.probeDue c) s = .next (s.probeDue c.val) := congrArg Host.Outcome.next (State.live_on h _)

theorem exec_probeEnd (c : Fin 128) (mv ua : Nat) : exec (.probeEnd c mv ua) s = .next (s.probeEnd c.val mv ua) :=
  congrArg Host.Outcome.next (State.live_on h _)

theorem exec_recoverDone (c : Fin 128) : exec (.recoverDone c) s = .next (s.recoverDone c.val) := congrArg Host.Outcome.next (State.live_on h _)

end

section
variable {s : State} {k : Nat}

/-! ## The test sequence (R308) -/

theorem State.testStep_first (h : (s.amp k).test = 1) (v i : Nat) :
    s.testStep k v i = if s.rd (AMP_SCALE_IFS k) * 500 < i then s.testEnd k 2 else s.modAmp k fun x => { x with test := 2 } := by
  unfold State.testStep
  rw [h]
  rfl

theorem State.testStep_second (h : (s.amp k).test = 2) (v i : Nat) :
    s.testStep k v i = if s.rd (AMP_SCALE_IFS k) * 500 < i then s.testEnd k 3 else s.modAmp k fun x => { x with test := 3 } := by
  unfold State.testStep
  rw [h]
  rfl

/-- The third step ends the sequence with one of three results. -/
theorem State.testStep_third (h : (s.amp k).test = 3) (v i : Nat) :
    s.testStep k v i = (let u := s.setZ k v i
      u.testEnd k (if i ≠ 0 ∧ v * 100000 < u.rd (AMP_DIAG_ZSHORT k) * i then 4
        else if i < s.rd (AMP_SCALE_IFS k) * 10 ∨ u.rd (AMP_DIAG_ZOPEN k) * i < v * 1000 then 5 else 1)) := by
  unfold State.testStep State.zShort
  rw [h]
  simp only [Bool.and_eq_true, Bool.or_eq_true, decide_eq_true_eq, apply_ite (State.testEnd _ k), teShortedLoad, teOpenLoad, tePass]

/-! ## The trip (R302, R303) -/

theorem onesAt_eq (w : BitVec 17) (i : Nat) : onesAt w i = ((List.range 16).filter fun j => w.getLsbD (i + j)).length := List.countP_eq_length_filter

/-- The trip's condition in the window that ends at each of two consecutive sense-clock periods. -/
theorem State.tripSeen_iff (s : State) (k : Nat) (cur : BitVec 17) : s.tripSeen k cur = true ↔
    ∀ i ∈ [0, 1], 16 * s.rd (GUARD_RATING_ITRIP k) ≤
      (2 * (((List.range 16).filter fun j => cur.getLsbD (i + j)).length : Int) - 16).natAbs * s.rd (AMP_SCALE_IFS k) := by
  simp only [State.tripSeen, State.overCurrent, onesAt_eq, Bool.and_eq_true, decide_eq_true_eq, List.forall_mem_cons, List.not_mem_nil, false_imp_iff,
    implies_true, and_true]
  exact and_comm

/-- A trip is noted. -/
def State.tripNoted (s : State) (k : Nat) : State := (s.wr (AMP_STAT_TRIPEV k) 1).incSat (AMP_STAT_TRIPS k) 1

theorem State.tripIn_quiet {cur : BitVec 17} (h : ¬ s.tripSeen k cur = true ∨ s.noScale k = true) : s.tripIn k cur = s := by
  unfold State.tripIn
  split
  · next ht => exact if_pos (h.resolve_left fun hn => hn ht)
  · rfl

section
variable {cur : BitVec 17} (ht : s.tripSeen k cur = true) (hs : s.noScale k = false)
include ht hs

/-- What a trip that is seen does, by the channel's state. -/
theorem State.tripIn_seen : s.tripIn k cur =
    if s.ampState k = 1 ∧ (s.amp k).test = 3 then (s.tripNoted k).testEnd k 4
    else if s.ampState k = 2 ∨ s.ampState k = 3 ∨ s.ampState k = 7 then
      (((s.tripNoted k).ampReturn k).modAmp k fun x => { x with abDue := true }).emit (mkRec 3 0 0x002A 0x0A k [])
    else if s.ampState k = 6 then (s.tripNoted k).ampReturn k
    else s := by
  unfold State.tripIn State.trip
  rw [if_pos ht, if_neg (by rw [hs]; decide)]
  simp only [Bool.and_eq_true, decide_eq_true_eq, beq_iff_eq]
  rfl

theorem State.tripIn_live (h : s.ampState k = 2 ∨ s.ampState k = 3 ∨ s.ampState k = 7) : s.tripIn k cur =
    (((s.tripNoted k).ampReturn k).modAmp k fun x => { x with abDue := true }).emit (mkRec 3 0 0x002A 0x0A k []) :=
  (State.tripIn_seen ht hs).trans ((if_neg (by omega)).trans (if_pos h))

theorem State.tripIn_probe (h : s.ampState k = 6) : s.tripIn k cur = (s.tripNoted k).ampReturn k :=
  (State.tripIn_seen ht hs).trans ((if_neg (by omega)).trans ((if_neg (by omega)).trans (if_pos h)))

theorem State.tripIn_test (h : s.ampState k = 1) (h3 : (s.amp k).test = 3) : s.tripIn k cur = (s.tripNoted k).testEnd k 4 :=
  (State.tripIn_seen ht hs).trans (if_pos ⟨h, h3⟩)

end

/-! ## Retries (R303) -/

theorem State.probeDue_starts (h : s.ampState k = 5) (hp : (s.recentProbes k).length < 3 ∨ s.on (AMP_STAT_ALARM k) = true) :
    s.probeDue k = (s.modAmp k fun x => { x with probes := s.bc :: s.recentProbes k }).ampEnter k 6 := by
  refine (if_neg (not_not.2 h)).trans ?_
  exact if_neg (by rcases hp with hp | hp <;> simp [hp])

theorem State.probeDue_latches (h : s.ampState k = 5) (hp : 3 ≤ (s.recentProbes k).length) (ha : s.on (AMP_STAT_ALARM k) = false) :
    s.probeDue k = ((s.wr (AMP_STAT_LATCHEV k) 1).ampEnter k 8).emit (mkRec 3 0 0x002B 0x0A k []) := by
  refine (if_neg (not_not.2 h)).trans ?_
  exact if_pos (by simp [hp, ha])

theorem State.probeEnd_probing (h : s.ampState k = 6) (v i : Nat) : s.probeEnd k v i = (let u := s.setZ k v i
    if i ≠ 0 ∧ v * 100000 < u.rd (AMP_DIAG_ZSHORT k) * i then u.ampReturn k else u.ampEnter k 7) := by
  refine (if_neg (not_not.2 h)).trans ?_
  simp only [State.zShort, Bool.and_eq_true, decide_eq_true_eq]
  rfl

end

/-- Settles O54: each step of the test, the trip by the channel's state, and each end of a ramp or a probe. -/
theorem ampSequences : Obligations.AmpSequences := by
  unfold Obligations.AmpSequences
  intro c mv ua cur s hh k fast tripped seen
  refine ⟨fun st res hr ht => ?step, fun ht => ?third, fun hs => ?starting, fun hs => ?stopping, s.tripSeen_iff k cur, fun hq => ?quiet, fun hf hn hs => ?live,
    fun hf hn hs => ?probing, fun hf hn hs ht => ?testing, fun hs hp => ?due, fun hs hp ha => ?latched, fun hs => ?probe, fun hs => ?recovered⟩
  case step =>
    rw [exec_diagStepEnd hh]
    obtain ⟨rfl, rfl⟩ | ⟨rfl, rfl⟩ := hr
    · rw [State.testStep_first ht]
    · rw [State.testStep_second ht]
  case third => rw [exec_diagStepEnd hh, State.testStep_third ht]
  case starting => rw [exec_startingDone hh]; exact congrArg _ (if_neg (not_not.2 hs))
  case stopping => rw [exec_stoppingDone hh]; exact congrArg _ (if_neg (not_not.2 hs))
  case quiet => rw [exec_trip hh, State.tripIn_quiet hq]
  case live => rw [exec_trip hh, State.tripIn_live hf hn hs]; rfl
  case probing => rw [exec_trip hh, State.tripIn_probe hf hn hs]; rfl
  case testing => rw [exec_trip hh, State.tripIn_test hf hn hs ht]; rfl
  case due => rw [exec_probeDue hh, State.probeDue_starts hs hp]
  case latched => rw [exec_probeDue hh, State.probeDue_latches hs hp ha]
  case probe => rw [exec_probeEnd hh, State.probeEnd_probing hs]
  case recovered => rw [exec_recoverDone hh]; exact congrArg _ (if_neg (not_not.2 hs))

end Sys2Proof.Machine
end

section
/-! PROOFS. Protection of a loudspeaker (R298, R299, R315), supervision of its line (R309 to R311), and the retried wake command (R326). -/
namespace Sys2Proof.Machine

@[simp] theorem State.amp_modAmp_same (s : State) (k : Nat) (f : AmpSt → AmpSt) : (s.modAmp k f).amp k = f (s.amp k) := tget_tput_same ..

/-! ## The commands -/

theorem exec_pvalidWrite (p : Port) (c : Fin 128) (v : Word) (s : State) :
    exec (.pvalidWrite p c v) s = .next (s.hostReg p row_GUARD_PCTL c.val v.toNat) := rfl

theorem exec_zbaseCapture (p : Port) (c : Fin 128) (v : Word) (s : State) :
    exec (.zbaseCapture p c v) s = .next (s.hostReg p row_LINE_ZBASE c.val (withBits v 31 1 1)) := rfl

section
variable {s : State} (h : s.board.held = false)
include h

theorem exec_coefficientCompute (c : Fin 128) : exec (.coefficientCompute c) s = .next (s.computeCoef c.val) :=
  congrArg Host.Outcome.next (State.live_on h _)

theorem exec_lineMeasurement (c : Fin 128) (z : Option Nat) : exec (.lineMeasurement c z) s = .next (s.lineMeasure c.val z) :=
  congrArg Host.Outcome.next (State.live_on h _)

theorem exec_wakeRetry (c : Fin 128) : exec (.wakeRetry c) s = .next (s.wakeRetry c.val) := congrArg Host.Outcome.next (State.live_on h _)

end

/-! ## PVALID (R298, R315) -/

theorem regHooks_guard {r : RegRow} (h : blockOf r.addr = 0x10) (s : State) (w : Who) (i v : Nat) (t : State) :
    regHooks s w r i v t = guardHook.full s w r i v t := by simp only [regHooks, h]

theorem guardHook_pctl (s : State) (w : Who) (i v : Nat) (t : State) : guardHook s w row_GUARD_PCTL i v t =
    if bit v 0 then
      if !s.guardReady i then none
      else if s.on (GUARD_PCTL_PVALID i) then some t else some (t.protect i 2 true)
    else some (if s.on (GUARD_PCTL_PVALID i) then t.unprotect i else t) := rfl

section
variable {s : State} {p : Port} {k v : Nat} (h : s.writeOpen p row_GUARD_PCTL k v)
include h

theorem State.hostReg_pctl : s.hostReg p row_GUARD_PCTL k v =
    (guardHook s (s.whoOf p) row_GUARD_PCTL k v (s.wrRow row_GUARD_PCTL k v)).elim (State.turnedAway p s) (s.written p row_GUARD_PCTL k v) :=
  State.hostReg_rule h (by simp [row_GUARD_PCTL]) (regHooks_guard rfl)

theorem State.hostReg_pctl_clear (hb : bit v 0 = false) : s.hostReg p row_GUARD_PCTL k v = s.written p row_GUARD_PCTL k v
    (if s.on (GUARD_PCTL_PVALID k) then (s.wrRow row_GUARD_PCTL k v).unprotect k else s.wrRow row_GUARD_PCTL k v) := by
  rw [State.hostReg_pctl h, guardHook_pctl, if_neg (by rw [hb]; decide), Option.elim_some]

theorem State.hostReg_pctl_unready (hb : bit v 0 = true) (hr : s.guardReady k = false) :
    s.hostReg p row_GUARD_PCTL k v = State.turnedAway p s := by
  rw [State.hostReg_pctl h, guardHook_pctl, if_pos hb, if_pos (by rw [hr]; rfl), Option.elim_none]

theorem State.hostReg_pctl_set (hb : bit v 0 = true) (hr : s.guardReady k = true) : s.hostReg p row_GUARD_PCTL k v = s.written p row_GUARD_PCTL k v
    (if s.on (GUARD_PCTL_PVALID k) then s.wrRow row_GUARD_PCTL k v else (s.wrRow row_GUARD_PCTL k v).protect k 2 true) := by
  rw [State.hostReg_pctl h, guardHook_pctl, if_pos hb, if_neg (by rw [hr]; decide)]
  cases s.on (GUARD_PCTL_PVALID k) <;> rfl

end

/-- The coefficients of R299, where protection is on and its parameters are there. -/
theorem State.computeCoef_valid {s : State} {k : Nat} (hv : s.on (GUARD_PCTL_PVALID k) = true) (hm : s.rd (GUARD_BL_MMS k) ≠ 0)
    (hk : s.rd (GUARD_KMS_KMS k) ≠ 0) :
    s.computeCoef k = s.modAmp k fun x => { x with chain := { x.chain with coef := some (s.coefficients k) } } :=
  if_pos (by simp [hv, hm, hk])

/-! ## The capture of the baseline (R311) -/

theorem regHooks_line {r : RegRow} (h : blockOf r.addr = 0x11) (s : State) (w : Who) (i v : Nat) (t : State) :
    regHooks s w r i v t = lineHook.full s w r i v t := by simp only [regHooks, h]

/-- The consecutive counts of line measurements start anew. -/
def State.lineFresh (s : State) (k : Nat) : State := s.modAmp k fun x => { x with kind := 0, count := 0, nosig := 0 }

theorem lineHook_zbase_cap {v : Nat} (hv : bit v 31 = true) (s : State) (w : Who) (i : Nat) (t : State) : lineHook s w row_LINE_ZBASE i v t =
    some (((t.lineFresh i).wr (LINE_LSTAT_CAPBUSY i) 1).modAmp i fun x => { x with capture := some (s.bc, []) }) := by
  simp [lineHook, row_LINE_ZBASE, hv, State.lineFresh]

theorem State.hostReg_zbaseCapture {s : State} {p : Port} {k : Nat} {v : Word} (h : s.writeOpen p row_LINE_ZBASE k (withBits v 31 1 1)) :
    s.hostReg p row_LINE_ZBASE k (withBits v 31 1 1) = s.written p row_LINE_ZBASE k (withBits v 31 1 1)
      ((((s.wrRow row_LINE_ZBASE k (withBits v 31 1 1)).lineFresh k).wr (LINE_LSTAT_CAPBUSY k) 1).modAmp k fun x => { x with capture := some (s.bc, []) }) := by
  rw [State.hostReg_rule h (by simp [row_LINE_ZBASE]) (regHooks_line rfl), lineHook_zbase_cap (bit_withBits_one v 31), Option.elim_some]

section
variable {s : State} {k : Nat}

theorem State.captureEnd_expired {t : Nat} {l : List Nat} (h : (s.amp k).capture = some (t, l)) (ht : t + 1000000000 ≤ s.bc) :
    s.captureEnd k = (s.wr (LINE_LSTAT_CAPBUSY k) 0).modAmp k fun x => { x with capture := none } := by
  unfold State.captureEnd
  rw [h]
  exact if_pos ht

theorem State.captureEnd_running (h : ¬ ∃ t l, (s.amp k).capture = some (t, l) ∧ t + 1000000000 ≤ s.bc) : s.captureEnd k = s := by
  unfold State.captureEnd
  split
  · next t l hc => exact if_neg fun ht => h ⟨t, l, hc, ht⟩
  · rfl

/-! ## Measurements (R310, R311) -/

theorem State.lineMeasure_silent (h : (s.captureEnd k).pilotOn k = false) (z : Option Nat) : s.lineMeasure k z = s.captureEnd k := if_pos (by rw [h]; rfl)

/-- The kinds of a measurement with a signal. -/
theorem State.lineKind_pos (s : State) (k m : Nat) : s.lineKind k m = 1 ∨ s.lineKind k m = 2 ∨ s.lineKind k m = 3 := by
  unfold State.lineKind
  dsimp only
  split
  · exact .inl rfl
  · split
    · exact .inr (.inl rfl)
    · exact .inr (.inr rfl)

/-- The measurement as shown in ZMEAS. -/
def State.lineShown (s : State) (k : Nat) (z : Option Nat) : State := (s.captureEnd k).wr (LINE_ZMEAS_Z k) (z.getD 0)

/-- The tenth valid value gives ZBASE: their mean, or the number above where it is no whole number (log entry 24). -/
def State.baseline (s : State) (k sum : Nat) : State :=
  if sum % 10 = 0 then s.wr (LINE_ZBASE_ZBASE k) (sum / 10) else (s.wr (LINE_ZBASE_ZBASE k) (sum / 10 + s.free 1)).used

section
variable (h : (s.captureEnd k).pilotOn k = true) {z : Option Nat}
include h

section
variable {t : Nat} {l : List Nat} (hc : ((s.captureEnd k).amp k).capture = some (t, l))
include hc

theorem State.lineMeasure_captures : s.lineMeasure k z =
    if (l ++ z.toList).length = 10 then (((s.lineShown k z).baseline k (l ++ z.toList).sum).wr (LINE_LSTAT_CAPBUSY k) 0).modAmp k
      fun x => { x with capture := none, kind := 0, count := 0, nosig := 0 }
    else (s.lineShown k z).modAmp k fun x => { x with capture := some (t, l ++ z.toList) } := by
  have hs : ((s.lineShown k z).amp k).capture = some (t, l) := hc
  unfold State.lineMeasure
  rw [if_neg (by rw [h]; decide)]
  change (match ((s.lineShown k z).amp k).capture with | some (t, l) => _ | none => _) = _
  rw [hs]
  simp only [← List.sum_eq_foldl_nat]
  rfl

end

variable (hc : ((s.captureEnd k).amp k).capture = none)
include hc

/-- Without a capture a measurement feeds the consecutive counts, `kd` being its kind, 0 for NOSIG. -/
theorem State.lineMeasure_counts {kd : Nat} (hk : (match z with | some m => (s.lineShown k z).lineKind k m | none => 0) = kd) : s.lineMeasure k z =
    (let u := (s.lineShown k z).modAmp k fun x =>
      { x with kind := kd, count := if kd = 0 then 0 else if x.kind = kd then min 3 (x.count + 1) else 1
               nosig := if kd = 0 then min 3 (x.nosig + 1) else 0 }
     if 3 ≤ (u.amp k).nosig then u.lineEnter k 4 0
     else if (u.amp k).count < 3 then u
     else if (u.amp k).kind = 1 then u.lineEnter k 3 (z.getD 0)
     else if (u.amp k).kind = 2 then u.lineEnter k 4 (z.getD 0)
     else u.lineEnter k 2 0) := by
  have hs : ((s.lineShown k z).amp k).capture = none := hc
  subst hk
  unfold State.lineMeasure
  rw [if_neg (by rw [h]; decide)]
  show (match ((s.lineShown k z).amp k).capture with | some (t, l) => _ | none => _) = _
  rw [hs]
  rfl

theorem State.lineMeasure_nosig (hz : z = none) : s.lineMeasure k z =
    (let u := (s.lineShown k z).modAmp k fun x => { x with kind := 0, count := 0, nosig := min 3 (x.nosig + 1) }
     if ((s.captureEnd k).amp k).nosig + 1 < 3 then u else u.lineEnter k 4 0) := by
  have hn : ((s.lineShown k z).amp k).nosig = ((s.captureEnd k).amp k).nosig := rfl
  rw [State.lineMeasure_counts h hc (kd := 0) (by rw [hz])]
  simp only [State.amp_modAmp_same, if_true, hn]
  by_cases h3 : ((s.captureEnd k).amp k).nosig + 1 < 3
  · rw [if_neg (by omega), if_pos (by omega), if_pos h3]
  · rw [if_pos (by omega), if_neg h3]

theorem State.lineMeasure_valid {m : Nat} (hz : z = some m) : s.lineMeasure k z =
    (let kd := (s.lineShown k z).lineKind k m
     let n := if ((s.captureEnd k).amp k).kind = kd then min 3 (((s.captureEnd k).amp k).count + 1) else 1
     let u := (s.lineShown k z).modAmp k fun x => { x with kind := kd, count := if x.kind = kd then min 3 (x.count + 1) else 1, nosig := 0 }
     if n < 3 then u else if kd = 1 then u.lineEnter k 3 m else if kd = 2 then u.lineEnter k 4 m else u.lineEnter k 2 0) := by
  subst hz
  have h0 : (s.lineShown k (some m)).lineKind k m ≠ 0 := by
    have := (s.lineShown k (some m)).lineKind_pos k m
    omega
  rw [State.lineMeasure_counts h hc rfl]
  simp only [State.amp_modAmp_same, h0, if_false, Option.getD_some]
  rfl

end

/-! ## The retried wake command (R326) -/

theorem State.wakeRetry_off (hp : (tget none s.bell.planOf k).isSome = true) (hs : s.ampState k = 0 ∨ s.ampState k = 1)
    (hw : bit (s.rd (OVR_WAKE_SET (k / 32))) (k % 32) = true) : s.wakeRetry k = s.ampQueue k 2 true :=
  if_pos (by rcases hs with hs | hs <;> simp [hp, hs, hw, amOff, amDiag])

end

/-- The value that a tenth valid measurement leaves in ZBASE. -/
theorem State.rd_baseline (s : State) (k sum : Nat) : ∃ r, (r = sum / 10 ∨ r = sum / 10 + 1) ∧ (s.baseline k sum).rd (LINE_ZBASE_ZBASE k) = r % 2 ^ 31 := by
  unfold State.baseline
  split
  · exact ⟨_, .inl rfl, s.rd_wr_same (LINE_ZBASE_ZBASE k) _⟩
  · refine ⟨sum / 10 + s.free 1, ?_, s.rd_wr_same (LINE_ZBASE_ZBASE k) _⟩
    have : s.free 1 < 2 := Nat.mod_lt _ (by decide)
    omega

/-- Settles O55: PVALID by the written bit and the parameters, a measurement by the capture and by its kind. -/
theorem ampProtectionAndLine : Obligations.AmpProtectionAndLine := by
  unfold Obligations.AmpProtectionAndLine
  intro p c v z s k cap needed valid base shown expired clear
  have ready : s.guardReady k = true ↔ ∀ f ∈ needed, s.rd f ≠ 0 := by
    rw [State.guardReady, List.all_eq_true]
    exact forall₂_congr fun f _ => bne_iff_ne
  refine ⟨fun h hb hn => ?set, fun h hb hn => ?unready, fun h hb => ?cleared, fun hh hv hm hk => ?computes, fun h => ?capture,
    fun ⟨t, l, hc, ht⟩ => State.captureEnd_expired hc ht, fun he => State.captureEnd_running he, fun hh hp => ?silent, fun t l hh hp hc hl => ?collects,
    fun t l hh hp hc hl hs => ?rounded, fun t l hh hp hc hl hs => ?whole, fun hh hp hc hz => ?nosig, fun m hh hp hc hz => ?valid, fun hh hp hs hw => ?wakes⟩
  case set =>
    rw [exec_pvalidWrite, State.hostReg_pctl_set h hb (ready.2 hn)]
    rfl
  case unready =>
    obtain ⟨f, hf, h0⟩ := hn
    rw [exec_pvalidWrite, State.hostReg_pctl_unready h hb (Bool.eq_false_iff.2 fun hr => ready.1 hr f hf h0)]
  case cleared => rw [exec_pvalidWrite, State.hostReg_pctl_clear h hb]
  case computes =>
    rw [exec_coefficientCompute hh]
    exact congrArg _ (State.computeCoef_valid hv hm hk)
  case capture =>
    rw [exec_zbaseCapture, State.hostReg_zbaseCapture h]
    rfl
  case silent => rw [exec_lineMeasurement hh, State.lineMeasure_silent hp]
  case collects => rw [exec_lineMeasurement hh, State.lineMeasure_captures hp hc, if_neg hl]; rfl
  case rounded =>
    refine ⟨_, (exec_lineMeasurement hh c z).trans (congrArg _ ((State.lineMeasure_captures hp hc).trans (if_pos hl))), ?_, ?_, ?_⟩
    · rw [State.amp_modAmp_same]
    · exact State.on_wr_same _ (LINE_LSTAT_CAPBUSY k) 0
    · obtain ⟨r, hr, he⟩ := (s.lineShown k z).rd_baseline k (l ++ z.toList).sum
      exact ⟨r, hr, (State.rd_wr_other _ (LINE_LSTAT_CAPBUSY k) (LINE_ZBASE_ZBASE k) 0 (.inl (by simp [LINE_ZBASE_ZBASE, LINE_LSTAT_CAPBUSY]))).trans he⟩
  case whole => rw [exec_lineMeasurement hh, State.lineMeasure_captures hp hc, if_pos hl, State.baseline, if_pos hs]; rfl
  case nosig => rw [exec_lineMeasurement hh, State.lineMeasure_nosig hp hc hz]; rfl
  case valid => rw [exec_lineMeasurement hh, State.lineMeasure_valid hp hc hz]; rfl
  case wakes => rw [exec_wakeRetry hh, State.wakeRetry_off hp hs hw]; rfl

end Sys2Proof.Machine
end

section
/-! PROOFS. Commands of a CMD ring: how one is taken (R381, R382, R385), and what COMMIT, COMMIT_CANCEL, COPY and NOP complete with (R190, R343,
R383, R384). -/
namespace Sys2Proof.Machine

/-! ## Taking a command (R381, R382, R385) -/

/-- A running device may take the command at RCI of ring `k`, no COMMIT of which waits for its acknowledgement (R343). -/
abbrev State.cmdIdle (s : State) (k : Nat) : Prop := s.board.held = false ∧ s.epoch.waiting.contains k = false ∧ s.cmdReady k = true

/-- The completion of the command in entry `e` of ring `k`. -/
def State.completes (s : State) (k : Nat) (e : List Byte) (st res : Nat) (late : Bool) : State :=
  s.completion (s.peerOf k) (entN e 0 1) st k (entN e 4 4) (entN e 8 8) res late

/-- The state that a new command of ring `k` runs in: its entry read, RCI advanced, RSEQ its number. -/
def State.cmdTaken (s : State) (k : Nat) : State :=
  ((s.ringFetch k).1.inc (HOST_RCI_INDEX k) 1).wr (HOST_RSEQ_SEQ k) (entN (s.ringEntry k) 4 4)

/-- The command at RCI is newer than the last one, as its entry was read (R385). -/
abbrev State.cmdNew (s : State) (k : Nat) : Bool := (s.ringFetch k).1.newSeq k (entN (s.ringEntry k) 4 4)

theorem State.newSeq_iff (s : State) (k seq : Nat) : s.newSeq k seq = true ↔
    1 ≤ (seq + 2 ^ 32 - s.rd (HOST_RSEQ_SEQ k)) % 2 ^ 32 ∧ (seq + 2 ^ 32 - s.rd (HOST_RSEQ_SEQ k)) % 2 ^ 32 ≤ 2 ^ 31 - 1 := by
  simp only [State.newSeq, Bool.and_eq_true, decide_eq_true_eq]

theorem State.cmdReady_iff (s : State) (k : Nat) : s.cmdReady k = true ↔
    s.on (HOST_RCFG_EN k) = true ∧ s.rd (HOST_RCFG_TYPE k) = ringCmd ∧ s.ringUsed k ≠ 0
      ∧ ¬ (s.on (HOST_RCFG_EN (s.peerOf k)) = true ∧ s.rd (HOST_RCFG_TYPE (s.peerOf k)) = ringCpl
        ∧ s.ringSize (s.peerOf k) ≤ s.ringUsed (s.peerOf k)) := by
  simp only [State.cmdReady, State.ringIs, State.ringFull, Bool.and_eq_true, bne_iff_ne, beq_iff_eq, Bool.not_eq_true', ← Bool.not_eq_true,
    decide_eq_true_eq, and_assoc]

section
variable {s : State} {k : Nat} {run : State → List Byte → State × Option (Nat × Nat × Bool)}

theorem State.takeCommand_stale (h : s.cmdNew k = false) :
    s.takeCommand k run = ((s.ringFetch k).1.inc (HOST_RCI_INDEX k) 1).completes k (s.ringEntry k) stDUP 0 false := by
  unfold State.takeCommand
  exact if_pos (congrArg not h)

theorem State.takeCommand_runs (h : s.cmdNew k = true) {t : State} {st res : Nat} {late : Bool}
    (hr : run (s.cmdTaken k) (s.ringEntry k) = (t, some (st, res, late))) : s.takeCommand k run = t.completes k (s.ringEntry k) st res late := by
  unfold State.takeCommand
  refine (if_neg (c := (!s.cmdNew k) = true) (by rw [h]; decide)).trans ?_
  show (match run (s.cmdTaken k) (s.ringEntry k) with | (t, some q) => _ | (t, none) => _) = _
  rw [hr]
  rfl

variable {p : Nat → Bool} (hi : s.cmdIdle k) (hp : p (entN (s.ringEntry k) 0 1) = true)
include hi hp

theorem State.ringRun_idle : s.ringRun k p run =
    s.takeCommand k fun s e => if reservedSet e then (s, some (stMALFORMED, 0, false)) else run s e := by
  obtain ⟨hh, hw, hr⟩ := hi
  exact if_neg (by simp [hh, State.cmdIs, hr, hp, List.contains_eq_mem, by simpa using hw])

theorem State.ringRun_stale (h : s.cmdNew k = false) :
    s.ringRun k p run = ((s.ringFetch k).1.inc (HOST_RCI_INDEX k) 1).completes k (s.ringEntry k) stDUP 0 false :=
  (State.ringRun_idle hi hp).trans (State.takeCommand_stale h)

theorem State.ringRun_malformed (h : s.cmdNew k = true) (he : reservedSet (s.ringEntry k) = true) :
    s.ringRun k p run = (s.cmdTaken k).completes k (s.ringEntry k) stMALFORMED 0 false :=
  (State.ringRun_idle hi hp).trans (State.takeCommand_runs h (if_pos he))

theorem State.ringRun_runs (h : s.cmdNew k = true) (he : reservedSet (s.ringEntry k) = false) {t : State} {st res : Nat} {late : Bool}
    (hr : run (s.cmdTaken k) (s.ringEntry k) = (t, some (st, res, late))) : s.ringRun k p run = t.completes k (s.ringEntry k) st res late :=
  (State.ringRun_idle hi hp).trans (State.takeCommand_runs h ((if_neg (by rw [he]; decide)).trans hr))

end

/-! ## COMMIT (R190, R343) -/

/-- What a COMMIT that is taken does: its judgement, and acceptance, which a lead tells the heel. -/
def State.commitCommand (k : Nat) (past : Bool) (s : State) (e : List Byte) : State × Option (Nat × Nat × Bool) :=
  match s.judgeCommit (s.partRing k) e past with
  | .inl st => (s, some (st, 0, false))
  | .inr c => (if (s.acceptCommit c).role = roLead then (s.acceptCommit c).tell (.commit c) else s.acceptCommit c, some (stOK, c.n, c.late))

/-- A lead's COMMIT whose acknowledgement does not come: a new one without a reserved byte set. -/
abbrev State.commitHeld (s : State) (k : Nat) (acked : Bool) : Prop :=
  s.role = roLead ∧ acked = false ∧ s.newSeq k (entN (s.ringEntry k) 4 4) = true ∧ reservedSet (s.ringEntry k) = false

section
variable {s : State} {k : Nat} {acked past : Bool}

theorem State.role_acceptCommit (s : State) (c : Commit) : (s.acceptCommit c).role = s.role := by
  rw [State.role, State.rd_acceptCommit, State.rd_wr_other _ _ _ _ (.inl (by decide)), State.rd_wr_other _ _ _ _ (.inl (by decide)), State.role]

theorem State.commitCommand_status {e : List Byte} {st : Nat} (h : s.judgeCommit (s.partRing k) e past = .inl st) :
    State.commitCommand k past s e = (s, some (st, 0, false)) := by
  unfold State.commitCommand
  rw [h]

theorem State.commitCommand_accepts {e : List Byte} {c : Commit} (h : s.judgeCommit (s.partRing k) e past = .inr c) :
    State.commitCommand k past s e =
      (if s.role = roLead then (s.acceptCommit c).tell (.commit c) else s.acceptCommit c, some (stOK, c.n, c.late)) := by
  unfold State.commitCommand
  rw [h]
  dsimp only
  rw [s.role_acceptCommit]

theorem State.commitRing_taken (h : ¬ s.commitHeld k acked) : s.commitRing k acked past = s.ringRun k (· == 1) (State.commitCommand k past) := by
  unfold State.commitRing
  exact if_neg fun ⟨hr, ha, _, _, _, hn, he⟩ => h ⟨hr, by simpa using ha, hn, by simpa using he⟩

section
variable (hi : s.cmdIdle k) (ho : entN (s.ringEntry k) 0 1 = 1) (hc : s.commitHeld k acked)
include hi ho hc

theorem State.commitHeld_guard : s.role = roLead ∧ (!acked) = true ∧ (!s.board.held) = true ∧ (!s.epoch.waiting.contains k) = true
    ∧ s.cmdIs k (· == 1) = true ∧ s.newSeq k (entN (s.ringEntry k) 4 4) = true ∧ (!reservedSet (s.ringEntry k)) = true := by
  obtain ⟨hh, hw, hr⟩ := hi
  obtain ⟨hl, ha, hn, he⟩ := hc
  exact ⟨hl, by rw [ha]; rfl, by rw [hh]; rfl, by rw [hw]; rfl, by simp [State.cmdIs, hr, ho], hn, by rw [he]; rfl⟩

theorem State.commitRing_waits {c : Commit} (hj : s.judgeCommit (s.partRing k) (s.ringEntry k) past = .inr c) :
    s.commitRing k acked past = { s.tell (.commit c) with epoch := { s.epoch with waiting := k :: s.epoch.waiting } } := by
  refine (if_pos (State.commitHeld_guard hi ho hc)).trans ?_
  dsimp only
  rw [hj]

theorem State.commitRing_refused {st : Nat} (hj : s.judgeCommit (s.partRing k) (s.ringEntry k) past = .inl st) :
    s.commitRing k acked past = s.ringRun k (· == 1) (State.commitCommand k past) := by
  refine (if_pos (State.commitHeld_guard hi ho hc)).trans ?_
  dsimp only
  rw [hj]
  rfl

end
end

/-! ## COMMIT_CANCEL (R190, R343) -/

/-- The apply downbeat of a pending commit has begun. -/
abbrev State.commitBegun (s : State) (c : Commit) : Prop := s.disp.downbeat = true ∧ c.n ≤ s.frame

/-- What a COMMIT_CANCEL that is taken does; a lead tells the heel of a commit that it cancels. -/
def State.cancelCommand (s : State) (e : List Byte) : State × Option (Nat × Nat × Bool) :=
  let q := s.cancelCommit e
  (if q.1.role = roLead ∧ q.2 = stCANCELLED then q.1.tell (.cancel (entN e 16 4)) else q.1, some (q.2, 0, false))

section
variable {s : State} {e : List Byte}

theorem State.cancelCommand_status {st : Nat} (h : s.cancelCommit e = (s, st)) (hs : st ≠ stCANCELLED) : s.cancelCommand e = (s, some (st, 0, false)) := by
  unfold State.cancelCommand
  rw [h]
  dsimp only
  rw [if_neg fun hq => hs hq.2]

theorem State.cancelCommand_notLead (ha : s.authority = false) : s.cancelCommand e = (s, some (stNOTLEAD, 0, false)) :=
  State.cancelCommand_status (if_pos (by rw [ha]; rfl)) (by decide)

variable (ha : s.authority = true)
include ha

theorem State.cancelCommand_malformed (hb : entN e 20 44 ≠ 0) : s.cancelCommand e = (s, some (stMALFORMED, 0, false)) :=
  State.cancelCommand_status ((if_neg (by rw [ha]; decide)).trans (if_pos hb)) (by decide)

/-- A lawful COMMIT_CANCEL looks for a pending commit of its epoch whose downbeat has not begun. -/
theorem State.cancelCommit_lawful (hb : entN e 20 44 = 0) : s.cancelCommit e =
    if ∃ c ∈ s.epoch.pend, c.epoch = entN e 16 4 ∧ ¬ s.commitBegun c then
      ({ s with epoch := { s.epoch with pend := s.epoch.pend.filter fun c => c.epoch != entN e 16 4 } }, stCANCELLED)
    else (s, stNOTPENDING) := by
  have hc : (s.epoch.pend.any fun c => c.epoch == entN e 16 4 && !(s.disp.downbeat && decide (c.n ≤ s.frame))) = true
      ↔ ∃ c ∈ s.epoch.pend, c.epoch = entN e 16 4 ∧ ¬ s.commitBegun c := by
    simp only [List.any_eq_true, Bool.and_eq_true, beq_iff_eq, Bool.not_eq_true', ← Bool.not_eq_true, decide_eq_true_eq, State.commitBegun]
  refine (if_neg (by rw [ha]; decide)).trans ((if_neg (not_not.2 hb)).trans ?_)
  simp only [hc]

theorem State.cancelCommand_notPending (hb : entN e 20 44 = 0) (hn : ∀ c ∈ s.epoch.pend, c.epoch = entN e 16 4 → s.commitBegun c) :
    s.cancelCommand e = (s, some (stNOTPENDING, 0, false)) :=
  State.cancelCommand_status ((State.cancelCommit_lawful ha hb).trans (if_neg fun ⟨c, hm, hc, hd⟩ => hd (hn c hm hc))) (by decide)

theorem State.cancelCommand_cancels (hb : entN e 20 44 = 0) (hn : ∃ c ∈ s.epoch.pend, c.epoch = entN e 16 4 ∧ ¬ s.commitBegun c) :
    s.cancelCommand e = (let t := { s with epoch := { s.epoch with pend := s.epoch.pend.filter fun c => c.epoch != entN e 16 4 } }
      if s.role = roLead then t.tell (.cancel (entN e 16 4)) else t, some (stCANCELLED, 0, false)) := by
  unfold State.cancelCommand
  rw [State.cancelCommit_lawful ha hb, if_pos hn]
  simp only [and_true]
  rfl

end

/-! ## COPY (R383) -/

/-- The bytes of a COPY of lawful length, and how many of them were copied. -/
def State.copyBytes (s : State) (k : Nat) (e : List Byte) : State × Nat × Bool :=
  State.copyRun (s.ringWho k) (s.rd (HOST_RCFG_FN k)) (bit (entN e 36 1) 0) (bit (entN e 36 1) 1) (entN e 32 4 / 4) s (entN e 16 8) (entN e 24 8)
    (entN e 32 4) 0

/-- What a COPY that is taken does. -/
def State.copyCommand (k : Nat) (s : State) (e : List Byte) : State × Option (Nat × Nat × Bool) :=
  if entN e 32 4 = 0 ∨ entN e 32 4 % 4 ≠ 0 ∨ 2 ^ 20 < entN e 32 4 then (s, some (stMALFORMED, 0, false))
  else ((s.copyBytes k e).1, some (if (s.copyBytes k e).2.2 then stOK else stACCESS, (s.copyBytes k e).2.1, false))

section
variable {w : Who} {fn src dst : Nat} {hs hd : Bool} {s t : State}

/-- A COPY of one word whose read ends in an error. -/
theorem State.copyRun_word_unread (h : s.copyRead w fn hs src 4 = (t, none)) : State.copyRun w fn hs hd 1 s src dst 4 0 = (t, 0, false) := by
  unfold State.copyRun
  simp [h]

/-- A COPY of one word that is read: what its write leaves. -/
theorem State.copyRun_word_read {bs : List Byte} (h : s.copyRead w fn hs src 4 = (t, some bs)) : State.copyRun w fn hs hd 1 s src dst 4 0 =
    ((t.copyWrite w fn hd dst bs).1, if (t.copyWrite w fn hd dst bs).2 then (4, true) else (0, false)) := by
  rcases hw : t.copyWrite w fn hd dst bs with ⟨u, ok⟩
  unfold State.copyRun
  cases ok <;> simp [h, hw, State.copyRun]

end

/-! ## The commands -/

theorem exec_cmdNop (r : Fin 256) (s : State) : exec (.cmdNop r) s = .next (s.ringRun r.val (· == 0) fun s _ => (s, some (stOK, 0, false))) := rfl

theorem exec_badop (r : Fin 256) (s : State) :
    exec (.badop r) s = .next (s.ringRun r.val (fun o => decide (3 < o)) fun s _ => (s, some (stBADOP, 0, false))) := rfl

theorem exec_commit (r : Fin 256) (acked past : Bool) (s : State) : exec (.commit r acked past) s = .next (s.commitRing r.val acked past) := rfl

theorem exec_commitCancel (r : Fin 256) (s : State) : exec (.commitCancel r) s = .next (s.ringRun r.val (· == 2) State.cancelCommand) := rfl

theorem exec_copy (r : Fin 256) (s : State) : exec (.copy r) s = .next (s.ringRun r.val (· == 3) (State.copyCommand r.val)) := rfl

theorem exec_mirrorAckTimeout {s : State} (h : s.board.held = false) (r : Fin 256) :
    exec (.mirrorAckTimeout r) s = .next (s.mirrorAckTimeout r.val) := congrArg Host.Outcome.next (State.live_on h _)

/-- A command that its ring takes completes as its meaning says. -/
theorem exec_taken {c : Instr} {r s : State} {k : Nat} {p : Nat → Bool} {run : State → List Byte → State × Option (Nat × Nat × Bool)}
    (hx : exec c r = .next (s.ringRun k p run)) (hi : s.cmdIdle k) (hn : s.cmdNew k = true) (he : reservedSet (s.ringEntry k) = false)
    (hp : p (entN (s.ringEntry k) 0 1) = true) {t : State} {st res : Nat} {late : Bool}
    (hr : run (s.cmdTaken k) (s.ringEntry k) = (t, some (st, res, late))) : exec c r = .next (t.completes k (s.ringEntry k) st res late) :=
  hx.trans (congrArg _ (State.ringRun_runs hi hp hn he hr))

/-- A ring's command that no missing acknowledgement holds back is taken by its opcode. -/
theorem exec_ringCommand {r : Fin 256} {acked past : Bool} {s : State} {op o : Nat} {c : Instr} (hn : ¬ s.commitHeld r.val acked)
    (hc : (c, o) ∈ [(Instr.cmdNop r, 0), (.commit r acked past, 1), (.commitCancel r, 2), (.copy r, 3), (.badop r, op)]) (ho : op = o)
    (hb : c = .badop r → 3 < op) : ∃ p run, p op = true ∧ exec c s = .next (s.ringRun r.val p run) := by
  subst ho
  simp only [List.mem_cons, Prod.mk.injEq, List.not_mem_nil, or_false] at hc
  obtain ⟨rfl, rfl⟩ | ⟨rfl, rfl⟩ | ⟨rfl, rfl⟩ | ⟨rfl, rfl⟩ | ⟨rfl, -⟩ := hc
  · exact ⟨_, _, rfl, exec_cmdNop r s⟩
  · exact ⟨_, _, rfl, (exec_commit r acked past s).trans (congrArg _ (State.commitRing_taken hn))⟩
  · exact ⟨_, _, rfl, exec_commitCancel r s⟩
  · exact ⟨_, _, rfl, exec_copy r s⟩
  · exact ⟨_, _, decide_eq_true (hb rfl), exec_badop r s⟩

/-- A COMMIT whose acknowledgement has not come in time (R343). -/
theorem State.mirrorAckTimeout_waiting {s : State} {k : Nat} (h : s.epoch.waiting = [k]) : s.mirrorAckTimeout k =
    ({ s with epoch := { s.epoch with waiting := [] } } : State).ringRun k (· == 1) fun s _ => (s, some (stNOTMIRRORED, 0, false)) := by
  unfold State.mirrorAckTimeout
  rw [h]
  simp

theorem State.completes_op {t : State} {k op : Nat} {e : List Byte} (ho : entN e 0 1 = op) (st res : Nat) (late : Bool) :
    t.completes k e st res late = t.completion (t.peerOf k) op st k (entN e 4 4) (entN e 8 8) res late := by
  rw [State.completes, ho]

/-- The COMMIT that waited completes NOT_MIRRORED (R343). -/
theorem State.mirrorAckTimeout_expires {s s0 : State} {r : Fin 256} (h0 : s0 = { s with epoch := { s.epoch with waiting := [] } })
    (hh : s.board.held = false) (hw : s.epoch.waiting = [r.val]) (hr : s0.cmdReady r = true) (ho : entN (s0.ringEntry r) 0 1 = 1)
    (hn : s0.cmdNew r = true) (he : reservedSet (s0.ringEntry r) = false) : exec (.mirrorAckTimeout r) s =
      .next ((s0.cmdTaken r).completion ((s0.cmdTaken r).peerOf r) 1 stNOTMIRRORED r (entN (s0.ringEntry r) 4 4) (entN (s0.ringEntry r) 8 8) 0 false) := by
  have hi : s0.cmdIdle r := ⟨h0 ▸ hh, h0 ▸ rfl, hr⟩
  have hx := (exec_mirrorAckTimeout hh r).trans (congrArg _ (h0 ▸ State.mirrorAckTimeout_waiting hw))
  exact (exec_taken hx hi hn he (beq_iff_eq.2 ho) rfl).trans (congrArg _ (State.completes_op ho ..))

/-- Settles O41: how a command is taken, then each opcode by the checks of its own. -/
theorem ringCommands : Obligations.RingCommands := by
  unfold Obligations.RingCommands
  intro r acked past s k e seq op peer read taken fin idle newIn isNew commit judged holds len w src wrote run begun
  have new (h : isNew) : s.cmdNew k = true := (State.newSeq_iff ..).2 h
  have old (h : ¬ isNew) : s.cmdNew k = false := Bool.eq_false_iff.2 fun hn => h ((State.newSeq_iff ..).1 hn)
  refine ⟨State.cmdReady_iff s k, fun hi c o hc ho hb => ⟨fun hn h => ?stale, fun hn he => ?reserved⟩,
    fun hi hn he => ⟨fun ho => ?nop, fun ho => ?badop, fun ho hh st hj => ?refused, fun ho hh c hj => ?accepted, fun ho hh h st hj hk => ?leadRefused,
      fun ho hh h c hj => ?waits, fun ho ha => ?notLead, fun ho ha hb => ?malformed, fun ho ha hb hp => ?notPending, fun ho ha hb hp => ?cancels,
      fun ho hl => ?badLength, fun ho h0 h4 hm => ?copies, fun hl hr => ?unread, fun hl bs hr => ?copied⟩,
    State.mirrorAckTimeout_expires rfl⟩
  case stale =>
    obtain ⟨p, run, hp, hx⟩ := exec_ringCommand (fun hq => h ((State.newSeq_iff ..).1 hq.2.2.1)) hc ho hb
    rw [hx, State.ringRun_stale hi hp (old hn)]
    rfl
  case reserved =>
    obtain ⟨p, run, hp, hx⟩ := exec_ringCommand (fun hq => absurd (hq.2.2.2.symm.trans he) (by decide)) hc ho hb
    rw [hx, State.ringRun_malformed hi hp (new hn) he]
    rfl
  case nop => exact exec_taken (exec_cmdNop r s) hi (new hn) he (beq_iff_eq.2 ho) rfl
  case badop => exact exec_taken (exec_badop r s) hi (new hn) he (decide_eq_true ho) rfl
  case refused =>
    have hx := (exec_commit r acked past s).trans (congrArg _ (State.commitRing_taken fun hq => hh ⟨hq.1, hq.2.1⟩))
    exact exec_taken hx hi (new hn) he (beq_iff_eq.2 ho) (State.commitCommand_status hj)
  case accepted =>
    have hx := (exec_commit r acked past s).trans (congrArg _ (State.commitRing_taken fun hq => hh ⟨hq.1, hq.2.1⟩))
    exact exec_taken hx hi (new hn) he (beq_iff_eq.2 ho) (State.commitCommand_accepts hj)
  case leadRefused =>
    have hx := (exec_commit r acked past s).trans (congrArg _ (State.commitRing_refused hi ho ⟨hh.1, hh.2, (State.newSeq_iff ..).2 h, he⟩ hj))
    exact exec_taken hx hi (new hn) he (beq_iff_eq.2 ho) (State.commitCommand_status hk)
  case waits => rw [exec_commit, State.commitRing_waits hi ho ⟨hh.1, hh.2, (State.newSeq_iff ..).2 h, he⟩ hj]
  case notLead => exact exec_taken (exec_commitCancel r s) hi (new hn) he (beq_iff_eq.2 ho) (State.cancelCommand_notLead ha)
  case malformed => exact exec_taken (exec_commitCancel r s) hi (new hn) he (beq_iff_eq.2 ho) (State.cancelCommand_malformed ha hb)
  case notPending => exact exec_taken (exec_commitCancel r s) hi (new hn) he (beq_iff_eq.2 ho) (State.cancelCommand_notPending ha hb hp)
  case cancels => exact exec_taken (exec_commitCancel r s) hi (new hn) he (beq_iff_eq.2 ho) (State.cancelCommand_cancels ha hb hp)
  case badLength => exact exec_taken (exec_copy r s) hi (new hn) he (beq_iff_eq.2 ho) (if_pos hl)
  case copies => exact exec_taken (exec_copy r s) hi (new hn) he (beq_iff_eq.2 ho) (if_neg (not_or.2 ⟨h0, not_or.2 ⟨not_not.2 h4, Nat.not_lt.2 hm⟩⟩))
  case unread =>
    simp only [run, hl]
    exact State.copyRun_word_unread (Prod.ext rfl hr)
  case copied =>
    simp only [run, hl]
    exact State.copyRun_word_read (Prod.ext rfl hr)

end Sys2Proof.Machine
end

section
/-! PROOFS. Reference candidates, media DPLLs and FRAME_OUT offsets (R271 to R289). -/
namespace Sys2Proof.Machine

/-! ## The fields that a change of the references may write -/

/-- A field whose number is not listed keeps its value at a write of a field, of whatever index, that is. -/
theorem State.rd_wr_listed {l : List Nat} {g : Fld} (hg : g.no ∉ l) (F : Nat → Fld) (s : State) (i v : Nat) (hF : (F 0).no ∈ l := by decide)
    (hi : (F i).no = (F 0).no := by rfl) : (s.wr (F i) v).rd g = s.rd g := s.rd_wr_other (F i) g v (.inl fun e => hg (e ▸ hi ▸ hF))

/-- The fields that a new target of a DPLL writes. -/
def retargetFields : List Nat := [(REFS_DSTAT_STEERIGN 0).no, (REFS_DSTAT_DRIFT 0).no, (REFS_DSTAT_ALIGNED 0).no]

/-- The fields that a selection writes. -/
def selectFields : List Nat :=
  retargetFields ++ [(REFS_DSTAT_STATE 0).no, (REFS_DSTAT_ACTIVE 0).no, (REFS_DSTAT_HOEV 0).no, (REFS_DSTAT_HOQ 0).no, (REFS_DHOF_OFFS 0).no,
    (REFS_DSTAT_SWEV 0).no, (REFS_DPHERR_NS 0).no, (REFS_DSTAT_BEST 0).no]

/-- The fields that a change of a candidate, and what follows from it, writes. -/
def settleFields : List Nat :=
  selectFields ++ [(REFS_CSTAT_STATE 0).no, (REFS_CSTAT_CAUSE 0).no, (REFS_CSTAT_DQEV 0).no, (REFS_CSTAT_DRIFT 0).no, (REFS_FOSTAT_ALIGNLOST 0).no]

section
variable {g : Fld}

theorem State.rd_retarget (h : g.no ∉ retargetFields) (s : State) (x : Nat) : (s.retarget x).rd g = s.rd g := by
  have hs (v : Nat) (t : State) : (t.wr (REFS_DSTAT_STEERIGN x) v).rd g = t.rd g := State.rd_wr_listed h REFS_DSTAT_STEERIGN ..
  have hd (v : Nat) (t : State) : (t.wr (REFS_DSTAT_DRIFT x) v).rd g = t.rd g := State.rd_wr_listed h REFS_DSTAT_DRIFT ..
  have ha (v : Nat) (t : State) : (t.wr (REFS_DSTAT_ALIGNED x) v).rd g = t.rd g := State.rd_wr_listed h REFS_DSTAT_ALIGNED ..
  unfold State.retarget
  dsimp only
  split
  · exact (hd ..).trans (hs ..)
  · exact (ha ..).trans ((hd ..).trans (hs ..))

section
variable (h : g.no ∉ selectFields)
include h

/-- A selection writes what a new target writes. -/
theorem State.rd_retarget_select (s : State) (x : Nat) : (s.retarget x).rd g = s.rd g :=
  s.rd_retarget (fun hm => h (List.mem_append_left _ hm)) x

theorem State.rd_enterHoldover (s : State) (x : Nat) : (s.enterHoldover x).rd g = s.rd g := by
  unfold State.enterHoldover
  dsimp only
  rw [State.rd_retarget_select h, State.rd_wr_listed h REFS_DHOF_OFFS, State.rd_wr_listed h REFS_DSTAT_HOQ, State.rd_wr_listed h REFS_DSTAT_HOEV,
    State.rd_wr_listed h REFS_DSTAT_ACTIVE, State.rd_wr_listed h REFS_DSTAT_STATE, State.rd_setPll]

theorem State.rd_takeRef (s : State) (x : Nat) : (s.takeRef x).rd g = s.rd g := by
  unfold State.takeRef
  dsimp only
  rw [State.rd_retarget_select h, apply_ite (State.rd · g), State.rd_wr_listed h REFS_DPHERR_NS, ite_self, State.rd_setPll,
    State.rd_wr_listed h REFS_DSTAT_SWEV, State.rd_wr_listed h REFS_DSTAT_STATE]

theorem State.rd_select (s : State) (x : Nat) : (s.select x).rd g = s.rd g := by
  unfold State.select
  split
  · rw [apply_ite (State.rd · g), State.rd_enterHoldover h, ite_self]
  · dsimp only
    rw [apply_ite (State.rd · g), State.rd_takeRef h, ite_self, State.rd_retarget_select h, State.rd_wr_listed h REFS_DSTAT_ACTIVE,
      State.rd_wr_listed h REFS_DSTAT_STATE, State.rd_setPll]

theorem State.rd_pllsSettle (s : State) : s.pllsSettle.rd g = s.rd g := by
  refine foldl_keeps (State.rd · g) (fun t x => ?_) _ s
  dsimp only
  rw [apply_ite (State.rd · g), State.rd_select h, ite_self, State.rd_wr_listed h REFS_DSTAT_BEST]

end

section
variable (h : g.no ∉ settleFields)
include h

theorem State.rd_alignLost (s : State) (c : Nat) : (s.alignLost c).rd g = s.rd g := by
  refine foldl_keeps (State.rd · g) (fun t x => ?_) _ s
  rw [apply_ite (State.rd · g), State.rd_wr_listed h REFS_FOSTAT_ALIGNLOST, ite_self]

theorem State.rd_disqualify (s : State) (c cause : Nat) : (s.disqualify c cause).rd g = s.rd g := by
  unfold State.disqualify
  dsimp only
  rw [apply_ite (State.rd · g), State.rd_alignLost h, State.rd_wr_listed h REFS_CSTAT_DRIFT, State.rd_wr_listed h REFS_CSTAT_DQEV,
    State.rd_wr_listed h REFS_CSTAT_CAUSE, State.rd_wr_listed h REFS_CSTAT_STATE, ite_self, State.rd_setCand]

theorem State.rd_refsSettle (s : State) : s.refsSettle.rd g = s.rd g := by
  unfold State.refsSettle
  rw [State.rd_pllsSettle fun hm => h (List.mem_append_left _ hm)]
  refine foldl_keeps (State.rd · g) (fun t c => ?_) _ s
  dsimp only
  split
  · rfl
  · split
    · rw [apply_ite (State.rd · g), State.rd_disqualify h, ite_self]
    · rw [apply_ite (State.rd · g), State.rd_setCand, State.rd_wr_listed h REFS_CSTAT_STATE, ite_self]

end
end

/-! ## The 10 ms measurement (R277, R279) -/

/-- Two families of fields of different number: a write in one leaves the other. -/
theorem State.rd_wr_apart (F G : Nat → Fld) (s : State) (i j v : Nat) (h : (G 0).no ≠ (F 0).no := by decide) (hF : (F i).no = (F 0).no := by rfl)
    (hG : (G j).no = (G 0).no := by rfl) : (s.wr (F i) v).rd (G j) = s.rd (G j) := s.rd_wr_other _ _ v (.inl (hF ▸ hG ▸ h))

theorem State.rd_alignLost_apart (G : Nat → Fld) (s : State) (c j : Nat) (h : (G 0).no ≠ (REFS_FOSTAT_ALIGNLOST 0).no := by decide)
    (hG : (G j).no = (G 0).no := by rfl) : (s.alignLost c).rd (G j) = s.rd (G j) := by
  refine foldl_keeps (State.rd · (G j)) (fun t x => ?_) _ s
  rw [apply_ite (State.rd · _), State.rd_wr_apart REFS_FOSTAT_ALIGNLOST G (h := h) (hG := hG), ite_self]

/-- A candidate that is disqualified shows it, its cause and the event. -/
theorem State.disqualify_monitored {s : State} {c : Nat} (h : s.rd (REFS_CSTAT_STATE c) = caQualifying ∨ s.rd (REFS_CSTAT_STATE c) = caQualified)
    {cause : Nat} (hc : cause < 8) : (s.disqualify c cause).rd (REFS_CSTAT_STATE c) = caDisq
      ∧ (s.disqualify c cause).rd (REFS_CSTAT_CAUSE c) = cause ∧ (s.disqualify c cause).on (REFS_CSTAT_DQEV c) = true := by
  unfold State.disqualify State.on
  dsimp only
  rw [if_neg fun hn => h.elim hn.1 hn.2]
  refine ⟨?_, ?_, ?_⟩
  · rw [State.rd_alignLost_apart REFS_CSTAT_STATE, State.rd_wr_apart REFS_CSTAT_DRIFT REFS_CSTAT_STATE, State.rd_wr_apart REFS_CSTAT_DQEV REFS_CSTAT_STATE,
      State.rd_wr_apart REFS_CSTAT_CAUSE REFS_CSTAT_STATE, State.rd_wr_same]
    rfl
  · rw [State.rd_alignLost_apart REFS_CSTAT_CAUSE, State.rd_wr_apart REFS_CSTAT_DRIFT REFS_CSTAT_CAUSE, State.rd_wr_apart REFS_CSTAT_DQEV REFS_CSTAT_CAUSE,
      State.rd_wr_same]
    exact Nat.mod_eq_of_lt hc
  · rw [State.rd_alignLost_apart REFS_CSTAT_DQEV, State.rd_wr_apart REFS_CSTAT_DRIFT REFS_CSTAT_DQEV, State.rd_wr_same]
    rfl

theorem State.cs_disqualify_other (s : State) {i c : Nat} (h : i ≠ c) (cause : Nat) :
    (s.disqualify c cause).rd (REFS_CSTAT_STATE i) = s.rd (REFS_CSTAT_STATE i) := by
  unfold State.disqualify
  dsimp only
  rw [apply_ite (State.rd · _), State.rd_alignLost_apart REFS_CSTAT_STATE, State.rd_wr_apart REFS_CSTAT_DRIFT REFS_CSTAT_STATE,
    State.rd_wr_apart REFS_CSTAT_DQEV REFS_CSTAT_STATE, State.rd_wr_apart REFS_CSTAT_CAUSE REFS_CSTAT_STATE, State.rd_wr_other _ _ _ _ (.inr h),
    State.rd_setCand, ite_self]

theorem State.cs_measure_other (s : State) {i c : Nat} (h : i ≠ c) (v : Int) : (s.measure c v).rd (REFS_CSTAT_STATE i) = s.rd (REFS_CSTAT_STATE i) := by
  unfold State.measure
  split
  · rfl
  · dsimp only
    rw [apply_ite (State.rd · _), State.cs_disqualify_other _ h, ite_self, State.rd_wr_apart REFS_CSTAT_DRIFT REFS_CSTAT_STATE,
      State.rd_wr_apart REFS_CFREQ_OFFS REFS_CSTAT_STATE, State.rd_setCand]

/-- A measured offset is shown outside the fields that follow from the measurement. -/
theorem offs_unsettled (i : Nat) : (REFS_CFREQ_OFFS i).no ∉ settleFields := show (REFS_CFREQ_OFFS 0).no ∉ settleFields by decide

theorem State.offs_measure_other (s : State) {i c : Nat} (h : i ≠ c) (v : Int) : (s.measure c v).rd (REFS_CFREQ_OFFS i) = s.rd (REFS_CFREQ_OFFS i) := by
  unfold State.measure
  split
  · rfl
  · dsimp only
    rw [apply_ite (State.rd · _), State.rd_disqualify (offs_unsettled i), ite_self, State.rd_wr_apart REFS_CSTAT_DRIFT REFS_CFREQ_OFFS,
      State.rd_wr_other _ _ _ _ (.inr h), State.rd_setCand]

theorem ux_lt (w : Nat) (x : Int) : ux w x < 2 ^ w := by
  rw [ux_eq_toNat]
  exact BitVec.isLt _

/-- The measurement of a candidate that is on and is no time base shows the offset given. -/
theorem State.offs_measure_same {s : State} {c : Nat} (ho : s.rd (REFS_CSTAT_STATE c) ≠ caOff) (hc : ¬ (2 ≤ c ∧ c ≤ 5)) (h11 : c ≠ 11) (v : Int) :
    (s.measure c v).rd (REFS_CFREQ_OFFS c) = ux 32 v := by
  refine (congrArg (State.rd · _) (if_neg ho)).trans ?_
  simp only [if_neg hc, if_neg h11]
  rw [apply_ite (State.rd · _), State.rd_disqualify (offs_unsettled c), ite_self, State.rd_wr_apart REFS_CSTAT_DRIFT REFS_CFREQ_OFFS, State.rd_wr_same]
  exact Nat.mod_eq_of_lt (ux_lt 32 v)

/-- The measurements of candidates 0 to n − 1. -/
def State.measures (s : State) (offs : List Int) (n : Nat) : State := (List.range n).foldl (fun s c => s.measure c (offs.getD c 0)) s

theorem State.measures_succ (s : State) (offs : List Int) (n : Nat) : s.measures offs (n + 1) = (s.measures offs n).measure n (offs.getD n 0) := by
  rw [State.measures, List.range_succ, List.foldl_append]
  rfl

/-- A candidate not yet measured stands as before. -/
theorem State.cs_measures (s : State) (offs : List Int) {n i : Nat} (h : n ≤ i) : (s.measures offs n).rd (REFS_CSTAT_STATE i) = s.rd (REFS_CSTAT_STATE i) := by
  induction n with
  | zero => rfl
  | succ n ih => rw [State.measures_succ, State.cs_measure_other _ (by omega), ih (by omega)]

theorem State.offs_measures {s : State} {i : Nat} (ho : s.rd (REFS_CSTAT_STATE i) ≠ caOff) (hc : ¬ (2 ≤ i ∧ i ≤ 5)) (h11 : i ≠ 11) (offs : List Int) {n : Nat}
    (h : i < n) : (s.measures offs n).rd (REFS_CFREQ_OFFS i) = ux 32 (offs.getD i 0) := by
  induction n with
  | zero => exact absurd h (Nat.not_lt_zero i)
  | succ n ih =>
    rw [State.measures_succ]
    obtain rfl | hn := Nat.eq_or_lt_of_le (Nat.le_of_lt_succ h)
    · exact State.offs_measure_same (by rwa [State.cs_measures s offs (Nat.le_refl i)]) hc h11 _
    · rw [State.offs_measure_other _ (by omega), ih hn]

theorem State.offs_measureAll (s : State) (offs : List Int) (i : Nat) : (s.measureAll offs).rd (REFS_CFREQ_OFFS i) = (s.measures offs 12).rd (REFS_CFREQ_OFFS i) := by
  refine (State.rd_refsSettle (offs_unsettled i) _).trans (foldl_keeps (State.rd · (REFS_CFREQ_OFFS i)) (fun t x => ?_) _ _)
  dsimp only
  rw [apply_ite (State.rd · _), State.rd_retarget fun hm => offs_unsettled i (List.mem_append_left _ (List.mem_append_left _ hm)), ite_self]

/-! ## Events and the 16 periods of a switch -/

section
variable {s : State} {c t : Nat}

theorem State.candEvent_off (h : s.rd (REFS_CSTAT_STATE c) = caOff) : s.candEvent c t = s := if_pos h

theorem State.candEvent_jump (ho : s.rd (REFS_CSTAT_STATE c) ≠ caOff) (h : jumps (s.rd (REFS_CQUAL_PJTHR c)) (s.cand c).times t = true) :
    s.candEvent c t = ((s.setCand c { s.cand c with times := [t], alive := true }).disqualify c 2).refsSettle :=
  (if_neg ho).trans (congrArg State.refsSettle ((if_neg ho).trans (if_pos h)))

theorem State.candEvent_taken (ho : s.rd (REFS_CSTAT_STATE c) ≠ caOff) (h : ¬ jumps (s.rd (REFS_CQUAL_PJTHR c)) (s.cand c).times t = true) :
    s.candEvent c t = ((List.range 4).foldl (fun (s : State) y => if s.runsOn y c && !s.aligned y c then s.builtSeen y c t else s)
      ((s.setCand c { s.cand c with times := (t :: (s.cand c).times).take 65, alive := true }).foMeasure c t)).refsSettle :=
  (if_neg ho).trans (congrArg State.refsSettle ((if_neg ho).trans (if_neg h)))

/-- DPLL `x` at the end of its switch: the writes that waited are applied. -/
def State.switched (s : State) (x : Nat) : State :=
  ((s.pll x).late.foldl (fun (s : State) q => s.pllFields x q.1 q.2) (s.setPll x { s.pll x with late := [] })).wr (REFS_DSTAT_SWEV x) 1

section
variable {x : Nat} (h : s.pllState x = plSwitching)
include h

theorem State.switchComplete_mode (hn : (s.switched x).selects x = false) : s.switchComplete x = ((s.switched x).pllMode x).pllsSettle :=
  (if_neg (not_not.2 h)).trans (congrArg State.pllsSettle (if_pos (congrArg not hn)))

variable (hn : (s.switched x).selects x = true)
include hn

theorem State.switchComplete_selects : s.switchComplete x =
    (if (s.switched x).qualified ((s.switched x).rd (REFS_DSTAT_ACTIVE x)) then (s.switched x).takeRef x else (s.switched x).select x).pllsSettle :=
  (if_neg (not_not.2 h)).trans (congrArg State.pllsSettle (if_neg (fun he => absurd ((congrArg not hn).symm.trans he) Bool.false_ne_true)))

theorem State.switchComplete_takes (hq : (s.switched x).qualified ((s.switched x).rd (REFS_DSTAT_ACTIVE x)) = true) :
    s.switchComplete x = ((s.switched x).takeRef x).pllsSettle := (State.switchComplete_selects h hn).trans (congrArg _ (if_pos hq))

theorem State.switchComplete_anew (hq : (s.switched x).qualified ((s.switched x).rd (REFS_DSTAT_ACTIVE x)) = false) :
    s.switchComplete x = ((s.switched x).select x).pllsSettle :=
  (State.switchComplete_selects h hn).trans (congrArg _ (if_neg (Bool.not_eq_true _ ▸ hq)))

end

end

/-! ## Selection (R280, R282, R283) -/

/-- A new target leaves a field of another family. -/
theorem State.rd_retarget_apart (G : Nat → Fld) (s : State) (x j : Nat) (h : (G 0).no ∉ retargetFields := by decide) (hG : (G j).no = (G 0).no := by rfl) :
    (s.retarget x).rd (G j) = s.rd (G j) := s.rd_retarget (hG ▸ h) x

/-- HOLDOVER, as it is entered, shows itself. -/
theorem State.enterHoldover_shows (s : State) (x : Nat) : (s.enterHoldover x).pllState x = plHoldover
    ∧ (s.enterHoldover x).rd (REFS_DSTAT_ACTIVE x) = 15 ∧ (s.enterHoldover x).on (REFS_DSTAT_HOEV x) = true := by
  unfold State.enterHoldover State.pllState State.on
  dsimp only
  refine ⟨?_, ?_, ?_⟩
  · rw [State.rd_retarget_apart REFS_DSTAT_STATE, State.rd_wr_apart REFS_DHOF_OFFS REFS_DSTAT_STATE, State.rd_wr_apart REFS_DSTAT_HOQ REFS_DSTAT_STATE,
      State.rd_wr_apart REFS_DSTAT_HOEV REFS_DSTAT_STATE, State.rd_wr_apart REFS_DSTAT_ACTIVE REFS_DSTAT_STATE, State.rd_wr_same]
    rfl
  · rw [State.rd_retarget_apart REFS_DSTAT_ACTIVE, State.rd_wr_apart REFS_DHOF_OFFS REFS_DSTAT_ACTIVE, State.rd_wr_apart REFS_DSTAT_HOQ REFS_DSTAT_ACTIVE,
      State.rd_wr_apart REFS_DSTAT_HOEV REFS_DSTAT_ACTIVE, State.rd_wr_same]
    rfl
  · rw [State.rd_retarget_apart REFS_DSTAT_HOEV, State.rd_wr_apart REFS_DHOF_OFFS REFS_DSTAT_HOEV, State.rd_wr_apart REFS_DSTAT_HOQ REFS_DSTAT_HOEV,
      State.rd_wr_same]
    rfl

theorem State.select_none {s : State} {x : Nat} (h : s.pick x = none) (hs : s.pllState x ≠ plHoldover) : s.select x = s.enterHoldover x := by
  unfold State.select
  rw [h]
  exact if_neg hs

/-- A candidate that is not the local oscillator is switched to. -/
theorem State.select_some {s : State} {x b : Nat} (h : s.pick x = some b) (hb : b ≠ 11) : s.select x =
    (((s.setPll x { s.pll x with fresh := false }).wr (REFS_DSTAT_STATE x) plSwitching).wr (REFS_DSTAT_ACTIVE x) b).retarget x := by
  unfold State.select
  rw [h]
  exact if_neg hb

theorem State.select_switching {s : State} {x b : Nat} (h : s.pick x = some b) (hb : b < 11) :
    (s.select x).pllState x = plSwitching ∧ (s.select x).rd (REFS_DSTAT_ACTIVE x) = b := by
  rw [State.select_some h (Nat.ne_of_lt hb)]
  unfold State.pllState
  constructor
  · rw [State.rd_retarget_apart REFS_DSTAT_STATE, State.rd_wr_apart REFS_DSTAT_ACTIVE REFS_DSTAT_STATE, State.rd_wr_same]
    rfl
  · rw [State.rd_retarget_apart REFS_DSTAT_ACTIVE, State.rd_wr_same]
    exact Nat.mod_eq_of_lt (Nat.lt_of_lt_of_le hb (show 11 ≤ 2 ^ 4 by decide))

/-- The end of a switch on its target shows ACQUIRE or LOCKED, and its event. -/
theorem State.takeRef_shows (s : State) (x : Nat) :
    (s.takeRef x).pllState x = (if s.aligned x (s.rd (REFS_DSTAT_ACTIVE x)) then plAcquire else plLocked) ∧ (s.takeRef x).on (REFS_DSTAT_SWEV x) = true := by
  unfold State.takeRef State.pllState State.on
  dsimp only
  constructor
  · rw [State.rd_retarget_apart REFS_DSTAT_STATE, apply_ite (State.rd · _), State.rd_wr_apart REFS_DPHERR_NS REFS_DSTAT_STATE, ite_self, State.rd_setPll,
      State.rd_wr_apart REFS_DSTAT_SWEV REFS_DSTAT_STATE, State.rd_wr_same]
    split <;> rfl
  · rw [State.rd_retarget_apart REFS_DSTAT_SWEV, apply_ite (State.rd · _), State.rd_wr_apart REFS_DPHERR_NS REFS_DSTAT_SWEV, ite_self, State.rd_setPll,
      State.rd_wr_same]
    rfl

/-- One candidate more for a selection: the better of it and the best so far. -/
def State.better (s : State) (x : Nat) (p : Nat → Bool) (b : Option Nat) (c : Nat) : Option Nat :=
  if !p c then b
  else match b with
    | some q => if s.prio x c < s.prio x q then some c else b
    | none => some c

theorem State.bestBy_eq (s : State) (x : Nat) (p : Nat → Bool) : s.bestBy x p = (List.range 12).foldl (s.better x p) none := rfl

/-- The better one ranks no lower than either, and is accepted where the best so far is. -/
theorem State.better_spec (s : State) (x : Nat) (p : Nat → Bool) (b : Option Nat) (c : Nat) (hb : ∀ q ∈ b, p q = true) :
    (∀ q ∈ s.better x p b c, p q = true) ∧ (∀ q ∈ b, ∃ r ∈ s.better x p b c, s.prio x r ≤ s.prio x q)
      ∧ (p c = true → ∃ r ∈ s.better x p b c, s.prio x r ≤ s.prio x c) := by
  unfold State.better
  cases hc : p c <;> cases b <;> grind

theorem State.foldl_better (s : State) (x : Nat) (p : Nat → Bool) (l : List Nat) (b : Option Nat) (hb : ∀ q ∈ b, p q = true) {r : Nat}
    (hr : l.foldl (s.better x p) b = some r) : p r = true ∧ (∀ q ∈ b, s.prio x r ≤ s.prio x q) ∧ ∀ c ∈ l, p c = true → s.prio x r ≤ s.prio x c := by
  induction l generalizing b with
  | nil => exact ⟨hb r hr, fun q hq => (Option.some.inj (hr.symm.trans hq)) ▸ Nat.le_refl _, fun c hc => nomatch hc⟩
  | cons c l ih =>
    obtain ⟨hp, hle, hc⟩ := s.better_spec x p b c hb
    obtain ⟨h1, h2, h3⟩ := ih _ hp hr
    refine ⟨h1, fun q hq => ?_, fun d hd hpd => ?_⟩
    · obtain ⟨a, ha, hq⟩ := hle q hq
      exact (h2 a ha).trans hq
    · obtain rfl | hd := List.mem_cons.1 hd
      · obtain ⟨a, ha, hq⟩ := hc hpd
        exact (h2 a ha).trans hq
      · exact h3 d hd hpd

/-- AUTO selects a qualified candidate of least rank below 15. -/
theorem State.autoBest_least {s : State} {x b : Nat} (h : s.autoBest x = some b) : s.qualified b = true ∧ s.prio x b < 15
    ∧ ∀ d < 12, s.qualified d = true → s.prio x d < 15 → s.prio x b ≤ s.prio x d := by
  obtain ⟨hb, -, hle⟩ := s.foldl_better x _ _ _ (fun q hq => absurd hq (Option.not_mem_none q)) ((s.bestBy_eq x _).symm.trans h)
  simp only [Bool.and_eq_true, decide_eq_true_eq] at hb hle
  exact ⟨hb.1, hb.2, fun d hd hq hp => hle d (List.mem_range.2 hd) ⟨hq, hp⟩⟩

/-- Candidate `b` ranks above the active reference. -/
abbrev State.above (s : State) (x b : Nat) : Prop :=
  s.prio x b < s.prio x (s.rd (REFS_DSTAT_ACTIVE x)) ∨ (s.prio x b = s.prio x (s.rd (REFS_DSTAT_ACTIVE x)) ∧ b < s.rd (REFS_DSTAT_ACTIVE x))

/-- The DPLL follows a reference. -/
abbrev State.tracks (s : State) (x : Nat) : Prop := s.pllState x = plAcquire ∨ s.pllState x = plLocked

/-- Wait-to-restore ends for a DPLL that reverts. -/
abbrev State.reverts (s : State) (x : Nat) : Prop :=
  s.rd (REFS_DCTRL_MODE x) = moAuto ∧ s.on (REFS_DCTRL_REVERT x) = true ∧ s.tracks x ∧ ∃ b, s.autoBest x = some b ∧ s.above x b

theorem State.wtrExpiry_eq (s : State) (x : Nat) : s.wtrExpiry x = if s.reverts x then s.select x else s := by
  unfold State.wtrExpiry
  obtain h | ⟨b, h⟩ := Option.eq_none_or_eq_some (s.autoBest x)
  · simp [h, State.reverts]
  · simp [h, State.reverts, State.above, State.tracks, and_assoc]

/-! ## Writes (R286, R287, R289) -/

theorem regHooks_refs {r : RegRow} (h : blockOf r.addr = 0x0E) (s : State) (w : Who) (i v : Nat) (t : State) :
    regHooks s w r i v t = refsHook.full s w r i v t := by simp only [regHooks, h]

section
variable {s u : State} {p : Port} {k v : Nat} {r : RegRow} (h : s.writeOpen p r k v) (hb : blockOf r.addr = 0x0E)
include h hb

theorem State.hostReg_refs_taken (hu : refsHook s (s.whoOf p) r k v (s.wrRow r k v) = some u) : s.hostReg p r k v = s.written p r k v u := by
  rw [State.hostReg_rule h (fun e => absurd (e ▸ hb) (by decide)) (regHooks_refs hb), hu, Option.elim_some]

theorem State.hostReg_refs_refused (hu : refsHook s (s.whoOf p) r k v (s.wrRow r k v) = none) : s.hostReg p r k v = State.turnedAway p s := by
  rw [State.hostReg_rule h (fun e => absurd (e ▸ hb) (by decide)) (regHooks_refs hb), hu, Option.elim_none]

end

/-- The rule of DCTRL. -/
theorem refsHook_dctrl (s : State) (w : Who) (k v : Nat) (t : State) : refsHook s w row_REFS_DCTRL k v t =
    if 4 < bits v 0 3 ∨ 11 < bits v 4 4 then none
    else if s.pllState k = plSwitching then some (s.setPll k { s.pll k with late := (s.pll k).late ++ [(0, v % 2 ^ 32)] })
    else some (s.pllPut k 0 v).pllsSettle := by
  simp [refsHook, row_REFS_DCTRL]

theorem refsHook_dfw (s : State) (w : Who) (k v : Nat) (t : State) :
    refsHook s w row_REFS_DFW k v t = if steerOk v then some (t.retarget k) else none := by
  simp [refsHook, row_REFS_DFW]

theorem refsHook_dsteer (s : State) (w : Who) (k v : Nat) (t : State) :
    refsHook s w row_REFS_DSTEER k v t = if steerOk v then some (t.retarget k) else none := by
  simp [refsHook, row_REFS_DSTEER]

theorem refsHook_foofs (s : State) (w : Who) (k v : Nat) (t : State) : refsHook s w row_REFS_FOOFS k v t =
    if 333333 < (sx 32 v).natAbs then none else some (t.setFo k { s.fo k with offs := ((sx 32 v, s.bc) :: (s.fo k).offs).take 64 }) := by
  simp [refsHook, row_REFS_FOOFS]

theorem State.wrRow_dfw (s : State) (k : Nat) {x : Nat} (h : x < 2 ^ 32) : s.wrRow row_REFS_DFW k x = s.wr (REFS_DFW_WORD k) x := by
  simp [State.wrRow, row_REFS_DFW, State.wrField, show (REFS_DFW_WORD k).w = 32 from rfl, bits_word h]

theorem State.wrRow_dsteer (s : State) (k : Nat) {x : Nat} (h : x < 2 ^ 32) : s.wrRow row_REFS_DSTEER k x = s.wr (REFS_DSTEER_STEER k) x := by
  simp [State.wrRow, row_REFS_DSTEER, State.wrField, show (REFS_DSTEER_STEER k).w = 32 from rfl, bits_word h]

theorem State.wrRow_foofs (s : State) (k : Nat) {x : Nat} (h : x < 2 ^ 32) : s.wrRow row_REFS_FOOFS k x = s.wr (REFS_FOOFS_OFFSET k) x := by
  simp [State.wrRow, row_REFS_FOOFS, State.wrField, show (REFS_FOOFS_OFFSET k).w = 32 from rfl, bits_word h]

/-! ## FRAME_OUT offsets (R289) -/

/-- FOOFS of pin `k` as a write of offset `v` leaves it. -/
def State.foMoved (s : State) (k v : Nat) : State :=
  (s.wr (REFS_FOOFS_OFFSET k) v).setFo k { s.fo k with offs := ((sx 32 v, s.bc) :: (s.fo k).offs).take 64 }

/-- Pulse `i` of pin `k` at offset `v` starts 1 µs after time `b` or later. -/
abbrev State.foAfter (s : State) (k : Nat) (i v : Int) (b : Nat) : Prop := s.foPos k (b + 1000) ≤ i * s.foPeriod k + s.foPhase k i + v * (3 * 2 ^ 36)

theorem State.foOffset_eq (s : State) (k : Nat) (i : Int) : s.foOffset k i =
    match (s.fo k).offs.find? fun q => decide (s.foAfter k i q.1 q.2) with
    | some q => q.1
    | none => (((s.fo k).offs.drop 63).head?.map (·.1)).getD 0 := rfl

section
variable {s : State} {k v : Nat}

theorem State.fo_foMoved : (s.foMoved k v).fo k = { s.fo k with offs := ((sx 32 v, s.bc) :: (s.fo k).offs).take 64 } := by
  simp [State.foMoved, State.fo, State.setFo]

/-- A field other than the offset. -/
theorem State.rd_foMoved (G : Nat → Fld) (j : Nat) (h : (G 0).no ≠ (REFS_FOOFS_OFFSET 0).no := by decide) (hG : (G j).no = (G 0).no := by rfl) :
    (s.foMoved k v).rd (G j) = s.rd (G j) := State.rd_wr_apart REFS_FOOFS_OFFSET G s k j v h rfl hG

theorem State.foPos_foMoved (t : Nat) : (s.foMoved k v).foPos k t = s.foPos k t := by
  unfold State.foPos
  rw [State.rd_foMoved REFS_FOCFG_MCLK]
  rfl

theorem State.foPeriod_foMoved : (s.foMoved k v).foPeriod k = s.foPeriod k := by
  unfold State.foPeriod State.on
  rw [State.rd_foMoved REFS_FOCFG_TYPE, State.rd_foMoved REFS_FOCFG_WRATE]

theorem State.foPhase_foMoved (i : Int) : (s.foMoved k v).foPhase k i = s.foPhase k i := by
  unfold State.foPhase
  rw [State.rd_foMoved REFS_FOCFG_ALIGN, State.fo_foMoved, State.foPeriod_foMoved]
  simp only [State.foPos_foMoved]

theorem State.foAfter_foMoved (i w : Int) (b : Nat) : (s.foMoved k v).foAfter k i w b ↔ s.foAfter k i w b := by
  unfold State.foAfter
  rw [State.foPos_foMoved, State.foPeriod_foMoved, State.foPhase_foMoved]

/-- The new offset holds from the first pulse that it puts 1 µs or more after the write. -/
theorem State.foOffset_later {i : Int} (h : s.foAfter k i (sx 32 v) s.bc) : (s.foMoved k v).foOffset k i = sx 32 v := by
  simp only [State.foOffset_eq, State.foAfter_foMoved, State.fo_foMoved, List.take_succ_cons, List.find?_cons_of_pos, decide_eq_true h]

/-- Before it the offsets of earlier writes hold on, as long as none is forgotten. -/
theorem State.foOffset_earlier {i : Int} (h : ¬ s.foAfter k i (sx 32 v) s.bc) (hl : (s.fo k).offs.length < 63) :
    (s.foMoved k v).foOffset k i = s.foOffset k i := by
  have ht : ((sx 32 v, s.bc) :: (s.fo k).offs).take 64 = (sx 32 v, s.bc) :: (s.fo k).offs := List.take_of_length_le (by simp; omega)
  simp only [State.foOffset_eq, State.foAfter_foMoved, State.fo_foMoved, ht]
  rw [List.find?_cons_of_neg (by simpa using h), List.drop_eq_nil_of_le (by simp; omega), List.drop_eq_nil_of_le (by omega)]

end

/-! ## The commands -/

section
variable {s : State} (h : s.board.held = false)
include h

theorem exec_wclkInEdge (c : Fin 2) (time : Nat) : exec (.wclkInEdge c time) s = .next (s.candEvent c.val time) :=
  congrArg Host.Outcome.next (State.live_on h _)

theorem exec_frequencyMeasurement (offs : List Int) : exec (.frequencyMeasurement offs) s = .next (s.measureAll offs) :=
  congrArg Host.Outcome.next (State.live_on h _)

theorem exec_candidateDisqualified (c : Fin 12) (cause : Fin 5) :
    exec (.candidateDisqualified c cause) s = .next (s.candDisqualified c.val cause.val) := congrArg Host.Outcome.next (State.live_on h _)

theorem exec_candidateQualified (c : Fin 12) : exec (.candidateQualified c) s = .next (s.candQualified c.val) :=
  congrArg Host.Outcome.next (State.live_on h _)

theorem exec_wtrExpiry (x : Fin 4) : exec (.wtrExpiry x) s = .next (s.wtrExpiry x.val) := congrArg Host.Outcome.next (State.live_on h _)

theorem exec_switchComplete (x : Fin 4) : exec (.switchComplete x) s = .next (s.switchComplete x.val) := congrArg Host.Outcome.next (State.live_on h _)

theorem exec_acquireLocked (x : Fin 4) : exec (.acquireLocked x) s = .next (s.acquireLocked x.val) := congrArg Host.Outcome.next (State.live_on h _)

theorem exec_holdoverAverage (x : Fin 4) (avg : Int) : exec (.holdoverAverage x avg) s = .next (s.holdAverage x.val avg) :=
  congrArg Host.Outcome.next (State.live_on h _)

theorem exec_systemDpllLoss : exec .systemDpllLoss s = .next s.sysLoss := congrArg Host.Outcome.next (State.live_on h _)

end

theorem exec_dctrlModeWrite (p : Port) (x : Fin 4) (v : Word) (s : State) :
    exec (.dctrlModeWrite p x v) s = .next (s.hostReg p row_REFS_DCTRL x.val v.toNat) := rfl

theorem exec_frameOutOffsetWrite (p : Port) (x : Fin 4) (v : Word) (s : State) :
    exec (.frameOutOffsetWrite p x v) s = .next (s.hostReg p row_REFS_FOOFS x.val v.toNat) := rfl

section
variable {s : State} {p : Port} {x : Fin 4} {v : Word}

/-- A write of a steering word, `f` being its field: within ± 100 ppm it sets a new target, beyond it is refused. -/
theorem exec_steer {i : Instr} {row : RegRow} {f : Fld} (hi : exec i s = .next (s.hostReg p row x.val v.toNat)) (hb : blockOf row.addr = 0x0E)
    (hr : ∀ t, refsHook s (s.whoOf p) row x.val v.toNat t = if steerOk v.toNat then some (t.retarget x.val) else none)
    (hw : s.wrRow row x.val v.toNat = s.wr f v.toNat) (ho : s.writeOpen p row x.val v.toNat) :
    ((sx 32 v.toNat).natAbs ≤ 6871948 → exec i s = .next (s.written p row x.val v.toNat ((s.wr f v.toNat).retarget x.val)))
      ∧ (¬ (sx 32 v.toNat).natAbs ≤ 6871948 → exec i s = .next (State.turnedAway p s)) := by
  rw [hi]
  constructor
  · intro hs
    rw [State.hostReg_refs_taken ho hb ((hr _).trans (if_pos (decide_eq_true hs))), hw]
  · intro hs
    rw [State.hostReg_refs_refused ho hb ((hr _).trans (if_neg (by simpa [steerOk] using hs)))]

theorem exec_dctrl_refused (ho : s.writeOpen p row_REFS_DCTRL x.val v.toNat) (h : 4 < bits v.toNat 0 3 ∨ 11 < bits v.toNat 4 4) :
    exec (.dctrlModeWrite p x v) s = .next (State.turnedAway p s) := by
  rw [exec_dctrlModeWrite, State.hostReg_refs_refused ho (by decide) ((refsHook_dctrl ..).trans (if_pos h))]

theorem exec_dctrl_taken (ho : s.writeOpen p row_REFS_DCTRL x.val v.toNat) (hm : bits v.toNat 0 3 ≤ 4) (hf : bits v.toNat 4 4 ≤ 11) :
    exec (.dctrlModeWrite p x v) s = .next (s.written p row_REFS_DCTRL x.val v.toNat
      (if s.pllState x.val = plSwitching then s.setPll x.val { s.pll x.val with late := (s.pll x.val).late ++ [(0, v.toNat)] }
        else (s.pllPut x.val 0 v.toNat).pllsSettle)) := by
  have hn : ¬ (4 < bits v.toNat 0 3 ∨ 11 < bits v.toNat 4 4) := by omega
  rw [exec_dctrlModeWrite, State.hostReg_refs_taken ho (by decide) ((refsHook_dctrl ..).trans ((if_neg hn).trans (apply_ite some ..).symm)),
    Nat.mod_eq_of_lt v.isLt]

end

/-- Settles O51: each command through what its own rule does, and what the selection, a switch's end and a disqualification leave in DSTAT and CSTAT. -/
theorem referencesAndDplls : Obligations.ReferencesAndDplls := by
  unfold Obligations.ReferencesAndDplls
  intro p w2 time offs c cause x avg v s k cs cd jump st active tracking applied target noted waits above reverts moved steer
  refine ⟨fun h => ⟨fun ho => ?eventOff, fun ho hj => ?jump, fun ho hj => ?event, ?measured, fun ho => ?notMonitored, fun ho hc => ?disqualified,
      fun ho => ?notYet, fun ho hq => ?qualified, fun hr => ?reverts, fun hr => ?stays, fun hs => ?noSwitch, fun hs hn => ?mode, fun hs hn hq => ?takes,
      fun hs hn hq => ?anew, fun hs => ?locks, fun hs => ?notAcquiring, fun ht => ?average, fun ht => ?noAverage, fun hl => ?loss, fun hl => ?lost⟩,
    fun i hi => State.disqualify_monitored hi (by omega), fun hp hs => ?holdover, fun b hb hp => State.select_switching hp hb, s.takeRef_shows k,
    fun b hb => State.autoBest_least hb, fun ho => ⟨exec_dctrl_refused ho, fun hm hf hs => ?dctrlWaits, fun hm hf hs => ?dctrl⟩, ?steers,
    fun ho => ⟨fun hv => ?foofsRefused, fun hv => ?foofs⟩, fun i => ⟨State.foOffset_later, State.foOffset_earlier⟩⟩
  case eventOff => rw [exec_wclkInEdge h, State.candEvent_off ho]
  case jump => rw [exec_wclkInEdge h, State.candEvent_jump ho hj]
  case event => rw [exec_wclkInEdge h, State.candEvent_taken ho hj]
  case measured =>
    exact ⟨_, exec_frequencyMeasurement h offs, fun i hi ho hc h11 => (s.offs_measureAll offs i).trans (State.offs_measures ho hc h11 offs hi)⟩
  case notMonitored => exact (exec_candidateDisqualified h ..).trans (congrArg _ (if_pos ho))
  case disqualified => exact (exec_candidateDisqualified h ..).trans (congrArg _ (if_neg (not_or.2 ⟨ho, hc⟩)))
  case notYet => exact (exec_candidateQualified h c).trans (congrArg _ (if_pos ho))
  case qualified => exact (exec_candidateQualified h c).trans (congrArg _ (if_neg (not_or.2 ⟨not_not.2 ho, Nat.not_lt.2 hq⟩)))
  case reverts => exact (exec_wtrExpiry h x).trans (congrArg _ ((s.wtrExpiry_eq k).trans (if_pos hr)))
  case stays => exact (exec_wtrExpiry h x).trans (congrArg _ ((s.wtrExpiry_eq k).trans (if_neg hr)))
  case noSwitch => exact (exec_switchComplete h x).trans (congrArg _ (if_pos hs))
  case mode => exact (exec_switchComplete h x).trans (congrArg _ (State.switchComplete_mode hs hn))
  case takes => exact (exec_switchComplete h x).trans (congrArg _ (State.switchComplete_takes hs hn hq))
  case anew => exact (exec_switchComplete h x).trans (congrArg _ (State.switchComplete_anew hs hn hq))
  case locks => exact (exec_acquireLocked h x).trans (congrArg _ (if_pos hs))
  case notAcquiring => exact (exec_acquireLocked h x).trans (congrArg _ (if_neg hs))
  case average => exact (exec_holdoverAverage h x avg).trans (congrArg _ (if_pos ht))
  case noAverage => exact (exec_holdoverAverage h x avg).trans (congrArg _ (if_neg ht))
  case loss => exact (exec_systemDpllLoss h).trans (congrArg _ (if_neg (by rw [hl]; decide)))
  case lost => exact (exec_systemDpllLoss h).trans (congrArg _ (if_pos (by rw [hl]; rfl)))
  case holdover =>
    rw [State.select_none hp hs]
    exact s.enterHoldover_shows k
  case dctrlWaits => exact (exec_dctrl_taken ho hm hf).trans (congrArg (fun t => Host.Outcome.next (s.written p _ _ _ t)) (if_pos hs))
  case dctrl => exact (exec_dctrl_taken ho hm hf).trans (congrArg (fun t => Host.Outcome.next (s.written p _ _ _ t)) (if_neg hs))
  case steers =>
    intro i row f hi ho
    simp only [List.mem_cons, Prod.mk.injEq, List.not_mem_nil, or_false] at hi
    obtain ⟨rfl, rfl, rfl⟩ | ⟨rfl, rfl, rfl⟩ := hi
    · exact exec_steer rfl (by decide) (refsHook_dfw _ _ _ _) (s.wrRow_dfw k v.isLt) ho
    · exact exec_steer rfl (by decide) (refsHook_dsteer _ _ _ _) (s.wrRow_dsteer k v.isLt) ho
  case foofsRefused => rw [exec_frameOutOffsetWrite, State.hostReg_refs_refused ho (by decide) ((refsHook_foofs ..).trans (if_pos hv))]
  case foofs =>
    rw [exec_frameOutOffsetWrite, State.hostReg_refs_taken ho (by decide) ((refsHook_foofs ..).trans (if_neg (Nat.not_lt.2 hv))), s.wrRow_foofs x.val v.isLt]

end Sys2Proof.Machine
end

section
/-! PROOFS. Pairing: roles, the join, the leash, the link and its lanes (R338 to R355). -/
namespace Sys2Proof.Machine

/-! ## Leaving a role (R341, R348) -/

@[simp] theorem State.rd_fire (s : State) (src : Nat) (g : Fld) : (s.fire src).rd g = s.rd g := by
  unfold State.fire
  split <;> rfl

@[simp] theorem State.rd_fireWaiting (s : State) (g : Fld) : s.fireWaiting.rd g = s.rd g :=
  foldl_keeps (State.rd · g) (fun t src => t.rd_fire src g) _ _

/-- Firing a source leaves of pairing all but the list of sources that wait. -/
theorem State.fire_pair (s : State) (src : Nat) : ∃ l, (s.fire src).pair = { s.pair with wait := l } := by
  unfold State.fire
  split
  · exact ⟨_, rfl⟩
  · exact ⟨s.pair.wait, rfl⟩

theorem State.fireWaiting_pair (s : State) : ∃ l, s.fireWaiting.pair = { s.pair with wait := l, joined := none, mir := [] } :=
  List.foldlRecOn (motive := fun t => ∃ l, t.pair = { s.pair with wait := l, joined := none, mir := [] }) s.pair.wait State.fire ⟨[], rfl⟩
    fun t ⟨l, ht⟩ src _ => (t.fire_pair src).imp fun m hm => by rw [hm, ht]

/-- Nothing of the former pairing is kept. -/
theorem State.leaveRole_pair (s : State) (r : Nat) : (s.leaveRole r).pair.expiry = none ∧ (s.leaveRole r).pair.renewed = none
    ∧ (s.leaveRole r).pair.joined = none ∧ (s.leaveRole r).pair.resync = [] := by
  unfold State.leaveRole
  dsimp only
  obtain ⟨l, hl⟩ := State.fireWaiting_pair (((((s.dropCopies.setRole r).wr PAIR_STAT_HSTATE hsNone).modPair
    fun x => { x with expiry := none, renewed := none }).wr PAIR_LEASH_STATE 0).wr PAIR_LEASH_LEFT 0)
  rw [hl]
  exact ⟨rfl, rfl, rfl, rfl⟩

/-- The fields that a change of role writes. -/
def roleFields : List Nat :=
  [PAIR_DIGSTAT_RESYNC.no, PAIR_COPYPEND_PAGES.no, PAIR_DIGSTAT_MISMATCH.no, PAIR_STAT_ROLE.no, PAIR_STAT_HSTATE.no, PAIR_LEASH_STATE.no, PAIR_LEASH_LEFT.no]

/-- A field that is not listed keeps its value at a write of one that is. -/
theorem State.rd_wr_member {l : List Nat} {g : Fld} (hg : g.no ∉ l) (f : Fld) (s : State) (v : Nat) (hf : f.no ∈ l := by decide) :
    (s.wr f v).rd g = s.rd g := s.rd_wr_other f g v (.inl fun e => hg (e ▸ hf))

theorem State.rd_leaveRole {g : Fld} (h : g.no ∉ roleFields) (s : State) (r : Nat) : (s.leaveRole r).rd g = s.rd g := by
  unfold State.leaveRole State.dropCopies State.setRole
  dsimp only
  rw [State.rd_fireWaiting, State.rd_wr_member h PAIR_LEASH_LEFT, State.rd_wr_member h PAIR_LEASH_STATE, State.rd_modPair,
    State.rd_wr_member h PAIR_STAT_HSTATE, State.rd_wr_member h PAIR_STAT_ROLE, State.rd_wr_member h PAIR_DIGSTAT_MISMATCH,
    State.rd_wr_member h PAIR_COPYPEND_PAGES, State.rd_wr_member h PAIR_DIGSTAT_RESYNC, State.rd_modPair]

theorem State.role_leaveRole (s : State) {r : Nat} (h : r < 8) : (s.leaveRole r).role = r := by
  unfold State.leaveRole State.setRole State.role
  dsimp only
  rw [State.rd_fireWaiting, State.rd_wr_other _ _ _ _ (.inl (by decide)), State.rd_wr_other _ _ _ _ (.inl (by decide)), State.rd_modPair,
    State.rd_wr_other _ _ _ _ (.inl (by decide)), State.rd_wr_same]
  exact Nat.mod_eq_of_lt h

theorem State.rd_joinFails {g : Fld} (h : g.no ∉ PAIR_STAT_JOINERR.no :: roleFields) (s : State) (err : Nat) : (s.joinFails err).rd g = s.rd g := by
  unfold State.joinFails
  rw [State.rd_wr_member h PAIR_STAT_JOINERR, State.rd_leaveRole fun hm => h (.tail _ hm)]

theorem State.role_joinFails (s : State) (err : Nat) : (s.joinFails err).role = roDetached :=
  (State.rd_wr_other _ _ _ _ (.inl (by decide))).trans (s.role_leaveRole (by decide))

/-! ## The lanes (R338, R339) -/

/-- Steps that each change one field of a family, its value `x` to `val x`, change those of the indices they name. -/
theorem State.rd_foldl_index {F : Nat → Fld} {f : State → Nat → State} {val : Nat → Nat} (hs : ∀ s i, (f s i).rd (F i) = val (s.rd (F i)))
    (ho : ∀ s i j, j ≠ i → (f s i).rd (F j) = s.rd (F j)) (hv : ∀ x, val (val x) = val x) (l : List Nat) (s : State) (j : Nat) :
    (l.foldl f s).rd (F j) = if j ∈ l then val (s.rd (F j)) else s.rd (F j) := by
  induction l generalizing s with
  | nil => simp
  | cons i l ih =>
    rw [List.foldl_cons, ih]
    by_cases hj : j = i
    · subst hj
      simp [hs, hv]
    · simp [ho _ _ _ hj, hj]

/-- The lanes of a link that goes down: those not retired are off. -/
def State.lanesOff (s : State) : State :=
  (List.range 5).foldl (fun (s : State) l => if s.rd (PAIR_LANE_STATE l) = laRetired then s else s.wr (PAIR_LANE_STATE l) laOff) s

theorem State.rd_lanesOff (s : State) (g : Fld) (h : g.no ≠ (PAIR_LANE_STATE 0).no) : s.lanesOff.rd g = s.rd g :=
  foldl_keeps (State.rd · g) (fun t l => by rw [apply_ite (State.rd · g), t.rd_wr_other (PAIR_LANE_STATE l) g laOff (.inl h), ite_self]) _ s

theorem State.lane_lanesOff (s : State) {k : Nat} (hk : k < 5) :
    s.lanesOff.rd (PAIR_LANE_STATE k) = if s.rd (PAIR_LANE_STATE k) = laRetired then laRetired else laOff := by
  refine (State.rd_foldl_index (F := PAIR_LANE_STATE) (val := fun x => if x = laRetired then laRetired else laOff) (fun t i => ?_) (fun t i j hj => ?_)
    (fun x => ?_) _ s k).trans (if_pos (List.mem_range.2 hk))
  · rw [apply_ite (State.rd · _), State.rd_wr_same]
    split
    · assumption
    · rfl
  · rw [apply_ite (State.rd · _), State.rd_wr_other _ _ _ _ (.inr hj), ite_self]
  · by_cases hx : x = laRetired
    · simp [hx]
    · simp only [if_neg hx]
      rfl

theorem State.rd_countLanes {g : Fld} (h : g.no ∉ [PAIR_LINKSTAT_INSVC.no, PAIR_LINKSTAT_SPAREUSED.no]) (s : State) : s.countLanes.rd g = s.rd g := by
  unfold State.countLanes
  rw [State.rd_wr_member h PAIR_LINKSTAT_SPAREUSED, State.rd_wr_member h PAIR_LINKSTAT_INSVC]

theorem State.lane_countLanes (s : State) (k : Nat) : s.countLanes.rd (PAIR_LANE_STATE k) = s.rd (PAIR_LANE_STATE k) :=
  State.rd_countLanes (g := PAIR_LANE_STATE k) (show (PAIR_LANE_STATE 0).no ∉ [PAIR_LINKSTAT_INSVC.no, PAIR_LINKSTAT_SPAREUSED.no] by decide) s

/-! ## The link goes down (R339, R415) -/

/-- A link that has gone down, before the joining heel is judged. -/
def State.linkLost (s : State) : State := ((s.lanesOff.countLanes.wr PAIR_STAT_LINK 0).wr PAIR_STAT_LINKEV 1).fence 3

theorem State.linkDown_linked {s : State} (h : s.on PAIR_STAT_LINK = true) :
    s.linkDown = if s.linkLost.role = roHeel ∧ s.linkLost.hstate < hsSynced then s.linkLost.joinFails 5 else s.linkLost :=
  if_neg (by rw [h]; decide)

theorem State.linkDown_unlinked {s : State} (h : ¬ s.on PAIR_STAT_LINK = true) : s.linkDown = s := if_pos (by simpa using h)

/-- The fields that show a lost link. -/
def linkFields : List Nat :=
  [PAIR_STAT_LINK.no, PAIR_STAT_LINKEV.no, PAIR_LINKSTAT_INSVC.no, PAIR_LINKSTAT_SPAREUSED.no, (PAIR_LANE_STATE 0).no, SYS_XRSTEV_CLASS.no, (SYS_XRSTCNT_COUNT 0).no]

theorem State.rd_linkLost (s : State) {g : Fld} (h : g.no ∉ linkFields) : s.linkLost.rd g = s.rd g := by
  simp only [linkFields, List.mem_cons, List.not_mem_nil, or_false, not_or] at h
  obtain ⟨hl, he, hi, hu, hs, hc, hn⟩ := h
  rw [State.linkLost, State.rd_fence_other _ _ _ hc hn, State.rd_wr_other _ _ _ _ (.inl he), State.rd_wr_other _ _ _ _ (.inl hl),
    State.rd_countLanes (by simp [hi, hu]), State.rd_lanesOff _ _ hs]

theorem State.lane_linkLost (s : State) {k : Nat} (hk : k < 5) :
    s.linkLost.rd (PAIR_LANE_STATE k) = if s.rd (PAIR_LANE_STATE k) = laRetired then laRetired else laOff := by
  have hn (f : Fld) (hf : (PAIR_LANE_STATE 0).no ≠ f.no) : (PAIR_LANE_STATE k).no ≠ f.no := hf
  rw [State.linkLost, State.rd_fence_other _ _ _ (hn _ (by decide)) (hn _ (by decide)), State.rd_wr_other _ _ _ _ (.inl (hn _ (by decide))),
    State.rd_wr_other _ _ _ _ (.inl (hn _ (by decide))),
    State.lane_countLanes, s.lane_lanesOff hk]

theorem State.linkLost_shows (s : State) : s.linkLost.on PAIR_STAT_LINK = false ∧ s.linkLost.on PAIR_STAT_LINKEV = true
    ∧ s.linkLost.rd (SYS_XRSTCNT_COUNT 3) = min (2 ^ 32 - 1) (s.rd (SYS_XRSTCNT_COUNT 3) + 1) := by
  unfold State.linkLost State.on
  refine ⟨?_, ?_, ?_⟩
  · rw [State.rd_fence_other _ _ _ (by decide) (by decide), State.rd_wr_other _ _ _ _ (.inl (by decide)), State.rd_wr_same]
    rfl
  · rw [State.rd_fence_other _ _ _ (by decide) (by decide), State.rd_wr_same]
    rfl
  · rw [State.fence, State.rd_incSat_same, State.rd_wr_other _ _ _ _ (.inl (by decide)), State.rd_wr_other _ _ _ _ (.inl (by decide)),
      State.rd_wr_other _ _ _ _ (.inl (by decide)), State.rd_countLanes (by decide), State.rd_lanesOff _ _ (by decide)]
    rfl

/-- What a link that goes down shows, a heel that has not yet synchronised being detached. -/
theorem State.linkDown_shows {s : State} (h : s.on PAIR_STAT_LINK = true) :
    s.linkDown.on PAIR_STAT_LINK = false ∧ s.linkDown.on PAIR_STAT_LINKEV = true ∧ s.linkDown.lanesIn = []
      ∧ s.linkDown.role = (if s.role = roHeel ∧ s.hstate < hsSynced then roDetached else s.role)
      ∧ s.linkDown.rd (SYS_XRSTCNT_COUNT 3) = min (2 ^ 32 - 1) (s.rd (SYS_XRSTCNT_COUNT 3) + 1) := by
  have hr : s.linkLost.role = s.role := s.rd_linkLost (by decide)
  have hh : s.linkLost.hstate = s.hstate := s.rd_linkLost (by decide)
  have keep {g : Fld} (hg : g.no ∉ PAIR_STAT_JOINERR.no :: roleFields) : s.linkDown.rd g = s.linkLost.rd g := by
    rw [State.linkDown_linked h, apply_ite (State.rd · g), State.rd_joinFails hg, ite_self]
  have lane (k : Nat) : s.linkDown.rd (PAIR_LANE_STATE k) = s.linkLost.rd (PAIR_LANE_STATE k) :=
    keep (show (PAIR_LANE_STATE 0).no ∉ PAIR_STAT_JOINERR.no :: roleFields by decide)
  obtain ⟨h1, h2, h3⟩ := s.linkLost_shows
  refine ⟨?_, ?_, ?_, ?_, (keep (show (SYS_XRSTCNT_COUNT 3).no ∉ _ by decide)).trans h3⟩
  · exact (congrArg (· == 1) (keep (show PAIR_STAT_LINK.no ∉ _ by decide))).trans h1
  · exact (congrArg (· == 1) (keep (show PAIR_STAT_LINKEV.no ∉ _ by decide))).trans h2
  · refine List.filter_eq_nil_iff.2 fun k hk => ?_
    rw [lane, s.lane_linkLost (List.mem_range.1 hk)]
    split <;> decide
  · rw [State.linkDown_linked h, hr, hh, apply_ite State.role, State.role_joinFails, hr]

/-! ## The link comes up (R13, R339) -/

/-- Lane `k` trains: it is good, and not retired. -/
abbrev State.laneTrains (s : State) (good k : Nat) : Prop := bit good k = true ∧ s.rd (PAIR_LANE_STATE k) ≠ laRetired

/-- Lanes 0 to 3 of a link that trains: those that do are in service. -/
def State.lanesTrained (s : State) (good : Nat) : State :=
  ((List.range 4).filter fun l => bit good l && s.rd (PAIR_LANE_STATE l) != laRetired).foldl (fun (s : State) l => s.wr (PAIR_LANE_STATE l) laIn) s

/-- The lanes of a link that trains; lane 4 is the spare unless it has replaced one. -/
def State.lanesUp (s : State) (good : Nat) : State :=
  (if bit good 4 && s.rd (PAIR_LANE_STATE 4) != laRetired then (s.lanesTrained good).wr (PAIR_LANE_STATE 4) (if s.pair.spared then laIn else laSpare)
    else s.lanesTrained good).countLanes

theorem State.linkUp_trains {s : State} (ha : s.pair.active = true) (hl : ¬ s.on PAIR_STAT_LINK = true) (good : Nat) :
    s.linkUp good = if 2 ≤ (s.lanesUp good).lanesIn.length then (s.lanesUp good).wr PAIR_STAT_LINK 1 else s := by
  unfold State.linkUp State.lanesUp
  refine (if_neg (by simp [ha, hl])).trans ?_
  rfl

section
variable (s : State) (good : Nat) {k : Nat}

theorem State.lane_lanesTrained (k : Nat) :
    (s.lanesTrained good).rd (PAIR_LANE_STATE k) = if k < 4 ∧ s.laneTrains good k then laIn else s.rd (PAIR_LANE_STATE k) := by
  refine (State.rd_foldl_index (F := PAIR_LANE_STATE) (val := fun _ => laIn) (fun t i => t.rd_wr_same (PAIR_LANE_STATE i) laIn)
    (fun t i j hj => t.rd_wr_other (PAIR_LANE_STATE i) (PAIR_LANE_STATE j) laIn (.inr hj)) (fun _ => rfl) _ s k).trans ?_
  simp only [List.mem_filter, List.mem_range, Bool.and_eq_true, bne_iff_ne]

theorem State.lane_lanesUp_own (hk : k ≠ 4) : (s.lanesUp good).rd (PAIR_LANE_STATE k) = (s.lanesTrained good).rd (PAIR_LANE_STATE k) := by
  rw [State.lanesUp, State.lane_countLanes, apply_ite (State.rd · _), State.rd_wr_other _ _ _ _ (.inr hk), ite_self]

theorem State.lane_lanesUp_in (hk : k < 4) (h : s.laneTrains good k) : (s.lanesUp good).rd (PAIR_LANE_STATE k) = laIn := by
  rw [s.lane_lanesUp_own good (Nat.ne_of_lt hk), s.lane_lanesTrained, if_pos ⟨hk, h⟩]

theorem State.lane_lanesUp_spare (h : s.laneTrains good 4) :
    (s.lanesUp good).rd (PAIR_LANE_STATE 4) = if s.pair.spared then laIn else laSpare := by
  rw [State.lanesUp, State.lane_countLanes, if_pos (by simpa using h), State.rd_wr_same]
  split <;> rfl

theorem State.lane_lanesUp_out (h : ¬ s.laneTrains good k) : (s.lanesUp good).rd (PAIR_LANE_STATE k) = s.rd (PAIR_LANE_STATE k) := by
  have ht : (s.lanesTrained good).rd (PAIR_LANE_STATE k) = s.rd (PAIR_LANE_STATE k) := by rw [s.lane_lanesTrained, if_neg fun hn => h hn.2]
  by_cases hk : k = 4
  · subst hk
    rw [State.lanesUp, State.lane_countLanes, if_neg (by simpa using h), ht]
  · rw [s.lane_lanesUp_own good hk, ht]

end

/-! ## Retirement of a lane (R339) -/

/-- Lane `l` is retired, or to be retired. -/
abbrev State.retiring (s : State) (l : Nat) : Prop := s.rd (PAIR_LANE_STATE l) = laRetired ∨ ∃ q ∈ s.pair.lanes, q.1 = l

/-- The decision at time `t` to retire lane `l`. -/
def State.laneDecided (s : State) (l t : Nat) : State := s.modPair fun x => { x with lanes := x.lanes ++ [(l, t)] }

section
variable {s : State} {l : Nat}

theorem State.laneDecide_retiring (h : s.retiring l) (own : Bool) : s.laneDecide l own = s := by
  refine if_pos ?_
  simp only [Bool.or_eq_true, beq_iff_eq, List.any_eq_true, decide_eq_true_eq, or_assoc]
  exact .inr h

theorem State.laneDecide_new (hl : l < 5) (h : ¬ s.retiring l) (own : Bool) : s.laneDecide l own =
    if own then (s.laneDecided l s.bc).tell (.lane l) else s.laneDecided l (s.bc - s.rd PAIR_LINKSTAT_DELAY) := by
  refine (if_neg ?_).trans ?_
  · simp only [Bool.or_eq_true, beq_iff_eq, List.any_eq_true, decide_eq_true_eq, or_assoc, not_or]
    exact ⟨Nat.not_le.2 hl, not_or.1 h⟩
  · cases own <;> rfl

/-- The invalid headers of the last second, `hdrs` more of lane `l` among them. -/
def State.headers (s : State) (l hdrs : Nat) : List (Nat × Nat × Nat) :=
  (l, s.bc, hdrs) :: s.pair.hdrs.filter fun q => decide (s.bc < q.2.1 + 1000000000)

/-- Lane `l` with `hdrs` more invalid headers counted. -/
def State.headersCounted (s : State) (l hdrs : Nat) : State :=
  (s.incSat (PAIR_LANE_BLKERR l) hdrs).modPair fun x => { x with hdrs := s.headers l hdrs }

/-- The lane has lost block lock, or shows too many invalid headers. -/
abbrev State.laneWorn (s : State) (l : Nat) (hdrs : Option Nat) : Prop :=
  hdrs = none ∨ 64 < ((s.headers l (hdrs.getD 0)).filter fun q => q.1 == l).foldl (fun a q => a + q.2.2) 0

theorem State.laneRetire_eq (hdrs : Option Nat) : s.laneRetire l hdrs =
    if s.laneWorn l hdrs then (s.headersCounted l (hdrs.getD 0)).laneDecide l true else s.headersCounted l (hdrs.getD 0) := by
  unfold State.laneRetire
  simp only [Bool.or_eq_true, Option.isNone_iff_eq_none, decide_eq_true_eq]
  rfl

end

/-! ## Writes of PAIR.CMD and LANECMD (R339, R348, R355) -/

theorem regHooks_pair {r : RegRow} (h : blockOf r.addr = 0x14) (s : State) (w : Who) (i v : Nat) (t : State) :
    regHooks s w r i v t = pairHook.full s w r i v t := by simp only [regHooks, h]

theorem pairHook_cmd (s : State) (w : Who) (i v : Nat) (t : State) :
    pairHook s w row_PAIR_CMD i v t = some (if w.q = warden then t.pairCmd (bits v 0 3) else t) := by
  simp [pairHook, row_PAIR_CMD]

theorem pairHook_laneGo (s : State) (w : Who) (i : Nat) {v : Nat} (hv : bit v 31 = true) (t : State) :
    pairHook s w row_PAIR_LANECMD i v t = some (if (t.laneDecide (bits v 0 3) true).pair.lanes.any fun q => q.1 == bits v 0 3
      then t.laneDecide (bits v 0 3) true else (t.laneDecide (bits v 0 3) true).wr PAIR_LANECMD_GO 0) := by
  simp [pairHook, row_PAIR_LANECMD, hv]

theorem State.role_wrRow_pairCmd (s : State) (v : Nat) : (s.wrRow row_PAIR_CMD 0 v).role = s.role :=
  State.rd_wr_other _ _ _ _ (.inl (by decide))

theorem State.pairCmd_lead (t : State) : t.pairCmd 1 =
    if t.role = roDetached ∨ t.role = roSolo then (t.leaveRole roLead).modPair fun x => { x with active := true } else t := rfl

theorem State.pairCmd_join (t : State) : t.pairCmd 2 = if t.role = roDetached ∨ t.role = roFenced then
    (((t.leaveRole roHeel).wr PAIR_STAT_HSTATE hsLink).wr PAIR_STAT_JOINERR 0).modPair fun x => { x with active := true } else t := rfl

section
variable {s : State} {p : Port} {op : Nat}

/-- A command that PAIR.CMD takes, `op` being one of those of R355. -/
theorem State.hostReg_pairCmd (hop : op < 8) (h : s.writeOpen p row_PAIR_CMD 0 op) : s.hostReg p row_PAIR_CMD 0 op =
    s.written p row_PAIR_CMD 0 op (if (s.whoOf p).q = warden then (s.wrRow row_PAIR_CMD 0 op).pairCmd op else s.wrRow row_PAIR_CMD 0 op) := by
  have hb : bits op 0 3 = op := by rw [bits]; omega
  rw [State.hostReg_rule h (by decide) (regHooks_pair (by decide)), pairHook_cmd, hb, Option.elim_some]

/-- The state in which a value written to LANECMD is judged. -/
def State.laneNamed (s : State) (v : Nat) : State := s.wrRow row_PAIR_LANECMD 0 v

theorem State.laneNamed_eq (s : State) (v : Nat) : s.laneNamed v = (s.wr PAIR_LANECMD_LANE (bits v 0 3)).wr PAIR_LANECMD_GO (bits v 31 1) := rfl

theorem State.laneNamed_pair (s : State) (v : Nat) : (s.laneNamed v).pair = s.pair := rfl

theorem State.lane_laneNamed (s : State) (v k : Nat) : (s.laneNamed v).rd (PAIR_LANE_STATE k) = s.rd (PAIR_LANE_STATE k) := by
  have hk (f : Fld) (hf : (PAIR_LANE_STATE 0).no ≠ f.no) : (PAIR_LANE_STATE k).no ≠ f.no := hf
  rw [State.laneNamed_eq, State.rd_wr_other _ _ _ _ (.inl (hk _ (by decide))), State.rd_wr_other _ _ _ _ (.inl (hk _ (by decide)))]

theorem State.retiring_laneNamed (s : State) (v k : Nat) : (s.laneNamed v).retiring k ↔ s.retiring k := by
  unfold State.retiring
  rw [State.lane_laneNamed, State.laneNamed_pair]

/-- A value of LANECMD names lane `l` with GO. -/
structure LaneGo (v l : Nat) : Prop where
  lane : bits v 0 3 = l
  go : bit v 31 = true
  five : l < 5

theorem laneGo_go (l : Fin 5) : LaneGo (l.val + 2147483648) l.val where
  lane := by rw [bits]; omega
  go := by
    have hb : bits (l.val + 2147483648) 31 1 = 1 := by rw [bits]; omega
    rw [bit, hb]
    rfl
  five := l.isLt

variable {v l : Nat} (h : s.writeOpen p row_PAIR_LANECMD 0 v) (hv : LaneGo v l)
include h hv

theorem State.hostReg_laneGo : s.hostReg p row_PAIR_LANECMD 0 v = s.written p row_PAIR_LANECMD 0 v
    (if ((s.laneNamed v).laneDecide l true).pair.lanes.any fun q => q.1 == l then (s.laneNamed v).laneDecide l true
      else ((s.laneNamed v).laneDecide l true).wr PAIR_LANECMD_GO 0) := by
  obtain ⟨rfl, hg, -⟩ := hv
  rw [State.hostReg_rule h (by decide) (regHooks_pair (by decide)), pairHook_laneGo _ _ _ hg, Option.elim_some]
  rfl

/-- A retirement by the host is decided and announced. -/
theorem State.hostReg_laneGo_new (hn : ¬ (s.laneNamed v).retiring l) : s.hostReg p row_PAIR_LANECMD 0 v =
    s.written p row_PAIR_LANECMD 0 v (((s.laneNamed v).laneDecided l s.bc).tell (.lane l)) := by
  have hd : (s.laneNamed v).laneDecide l true = ((s.laneNamed v).laneDecided l s.bc).tell (.lane l) := State.laneDecide_new hv.five hn true
  rw [State.hostReg_laneGo h hv, hd, if_pos]
  exact List.any_eq_true.2 ⟨(l, s.bc), List.mem_append_right _ (List.mem_singleton.2 rfl), beq_self_eq_true _⟩

/-- One that is retired, or to be retired, is not decided again; GO stays where it waits. -/
theorem State.hostReg_laneGo_retiring (hn : s.retiring l) : s.hostReg p row_PAIR_LANECMD 0 v =
    s.written p row_PAIR_LANECMD 0 v (if ∃ q ∈ s.pair.lanes, q.1 = l then s.laneNamed v else (s.laneNamed v).wr PAIR_LANECMD_GO 0) := by
  rw [State.hostReg_laneGo h hv, State.laneDecide_retiring ((State.retiring_laneNamed ..).2 hn), State.laneNamed_pair]
  simp only [List.any_eq_true, beq_iff_eq]

end

/-! ## The downbeat marker and the echo (R276, R340) -/

theorem clampS_clampS (w : Nat) (x : Int) : clampS w (clampS w x) = clampS w x := by
  unfold clampS
  generalize hp : ((2 ^ (w - 1) : Nat) : Int) = q
  have hq : 0 ≤ q := hp ▸ Int.natCast_nonneg _
  omega

/-- The phase error of an aligned reference, within 32 bits: DPHERR shows it, and ALIGNED whether LOCKED holds it within 20 ns. -/
theorem State.alignedSeen_shows (s : State) {e : Int} (he : clampS 32 e = e) : (s.alignedSeen e).rd (REFS_DPHERR_NS 0) = ux 32 e
    ∧ (s.alignedSeen e).on (REFS_DSTAT_ALIGNED 0) = decide (s.pllState 0 = plLocked ∧ e.natAbs ≤ 20) := by
  have hs : (s.phaseSeen 0 e).pllState 0 = s.pllState 0 := by
    unfold State.phaseSeen State.pllState
    dsimp only
    rw [State.rd_retarget_apart REFS_DSTAT_STATE]
    exact State.rd_wr_apart REFS_DPHERR_NS REFS_DSTAT_STATE ..
  unfold State.alignedSeen State.on
  dsimp only
  constructor
  · rw [State.rd_wr_apart REFS_DSTAT_ALIGNED REFS_DPHERR_NS]
    unfold State.phaseSeen
    dsimp only
    rw [State.rd_retarget_apart REFS_DPHERR_NS, State.rd_setPll, he]
    exact (State.rd_wr_same ..).trans (Nat.mod_eq_of_lt (ux_lt 32 e))
  · have hb (b : Bool) : (b2n b % 2 ^ 1 == 1) = b := by cases b <;> rfl
    rw [State.rd_wr_same, hs, Bool.decide_and]
    exact hb _

theorem State.runsOn_iff (s : State) (x c : Nat) : s.runsOn x c = true ↔ s.tracks x ∧ s.rd (REFS_DSTAT_ACTIVE x) = c := by
  simp only [State.runsOn, Bool.and_eq_true, Bool.or_eq_true, beq_iff_eq]

/-- The own echo that returns is one of the last 64. -/
theorem State.echo_rtts {s : State} (h : s.on PAIR_STAT_LINK = true) (z : Nat) : (s.echo (some z)).pair.rtts = (z :: s.pair.rtts).take 64 := by
  unfold State.echo
  rw [if_neg (by rw [h]; decide)]
  dsimp only
  split <;> rfl

/-! ## The commands -/

section
variable {s : State} (h : s.board.held = false)
include h

theorem exec_joinCheck (n skew : Nat) (lead : Bool) (conf : List DWord) :
    exec (.joinCheck n skew lead conf) s = .next (s.joinCheck n skew lead (conf.map BitVec.toNat)) := congrArg Host.Outcome.next (State.live_on h _)

theorem exec_leash (n : Nat) : exec (.leash n) s = .next (s.leash n) := congrArg Host.Outcome.next (State.live_on h _)

theorem exec_leashAck (n : Nat) : exec (.leashAck n) s = .next (s.leashAck n) := congrArg Host.Outcome.next (State.live_on h _)

theorem exec_downbeatMarker (time : Nat) : exec (.downbeatMarker time) s = .next (s.markerEvent time) := congrArg Host.Outcome.next (State.live_on h _)

theorem exec_echo (rtt : Option Nat) : exec (.echo rtt) s = .next (s.echo rtt) := congrArg Host.Outcome.next (State.live_on h _)

theorem exec_flitReplay : exec .flitReplay s = .next s.flitReplay := congrArg Host.Outcome.next (State.live_on h _)

theorem exec_linkDown : exec .linkDown s = .next (s.refsFollow s.linkDown) := congrArg Host.Outcome.next (State.live_on h _)

theorem exec_linkUp (good : BitVec 5) : exec (.linkUp good) s = .next (s.refsFollow (s.linkUp good.toNat)) :=
  congrArg Host.Outcome.next (State.live_on h _)

theorem exec_laneRetire (l : Fin 5) (hdrs : Option Nat) : exec (.laneRetire l hdrs) s = .next (s.laneRetire l.val hdrs) :=
  congrArg Host.Outcome.next (State.live_on h _)

theorem exec_laneRetirementFlit (l : Fin 5) : exec (.laneRetirementFlit l) s = .next (s.laneFlit l.val) := congrArg Host.Outcome.next (State.live_on h _)

theorem exec_peerHeartbeatLoss : exec .peerHeartbeatLoss s = .next (s.wr PAIR_STAT_PEERHB 0) := congrArg Host.Outcome.next (State.live_on h _)

theorem exec_peerHeartbeatReturn : exec .peerHeartbeatReturn s = .next (s.wr PAIR_STAT_PEERHB 1) := congrArg Host.Outcome.next (State.live_on h _)

/-- Without a link nothing of it arrives. -/
theorem exec_unlinked (hl : ¬ s.on PAIR_STAT_LINK = true) {rtt : Option Nat} {l : Fin 5} {c : Instr}
    (hc : c ∈ [Instr.linkDown, .flitReplay, .echo rtt, .laneRetirementFlit l]) : exec c s = .next s := by
  simp only [List.mem_cons, List.not_mem_nil, or_false] at hc
  obtain rfl | rfl | rfl | rfl := hc
  · rw [exec_linkDown h, State.linkDown_unlinked hl, s.refsFollow_self]
  · exact (exec_flitReplay h).trans (congrArg _ (if_neg hl))
  · exact (exec_echo h rtt).trans (congrArg _ (if_pos (by simpa using hl)))
  · exact (exec_laneRetirementFlit h l).trans (congrArg _ (if_neg hl))

/-- A joining heel in the given step of its join. -/
theorem exec_joinCheck_link {n skew : Nat} {lead : Bool} {conf : List DWord} (hr : s.role = roHeel) (hs : s.hstate = hsLink) :
    exec (.joinCheck n skew lead conf) s = .next
      (if s.on PAIR_STAT_LINK = true ∧ 4 ≤ s.lanesIn.length ∧ s.rd PAIR_LINKSTAT_DELAY ≤ 5000 then s.wr PAIR_STAT_HSTATE hsCheck else s.joinFails 1) := by
  rw [exec_joinCheck h]
  refine congrArg _ ((if_neg (not_not.2 hr)).trans ((if_pos hs).trans ?_))
  simp only [Bool.and_eq_true, decide_eq_true_eq, and_assoc]

theorem exec_joinCheck_check {n skew : Nat} {lead : Bool} {conf : List DWord} (hr : s.role = roHeel) (hs : s.hstate = hsCheck) :
    exec (.joinCheck n skew lead conf) s = .next
      (if n ≠ s.frame ∨ 1000 < skew then s.joinFails 2 else if !lead then s.joinFails 4
        else if conf.map BitVec.toNat ≠ s.confCrcs then s.joinFails 3 else s.wr PAIR_STAT_HSTATE hsCopy) := by
  rw [exec_joinCheck h]
  exact congrArg _ ((if_neg (not_not.2 hr)).trans ((if_neg (by rw [hs]; decide)).trans (if_pos hs)))

end

theorem exec_lanecmdGo (p : Port) (l : Fin 5) (s : State) :
    exec (.lanecmdGo p l) s = .next (s.hostReg p row_PAIR_LANECMD 0 (l.val + 2147483648)) := rfl

/-- The commands of PAIR.CMD write their operation. -/
theorem exec_pairCmd {p : Port} {c : Instr} {op : Nat} (hc : (c, op) ∈ [(Instr.pairLead p, 1), (.pairJoin p, 2), (.pairDetach p, 3), (.pairSolo p, 4)])
    {s : State} (h : s.writeOpen p row_PAIR_CMD 0 op) : exec c s = .next (s.written p row_PAIR_CMD 0 op
      (if (s.whoOf p).q = warden then (s.wrRow row_PAIR_CMD 0 op).pairCmd op else s.wrRow row_PAIR_CMD 0 op)) := by
  simp only [List.mem_cons, Prod.mk.injEq, List.not_mem_nil, or_false] at hc
  obtain ⟨rfl, rfl⟩ | ⟨rfl, rfl⟩ | ⟨rfl, rfl⟩ | ⟨rfl, rfl⟩ := hc <;> exact congrArg _ (State.hostReg_pairCmd (by decide) h)

/-- Settles O48: the register's rule for each command of PAIR.CMD and LANECMD, then each message and event of the link by its own rule. -/
theorem pairRolesAndLink : Obligations.PairRolesAndLink := by
  unfold Obligations.PairRolesAndLink
  intro p n skew time hdrs lead conf rtt good l s role cmd u heel check same byWarden st linked retiring decide_ recent counted worn trains go g
  refine ⟨fun c op hc ho => ⟨fun hop hw hr => ?leads, fun hop hr hr' => ?leadStays, fun hw => ?stranger, fun hop hw hr => ?joins,
      fun hop hr hr' => ?joinStays, fun hop hw => ?detaches, fun hop hw => ?solo⟩, fun r _ => s.leaveRole_pair r,
    fun h => ⟨fun hr => ?idle, fun hr hs hl hn hd => ?linkGood, fun hr hs hn => ?linkBad, fun hr hs hn => ?marker, fun hr hs hn hk hl => ?notLead,
      fun hr hs hn hk hl hc => ?differs, fun hr hs hn hk hl hc => ?passes, fun hr => ?leashHeel, fun hr => ?leashLead, fun hr hr' => ?leashNone,
      fun hr hn hb => ?renewed, fun hn => ?notRenewed, ⟨fun ht => ?noFollow, fun ht => ?follows⟩, exec_peerHeartbeatLoss h, exec_peerHeartbeatReturn h,
      fun hl c hc => exec_unlinked h hl hc, fun hl => ⟨?replay, ?echoPeer, fun z => ?echoOwn⟩, fun hl => ⟨_, exec_linkDown h, State.linkDown_shows hl⟩,
      fun hl => ?notUp, fun hl ha => ?up, fun hw hn => ?wears, fun hn => ?counts, fun hl hn => ?peerLane, fun hn => ?laneGone⟩,
    fun ho hn => ?goDecides, fun ho hr hn => ?goRetired, fun ho hm => ?goWaits⟩
  case leads =>
    subst hop
    rw [exec_pairCmd hc ho, if_pos hw, State.pairCmd_lead, State.role_wrRow_pairCmd, if_pos hr]
  case leadStays =>
    subst hop
    rw [exec_pairCmd hc ho, State.pairCmd_lead, State.role_wrRow_pairCmd, if_neg (not_or.2 ⟨hr, hr'⟩), ite_self]
  case stranger => rw [exec_pairCmd hc ho, if_neg hw]
  case joins =>
    subst hop
    rw [exec_pairCmd hc ho, if_pos hw, State.pairCmd_join, State.role_wrRow_pairCmd, if_pos hr]
  case joinStays =>
    subst hop
    rw [exec_pairCmd hc ho, State.pairCmd_join, State.role_wrRow_pairCmd, if_neg (not_or.2 ⟨hr, hr'⟩), ite_self]
  case detaches =>
    subst hop
    rw [exec_pairCmd hc ho, if_pos hw]
    rfl
  case solo =>
    subst hop
    rw [exec_pairCmd hc ho, if_pos hw]
    rfl
  case idle =>
    refine (exec_joinCheck h ..).trans (congrArg _ ?_)
    by_cases hh : heel
    · obtain ⟨h1, h2⟩ := hr.resolve_left (not_not.2 hh)
      exact (if_neg (not_not.2 hh)).trans ((if_neg h1).trans (if_neg h2))
    · exact if_pos hh
  case linkGood => exact (exec_joinCheck_link h hr hs).trans (congrArg _ (if_pos ⟨hl, hn, hd⟩))
  case linkBad => exact (exec_joinCheck_link h hr hs).trans (congrArg _ (if_neg hn))
  case marker => exact (exec_joinCheck_check h hr hs).trans (congrArg _ (if_pos hn))
  case notLead =>
    have hm : ¬ (n ≠ s.frame ∨ 1000 < skew) := by omega
    exact (exec_joinCheck_check h hr hs).trans (congrArg _ ((if_neg hm).trans (if_pos (congrArg not hl))))
  case differs =>
    have hm : ¬ (n ≠ s.frame ∨ 1000 < skew) := by omega
    subst hl
    exact (exec_joinCheck_check h hr hs).trans (congrArg _ ((if_neg hm).trans ((if_neg (by decide)).trans (if_pos hc))))
  case passes =>
    have hm : ¬ (n ≠ s.frame ∨ 1000 < skew) := by omega
    subst hl
    exact (exec_joinCheck_check h hr hs).trans (congrArg _ ((if_neg hm).trans ((if_neg (by decide)).trans (if_neg (not_not.2 hc)))))
  case leashHeel => exact (exec_leash h n).trans (congrArg _ (if_pos hr))
  case leashLead => exact (exec_leash h n).trans (congrArg _ ((if_neg fun he => absurd (hr.symm.trans he) (by decide)).trans (if_pos hr)))
  case leashNone => exact (exec_leash h n).trans (congrArg _ ((if_neg hr).trans (if_neg hr')))
  case renewed => exact (exec_leashAck h n).trans (congrArg _ (if_pos ⟨hr, hn, hb⟩))
  case notRenewed =>
    refine (exec_leashAck h n).trans (congrArg _ (if_neg ?_))
    rintro ⟨hr, hf, hb⟩
    exact hn.elim (· hr) fun hn => hn.elim (· hf) (Nat.not_lt.2 hb)
  case noFollow => exact (exec_downbeatMarker h time).trans (congrArg _ (if_neg fun hr => ht ((State.runsOn_iff ..).1 hr)))
  case follows =>
    exact ⟨_, (exec_downbeatMarker h time).trans (congrArg _ (if_pos ((State.runsOn_iff ..).2 ht))), State.alignedSeen_shows _ (clampS_clampS ..)⟩
  case replay => exact (exec_flitReplay h).trans (congrArg _ (if_pos hl))
  case echoPeer => exact (exec_echo h none).trans (congrArg _ (if_neg (hl.symm ▸ by decide)))
  case echoOwn => exact ⟨_, exec_echo h (some z), State.echo_rtts hl z⟩
  case notUp =>
    have hn : s.linkUp good.toNat = s := if_pos (by obtain hl | ha := hl <;> simp_all [linked])
    rw [exec_linkUp h, hn, s.refsFollow_self]
  case up =>
    refine ⟨s.lanesUp good.toNat, ?_, fun k hk ht => s.lane_lanesUp_in good.toNat hk ht, fun ht => s.lane_lanesUp_spare good.toNat ht,
      fun k _ ht => s.lane_lanesUp_out good.toNat ht⟩
    rw [exec_linkUp h, State.linkUp_trains ha hl]
    split
    · rfl
    · rw [s.refsFollow_self]
  case wears =>
    refine (exec_laneRetire h l hdrs).trans (congrArg _ ((State.laneRetire_eq hdrs).trans ((if_pos hw).trans ?_)))
    exact (State.laneDecide_new l.isLt hn true).trans (if_pos rfl)
  case counts =>
    refine (exec_laneRetire h l hdrs).trans (congrArg _ ((State.laneRetire_eq hdrs).trans ?_))
    by_cases hw : worn
    · exact (if_pos hw).trans (State.laneDecide_retiring (hn.resolve_left (not_not.2 hw)) true)
    · exact if_neg hw
  case peerLane =>
    exact (exec_laneRetirementFlit h l).trans (congrArg _ ((if_pos hl).trans ((State.laneDecide_new l.isLt hn false).trans (if_neg (by decide)))))
  case laneGone =>
    refine (exec_laneRetirementFlit h l).trans (congrArg _ ?_)
    exact (congrArg (ite _ · s) (State.laneDecide_retiring hn false)).trans (ite_self s)
  case goDecides => exact (exec_lanecmdGo p l s).trans (congrArg _ (State.hostReg_laneGo_new ho (laneGo_go l) hn))
  case goRetired =>
    have hm : ¬ ∃ q ∈ s.pair.lanes, q.1 = l.val := by simp [hn]
    exact (exec_lanecmdGo p l s).trans (congrArg _ ((State.hostReg_laneGo_retiring ho (laneGo_go l) (.inl hr)).trans (congrArg _ (if_neg hm))))
  case goWaits =>
    exact (exec_lanecmdGo p l s).trans (congrArg _ ((State.hostReg_laneGo_retiring ho (laneGo_go l) (.inr hm)).trans (congrArg _ (if_pos hm))))

end Sys2Proof.Machine
end

section
/-! PROOFS. Pairing: digests, mirrored commands and samples, page copies (R343 to R348). -/
namespace Sys2Proof.Machine

/-! ## What a record and a mirrored sample leave of pairing -/

theorem unreached_pair : Unreached State.pair := ⟨fun _ _ _ _ => rfl, fun _ _ _ _ _ _ _ _ _ _ => rfl⟩

theorem unreached_disp : Unreached State.disp := ⟨fun _ _ _ _ => rfl, fun _ _ _ _ _ _ _ _ _ _ => rfl⟩

/-- A sample is written to the endpoints' memory, or to that of the network channels. -/
theorem State.setSmp_keeps {β : Type} {g : State → β} (h : Unreached g) (hr : ∀ (s : State) r, g { s with route := r } = g s) (s : State) (e m i v : Nat) :
    g (s.setSmp e m i v) = g s := by
  unfold State.setSmp
  split
  · exact h.engineWrite ..
  · exact hr s _

/-- The samples of a block of endpoint `e` for frame `m`. -/
def State.putBlock (s : State) (e m : Nat) (vals : List Nat) : State := vals.zipIdx.foldl (fun (s : State) q => s.setSmp e m q.2 q.1) s

theorem State.putBlock_keeps {β : Type} {g : State → β} (h : Unreached g) (hr : ∀ (s : State) r, g { s with route := r } = g s) (s : State) (e m : Nat)
    (vals : List Nat) : g (s.putBlock e m vals) = g s := by
  unfold State.putBlock
  refine foldl_keeps g (fun t q => ?_) _ s
  exact t.setSmp_keeps h hr e m q.2 q.1

theorem State.putBlock_pair (s : State) (e m : Nat) (vals : List Nat) : (s.putBlock e m vals).pair = s.pair :=
  s.putBlock_keeps (g := State.pair) unreached_pair (fun _ _ => rfl) e m vals

theorem State.putBlock_disp (s : State) (e m : Nat) (vals : List Nat) : (s.putBlock e m vals).disp = s.disp :=
  s.putBlock_keeps (g := State.disp) unreached_disp (fun _ _ => rfl) e m vals

/-! ## Seal markers (R344) -/

/-- A source that waits on this heel. -/
abbrev State.awaits (s : State) (src : Nat) : Prop := s.role = roHeel ∧ src ∈ s.pair.wait

/-- A source that no longer waits, its mirrored samples gone. -/
def State.unwait (s : State) (src : Nat) : State :=
  s.modPair fun x => { x with wait := x.wait.erase src, mir := x.mir.filter fun b => b.src != src }

/-- A source that waited fires. -/
def State.firesMirrored (s : State) (src : Nat) : State :=
  { s.unwait src with disp := { s.disp with fired := s.disp.fired ++ [src] } }

section
variable {s : State} {src m : Nat}

theorem State.awaits_iff : ¬ s.awaits src ↔ s.role ≠ roHeel ∨ (!s.pair.wait.contains src) = true := by
  simp only [State.awaits, not_and_or, Bool.not_eq_true', ← Bool.not_eq_true, List.contains_iff_mem, ne_eq]

theorem State.sealMarker_none (h : ¬ s.awaits src) : s.sealMarker src m = s := if_pos (State.awaits_iff.1 h)

theorem State.mirrorTimeout_none (h : ¬ s.awaits src) : s.mirrorTimeout src = s := if_pos (State.awaits_iff.1 h)

theorem State.mirrorTimeout_awaits (h : s.awaits src) :
    s.mirrorTimeout src = ((s.firesMirrored src).incSat PAIR_MIRSTAT_LATE 1).emitRated 1000000000 (mkRec cCorrected 0 0x0007 uSource src []) :=
  if_neg fun hn => State.awaits_iff.2 hn h

/-- The samples that came for the frame take the place of the own ones, and the source fires. -/
theorem State.sealMarker_awaits (h : s.awaits src) : s.sealMarker src m =
    ((s.pair.mir.filter fun b => b.src == src && b.m == m).foldl (fun (s : State) b => s.putBlock b.e m b.vals) s).firesMirrored src :=
  if_neg fun hn => State.awaits_iff.2 hn h

theorem State.sealMarker_empty (h : s.awaits src) (hm : s.pair.mir = []) : s.sealMarker src m = s.firesMirrored src := by
  rw [State.sealMarker_awaits h, hm]
  rfl

/-- One block that came is put in its place. -/
theorem State.sealMarker_one (h : s.awaits src) {e : Nat} {vals : List Nat} (hm : s.pair.mir = [⟨src, e, m, vals⟩]) : s.sealMarker src m =
    { s.putBlock e m vals with pair := { s.pair with wait := s.pair.wait.erase src, mir := [] }, disp := { s.disp with fired := s.disp.fired ++ [src] } } := by
  have hf : s.pair.mir.filter (fun b => b.src != src) = [] := by rw [hm, List.filter_cons_of_neg (by simp), List.filter_nil]
  rw [State.sealMarker_awaits h, hm, List.filter_cons_of_pos (by simp), List.filter_nil, List.foldl_cons, List.foldl_nil]
  simp only [State.firesMirrored, State.unwait, State.modPair, State.putBlock_pair, State.putBlock_disp, hf]

end

/-! ## Clusters in RESYNC (R346) -/

/-- The fields that follow the clusters in RESYNC. -/
def resyncFields : List Nat := [PAIR_DIGSTAT_RESYNC.no, PAIR_COPYPEND_PAGES.no, PAIR_STAT_HSTATE.no]

theorem State.rd_countResync {g : Fld} (h : g.no ∉ resyncFields) (s : State) : s.countResync.rd g = s.rd g := by
  unfold State.countResync
  dsimp only
  rw [apply_ite (State.rd · g), apply_ite (State.rd · g), State.rd_wr_member h PAIR_STAT_HSTATE, State.rd_wr_member h PAIR_STAT_HSTATE, ite_self, ite_self,
    State.rd_wr_member h PAIR_COPYPEND_PAGES, State.rd_wr_member h PAIR_DIGSTAT_RESYNC]

@[simp] theorem State.countResync_pair (s : State) : s.countResync.pair = s.pair := by
  unfold State.countResync
  dsimp only
  split
  · rfl
  · split <;> rfl

/-! ## Digests (R345, R346) -/

/-- The peer's digests are shown. -/
def State.digShown (s : State) (crcs : List Nat) : State :=
  crcs.zipIdx.foldl (fun (s : State) q => (s.wr (PAIR_DIGPEERL_CRC q.2) q.1).wr (PAIR_DIGPEERH_CRC q.2) (q.1 / 2 ^ 32)) s

theorem State.rd_digShown {g : Fld} (h : g.no ∉ [(PAIR_DIGPEERL_CRC 0).no, (PAIR_DIGPEERH_CRC 0).no]) (s : State) (crcs : List Nat) :
    (s.digShown crcs).rd g = s.rd g :=
  foldl_keeps (State.rd · g) (fun t q => by rw [State.rd_wr_listed h PAIR_DIGPEERH_CRC, State.rd_wr_listed h PAIR_DIGPEERL_CRC]) _ s

@[simp] theorem State.digShown_pair (s : State) (crcs : List Nat) : (s.digShown crcs).pair = s.pair := by
  exact foldl_keeps State.pair (fun t q => show ((t.wr _ _).wr _ _).pair = t.pair from rfl) _ s

theorem State.role_digShown (s : State) (crcs : List Nat) : (s.digShown crcs).role = s.role := State.rd_digShown (by decide) s crcs

/-- The clusters whose digests differ. -/
def State.digBad (s : State) (crcs : List Nat) : List Nat := (List.range 16).filter fun x => crcs.getD x 0 != (s.digShown crcs).digOwn x

/-- The lead answers the clusters that differ. -/
def State.digAnswered (s : State) (bad : List Nat) : State :=
  bad.foldl (fun (s : State) x => s.tell (.crcList x ((tget [] s.pair.sets x).map fun q => (q, crc32 ((s.pageBytes x q).map (·.toNat)))))) s

/-- The heel marks and counts the clusters that differ, and ages those in RESYNC. -/
def State.digCounted (s : State) (bad : List Nat) : State :=
  let t := (s.wr PAIR_DIGSTAT_MISMATCH (bad.foldl (fun b x => b + 2 ^ x) 0)).inc PAIR_DIGCNT_COUNT bad.length
  let t := if bad.isEmpty then t else t.wr PAIR_STAT_MISEV 1
  let keep := t.pair.resync.filter fun q => bad.contains q.1 || !q.2.2.isEmpty
  t.modPair fun x => { x with resync := keep.map fun q => (q.1, q.2.1 + 1, q.2.2), agree := if bad.isEmpty then x.agree + 1 else 0 }

/-- Clusters that have been in RESYNC for 3,000 frames are reported. -/
def State.digReported (s : State) : State :=
  (s.pair.resync.filter fun q => q.2.1 == 3000).foldl (fun (s : State) q => s.emit (mkRec cDegraded 0 0x0018 uCluster q.1 [])) s

/-- Clusters enter RESYNC, each with its record. -/
def State.digEntered (s : State) (l : List Nat) : State :=
  l.foldl (fun (s : State) c => (s.modPair fun x => { x with resync := x.resync ++ [(c, 0, [])] }).emit (mkRec cCorrected 0 0x0008 uCluster c [])) s

/-- The clusters that differ and are not in RESYNC. -/
def State.digNew (s : State) (bad : List Nat) : List Nat := bad.filter fun c => !(s.pair.resync.any fun q => q.1 == c)

/-- A heel whose digests have agreed for a sweep is synchronised. -/
def State.digSynced (s : State) (n : Nat) : State :=
  let since := match s.pair.joined with | some e => n + 1 - e | none => 0
  (if s.hstate = hsSyncing ∧ s.sweepPass ≤ s.pair.agree ∧ s.longestLine ≤ since * s.fs then s.wr PAIR_STAT_HSTATE hsSynced else s).countResync

/-- What a joined heel makes of the peer's digests. -/
def State.digJudged (s : State) (n : Nat) (bad : List Nat) : State :=
  let t := (s.digCounted bad).digReported
  (t.digEntered (t.digNew bad)).digSynced n

/-- A heel that has joined. -/
abbrev State.heelJoined (s : State) : Prop := s.role = roHeel ∧ s.pair.joined.isSome = true

section
variable {s : State} {n : Nat} {crcs : List Nat}

theorem State.peerDigests_idle (h : ¬ s.on PAIR_STAT_LINK = true ∨ n < s.pair.setsN) : s.peerDigests n crcs = s := by
  refine (if_neg ?_).trans (if_pos ?_)
  · simp only [Bool.and_eq_true, decide_eq_true_eq, not_and_or]
    exact h.imp_right fun hn => by omega
  · simp only [Bool.or_eq_true, Bool.not_eq_true', ← Bool.not_eq_true, bne_iff_ne]
    exact h.imp_right fun hn => by omega

theorem State.peerDigests_early (hl : s.on PAIR_STAT_LINK = true) (hn : s.pair.setsN < n) :
    s.peerDigests n crcs = s.modPair fun x => { x with early := some (n, crcs) } := if_pos (by simp [hl, hn])

/-- Digests for the frame of the own set are compared. -/
theorem State.peerDigests_compared (hl : s.on PAIR_STAT_LINK = true) (hn : n = s.pair.setsN) : s.peerDigests n crcs =
    if s.role = roLead then (s.digShown crcs).digAnswered (s.digBad crcs)
    else if s.heelJoined then (s.digShown crcs).digJudged n (s.digBad crcs) else s.digShown crcs := by
  have hc : s.peerDigests n crcs = if (s.digShown crcs).role = roLead then (s.digShown crcs).digAnswered (s.digBad crcs)
      else if (s.digShown crcs).heelJoined then (s.digShown crcs).digJudged n (s.digBad crcs) else s.digShown crcs := by
    refine (if_neg ?_).trans (if_neg ?_)
    · simp only [Bool.and_eq_true, decide_eq_true_eq, not_and_or]
      exact .inr (by omega)
    · simp [hl, hn]
  rw [hc]
  simp only [State.heelJoined, State.role_digShown, State.digShown_pair]

end

section
variable {s : State} {bad : List Nat}

theorem State.mismatch_digCounted : (s.digCounted bad).rd PAIR_DIGSTAT_MISMATCH = bad.foldl (fun b x => b + 2 ^ x) 0 % 2 ^ 16 := by
  unfold State.digCounted State.inc
  dsimp only
  rw [State.rd_modPair, apply_ite (State.rd · _), State.rd_wr_other _ PAIR_STAT_MISEV PAIR_DIGSTAT_MISMATCH _ (.inl (by decide)), ite_self,
    State.rd_wr_other _ PAIR_DIGCNT_COUNT PAIR_DIGSTAT_MISMATCH _ (.inl (by decide)), State.rd_wr_same]
  rfl

theorem State.count_digCounted : (s.digCounted bad).rd PAIR_DIGCNT_COUNT = (s.rd PAIR_DIGCNT_COUNT + bad.length) % 2 ^ 32 := by
  unfold State.digCounted State.inc
  dsimp only
  rw [State.rd_modPair, apply_ite (State.rd · _), State.rd_wr_other _ PAIR_STAT_MISEV PAIR_DIGCNT_COUNT _ (.inl (by decide)), ite_self,
    State.rd_wr_same, State.rd_wr_other _ PAIR_DIGSTAT_MISMATCH PAIR_DIGCNT_COUNT _ (.inl (by decide))]
  rfl

theorem State.misev_digCounted (h : bad ≠ []) : (s.digCounted bad).rd PAIR_STAT_MISEV = 1 := by
  unfold State.digCounted
  dsimp only
  rw [State.rd_modPair, if_neg (by simpa using h), State.rd_wr_same]
  rfl

theorem State.agree_digCounted : (s.digCounted bad).pair.agree = if bad = [] then s.pair.agree + 1 else 0 := by
  unfold State.digCounted
  cases bad <;> rfl

theorem State.digReported_pair (s : State) : s.digReported.pair = s.pair := foldl_keeps State.pair (fun t _ => unreached_pair.emit t _) _ s

theorem State.rd_digReported {g : Fld} (h : g.no ∉ noteFields) (s : State) : s.digReported.rd g = s.rd g :=
  foldl_keeps (State.rd · g) (fun t _ => t.rd_emit _ h) _ s

theorem State.rd_digEntered {g : Fld} (h : g.no ∉ noteFields) (s : State) (l : List Nat) : (s.digEntered l).rd g = s.rd g :=
  foldl_keeps (State.rd · g) (fun t _ => (State.rd_emit _ _ h).trans (t.rd_modPair _ g)) _ s

theorem State.digEntered_pair (s : State) (l : List Nat) :
    (s.digEntered l).pair = { s.pair with resync := s.pair.resync ++ l.map fun c => (c, 0, []) } := by
  induction l generalizing s with
  | nil => simp [State.digEntered]
  | cons c l ih =>
    rw [State.digEntered, List.foldl_cons, ← State.digEntered, ih, unreached_pair.emit]
    simp [State.modPair]

/-- Every cluster that differs is in RESYNC then. -/
theorem State.digEntered_all (s : State) {bad : List Nat} {x : Nat} (hx : x ∈ bad) : ∃ q ∈ (s.digEntered (s.digNew bad)).pair.resync, q.1 = x := by
  rw [State.digEntered_pair]
  by_cases h : ∃ q ∈ s.pair.resync, q.1 = x
  · exact h.imp fun q hq => ⟨List.mem_append_left _ hq.1, hq.2⟩
  · have hn : x ∈ s.digNew bad := List.mem_filter.2 ⟨hx, by simpa only [Bool.not_eq_true', ← Bool.not_eq_true, List.any_eq_true, beq_iff_eq] using h⟩
    exact ⟨(x, 0, []), List.mem_append_right _ (List.mem_map.2 ⟨x, hn, rfl⟩), rfl⟩

theorem State.digSynced_pair (s : State) (n : Nat) : (s.digSynced n).pair = s.pair := by
  unfold State.digSynced
  rw [State.countResync_pair, apply_ite State.pair, State.wr_pair, ite_self]

theorem State.rd_digSynced {g : Fld} (h : g.no ∉ resyncFields) (s : State) (n : Nat) : (s.digSynced n).rd g = s.rd g := by
  unfold State.digSynced
  rw [State.rd_countResync h, apply_ite (State.rd · g), State.rd_wr_member h PAIR_STAT_HSTATE, ite_self]

theorem State.rd_digJudged {g : Fld} (hr : g.no ∉ resyncFields) (hn : g.no ∉ noteFields) (s : State) (n : Nat) (bad : List Nat) :
    (s.digJudged n bad).rd g = (s.digCounted bad).rd g := by
  unfold State.digJudged
  rw [State.rd_digSynced hr, State.rd_digEntered hn, State.rd_digReported hn]

theorem State.agree_digJudged (s : State) (n : Nat) (bad : List Nat) : (s.digJudged n bad).pair.agree = if bad = [] then s.pair.agree + 1 else 0 := by
  unfold State.digJudged
  rw [State.digSynced_pair, State.digEntered_pair, State.digReported_pair, State.agree_digCounted]

theorem State.resync_digJudged (s : State) (n : Nat) {bad : List Nat} {x : Nat} (hx : x ∈ bad) : ∃ q ∈ (s.digJudged n bad).pair.resync, q.1 = x := by
  unfold State.digJudged
  rw [State.digSynced_pair]
  exact State.digEntered_all _ hx

end

/-- A mask of some of `n` clusters has `n` bits. -/
theorem mask_lt (p : Nat → Bool) (n : Nat) : ((List.range n).filter p).foldl (fun b x => b + 2 ^ x) 0 < 2 ^ n := by
  induction n with
  | zero => exact Nat.one_pos
  | succ n ih =>
    rw [List.range_succ, List.filter_append, List.foldl_append]
    have h2 := Nat.pow_succ 2 n
    cases hp : p n <;> simp [hp] <;> omega

/-! ## Page CRCs (R346) -/

/-- The pages of cluster `c` in the lead's list whose CRC differs. -/
def State.pagesOff (s : State) (c : Nat) (l : List (Nat × Nat)) : List Nat :=
  (l.filter fun q => decide (q.1 < s.sramPages c) && crc32 ((s.pageBytes c q.1).map (·.toNat)) != q.2).map Prod.fst

/-- Pages `d` of cluster `c` are listed and, where there are any, asked for. -/
def State.pagesWanted (s : State) (c : Nat) (d : List Nat) : State :=
  let t := s.modPair fun x => { x with resync := x.resync.map fun q => if q.1 = c then (c, q.2.1, sortNat (q.2.2 ++ d).eraseDups) else q }
  if d.isEmpty then t else t.tell (.want c d)

theorem State.pagesWanted_pair (s : State) (c : Nat) (d : List Nat) : (s.pagesWanted c d).pair = { s.pair with
    resync := s.pair.resync.map fun q => if q.1 = c then (c, q.2.1, sortNat (q.2.2 ++ d).eraseDups) else q
    out := if d = [] then s.pair.out else s.pair.out ++ [.want c d] } := by
  cases d <;> rfl

section
variable {s : State} {c : Nat} {l : List (Nat × Nat)}

theorem State.pageCrcs_none (h : s.role ≠ roHeel ∨ ∀ q ∈ s.pair.resync, q.1 ≠ c) : s.pageCrcs c l = s := by
  refine if_pos (h.imp_right fun hn => ?_)
  simpa only [Bool.not_eq_true', ← Bool.not_eq_true, List.any_eq_true, beq_iff_eq, not_exists, not_and] using hn

/-- The heel lists the pages that differ, and asks for them. -/
theorem State.pageCrcs_pair (hr : s.role = roHeel) (h : ∃ q ∈ s.pair.resync, q.1 = c) :
    (s.pageCrcs c l).pair = (s.pagesWanted c (s.pagesOff c l)).pair := by
  have hg : ¬ (s.role ≠ roHeel ∨ (!(s.pair.resync.any fun q => q.1 == c)) = true) := by
    rintro (hn | hn)
    · exact hn hr
    · rw [List.any_eq_true.2 (h.imp fun q hq => ⟨hq.1, beq_iff_eq.2 hq.2⟩)] at hn
      exact absurd hn (by decide)
  exact (congrArg State.pair (if_neg hg)).trans (State.countResync_pair _)

end

/-! ## The commands -/

section
variable {s : State} (h : s.board.held = false)
include h

theorem exec_digest (n : Nat) (crcs : List DWord) : exec (.digest n crcs) s = .next (s.peerDigests n (crcs.map BitVec.toNat)) :=
  congrArg Host.Outcome.next (State.live_on h _)

theorem exec_mirroredCommand (c : MirCmd) : exec (.mirroredCommand c) s = .next (s.mirrorCmd c) := congrArg Host.Outcome.next (State.live_on h _)

theorem exec_sealMarker (src m : Nat) : exec (.sealMarker src m) s = .next (s.sealMarker src m) := congrArg Host.Outcome.next (State.live_on h _)

theorem exec_mirrorTimeout (src : Nat) : exec (.mirrorTimeout src) s = .next (s.mirrorTimeout src) := congrArg Host.Outcome.next (State.live_on h _)

theorem exec_mirrorSamples (src e m : Nat) (vals : List Word) :
    exec (.mirrorSamples src e m vals) s = .next (s.mirrorSamples src e m (vals.map BitVec.toNat)) := congrArg Host.Outcome.next (State.live_on h _)

theorem exec_pageCopy (x : PageMsg) : exec (.pageCopy x) s = .next (s.pageMsg x) := congrArg Host.Outcome.next (State.live_on h _)

theorem exec_pageCrcList (k : Fin 16) (pages : List (Nat × Word)) :
    exec (.pageCrcList k pages) s = .next (s.pageCrcs k.val (pages.map fun q => (q.1, q.2.toNat))) := congrArg Host.Outcome.next (State.live_on h _)

/-- What a command that the lead forwards does on a heel that has joined. -/
theorem exec_mirroredCommand_joined (hj : s.heelJoined) (c : MirCmd) : exec (.mirroredCommand c) s = .next
    (match c with
      | .commit c => (s.acceptCommit c).tell (.commitAck c.epoch)
      | .cancel ep => { s with epoch := { s.epoch with pend := s.epoch.pend.filter fun c => c.epoch != ep } }
      | .write a v => s.mirrorWrite a v
      | .disp c n =>
        if s.n < n then { s with disp := { s.disp with lateCmds := s.disp.lateCmds ++ [c] } }
        else { s with disp := { s.disp with dbCmds := s.disp.dbCmds ++ [c] } }) := by
  obtain ⟨hr, hs⟩ := hj
  have hn : ¬ (s.role ≠ roHeel ∨ s.pair.joined.isNone = true) := by
    rintro (hn | hn)
    · exact hn hr
    · rw [Option.isNone_iff_eq_none.1 hn] at hs
      exact absurd hs (by decide)
  exact (exec_mirroredCommand h c).trans (congrArg _ (if_neg hn))

theorem exec_mirroredCommand_apart (hj : ¬ s.heelJoined) (c : MirCmd) : exec (.mirroredCommand c) s = .next s := by
  refine (exec_mirroredCommand h c).trans (congrArg _ (if_pos ?_))
  simpa only [State.heelJoined, not_and_or, Option.isSome_iff_ne_none, not_not, Option.isNone_iff_eq_none] using hj

/-- The peer's digests on a heel that has joined. -/
theorem exec_digest_joined {n : Nat} {crcs : List DWord} (hl : s.on PAIR_STAT_LINK = true) (hn : n = s.pair.setsN) (hj : s.heelJoined) :
    exec (.digest n crcs) s = .next ((s.digShown (crcs.map BitVec.toNat)).digJudged n (s.digBad (crcs.map BitVec.toNat))) := by
  have hr : ¬ s.role = roLead := by
    rw [hj.1]
    decide
  exact (exec_digest h n crcs).trans (congrArg _ ((State.peerDigests_compared hl hn).trans ((if_neg hr).trans (if_pos hj))))

end

/-- Settles O49: digests, mirrored commands, seal markers and page messages, each by what its own rule does in the role. -/
theorem pairMirroring : Obligations.PairMirroring := by
  unfold Obligations.PairMirroring
  intro n src e m crcs vals c ep a v d k pages pg bytes item s linked joined sums shown bad digest mirror waits unwait fired list diff h
  refine ⟨fun hi => ?idle, fun hl hn => ?early, fun hl hn hr hj => ?shows, fun hl hn hr => ?answers, fun hl hn hj => ?judges,
    fun hj x => exec_mirroredCommand_apart h hj x, fun hj => ⟨exec_mirroredCommand_joined h hj _, exec_mirroredCommand_joined h hj _,
      exec_mirroredCommand_joined h hj _, fun hd => ?dispatches, fun hd => ?waitsDownbeat, ?samples⟩, fun hj => ?noSamples,
    fun hw => ⟨?noSeal, ?noTimeout⟩, fun hw hm => ?emptySeal, fun hw hm => ?seals, fun hw => ?timesOut, fun hr hp => ?page, fun hr hs => ⟨?item, ?itemEnd⟩,
    fun hn => ?noCrcs, fun hr hq => ?crcs⟩
  case idle => exact (exec_digest h n crcs).trans (congrArg _ (State.peerDigests_idle hi))
  case early => exact (exec_digest h n crcs).trans (congrArg _ (State.peerDigests_early hl hn))
  case shows => exact (exec_digest h n crcs).trans (congrArg _ ((State.peerDigests_compared hl hn).trans ((if_neg hr).trans (if_neg hj))))
  case answers => exact (exec_digest h n crcs).trans (congrArg _ ((State.peerDigests_compared hl hn).trans (if_pos hr)))
  case judges =>
    refine ⟨_, exec_digest_joined h hl hn hj, ?_, ?_, fun hb => ?_, fun x hx => State.resync_digJudged _ n hx, ?_⟩
    · rw [State.rd_digJudged (by decide) (by decide), State.mismatch_digCounted]
      exact Nat.mod_eq_of_lt (mask_lt _ 16)
    · rw [State.rd_digJudged (by decide) (by decide), State.count_digCounted, State.rd_digShown (by decide)]
      rfl
    · rw [State.on, State.rd_digJudged (by decide) (by decide)]
      exact beq_iff_eq.2 (State.misev_digCounted hb)
    · rw [State.agree_digJudged, State.digShown_pair]
      rfl
  case dispatches => exact (exec_mirroredCommand_joined h hj _).trans (congrArg _ (if_neg (Nat.not_lt.2 hd)))
  case waitsDownbeat => exact (exec_mirroredCommand_joined h hj _).trans (congrArg _ (if_pos hd))
  case samples => exact (exec_mirrorSamples h ..).trans (congrArg _ (if_pos hj))
  case noSamples => exact (exec_mirrorSamples h ..).trans (congrArg _ (if_neg hj))
  case noSeal => exact (exec_sealMarker h src m).trans (congrArg _ (State.sealMarker_none hw))
  case noTimeout => exact (exec_mirrorTimeout h src).trans (congrArg _ (State.mirrorTimeout_none hw))
  case emptySeal => exact (exec_sealMarker h src m).trans (congrArg _ (State.sealMarker_empty hw hm))
  case seals =>
    refine ⟨_, (exec_sealMarker h src m).trans (congrArg _ (State.sealMarker_one hw hm)), rfl, ?_, rfl⟩
    exact List.mem_append_right _ (List.mem_singleton.2 rfl)
  case timesOut => exact (exec_mirrorTimeout h src).trans (congrArg _ (State.mirrorTimeout_awaits hw))
  case page => exact (exec_pageCopy h _).trans (congrArg _ (if_pos ⟨hr, k.isLt, hp⟩))
  case item => exact (exec_pageCopy h _).trans (congrArg _ (if_neg (not_or.2 ⟨not_not.2 hr, not_not.2 hs⟩)))
  case itemEnd => exact (exec_pageCopy h _).trans (congrArg _ (if_neg (not_or.2 ⟨not_not.2 hr, not_not.2 hs⟩)))
  case noCrcs => exact (exec_pageCrcList h k pages).trans (congrArg _ (State.pageCrcs_none hn))
  case crcs =>
    have hp := (State.pageCrcs_pair hr hq (l := list)).trans (s.pagesWanted_pair k.val _)
    exact ⟨_, exec_pageCrcList h k pages, congrArg PairSt.out hp, congrArg PairSt.resync hp⟩

end Sys2Proof.Machine
end
